-- ==== Sys2Proof/Word.lean ====
section
/-! DEFINITION. The word types of the ML16 (R3, R4, R6): bytes, 32-bit registers, 64-bit Wick words and the native
72-bit data word. Bit 0 is the least significant bit of every one of them. -/

set_option Elab.async false
namespace Sys2Proof

/-- One byte. -/
abbrev Byte := BitVec 8

/-- A BAR0 register (R6: registers are 32 bits wide). -/
abbrev Reg32 := BitVec 32

/-- A Wick scalar register (R293). -/
abbrev Word64 := BitVec 64

/-- The native data word of 72 bits, [71:0] (R4). -/
abbrev Word := BitVec 72

end Sys2Proof
end

