-- ==== Sys2Proof/Syntax.lean ====
section
/-! DEFINITION. The commands of the ML16: every row of spec/opcode_table.json as one constructor of Instr, with the
operands that the world outside the device decides (what is written, what arrives, what a read or a verification
finds). A Wick instruction carries its core and bits [23:0] of its encoding (R299). -/
namespace Sys2Proof

/-- Who makes a register access (R6, R294, R296): host software through BAR0, or a Wick core. -/
inductive Agent where
  | host
  | core (n : Fin 4)
deriving DecidableEq, Repr

/-- How a memory, queue or HBM word reads under the retry-once rule (R278, R311, R335, R269). -/
inductive EccResult where
  /-- Reads clean. -/
  | clean
  /-- Correctable errors, corrected and counted: the units corrected. -/
  | corrected (units : Nat)
  /-- Uncorrectable on the first read, good on the second. -/
  | transient
  /-- Uncorrectable on both reads. -/
  | lasting
deriving DecidableEq, Repr

/-- A host write to the MSI-X structures of BAR4 and configuration space (R325, R354). -/
inductive MsixWrite where
  /-- The vector control word of one vector: mask clear. -/
  | unmask (vector : Fin 64)
  /-- The vector control word of one vector: mask set. -/
  | mask (vector : Fin 64)
  /-- The address and data of one vector's table entry. -/
  | entry (vector : Fin 64) (addr : BitVec 64) (data : BitVec 32)
  /-- The function mask of the MSI-X capability. -/
  | functionMask (set : Bool)
deriving DecidableEq, Repr

/-- A descriptor of a receive or copy ring, bytes 0 to 23 as the host wrote them (R340). -/
structure Descriptor where
  addr : BitVec 64
  length : BitVec 32
  handle : BitVec 32
  offset : BitVec 40
  toHandle : Bool
deriving DecidableEq, Repr

/-- The clock lost in CLOCK_LOSS (R400). -/
inductive ClockLost where
  | root
  | systemPll
  | lanePll (port : Fin 16)
  | pciePll
deriving DecidableEq, Repr

/-- Which firmware image check failed (R411), or that the image was accepted. -/
inductive ImageCheck where
  /-- Every check of R411 holds. -/
  | accepted
  /-- The first check that fails, by its reason code 0x01 to 0x06. -/
  | rejected (reason : Fin 7)
deriving DecidableEq, Repr

/-- What the ROM learned of a firmware image that it has read and verified (R396, R409 to R413). -/
structure FirmwareImage where
  /-- The source holds an image header (R412: a wrong magic counts as none). -/
  header : Bool
  check : ImageCheck
  svn : BitVec 8
  digest : BitVec 512
  entry : BitVec 32
  vbase : BitVec 32
  ifsp : BitVec 32
  iflim : BitVec 32
  localBytes : List (BitVec 32 × Byte)
  sharedBytes : List (BitVec 32 × Byte)
deriving DecidableEq, Repr

/-- The four words of the first-to-last IEEE 1588 message fields that the ordinary clock uses (R366, R372). -/
structure PtpMsg where
  port : Fin 2
  domain : BitVec 8
  sequenceId : BitVec 16
  source : BitVec 80
  /-- correctionField, in 2^-16 ns. -/
  correction : Int
  /-- The message's timestamp field, in 2^-16 ns. -/
  stamp : Int
  /-- Sync: the twoStepFlag. -/
  twoStep : Bool
  /-- Delay_Resp: the requestingPortIdentity. -/
  requester : BitVec 80
  /-- logMessageInterval, signed. -/
  logInterval : Int
  /-- The interpolator reading at the message timestamp point, 0 to 31 (R364). -/
  tap : Fin 32
deriving DecidableEq, Repr

/-- The data set that an Announce message carries, compared by the default data set comparison (R372). -/
structure AnnounceData where
  priority1 : BitVec 8
  clockClass : BitVec 8
  accuracy : BitVec 8
  variance : BitVec 16
  priority2 : BitVec 8
  identity : BitVec 64
  stepsRemoved : BitVec 16
deriving DecidableEq, Repr

/-- A plant-port frame as received, by its headers and payload (R374, R378). -/
structure PlantFrame where
  fcsOk : Bool
  ipChecksumOk : Bool
  pcp : BitVec 3
  vlan : Option (BitVec 12)
  dstMac : BitVec 48
  dstIp : BitVec 32
  udpDst : BitVec 16
  payload : List Byte
deriving DecidableEq, Repr

/-- The measured result of one HBM retraining (R383), per DQ and per pseudo-channel. -/
structure HbmResult where
  /-- (coefficient index, measured code) of the read and write deskew codes that were measured. -/
  read : List (Fin 1152 × Fin 64)
  write : List (Fin 1152 × Fin 64)
  /-- Pseudo-channels whose verify failed. -/
  failed : List (Fin 16)
  /-- A DQ window reached tap 0 or tap 63. -/
  atLimit : Bool
  minEye : Fin 64
deriving DecidableEq, Repr

/-- The result of one interpolator calibration (R385, R386). -/
structure TdcResult where
  /-- (32 × unit + tap, computed trim, measured width in 2 ps). -/
  trims : List (Fin 3520 × Fin 64 × Fin 256)
  /-- Interpolators with a tap outside 188 to 312 ps after trimming. -/
  failed : List (Fin 110)
deriving DecidableEq, Repr

/-- How a fuse operation read back (R417). -/
inductive FuseResult where
  | good
  /-- Mismatch on the second programming. -/
  | mismatch
deriving DecidableEq, Repr

/-- A Wick debug access through the TAP (R418). -/
inductive DebugOp where
  | halt
  | resume
  | step
  | readG (r : Fin 32)
  | writeG (r : Fin 32) (v : Word64)
  | readS (r : Fin 8)
  | writeS (r : Fin 8) (v : Word)
  | readPc
  | writePc (v : BitVec 32)
  | readLocal (a : Fin 524288)
  | writeLocal (a : Fin 524288) (b : Byte)
deriving DecidableEq, Repr

/-- An unlock request's signer, as the verification found it (R419). -/
inductive UnlockSigner where
  | none
  | yalvan
  | customer
deriving DecidableEq, Repr

/-- The result of a verified block write of the journal (R288). -/
inductive BlockWrite where
  | verified
  /-- The verify failed and the rewrite in place verified. -/
  | rewritten
  /-- The verify failed twice: the block is worn out. -/
  | worn
deriving DecidableEq, Repr

/-- A control acknowledgement as it arrives (R80): its CRC, the status code of an error acknowledgement, the data of a
read, and for ConnectionConfigDefault the rate codes of R73 and the connection counts that it gives (R76, R78). -/
structure ControlAck where
  crcOk : Bool
  /-- Code errors in it and in the idle characters before it (R86). -/
  codeErrors : Nat
  error : Option (BitVec 8)
  data : BitVec 32
  rates : List (Fin 8)
  counts : List (Fin 5)
deriving DecidableEq, Repr

/-- The pixel formats of R74. -/
inductive PixelFormat where
  | mono8 | mono10 | mono12 | mono14 | mono16
  /-- Any other pixel format, or a tap geometry other than 1X-1Y. -/
  | unsupported
deriving DecidableEq, Repr

/-- What a stream data packet carries, in order (R74, R97), each with the bytes of stream data that it takes. -/
inductive StreamItem where
  /-- An image header: format, declared lines, declared width. -/
  | imageHeader (bytes : Nat) (format : PixelFormat) (lines width : Nat)
  | lineMarker (bytes : Nat)
  | pixels (bytes : Nat) (values : List (BitVec 16))
deriving DecidableEq, Repr

/-- A stream data packet as received on a lane (R74, R75, R86). -/
structure StreamPacket where
  streamId : BitVec 8
  headerOk : Bool
  crcOk : Bool
  /-- Code errors in it and in the idle characters before it (R84, R86). -/
  codeErrors : Nat
  /-- The interpolator reading at its arrival, 0 to 31 (R35, R364). -/
  tap : Fin 32
  items : List StreamItem
deriving DecidableEq, Repr

/-- What the ECC of the correction banks finds as a line passes (R128): how many errors it corrects, and the entries that it cannot: the
failing bank (0 state, 1 and 2 snapshots A and B, 3 coefficient, 4 lookup table) and entry. -/
structure CorEcc where
  corrected : Nat
  failed : List (Fin 5 × Fin 524288)
deriving DecidableEq, Repr

/-- What the checks of R169 and R196 find as an interval is checked: by slice, a recorded detection (`none`) or the slice's
own CRC; the failing commit-buffer entries, by line of the interval, column and bank. -/
structure CommitChecks where
  slices : List (Fin 16 × Option (BitVec 32))
  entries : List (Fin 16 × Fin 262144 × Fin 32)
deriving DecidableEq, Repr


/-- The commands (spec/opcode_table.json). The default of an operand is what a command that does not name it has: a clean read, no code
error, the active level of Z at reset, an access of 32 bits. -/
inductive Instr where
  /-- REGISTER_WRITE (R6): A BAR0 or Wick write to a register field without a row of its own stores the value under its access code, reserved-encoding and lock rules. -/
  | registerWrite (ag : Agent) (offset : BitVec 26) (size : Nat) (v : Reg32)
  /-- RC_READ (R7): A read of a read-clear field returns its value and clears it, unless a hardware set collides. -/
  | rcRead (ag : Agent) (offset : BitVec 26) (collide : Option Reg32)
  /-- SNAPSHOT_READ (R6): A read of a LO register of a wide counter or pointer snapshots the matching HI part for a consistent later read. -/
  | snapshotRead (ag : Agent) (offset : BitVec 26)
  /-- POWER_UP (R391): Supplies come up in their groups and the device leaves OFF for RESET. -/
  | powerUp
  /-- POWER_DOWN (R25): Supplies fall below their thresholds and the device enters OFF. -/
  | powerDown
  /-- UNDERVOLTAGE (R392): A rail stays below its undervoltage threshold for 2 us, holding the device in OFF and resetting the POR domain. -/
  | undervoltage (rail : Fin 13)
  /-- SUPPLY_WARN (R392): A rail stays below its warning threshold for 10 us, setting supply_warn and its BLW_SUPPLY bit and raising event 506. -/
  | supplyWarn (rail : Fin 13) (below : Bool)
  /-- POR_N_ASSERT (R393): Assertion of POR_N resets the POR, DEVICE and LINK domains and holds the device in RESET. -/
  | porNAssert
  /-- POR_N_DEASSERT (R394): Deassertion of POR_N starts the reset sequence of strap sampling, PLL lock and domain release. -/
  | porNDeassert (straps : BitVec 2)
  /-- PERST_N_ASSERT (R393): Assertion of PERST_N resets the LINK domain, ends every ring and loses spilled frames without changing the device state. -/
  | perstNAssert
  /-- CONVENTIONAL_RESET (R324): A PCI Express conventional reset resets the LINK domain. -/
  | conventionalReset
  /-- FUNCTION_LEVEL_RESET (R324): A function level reset resets the LINK domain. -/
  | functionLevelReset
  /-- D3HOT (R324): Entry to D3hot disables the BARs and leaves the device state unchanged. -/
  | d3hot (enter : Bool)
  /-- FAULT_RESET (R393): Ten milliseconds after entry to FAULT with auto_reset set, the device performs a fault reset of the DEVICE and LINK domains. -/
  | faultReset
  /-- DEVICE_RESET (R402): A write of device_reset with key 0x5A5A to BLW_CMD resets the DEVICE and LINK domains with cause 0x5. -/
  | deviceReset (v : Reg32)
  /-- THERMAL_SAMPLE (R401): Every 100 us the die sensors are sampled, raising the thermal warning or tripping to FAULT. -/
  | thermalSample (sensors : List (BitVec 12))
  /-- HBM_TEMP_SAMPLE (R401): Every 1 ms the stack sensor is sampled, raising hbm warning or tripping above 105 C. -/
  | hbmTempSample (reading : BitVec 12)
  /-- CLOCK_LOSS (R400): Loss of the root clock or a PLL lock sets clk_loss, raises event 504 and, for the system clock, enters FAULT. -/
  | clockLoss (clock : ClockLost)
  /-- FIRMWARE_VERIFIED (R412): The ROM completes hashing and verification of a firmware image and starts it or handles the failure. -/
  | firmwareVerified (image : FirmwareImage)
  /-- BOOT_READY (R397): Firmware completes journal read, Temper training and queue setup, and the device enters READY. -/
  | bootReady (hbm : HbmResult) (tdc : TdcResult) (readable : Bool := true)
  /-- RESTORE_HOLD_EXPIRY (R290): restore_hold_ms passes after READY without entry to RUN, and the restore list is discarded as lost. -/
  | restoreHoldExpiry
  /-- ACK_CHECKPOINT (R286): Every 1 ms, changed queue acknowledgement points are journalled. -/
  | ackCheckpoint
  /-- JOURNAL_WRITE (R287): A journal block write from the backlog completes and is verified. -/
  | journalWrite (items : Nat) (result : BlockWrite)
  /-- IDENTIFY (R344): Host command returning the firmware or ROM version. -/
  | identify
  /-- RESET (R344): Host command performing a DEVICE reset 10 us after its response. -/
  | reset
  /-- BOOT_PUSH (R396): Host command in BOOT that reads a firmware image from host memory for verification. -/
  | bootPush
  /-- BAD_COMMAND_PACKET (R343): A packet on Q0 without W0 or with a type other than 0x20 is counted in HST_CMD_BAD and gets no response. -/
  | badCommandPacket
  /-- LOAD (R319): Host command that starts verification and loading of a recipe image. -/
  | load
  /-- RECIPE_VERIFIED (R414): Verification of a recipe image completes and the load halts cores 1 to 3 or answers DENIED. -/
  | recipeVerified (signatureOk : Bool)
  /-- LOAD_DRAIN_DONE (R319): The pipeline drain of a load ends and tables, rings, sections and sequences are set up. -/
  | loadDrainDone
  /-- LOAD_DRAIN_TIMEOUT (R319): The drain of a load does not end within 100 ms, so the load ends BUSY and the old recipe resumes. -/
  | loadDrainTimeout
  /-- LOAD_LINKS_UP (R319): Every required port has link 0 UP, the digest is journalled and the device enters ARMED with cores released. -/
  | loadLinksUp
  /-- LINK_WAIT_TIMEOUT (R319): Required links are not UP within link_wait, so the load ends FAULT in READY with no recipe. -/
  | linkWaitTimeout
  /-- UNLOAD (R344): Host command that drains the pipeline and returns ARMED to READY. -/
  | unload
  /-- UNLOAD_DRAIN_DONE (R344): The drain of an unload ends and the device enters READY. -/
  | unloadDrainDone
  /-- START (R344): Host command from ARMED to RUN, denied while Quench holds. -/
  | start
  /-- STOP (R344): Host command from RUN or HOLD to ARMED, with forced bloom closure and discard of pending marks. -/
  | stop
  /-- HOLD (R344): Host command from RUN to HOLD, closing the intake gates. -/
  | hold
  /-- RESUME (R344): Host command from HOLD to RUN, denied while Quench holds. -/
  | resume
  /-- BANK (R403): Host command that starts the entry to BANKED from READY or ARMED. -/
  | bank
  /-- BANK_SAVE_DONE (R403): Compression streams are saved, HBM enters self-refresh and the device enters BANKED. -/
  | bankSaveDone
  /-- BANK_TIMEOUT (R403): Stream saves do not finish within 100 ms, so BANK is answered BUSY and stopped blocks restart. -/
  | bankTimeout
  /-- HRT_ALLOC (R344): Host command allocating a pageable buffer through allocation port 0. -/
  | hrtAlloc
  /-- HRT_ALLOC_PIN (R344): Host command allocating a pinned buffer through allocation port 0. -/
  | hrtAllocPin
  /-- HRT_FREE (R344): Host command freeing a handle through allocation port 0. -/
  | hrtFree
  /-- HRT_PIN (R344): Host command pinning a buffer through allocation port 0. -/
  | hrtPin
  /-- HRT_UNPIN (R344): Host command unpinning a buffer through allocation port 0. -/
  | hrtUnpin
  /-- HRT_QUERY (R344): Host command querying a handle through allocation port 0. -/
  | hrtQuery
  /-- TIME_RESTEP (R370): Host command legal in HOLDOVER that arms the next valid offset as a step. -/
  | timeRestep
  /-- ATTEST (R416): Host command that starts a signed attestation report for a nonce into a handle. -/
  | attest
  /-- ATTEST_DONE (R416): The device-key signature completes and the report and response are written. -/
  | attestDone
  /-- SNUFF (R344): Host command flushing a queue other than Q0 and Q1 and returning the words discarded. -/
  | snuff
  /-- WAKE_COMPLETE (R407): The device returns to the state it banked from, sets lantern_wake and raises event 511. -/
  | wakeComplete
  /-- QUENCH (R345): A write of quench to HST_QUENCH closes intake gates, sends K23.7 and blocks result DMA, entering HOLD from RUN. -/
  | quench
  /-- QUENCH_N_ASSERT (R345): QUENCH_N asserted for 20 ns sets Quench with its effects. -/
  | quenchNAssert (asserted : Bool)
  /-- QUENCH_RELEASE (R346): A write of release clears Quench while QUENCH_N is deasserted, resuming blocked DMA and SYNC frames. -/
  | quenchRelease
  /-- QUENCH_DATAGRAM (R378): A valid quench datagram is counted and, with quench_en set, sets Quench. -/
  | quenchDatagram (port : Fin 2) (frame : PlantFrame)
  /-- QUADRATURE_EDGE (R49): A change of A or B in quadrature mode is decoded into a count change, period and direction. -/
  | quadratureEdge (enc : Fin 4) (a : Bool) (b : Bool) (tap : Fin 32)
  /-- PULSE_TRAIN_EDGE (R52): A rising edge of ENC_A in pulse-train mode counts one in the direction given by ENC_B. -/
  | pulseTrainEdge (enc : Fin 4) (b : Bool) (tap : Fin 32)
  /-- REFERENCE (R51): A Z edge to its active level sets ref_seen, triggers latches and performs an armed preset. -/
  | reference (enc : Fin 4) (tap : Fin 32) (level : Bool := true)
  /-- STANDSTILL (R57): No edge is counted for timeout_us, so moving clears, the period is invalidated and still is set. -/
  | standstill (enc : Fin 4)
  /-- PRESET_NOW (R58): ENC_CMD preset_now loads the preset value into the count at the next cycle. -/
  | presetNow (enc : Fin 4) (v : Reg32)
  /-- ARM_REF (R58): ENC_CMD arm_ref arms a preset at the next reference of the input. -/
  | armRef (enc : Fin 4) (v : Reg32)
  /-- ENC_CFG_WRITE (R69): A write to ENC_CFG enables or stops counting, other fields changing only while enable is clear. -/
  | encCfgWrite (enc : Fin 4) (v : Reg32)
  /-- GPIO_EDGE (R60): An edge on a GPIO input is timed and captured by latch units selecting it. -/
  | gpioEdge (ball : Fin 32) (level : Bool) (tap : Fin 32)
  /-- LATCH_NOW (R68): A write of latch_now captures a latch on an enabled unit. -/
  | latchNow (unit : Fin 16) (v : Reg32)
  /-- LATCH_CFG_WRITE (R68): A write to ENC_LAT_CFG configures or disables a latch unit. -/
  | latchCfgWrite (unit : Fin 16) (v : Reg32)
  /-- TRIGGER_FIRE (R62): A trigger unit's extrapolated position reaches NEXT, so it fires, latches the master and advances NEXT. -/
  | triggerFire (unit : Fin 16) (sample : Fin 5)
  /-- TRIGGER_NEXT_WRITE (R66): A write of ENC_TRG_NEXT_HI commits the staged NEXT value. -/
  | triggerNextWrite (unit : Fin 16) (v : Reg32)
  /-- TRIGGER_CFG_WRITE (R67): A write to ENC_TRG_CFG enables or disables a unit or, while disabled, sets its configuration. -/
  | triggerCfgWrite (unit : Fin 16) (v : Reg32)
  /-- TRIGGER_PERIOD_WRITE (R67): A write of ENC_TRG_PERIOD takes effect at once or at the unit's next firing. -/
  | triggerPeriodWrite (unit : Fin 16) (v : Reg32)
  /-- LTRIG_PULSE_END (R65): An LTRIG pulse ends after pulse_width times 8 ns. -/
  | ltrigPulseEnd (unit : Fin 16)
  /-- TRIGGER_PACKET_START (R89): A waiting trigger packet starts on the master uplink at a character boundary with its delay field. -/
  | triggerPacketStart (lane : Fin 64) (ended : Bool)
  /-- PORT_START (R77): LANE_PORT_CMD start sends DOWN links of an enabled port to DISCOVER. -/
  | portStart (port : Fin 16) (v : Reg32)
  /-- PORT_STOP (R77): LANE_PORT_CMD stop sends every link of the port to DOWN. -/
  | portStop (port : Fin 16) (v : Reg32)
  /-- PORT_RESTART (R77): LANE_PORT_CMD restart clears wimen_excluded and sends every link to DISCOVER. -/
  | portRestart (port : Fin 16) (v : Reg32)
  /-- PORT_CFG_WRITE (R92): A write to LANE_PORT_CFG configures a port, and clearing enable acts as a stop. -/
  | portCfgWrite (port : Fin 16) (v : Reg32)
  /-- LANE_LOCK (R79): A connection gains CDR lock and character alignment, letting discovery or retune proceed. -/
  | laneLock (lane : Fin 64) (skew : BitVec 8)
  /-- CONTROL_ACK (R80): A control acknowledgement arrives and advances bring-up or completes a mailbox transaction. -/
  | controlAck (link : Fin 64) (ack : ControlAck)
  /-- CONTROL_ACK_TIMEOUT (R80): No acknowledgement arrives within t_ack, so the transaction is resent once or fails. -/
  | controlAckTimeout (link : Fin 64)
  /-- DISCOVERY_TIMEOUT (R77): A link stays in DISCOVER for disc_timeout x 100 ms and goes DOWN. -/
  | discoveryTimeout (link : Fin 64)
  /-- RETUNE_TIMEOUT (R79): The verifying read does not succeed within t_retune, so the link returns to DISCOVER. -/
  | retuneTimeout (link : Fin 64)
  /-- WIMEN_SWITCH (R83): switch_delay_us after the WIMEN_CTRL acknowledgement the receivers move to the Wimen rate. -/
  | wimenSwitch (link : Fin 64)
  /-- WIMEN_LOCK_TIMEOUT (R83): Block lock is not gained within t_wlock, so wimen_excluded and fallback are set and the link rediscovers. -/
  | wimenLockTimeout (link : Fin 64)
  /-- BLOCK_LOCK_GAIN (R85): A receiver sees 64 consecutive valid sync headers and gains block lock. -/
  | blockLockGain (lane : Fin 64) (skew : BitVec 8)
  /-- BLOCK_LOCK_LOSS (R85): 16 of 64 sync headers are invalid and the receiver loses block lock. -/
  | blockLockLoss (lane : Fin 64)
  /-- LINK_LOSS (R87): A connection loses lock or alignment for t_loss, ending packets in progress and sending the link to DISCOVER or DOWN. -/
  | linkLoss (lane : Fin 64) (signal : Bool := false)
  /-- RESUME_TIMEOUT (R81): A resumed link's ConnectionConfig read does not succeed within t_resume, so it enters DISCOVER. -/
  | resumeTimeout (link : Fin 64)
  /-- DFE_UPDATE (R71): After 2^dfe_mu decisions each DFE tap moves one step by sign-sign LMS. -/
  | dfeUpdate (lane : Fin 64) (ePos d1 d2 d3 d4 d5 : Bool)
  /-- STREAM_PACKET (R86): A stream data packet is received, checked and its payload passed to intake for line assembly. -/
  | streamPacket (lane : Fin 64) (packet : StreamPacket)
  /-- CAMERA_EVENT_PACKET (R74): An event or heartbeat packet is pushed whole with its arrival time to queue evq. -/
  | cameraEventPacket (lane : Fin 64) (words : List Word) (tap : Fin 32) (codeErrors : Nat := 0)
  /-- TRIGGER_ACK_PACKET (R74): A trigger acknowledgement packet is counted in LANE_TRG_ACK. -/
  | triggerAckPacket (lane : Fin 64) (codeErrors : Nat := 0)
  /-- UNSUPPORTED_PACKET (R74): A GenDC, I/O channel or device trigger packet is discarded and unsupported is set. -/
  | unsupportedPacket (lane : Fin 64) (codeErrors : Nat := 0)
  /-- LANE_MARKER (R84): A Wimen lane marker is received and its block count compared for deskew. -/
  | laneMarker (lane : Fin 64) (count : BitVec 40) (skew : BitVec 8)
  /-- DESKEW_MOVE (R387): At a gap between stream packets, a lane deskew coefficient moves by one word. -/
  | deskewMove (lane : Fin 64)
  /-- MAILBOX_READ (R88): LANE_CC_CMD go with write clear starts a 4-byte bootstrap read on a link. -/
  | mailboxRead (port : Fin 16) (v : Reg32)
  /-- MAILBOX_WRITE (R88): LANE_CC_CMD go with write set starts a 4-byte bootstrap write, refused for protected registers. -/
  | mailboxWrite (port : Fin 16) (v : Reg32)
  /-- EYE_SCAN_START (R91): A write of start to LANE_EYE_CTRL starts or restarts a monitor-sampler scan. -/
  | eyeScanStart (lane : Fin 64) (v : Reg32)
  /-- EYE_SCAN_DONE (R91): After 2^(20+dwell) bits the scan sets done with its error count. -/
  | eyeScanDone (lane : Fin 64) (errors : Nat)
  /-- LINE_TIMEOUT (R97): line_timeout_us passes without stream data for an open line, ending the line. -/
  | lineTimeout (ctx : Fin 64)
  /-- RING_WRITE_DONE (R107): A line's raw ring write completes and the line becomes eligible for its pixel lane. -/
  | ringWriteDone (ctx : Fin 64)
  /-- LINE_SENT (R102): A line's last word leaves on its pixel lane and the lane takes the next eligible line. -/
  | lineSent (lane : Fin 16) (ecc : CorEcc)
  /-- CONTEXT_ENABLE (R95): A write setting enable in INT_CTX_CFG enables a context if its binding checks pass. -/
  | contextEnable (ctx : Fin 64) (v : Reg32)
  /-- CONTEXT_DISABLE (R109): A write clearing enable stops the context at its next line boundary and discards its latches. -/
  | contextDisable (ctx : Fin 64) (v : Reg32)
  /-- REINJECT_GO (R108): INT_REINJ_CMD go starts a re-injection of retained lines in ARMED. -/
  | reinjectGo (v : Reg32)
  /-- REINJECT_ABORT (R108): INT_REINJ_CMD abort stops a re-injection at the next line boundary. -/
  | reinjectAbort (v : Reg32)
  /-- REINJECT_DONE (R108): A re-injection completes, clears busy and raises event 288. -/
  | reinjectDone
  /-- CORRECTION_APPLY (R124): COR_CTX_CMD apply checks the shadow set and makes it pending or refuses it. -/
  | correctionApply (ctx : Fin 64) (v : Reg32)
  /-- SNAPSHOT_WAIT_END (R126): A held interval-start line is released once interval j-2 has committed or been discarded. -/
  | snapshotWaitEnd (lane : Fin 16)
  /-- COEF_STORE_ACCESS (R121): An access to COR_STORE_DATA stores two coefficient entries unless in use and advances addr. -/
  | coefStoreAccess (v : Option Reg32)
  /-- CORRECTION_LUT_ACCESS (R121): An access to COR_LUT_DATA stores a table entry unless in use and advances the entry. -/
  | correctionLutAccess (v : Option Reg32)
  /-- COEF_LOAD_GO (R121): COR_LOAD_CMD go starts loading coefficient entries from a Hearth handle. -/
  | coefLoadGo (v : Reg32)
  /-- COEF_LOAD_DONE (R121): A coefficient load completes or fails and busy clears. -/
  | coefLoadDone (failed : Option Nat) (ecc : EccResult := .clean)
  /-- CAPTURE_GO (R122): COR_CAP_CMD go starts summing a context's pixels at a tap point. -/
  | captureGo (v : Reg32)
  /-- CAPTURE_ABORT (R122): COR_CAP_CMD abort ends a capture with no sums written. -/
  | captureAbort (v : Reg32)
  /-- CAPTURE_DONE (R122): A capture writes its sums, clears busy and sets capture_done. -/
  | captureDone
  /-- LINE_LEAVES_CORRECTION (R137): A corrected camera line reaches the stitcher, which searches pairs and forms stitched lines. -/
  | lineLeavesCorrection (ctx : Fin 64)
  /-- SEGMENT_WAIT_TIMEOUT (R139): wait_ns passes without a serving line, so the segment is blanked for the stitched line. -/
  | segmentWaitTimeout (segment : Fin 16)
  /-- REFERENCE_LOSS (R143): No reference line leaves correction for ref_timeout_us, so ref_lost is set and event 327 raised. -/
  | referenceLoss
  /-- STITCH_APPLY (R151): STI_CMD apply checks the shadow stitch map and makes it pending or refuses it. -/
  | stitchApply (v : Reg32)
  /-- KNOT_ACCESS (R151): An access to STI_KNOT_DATA writes a shadow knot and advances the knot index. -/
  | knotAccess (v : Option Reg32)
  /-- STITCHED_LINE_PASS (R160): The array accepts a stitched line into free slots and the line reaches Anvil and the output stream units. -/
  | stitchedLinePass (cyc : Fin 10)
  /-- WORD_DISPATCH (R156): Once its window is in the line store, an output word is dispatched to the lowest free engine. -/
  | wordDispatch (slice : Fin 16) (corrected : Nat)
  /-- MAX_BUNDLES_REACHED (R182): A word's cycle count reaches max_bundles without end and it ends with fault 0x01. -/
  | maxBundlesReached (slice : Fin 16) (engine : Fin 8)
  /-- ANVIL_NOP (R174): Anvil empty slot. -/
  | anvilNop (slice : Fin 16) (engine : Fin 8) (slot : Fin 3) (bits : BitVec 34) (close : Option (BitVec 8))
  /-- ANVIL_ADD (R184): Anvil lane addition. -/
  | anvilAdd (slice : Fin 16) (engine : Fin 8) (slot : Fin 3) (bits : BitVec 34) (close : Option (BitVec 8))
  /-- ANVIL_SUB (R184): Anvil lane subtraction. -/
  | anvilSub (slice : Fin 16) (engine : Fin 8) (slot : Fin 3) (bits : BitVec 34) (close : Option (BitVec 8))
  /-- ANVIL_AVG (R184): Anvil lane average. -/
  | anvilAvg (slice : Fin 16) (engine : Fin 8) (slot : Fin 3) (bits : BitVec 34) (close : Option (BitVec 8))
  /-- ANVIL_ABSD (R184): Anvil lane absolute difference. -/
  | anvilAbsd (slice : Fin 16) (engine : Fin 8) (slot : Fin 3) (bits : BitVec 34) (close : Option (BitVec 8))
  /-- ANVIL_MIN (R184): Anvil lane minimum. -/
  | anvilMin (slice : Fin 16) (engine : Fin 8) (slot : Fin 3) (bits : BitVec 34) (close : Option (BitVec 8))
  /-- ANVIL_MAX (R184): Anvil lane maximum. -/
  | anvilMax (slice : Fin 16) (engine : Fin 8) (slot : Fin 3) (bits : BitVec 34) (close : Option (BitVec 8))
  /-- ANVIL_AND (R184): Anvil lane bitwise AND. -/
  | anvilAnd (slice : Fin 16) (engine : Fin 8) (slot : Fin 3) (bits : BitVec 34) (close : Option (BitVec 8))
  /-- ANVIL_OR (R184): Anvil lane bitwise OR. -/
  | anvilOr (slice : Fin 16) (engine : Fin 8) (slot : Fin 3) (bits : BitVec 34) (close : Option (BitVec 8))
  /-- ANVIL_XOR (R184): Anvil lane bitwise XOR. -/
  | anvilXor (slice : Fin 16) (engine : Fin 8) (slot : Fin 3) (bits : BitVec 34) (close : Option (BitVec 8))
  /-- ANVIL_SHL (R184): Anvil lane shift left by register. -/
  | anvilShl (slice : Fin 16) (engine : Fin 8) (slot : Fin 3) (bits : BitVec 34) (close : Option (BitVec 8))
  /-- ANVIL_SHR (R184): Anvil lane shift right by register. -/
  | anvilShr (slice : Fin 16) (engine : Fin 8) (slot : Fin 3) (bits : BitVec 34) (close : Option (BitVec 8))
  /-- ANVIL_SEL (R184): Anvil lane select by predicate. -/
  | anvilSel (slice : Fin 16) (engine : Fin 8) (slot : Fin 3) (bits : BitVec 34) (close : Option (BitVec 8))
  /-- ANVIL_MOV (R184): Anvil lane move. -/
  | anvilMov (slice : Fin 16) (engine : Fin 8) (slot : Fin 3) (bits : BitVec 34) (close : Option (BitVec 8))
  /-- ANVIL_CLS (R189): Anvil build of class pixels from class and measure. -/
  | anvilCls (slice : Fin 16) (engine : Fin 8) (slot : Fin 3) (bits : BitVec 34) (close : Option (BitVec 8))
  /-- ANVIL_PK6 (R189): Anvil pack of 18-bit lanes into six 12-bit lanes. -/
  | anvilPk6 (slice : Fin 16) (engine : Fin 8) (slot : Fin 3) (bits : BitVec 34) (close : Option (BitVec 8))
  /-- ANVIL_CMPEQ (R185): Anvil lane equality compare into a predicate. -/
  | anvilCmpeq (slice : Fin 16) (engine : Fin 8) (slot : Fin 3) (bits : BitVec 34) (close : Option (BitVec 8))
  /-- ANVIL_CMPLT (R185): Anvil lane less-than compare into a predicate. -/
  | anvilCmplt (slice : Fin 16) (engine : Fin 8) (slot : Fin 3) (bits : BitVec 34) (close : Option (BitVec 8))
  /-- ANVIL_CMPLE (R185): Anvil lane less-or-equal compare into a predicate. -/
  | anvilCmple (slice : Fin 16) (engine : Fin 8) (slot : Fin 3) (bits : BitVec 34) (close : Option (BitVec 8))
  /-- ANVIL_ADDI (R184): Anvil lane add immediate. -/
  | anvilAddi (slice : Fin 16) (engine : Fin 8) (slot : Fin 3) (bits : BitVec 34) (close : Option (BitVec 8))
  /-- ANVIL_SHLI (R184): Anvil lane shift left immediate. -/
  | anvilShli (slice : Fin 16) (engine : Fin 8) (slot : Fin 3) (bits : BitVec 34) (close : Option (BitVec 8))
  /-- ANVIL_SHRI (R184): Anvil lane shift right immediate. -/
  | anvilShri (slice : Fin 16) (engine : Fin 8) (slot : Fin 3) (bits : BitVec 34) (close : Option (BitVec 8))
  /-- ANVIL_MOVI (R184): Anvil lane move immediate. -/
  | anvilMovi (slice : Fin 16) (engine : Fin 8) (slot : Fin 3) (bits : BitVec 34) (close : Option (BitVec 8))
  /-- ANVIL_CMPLTI (R185): Anvil lane less-than-immediate compare. -/
  | anvilCmplti (slice : Fin 16) (engine : Fin 8) (slot : Fin 3) (bits : BitVec 34) (close : Option (BitVec 8))
  /-- ANVIL_CMPGEI (R185): Anvil lane greater-or-equal-immediate compare. -/
  | anvilCmpgei (slice : Fin 16) (engine : Fin 8) (slot : Fin 3) (bits : BitVec 34) (close : Option (BitVec 8))
  /-- ANVIL_MUL (R186): Anvil lane multiply with shift. -/
  | anvilMul (slice : Fin 16) (engine : Fin 8) (slot : Fin 3) (bits : BitVec 34) (close : Option (BitVec 8))
  /-- ANVIL_MAC (R186): Anvil lane multiply-accumulate with shift. -/
  | anvilMac (slice : Fin 16) (engine : Fin 8) (slot : Fin 3) (bits : BitVec 34) (close : Option (BitVec 8))
  /-- ANVIL_LUT (R187): Anvil lane table lookup. -/
  | anvilLut (slice : Fin 16) (engine : Fin 8) (slot : Fin 3) (bits : BitVec 34) (close : Option (BitVec 8))
  /-- ANVIL_SUMH (R188): Anvil horizontal sum of lanes. -/
  | anvilSumh (slice : Fin 16) (engine : Fin 8) (slot : Fin 3) (bits : BitVec 34) (close : Option (BitVec 8))
  /-- ANVIL_WIN (R190): Anvil neighbourhood window read with exclude bits. -/
  | anvilWin (slice : Fin 16) (engine : Fin 8) (slot : Fin 3) (bits : BitVec 34) (close : Option (BitVec 8))
  /-- ANVIL_LDP (R191): Anvil parameter word load. -/
  | anvilLdp (slice : Fin 16) (engine : Fin 8) (slot : Fin 3) (bits : BitVec 34) (close : Option (BitVec 8))
  /-- ANVIL_EMC (R194): Anvil emit of the class word. -/
  | anvilEmc (slice : Fin 16) (engine : Fin 8) (slot : Fin 3) (bits : BitVec 34) (close : Option (BitVec 8))
  /-- ANVIL_EMI (R194): Anvil emit to an image channel. -/
  | anvilEmi (slice : Fin 16) (engine : Fin 8) (slot : Fin 3) (bits : BitVec 34) (close : Option (BitVec 8))
  /-- ANVIL_BR (R193): Anvil branch on guard bits. -/
  | anvilBr (slice : Fin 16) (engine : Fin 8) (slot : Fin 3) (bits : BitVec 34) (close : Option (BitVec 8))
  /-- ANVIL_PAND (R192): Anvil predicate AND. -/
  | anvilPand (slice : Fin 16) (engine : Fin 8) (slot : Fin 3) (bits : BitVec 34) (close : Option (BitVec 8))
  /-- ANVIL_POR (R192): Anvil predicate OR. -/
  | anvilPor (slice : Fin 16) (engine : Fin 8) (slot : Fin 3) (bits : BitVec 34) (close : Option (BitVec 8))
  /-- ANVIL_PXOR (R192): Anvil predicate XOR. -/
  | anvilPxor (slice : Fin 16) (engine : Fin 8) (slot : Fin 3) (bits : BitVec 34) (close : Option (BitVec 8))
  /-- ANVIL_PANDN (R192): Anvil predicate AND-NOT. -/
  | anvilPandn (slice : Fin 16) (engine : Fin 8) (slot : Fin 3) (bits : BitVec 34) (close : Option (BitVec 8))
  /-- ANVIL_PSET (R192): Anvil predicate set from immediate. -/
  | anvilPset (slice : Fin 16) (engine : Fin 8) (slot : Fin 3) (bits : BitVec 34) (close : Option (BitVec 8))
  /-- CLASS_LINE_ENTER (R196): A class line finds enough free entries and enters the commit buffer. -/
  | classLineEnter
  /-- END_OF_FLOW (R159): No stitched line arrives for drain_us while the gate is closed or reference is lost, so the array processes its last lines. -/
  | endOfFlow
  /-- ANVIL_APPLY (R166): ANV_CMD apply checks the shadow kernel set and makes it pending or refuses it. -/
  | anvilApply (v : Reg32)
  /-- PARAM_WORD_WRITE (R165): A write of ANV_PARAM_D2 stores a shadow parameter word and advances. -/
  | paramWordWrite (v : Reg32)
  /-- BUNDLE_STORE_WRITE (R165): A write of ANV_KS_D3 stores a kernel bundle unless in use and advances. -/
  | bundleStoreWrite (v : Reg32)
  /-- ANVIL_LUT_ACCESS (R165): An access to ANV_LUT_DATA stores a table entry unless in use and advances. -/
  | anvilLutAccess (v : Option Reg32)
  /-- ANVIL_LOAD_GO (R165): ANV_LOAD_CMD go starts loading the kernel store, tables or parameters from a handle. -/
  | anvilLoadGo (v : Reg32)
  /-- ANVIL_LOAD_DONE (R165): An Anvil load completes or fails and busy clears. -/
  | anvilLoadDone (failed : Option Nat) (ecc : EccResult := .clean)
  /-- INTERVAL_COMMIT (R197): An interval with all lines present is checked and committed to Bloom or discarded for replay. -/
  | intervalCommit (found : CommitChecks)
  /-- DRAIN_COMMIT (R198): After drain_us without lines and with the gate closed, held intervals commit as partial intervals. -/
  | drainCommit (found : CommitChecks)
  /-- BLOOM_LINE (R202): Bloom labels a committed stitched line, closes blooms and forms their records. -/
  | bloomLine
  /-- FLUSH (R204): BLM_CMD flush closes every open bloom with forced set. -/
  | flush (v : Reg32)
  /-- CROP_CUT (R213): Once the crop's last interval commits, the crop is cut from the channel ring. -/
  | cropCut (ecc : EccResult := .clean)
  /-- CROP_DONE (R213): A crop's lines are written and the crop is complete or partial. -/
  | cropDone
  /-- RECORD_PUSH (R214): A record whose crop is settled is pushed to rec_q when the queue has room. -/
  | recordPush
  /-- FEEDER_LINE (R280): The replay feeder reads a raw line from the ring and supplies it to the pipeline. -/
  | feederLine (ecc : EccResult := .clean)
  /-- MARK_SEND (R224): A mark's commit point is reached and its FIRE frame is queued. -/
  | markSend (mark : Nat)
  /-- MARK_FIRED (R224): Link time passes a SENT mark's t_fire and it is counted as fired and removed. -/
  | markFired (mark : Nat)
  /-- FIRE_FRAME (R231): A FIRE frame is sent on a marker link. -/
  | fireFrame (link : Fin 8)
  /-- CANCEL_FRAME (R231): A CANCEL frame is sent on a marker link. -/
  | cancelFrame (link : Fin 8)
  /-- SYNC_DUE (R232): At each 10,000 ns of link time a SYNC falls due. -/
  | syncDue (link : Fin 8)
  /-- SYNC_FRAME (R232): A SYNC frame carrying link time and fire_enable is sent. -/
  | syncFrame (link : Fin 8)
  /-- CONFIG_FRAME (R232): A CONFIG frame carrying a channel's pulse width is sent. -/
  | configFrame (link : Fin 8)
  /-- MARKER_LINK_ENABLE (R232): Setting enable in TNG_LINK_CFG drives the link and makes CONFIG due for all channels. -/
  | markerLinkEnable (link : Fin 8) (v : Reg32)
  /-- MARKER_LINK_DISABLE (R234): Clearing enable lets the frame in progress complete and idles the balls low. -/
  | markerLinkDisable (link : Fin 8) (v : Reg32)
  /-- CHANNEL_WIDTH_WRITE (R232): A write of TNG_CH_WIDTH makes a CONFIG frame due for the channel. -/
  | channelWidthWrite (ch : Fin 1024) (v : Reg32)
  /-- STREAM_APPLY (R240): OST_CMD apply checks a unit's shadow set and makes it pending or refuses it. -/
  | streamApply (unit : Fin 8) (v : Reg32)
  /-- STREAM_STOP (R241): OST_CMD stop sends a unit to IDLE at the next source line boundary. -/
  | streamStop (unit : Fin 8) (v : Reg32)
  /-- COMPRESSION_JOB (R247): An engine takes a job packet from its queue, checks it and compresses the range. -/
  | compressionJob (engine : Fin 8) (ecc : EccResult) (badWord : Nat)
  /-- JOB_COMPLETE (R249): A compression job ends OK or failed and its completion is prepared. -/
  | jobComplete (engine : Fin 8) (ecc : EccResult := .clean)
  /-- COMPLETION_PUSH (R249): A waiting completion packet is pushed once done_q has room. -/
  | completionPush (engine : Fin 8)
  /-- JOB_ABORT (R256): CMP_CMD abort ends an engine's running job with BUSY. -/
  | jobAbort (v : Reg32)
  /-- SAVE_ALL (R257): CMP_CMD save_all makes each engine save its resident stream after its job. -/
  | saveAll (v : Reg32)
  /-- TABLE_SET_ACCESS (R252): An access to CMP_TBL_DATA writes a code length unless in use and advances. -/
  | tableSetAccess (v : Option Reg32)
  /-- STATE_HANDLE_WRITE (R257): A write of CMP_STATE_HANDLE takes effect only while no slot is open. -/
  | stateHandleWrite (v : Reg32)
  /-- AP_ALLOCATE (R262): Allocation port op 0x1 allocates a pageable ordinary buffer. -/
  | apAllocate (port : Fin 5)
  /-- AP_ALLOCATE_PINNED (R262): Allocation port op 0x2 allocates a pinned ordinary buffer. -/
  | apAllocatePinned (port : Fin 5)
  /-- AP_FREE (R265): Allocation port op 0x3 frees a handle. -/
  | apFree (port : Fin 5)
  /-- AP_PIN (R262): Allocation port op 0x4 pins a buffer, paging in spilled frames. -/
  | apPin (port : Fin 5)
  /-- AP_UNPIN (R262): Allocation port op 0x5 unpins a buffer. -/
  | apUnpin (port : Fin 5)
  /-- AP_QUERY (R262): Allocation port op 0x6 fills HRT_AP_INFO for a handle. -/
  | apQuery (port : Fin 5)
  /-- BAR2_READ (R327): A host read through BAR2 reads handle bytes, stalling for page-in; `metadata` where Hearth's metadata for it fails in both copies (R259). -/
  | bar2Read (offset : BitVec 24) (length : Nat) (ecc : EccResult) (metadata : Bool := false)
  /-- BAR2_WRITE (R327): A host write through BAR2 writes handle bytes, backing frames as needed. -/
  | bar2Write (offset : BitVec 24) (bytes : List Byte)
  /-- BULK_PORT_BASE_COMMIT (R327): A write of HST_BP_BASE_HI commits the byte base and sets the stream pointer. -/
  | bulkPortBaseCommit (v : Reg32)
  /-- PAGE_OUT_DONE (R266): A frame page-out completes and frees a frame. -/
  | pageOutDone (handle : BitVec 32) (frame : Nat) (passed : List (BitVec 32 × Nat))
  /-- PAGE_IN_DONE (R267): A page-in completes with its CRC checked, poisoning on a double failure. -/
  | pageInDone (handle : BitVec 32) (frame : Nat) (crc : EccResult)
  /-- RETIRE_DONE (R269): Retirement completes, remapping the buffer and poisoning the handle or losing ring slots. -/
  | retireDone (handle : BitVec 32) (frame : Nat) (unreadable : List Nat)
  /-- SCRUB_READ (R273): A scheduled scrub read of a backed frame corrects or retires units. -/
  | scrubRead (handle : BitVec 32) (frame : Nat) (ecc : EccResult)
  /-- STARVATION (R275): A bandwidth class waits over 1 ms and starve is set. -/
  | starvation (cls : Fin 5)
  /-- RESERVED_OPCODE (R299): Fetch of a reserved Wick opcode raises exception 0x01. -/
  | reservedOpcode (core : Fin 4) (op : BitVec 8) (w : BitVec 24)
  /-- NOP (R299): Wick no operation. -/
  | nop (core : Fin 4) (w : BitVec 24)
  /-- ADD (R300): Wick register add. -/
  | add (core : Fin 4) (w : BitVec 24)
  /-- SUB (R300): Wick register subtract. -/
  | sub (core : Fin 4) (w : BitVec 24)
  /-- AND (R300): Wick register AND. -/
  | and (core : Fin 4) (w : BitVec 24)
  /-- OR (R300): Wick register OR. -/
  | or (core : Fin 4) (w : BitVec 24)
  /-- XOR (R300): Wick register XOR. -/
  | xor (core : Fin 4) (w : BitVec 24)
  /-- SHL (R300): Wick shift left. -/
  | shl (core : Fin 4) (w : BitVec 24)
  /-- SHR (R300): Wick logical shift right. -/
  | shr (core : Fin 4) (w : BitVec 24)
  /-- SHRA (R300): Wick arithmetic shift right. -/
  | shra (core : Fin 4) (w : BitVec 24)
  /-- CLT (R300): Wick signed compare less-than. -/
  | clt (core : Fin 4) (w : BitVec 24)
  /-- CLTU (R300): Wick unsigned compare less-than. -/
  | cltu (core : Fin 4) (w : BitVec 24)
  /-- MIN (R300): Wick signed minimum. -/
  | min (core : Fin 4) (w : BitVec 24)
  /-- MAX (R300): Wick signed maximum. -/
  | max (core : Fin 4) (w : BitVec 24)
  /-- MINU (R300): Wick unsigned minimum. -/
  | minu (core : Fin 4) (w : BitVec 24)
  /-- MAXU (R300): Wick unsigned maximum. -/
  | maxu (core : Fin 4) (w : BitVec 24)
  /-- MUL (R300): Wick multiply low half. -/
  | mul (core : Fin 4) (w : BitVec 24)
  /-- MULHS (R300): Wick signed multiply high half. -/
  | mulhs (core : Fin 4) (w : BitVec 24)
  /-- MULHU (R300): Wick unsigned multiply high half. -/
  | mulhu (core : Fin 4) (w : BitVec 24)
  /-- QUO (R300): Wick signed quotient. -/
  | quo (core : Fin 4) (w : BitVec 24)
  /-- QUOU (R300): Wick unsigned quotient. -/
  | quou (core : Fin 4) (w : BitVec 24)
  /-- MOD (R300): Wick signed remainder. -/
  | mod (core : Fin 4) (w : BitVec 24)
  /-- MODU (R300): Wick unsigned remainder. -/
  | modu (core : Fin 4) (w : BitVec 24)
  /-- ADDI (R301): Wick add immediate. -/
  | addi (core : Fin 4) (w : BitVec 24)
  /-- ANDI (R301): Wick AND immediate. -/
  | andi (core : Fin 4) (w : BitVec 24)
  /-- ORI (R301): Wick OR immediate. -/
  | ori (core : Fin 4) (w : BitVec 24)
  /-- XORI (R301): Wick XOR immediate. -/
  | xori (core : Fin 4) (w : BitVec 24)
  /-- SHLI (R301): Wick shift left immediate. -/
  | shli (core : Fin 4) (w : BitVec 24)
  /-- SHRI (R301): Wick logical shift right immediate. -/
  | shri (core : Fin 4) (w : BitVec 24)
  /-- SHRAI (R301): Wick arithmetic shift right immediate. -/
  | shrai (core : Fin 4) (w : BitVec 24)
  /-- CLTI (R301): Wick signed compare with immediate. -/
  | clti (core : Fin 4) (w : BitVec 24)
  /-- CLTUI (R301): Wick unsigned compare with immediate. -/
  | cltui (core : Fin 4) (w : BitVec 24)
  /-- IHI (R301): Wick load of a shifted high immediate. -/
  | ihi (core : Fin 4) (w : BitVec 24)
  /-- LD8 (R301): Wick signed byte load. -/
  | ld8 (core : Fin 4) (w : BitVec 24) (ecc : EccResult)
  /-- LD8U (R301): Wick unsigned byte load. -/
  | ld8u (core : Fin 4) (w : BitVec 24) (ecc : EccResult)
  /-- LD16 (R301): Wick signed halfword load. -/
  | ld16 (core : Fin 4) (w : BitVec 24) (ecc : EccResult)
  /-- LD16U (R301): Wick unsigned halfword load. -/
  | ld16u (core : Fin 4) (w : BitVec 24) (ecc : EccResult)
  /-- LD32 (R301): Wick signed word load, including device registers. -/
  | ld32 (core : Fin 4) (w : BitVec 24) (ecc : EccResult)
  /-- LD32U (R301): Wick unsigned word load, including device registers. -/
  | ld32u (core : Fin 4) (w : BitVec 24) (ecc : EccResult)
  /-- LD64 (R301): Wick doubleword load. -/
  | ld64 (core : Fin 4) (w : BitVec 24) (ecc : EccResult)
  /-- ST8 (R301): Wick byte store. -/
  | st8 (core : Fin 4) (w : BitVec 24)
  /-- ST16 (R301): Wick halfword store. -/
  | st16 (core : Fin 4) (w : BitVec 24)
  /-- ST32 (R301): Wick word store, including device register writes. -/
  | st32 (core : Fin 4) (w : BitVec 24)
  /-- ST64 (R301): Wick doubleword store. -/
  | st64 (core : Fin 4) (w : BitVec 24)
  /-- LDS (R301): Wick load of a 72-bit slot into a stream register. -/
  | lds (core : Fin 4) (w : BitVec 24) (ecc : EccResult)
  /-- STS (R301): Wick store of a stream register into a 16-byte slot. -/
  | sts (core : Fin 4) (w : BitVec 24)
  /-- ATADD (R301): Wick atomic add. -/
  | atadd (core : Fin 4) (w : BitVec 24) (ecc : EccResult)
  /-- ATSWP (R301): Wick atomic swap. -/
  | atswp (core : Fin 4) (w : BitVec 24) (ecc : EccResult)
  /-- ATCAS (R301): Wick atomic compare-and-swap. -/
  | atcas (core : Fin 4) (w : BitVec 24) (ecc : EccResult)
  /-- BEQ (R302): Wick branch if equal. -/
  | beq (core : Fin 4) (w : BitVec 24)
  /-- BNE (R302): Wick branch if not equal. -/
  | bne (core : Fin 4) (w : BitVec 24)
  /-- BLT (R302): Wick branch if signed less. -/
  | blt (core : Fin 4) (w : BitVec 24)
  /-- BGE (R302): Wick branch if signed greater or equal. -/
  | bge (core : Fin 4) (w : BitVec 24)
  /-- BLTU (R302): Wick branch if unsigned less. -/
  | bltu (core : Fin 4) (w : BitVec 24)
  /-- BGEU (R302): Wick branch if unsigned greater or equal. -/
  | bgeu (core : Fin 4) (w : BitVec 24)
  /-- CALL (R302): Wick relative call or jump. -/
  | call (core : Fin 4) (w : BitVec 24)
  /-- CALLR (R302): Wick register-indirect call or jump. -/
  | callr (core : Fin 4) (w : BitVec 24)
  /-- SLO (R303): Wick move to stream register low bits. -/
  | slo (core : Fin 4) (w : BitVec 24)
  /-- SHI (R303): Wick move to stream register high byte. -/
  | shi (core : Fin 4) (w : BitVec 24)
  /-- GLO (R303): Wick move from stream register low bits. -/
  | glo (core : Fin 4) (w : BitVec 24)
  /-- GHI (R303): Wick move from stream register high byte. -/
  | ghi (core : Fin 4) (w : BitVec 24)
  /-- SMV (R303): Wick stream register copy. -/
  | smv (core : Fin 4) (w : BitVec 24)
  /-- MFC (R304): Wick read of a control register. -/
  | mfc (core : Fin 4) (w : BitVec 24)
  /-- MTC (R304): Wick write of a control register, including tcmp and wdkick. -/
  | mtc (core : Fin 4) (w : BitVec 24)
  /-- DI (R304): Wick disable interrupts. -/
  | di (core : Fin 4) (w : BitVec 24)
  /-- EI (R304): Wick enable interrupts. -/
  | ei (core : Fin 4) (w : BitVec 24)
  /-- WFI (R304): Wick wait for an enabled pending source. -/
  | wfi (core : Fin 4) (w : BitVec 24)
  /-- WFI_WAKE (R304): A targeted source becomes pending and enabled, ending a core's WFI. -/
  | wfiWake (core : Fin 4)
  /-- RETI (R316): Wick interrupt exit with chained dispatch or frame restore. -/
  | reti (core : Fin 4) (w : BitVec 24) (ecc : EccResult)
  /-- RETE (R304): Wick exception return. -/
  | rete (core : Fin 4) (w : BitVec 24)
  /-- SWI (R304): Wick raise of a private software source. -/
  | swi (core : Fin 4) (w : BitVec 24)
  /-- FENCE (R304): Wick wait until earlier stores and writes are performed. -/
  | fence (core : Fin 4) (w : BitVec 24)
  /-- BRK (R304): Wick breakpoint exception. -/
  | brk (core : Fin 4) (w : BitVec 24)
  /-- SVC (R321): Wick service call from a recipe core to core 0 firmware. -/
  | svc (core : Fin 4) (w : BitVec 24)
  /-- QPOP (R305): Wick pop of the next visible queue word. -/
  | qpop (core : Fin 4) (w : BitVec 24) (ecc : EccResult)
  /-- QPUSH (R305): Wick push of a word into the core's open packet. -/
  | qpush (core : Fin 4) (w : BitVec 24)
  /-- QOPEN (R305): Wick reservation of a packet length slot. -/
  | qopen (core : Fin 4) (w : BitVec 24)
  /-- QCLOSE (R305): Wick write of the length word making the packet visible. -/
  | qclose (core : Fin 4) (w : BitVec 24)
  /-- QLVL (R305): Wick read of a queue's readable word count. -/
  | qlvl (core : Fin 4) (w : BitVec 24)
  /-- ISS (R307): Wick write of a block command register tied to a tag. -/
  | iss (core : Fin 4) (w : BitVec 24)
  /-- AWT (R308): Wick wait for or poll a tag's result and free it. -/
  | awt (core : Fin 4) (w : BitVec 24)
  /-- BLD (R309): Wick bulk port word load. -/
  | bld (core : Fin 4) (w : BitVec 24) (ecc : EccResult)
  /-- BST (R309): Wick bulk port word store. -/
  | bst (core : Fin 4) (w : BitVec 24)
  /-- BMV (R309): Wick tagged bulk move between a handle and local memory. -/
  | bmv (core : Fin 4) (w : BitVec 24) (ecc : EccResult)
  /-- TAG_COMPLETE (R308): A tagged block command completes and raises its tag's private source. -/
  | tagComplete (core : Fin 4) (tag : Fin 16)
  /-- TIMER_MATCH (R312): A core's cycle counter reaches tcmp and raises private source 24. -/
  | timerMatch (core : Fin 4)
  /-- WATCHDOG_TIMEOUT (R311): timeout_us passes without wdkick and the core halts with cause 0x02. -/
  | watchdogTimeout (core : Fin 4)
  /-- INTERRUPT_ENTRY (R314): An eligible source starts interrupt entry with vector fetch and frame write. -/
  | interruptEntry (core : Fin 4)
  /-- WCK_SWI_WRITE (R312): A write to WCK_SWI raises private software sources of a core. -/
  | wckSwiWrite (ag : Agent) (core : Fin 4) (v : Reg32)
  /-- SERVICE_DONE (R321): Core 0 writes WCK_SVC_DONE and the calling core resumes with status and value. -/
  | serviceDone (core : Fin 4) (v : Reg32)
  /-- SVC_VERSION (R322): Service returning the firmware version. -/
  | svcVersion
  /-- SVC_DEVSTATE (R322): Service acting as the hold, resume or stop host command. -/
  | svcDevstate
  /-- SVC_ROUTE (R322): Service setting priority and enable of a shared source targeted at the caller. -/
  | svcRoute
  /-- SVC_NOTIFY (R322): Service pushing an unsolicited notification to host software. -/
  | svcNotify
  /-- DOORBELL (R338): A doorbell write sets a ring's host pointer, or wakes the device for the Q0 ring. -/
  | doorbell (ring : Fin 64) (v : Reg32) (size : Nat := 4)
  /-- QUEUE_IN_PUSH (R339): A whole packet from a queue-in ring is pushed to its queue once fetched and room exists. -/
  | queueInPush (ring : Fin 64) (length : Word) (words : List Word) (pcieOk : Bool)
  /-- QUEUE_OUT_MOVE (R339): A visible packet or void word is moved into a queue-out ring with writeback. -/
  | queueOutMove (ring : Fin 64) (ecc : EccResult) (badWord : Nat) (pcieOk : Bool)
  /-- RECEIVE_ITEM (R340): An item fills a receive ring buffer and its descriptor status is written. -/
  | receiveItem (ring : Fin 64) (desc : Descriptor) (pcieOk : Bool) (ecc : EccResult := .clean)
  /-- COPY_DESCRIPTOR (R340): A copy descriptor's transfer between a handle and host memory completes. -/
  | copyDescriptor (ring : Fin 64) (desc : Descriptor) (hostBytes : List Byte) (pcieOk : Bool) (ecc : EccResult := .clean)
  /-- RING_ENABLE (R338): Setting enable in HST_RING_CFG resets pointers and error and starts the ring. -/
  | ringEnable (ring : Fin 64) (v : Reg32)
  /-- RING_DISABLE (R338): Clearing enable stops the ring after the entry in progress. -/
  | ringDisable (ring : Fin 64) (v : Reg32)
  /-- QUEUE_ENABLE (R329): Setting enable in HST_Q_CFG takes pages and zeroes the acknowledgement register. -/
  | queueEnable (queue : Fin 64) (v : Reg32)
  /-- QUEUE_DISABLE (R329): Clearing enable in HST_Q_CFG discards the queue's words. -/
  | queueDisable (queue : Fin 64) (v : Reg32)
  /-- QUEUE_SNUFF (R334): A write of snuff to HST_Q_CTRL flushes the queue leaving void words for open packets. -/
  | queueSnuff (queue : Fin 64) (v : Reg32)
  /-- PCIE_LINK_TRAINED (R326): The PCI Express link trains, setting link_degraded below Gen6 x8. -/
  | pcieLinkTrained (speed : Fin 7) (width : Fin 9) (flit : Bool)
  /-- VECTOR_UNMASK (R354): Unmasking an MSI-X vector with pending commits sends one message. -/
  | vectorUnmask (write : MsixWrite)
  /-- GATE_OPEN (R350): A group's gate opens on count or timer after hold-off, releasing its pending sources. -/
  | gateOpen (group : Fin 32)
  /-- SOURCE_CONFIG_WRITE (R357): A write to EVT_SRC enables, masks, withdraws or routes a source. -/
  | sourceConfigWrite (source : Fin 512) (v : Reg32)
  /-- PTP_SYNC (R366): A Sync message is received and timestamped for an exchange. -/
  | ptpSync (m : PtpMsg)
  /-- FOLLOW_UP (R366): A Follow_Up message supplies the precise origin time of a Sync. -/
  | followUp (m : PtpMsg)
  /-- DELAY_REQ (R366): A Delay_Req is sent after a Sync once its interval allows, timestamped on the fly. -/
  | delayReq (port : Fin 2) (tap : Fin 32)
  /-- DELAY_RESP (R366): A matching Delay_Resp completes an exchange and forms an offset. -/
  | delayResp (m : PtpMsg)
  /-- ANNOUNCE (R372): An Announce message feeds best-master selection. -/
  | announce (m : PtpMsg) (data : AnnounceData)
  /-- HELD_END (R367): The HELD tick count expires and the counter resumes in TRACKING. -/
  | heldEnd
  /-- MASTER_LOST (R369): No Sync is accepted for master_tmo and the time base enters HOLDOVER. -/
  | masterLost
  /-- HOST_OFFSET (R366): A write of TIM_HOST_OFS_HI submits a host offset. -/
  | hostOffset (hi : Reg32)
  /-- SOURCE_CHANGE (R369): A write changing the time source enters HOLDOVER from TRACKING. -/
  | sourceChange (v : Reg32)
  /-- DATAGRAM_SEND (R375): A plant port takes a packet from its queue and sends a UDP datagram. -/
  | datagramSend (port : Fin 2) (tap : Fin 32)
  /-- ARP_REQUEST (R374): Firmware answers an ARP request for the port address. -/
  | arpRequest (port : Fin 2) (ip : BitVec 32) (vlan : Option (BitVec 12))
  /-- ECHO_REQUEST (R374): Firmware answers an ICMP echo request. -/
  | echoRequest (port : Fin 2) (ip : BitVec 32) (vlan : Option (BitVec 12))
  /-- FRAME_DISCARD (R374): Another received frame is discarded and counted. -/
  | frameDiscard (port : Fin 2) (frame : PlantFrame)
  /-- PLANT_LINK_CHANGE (R380): A plant port link changes and link0 or link1 is set. -/
  | plantLinkChange (port : Fin 2) (up : Bool)
  /-- RETRAIN_DUE (R382): The retraining period or temperature step makes an HBM retraining due. -/
  | retrainDue
  /-- RUN_HBM (R382): TMP_CMD run_hbm makes a retraining due. -/
  | runHbm
  /-- RETRAIN_START (R382): A due retraining starts at an interval opening without replay reads, or at once when idle. -/
  | retrainStart
  /-- RETRAIN_END (R383): The 8 us pause ends, codes are verified and applied, and Hearth grants resume. -/
  | retrainEnd (result : HbmResult)
  /-- RETRAIN_OVERDUE (R382): A retraining waits 10 ms and hbm_overdue is set. -/
  | retrainOverdue
  /-- TDC_DUE (R385): The calibration period or a 1 ms retry makes an interpolator calibration due. -/
  | tdcDue
  /-- RUN_TDC (R385): TMP_CMD run_tdc makes an interpolator calibration due. -/
  | runTdc
  /-- TDC_END (R385): After 2,500 ticks the calibration ends and new trims take effect. -/
  | tdcEnd (result : TdcResult)
  /-- COEF_DATA_READ (R381): A read of TMP_COEF_DATA returns a coefficient and advances the index. -/
  | coefDataRead
  /-- PROGRAM_CUSTOMER_KEY (R417): Provisioning op 0x1 programs the customer key. -/
  | programCustomerKey (v : Reg32)
  /-- RAISE_FW_SVN_MIN (R417): Provisioning op 0x2 raises fw_svn_min. -/
  | raiseFwSvnMin (v : Reg32)
  /-- RAISE_RCP_SVN_MIN (R417): Provisioning op 0x3 raises rcp_svn_min. -/
  | raiseRcpSvnMin (v : Reg32)
  /-- DISABLE_DEBUG (R417): Provisioning op 0x4 disables debug unlocks permanently. -/
  | disableDebug (v : Reg32)
  /-- PROVISION_DONE (R417): A provisioning operation's fuse programming and read-back complete. -/
  | provisionDone (result : FuseResult)
  /-- REGISTER_UNLOCK (R419): SEC_DBG_CMD go starts a debug unlock with a signature in a handle. -/
  | registerUnlock (v : Reg32)
  /-- TAP_UNLOCK (R419): A signature shifted into the TAP UNLOCK register starts a debug unlock. -/
  | tapUnlock (level : BitVec 8)
  /-- UNLOCK_DONE (R419): Unlock verification completes, setting the debug level or verify_fail. -/
  | unlockDone (signer : UnlockSigner)
  /-- MEASUREMENT_READ (R415): A read of SEC_MEAS_DATA returns a measurement word and advances. -/
  | measurementRead
  /-- PUBKEY_READ (R416): A read of SEC_PUBKEY_DATA returns a public key word and advances. -/
  | pubkeyRead
  /-- BYPASS (R418): TAP BYPASS instruction. -/
  | bypass (tdi : Bool)
  /-- IDCODE (R418): TAP IDCODE instruction. -/
  | idcode
  /-- SAMPLE_PRELOAD (R418): TAP SAMPLE/PRELOAD instruction. -/
  | samplePreload (levels : List (Nat × Bool))
  /-- EXTEST (R418): TAP EXTEST instruction at level 2 in BOOT, READY or FAULT. -/
  | extest (levels : List (Nat × Bool))
  /-- CLAMP (R418): TAP CLAMP instruction at level 2 in BOOT, READY or FAULT. -/
  | clamp
  /-- HIGHZ (R418): TAP HIGHZ instruction at level 2 in BOOT, READY or FAULT. -/
  | highz
  /-- WICK_DEBUG_ACCESS (R418): TAP Wick debug access to cores permitted by the debug level. -/
  | wickDebugAccess (core : Fin 4) (op : DebugOp)
  /-- SMBUS_READ_WORD (R437): An SMBus Read Word returns a status word from the always-on domain. -/
  | smbusReadWord (command : BitVec 8)
  /-- REINJECT_LINE (R108): A running re-injection reads the next retained line from its ring slot, skips it if the slot no longer holds it, or passes it to its pixel lane. -/
  | reinjectLine (ctx : Fin 64) (ecc : EccResult := .clean)
  /-- RECEIVED_DELAY_REQ (R373): A Delay_Req received from another clock on a plant port is forwarded to the other port with its residence time added to correctionField. -/
  | receivedDelayReq (m : PtpMsg)
  /-- RESET_AFTER_RESPONSE (R344): Ten microseconds after the RESET command's response, the device performs a DEVICE reset and enters RESET. -/
  | resetAfterResponse
  /-- BAR0_READ (R405): In BANKED, a BAR0 read of a window other than global, Bellows or events is a wake cause and completes after the wake. -/
  | bar0Read (offset : BitVec 26) (size : Nat)
deriving DecidableEq, Repr

end Sys2Proof
end

