-- ==== Sys2Proof/Decode.lean ====
section
/-! DEFINITION. Decoding by the bits of spec/opcode_table.json. The table gives no row any bits: a command arrives as a
register access, a packet, an event or a Wick or Anvil instruction with its operands, never as a word of the table. -/
namespace Sys2Proof

/-- The command that a word spells by the table's bits: none, since no row of the table gives bits. -/
def decodeTableWord (_nbits _w : Nat) : Option Instr := none

end Sys2Proof
end

