-- ==== Sys2Proof/Config.lean ====
section
/-! DEFINITION. What an implementation fixes and the spec does not give: constants without a body. No statement can
depend on their values. Each is named in notes/assumptions. -/
namespace Sys2Proof

/-- SHAKE256 with 512 bits of output over a byte string (R410, R415): an outside standard, not restated. (DESIGN CHOICE, safe: log 5) -/
opaque Config.shake256 : List Byte → BitVec 512
/-- Byte `i` of the device key's SLH-DSA signature over a message (R416). (DESIGN CHOICE, safe: log 5) -/
opaque Config.signature : List Byte → Nat → Byte
/-- The digest of the boot ROM (R412). (DESIGN CHOICE, safe: log 5) -/
opaque Config.romDigest : BitVec 512
/-- Byte `i` of the boot ROM (R294, R412). (DESIGN CHOICE, safe: log 5) -/
opaque Config.romByte : Nat → Byte
/-- The word of the boot ROM at which core 0 leaves reset (R394). (DESIGN CHOICE, safe: log 5) -/
opaque Config.romEntry : Nat
/-- The boot ROM version (SEC_STATUS, IDENTIFY in BOOT). (DESIGN CHOICE, safe: log 5) -/
opaque Config.romVersion : BitVec 8
/-- The firmware version reported by IDENTIFY and VERSION (R322, R344). (DESIGN CHOICE, safe: log 5) -/
opaque Config.firmwareVersion : BitVec 32
/-- Byte `i` of the device identity (SEC_DEVID). (DESIGN CHOICE, safe: log 5) -/
opaque Config.deviceId : Nat → Byte
/-- The Yalvan public key held in the ROM and the device public key held in fuses (R409). (DESIGN CHOICE, safe: log 5) -/
opaque Config.yalvanKey : BitVec 512
/-- DESIGN CHOICE, safe: log 5. -/
opaque Config.deviceKey : BitVec 512
/-- The `n`-th challenge drawn from the entropy source (R419). (DESIGN CHOICE, safe: log 5) -/
opaque Config.challenge : Nat → BitVec 256
/-- Yalvan's manufacturer code in IDCODE [11:1] (R418). (DESIGN CHOICE, safe: log 5) -/
opaque Config.idcodeMaker : BitVec 11
/-- Bytes that a journal entry takes beyond its first: entry formats are internal (R286), and an entry fits the write backlog (R287). (DESIGN CHOICE,
safe: log 5) -/
opaque Config.journalEntryBytes : Fin 65536
/-- The clock identity of the ordinary clock (R366, R372). (DESIGN CHOICE, safe: log 5) -/
opaque Config.clockIdentity : BitVec 64
/-- CoaXPress's addresses of the bootstrap registers: 0 Standard, 1 Revision, 2 DeviceConnectionID, 3
ConnectionConfigDefault, 4 ControlPacketSizeMax, 5 StreamPacketSizeMax, 6 ConnectionConfig, 7 ConnectionReset. (DESIGN CHOICE, safe: log 6) -/
opaque Config.bootstrapAddress : Nat → BitVec 32
/-- CoaXPress's encoding of a rate code and a connection count in ConnectionConfig. (DESIGN CHOICE, safe: log 6) -/
opaque Config.connectionConfig : Nat → Nat → BitVec 32
/-- CoaXPress's value written to ConnectionReset. (DESIGN CHOICE, safe: log 6) -/
opaque Config.connectionReset : BitVec 32
/-- The match that a compression engine chooses (R250, R251), by mode and chain, after the bytes seen and before the rest of its block:
length and distance; one that does not restore the input stands for none. (DESIGN CHOICE, safe: log 5) -/
opaque Config.pickMatch : Nat → Nat → List Byte → List Byte → Nat × Nat
/-- The code lengths that a compression engine computes from symbol counts (R251). (DESIGN CHOICE, safe: log 5) -/
opaque Config.codeLengths : List Nat → List Nat
/-- The bits of a BTYPE 10 header after BTYPE (RFC 1951), by the code lengths that it carries: HLIT, HDIST, HCLEN and the run-length
coding are the engine's (R251). (DESIGN CHOICE, safe: log 5) -/
opaque Config.codeHeader : List Nat → List Nat → List Bool
/-- Characters that a trigger packet takes on an uplink: CoaXPress's layout (R89, R90). (DESIGN CHOICE, safe: log 6) -/
opaque Config.triggerPacketCharacters : Nat
/-- The fraction of R31 and the offset term of R33 where T is 0 (counted edges while the time counter is held take one time): the
spec divides by T and states no result. By t_g − t_e and by the offset. (DESIGN CHOICE, safe: log 106) -/
opaque Config.zeroPeriodFraction : Nat → Nat
/-- DESIGN CHOICE, safe: log 106. -/
opaque Config.zeroPeriodOffset : Int → Int
/-- A value that the spec leaves open, fresh for each count. (DESIGN CHOICE, safe: log 4) -/
opaque Config.freeValue : Nat → Nat

end Sys2Proof
end

