-- ==== Sys2Proof/Machine/Bits.lean ====
section
/-! DEFINITION. Bit-field, sign and byte-order helpers (R3, R5): arithmetic on Nat and Int that the meanings share. -/
namespace Sys2Proof.Machine

/-- Bits `[hi:lo]` of a number. -/
def bitsOf (v hi lo : Nat) : Nat := v / 2 ^ lo % 2 ^ (hi + 1 - lo)

/-- The two's complement value of the low `w` bits of a number. -/
def signed (w v : Nat) : Int :=
  let x := v % 2 ^ w
  if x < 2 ^ (w - 1) then (x : Int) else (x : Int) - (2 : Int) ^ w

/-- The low `w` bits of an integer, in two's complement. -/
def wrapTo (w : Nat) (i : Int) : Nat := (i % (2 : Int) ^ w).toNat

/-- An integer limited to a range. -/
def clampInt (lo hi i : Int) : Int := if i < lo then lo else if hi < i then hi else i

/-- Arithmetic shift right, rounding toward minus infinity. -/
def sar (i : Int) (n : Nat) : Int := i / (2 : Int) ^ n

/-- The `n` bytes of a number, least significant first (R5). -/
def toBytes : Nat → Nat → List (BitVec 8)
  | 0, _ => []
  | n + 1, v => BitVec.ofNat 8 v :: toBytes n (v / 256)

/-- The number that bytes hold, least significant first. -/
def ofBytes : List (BitVec 8) → Nat
  | [] => 0
  | b :: bs => b.toNat + 256 * ofBytes bs

/-- The dense packing of words: 9 bytes each (R5). -/
def packDense : List Word → List (BitVec 8)
  | [] => []
  | w :: ws => toBytes 9 w.toNat ++ packDense ws

/-- The 16-byte slot of a word in a control structure (R5). -/
def packSlot (w : Word) : List (BitVec 8) := toBytes 9 w.toNat ++ List.replicate 7 0

/-- The lowest set bit index at or after `i`, looking at `n` bits. -/
def firstBit (p : Nat → Bool) (i : Nat) : Nat → Option Nat
  | 0 => none
  | n + 1 => if p i then some i else firstBit p (i + 1) n

/-- Ceiling division. -/
def cdiv (a b : Nat) : Nat := a / b + if a % b = 0 then 0 else 1

/-- An `f`-fold over the numbers `0 .. n-1`. -/
def upTo (n : Nat) (f : Nat → β → β) (b : β) : β := (List.range n).foldl (fun b i => f i b) b

/-- One bit of a reflected CRC register. -/
def crcBit (poly c : BitVec 32) : BitVec 32 := if c.getLsbD 0 then (c >>> 1) ^^^ poly else c >>> 1

/-- A reflected CRC-32 register after a list of bytes. -/
def crcBytes (poly : BitVec 32) : BitVec 32 → List (BitVec 8) → BitVec 32
  | c, [] => c
  | c, b :: bs => crcBytes poly (upTo 8 (fun _ c => crcBit poly c) (c ^^^ b.setWidth 32)) bs

/-- The polynomials 0x1EDC6F41 (CRC-32C) and 0x04C11DB7 (CRC-32), reflected. -/
def polyC : BitVec 32 := 0x82F63B78
def poly32 : BitVec 32 := 0xEDB88320

end Sys2Proof.Machine
end

