-- ==== Sys2Proof/Machine/RegMap.lean ====
section
/-! DEFINITION. The BAR0 register map (R6, R11, R12 and the register tables of the chapters of spec/): the offset
of every register (R.<REGISTER>), the bit range of every field (F.<REGISTER>_<field>) and, per window, the
description of each register: its domain and its fields' access codes, reset values and legal encodings. A lane's
own registers stand 0x1000_0000 above their BAR0 offset (notes/assumptions: the lane and port blocks overlap). -/
namespace Sys2Proof.Machine

/-- A bit field `[hi:lo]` of a 32-bit register (R3). -/
structure Field where
  hi : Nat
  lo : Nat
deriving DecidableEq, Repr

/-- The access codes of R6. -/
inductive Access where
  | rw | ro | wo | w1c | w1s | rc | rwl
deriving DecidableEq, Repr

/-- The three nested reset domains of R11. -/
inductive ResetDomain where
  | por | device | link
deriving DecidableEq, Repr

/-- A field's row: its bits, its access code, its reset value and the encodings that are not reserved (an empty list:
every encoding is legal), for R10. -/
structure FieldInfo where
  field : Field
  access : Access
  reset : Nat
  legal : List (Nat × Nat)
deriving DecidableEq, Repr

/-- A register, or an array of them in one or two dimensions (stride and count of each). -/
structure RegInfo where
  base : Nat
  stride : Nat
  count : Nat
  stride2 : Nat
  count2 : Nat
  domain : ResetDomain
  fields : List FieldInfo
deriving DecidableEq, Repr

/-- BLW_ID: register of R28, 01_architecture.md. -/
def R.BLW_ID : Nat := 0x0
/-- BLW_REV: register of R28, 01_architecture.md. -/
def R.BLW_REV : Nat := 0x4
/-- BLW_STATE: register of R28, 01_architecture.md. -/
def R.BLW_STATE : Nat := 0x8
/-- BLW_CLK_STATUS: register of R28, 01_architecture.md. -/
def R.BLW_CLK_STATUS : Nat := 0xC
/-- ENC_COORD: register of R44, 02_web_coordinates.md. -/
def R.ENC_COORD : Nat := 0x708000
/-- ENC_MD_SCALE: register of R44, 02_web_coordinates.md. -/
def R.ENC_MD_SCALE : Nat := 0x708004
/-- ENC_EXPOFS: register of R44, 02_web_coordinates.md. -/
def R.ENC_EXPOFS (n : Nat) : Nat := 0x708100 + 0x4 * n
/-- STI_CD_PITCH: register of R44, 02_web_coordinates.md. -/
def R.STI_CD_PITCH : Nat := 0x408000
/-- STI_CD_ORIGIN: register of R44, 02_web_coordinates.md. -/
def R.STI_CD_ORIGIN : Nat := 0x408004
/-- ENC_CFG: register of R69, 03_position_feedback.md. -/
def R.ENC_CFG (n : Nat) : Nat := 0x700000 + 0x100 * n
/-- ENC_STILL: register of R69, 03_position_feedback.md. -/
def R.ENC_STILL (n : Nat) : Nat := 0x700004 + 0x100 * n
/-- ENC_COUNT_LO: register of R69, 03_position_feedback.md. -/
def R.ENC_COUNT_LO (n : Nat) : Nat := 0x700008 + 0x100 * n
/-- ENC_COUNT_HI: register of R69, 03_position_feedback.md. -/
def R.ENC_COUNT_HI (n : Nat) : Nat := 0x70000C + 0x100 * n
/-- ENC_PERIOD: register of R69, 03_position_feedback.md. -/
def R.ENC_PERIOD (n : Nat) : Nat := 0x700010 + 0x100 * n
/-- ENC_STATUS: register of R69, 03_position_feedback.md. -/
def R.ENC_STATUS (n : Nat) : Nat := 0x700014 + 0x100 * n
/-- ENC_EVCNT: register of R69, 03_position_feedback.md. -/
def R.ENC_EVCNT (n : Nat) (b : Nat) : Nat := 0x700018 + 0x100 * n + 0x4 * b
/-- ENC_UNCERT: register of R69, 03_position_feedback.md. -/
def R.ENC_UNCERT (n : Nat) : Nat := 0x70002C + 0x100 * n
/-- ENC_PRESET_LO: register of R69, 03_position_feedback.md. -/
def R.ENC_PRESET_LO (n : Nat) : Nat := 0x700030 + 0x100 * n
/-- ENC_PRESET_HI: register of R69, 03_position_feedback.md. -/
def R.ENC_PRESET_HI (n : Nat) : Nat := 0x700034 + 0x100 * n
/-- ENC_CMD: register of R69, 03_position_feedback.md. -/
def R.ENC_CMD (n : Nat) : Nat := 0x700038 + 0x100 * n
/-- ENC_TRG_CFG: register of R69, 03_position_feedback.md. -/
def R.ENC_TRG_CFG (k : Nat) : Nat := 0x701000 + 0x40 * k
/-- ENC_TRG_NEXT_LO: register of R69, 03_position_feedback.md. -/
def R.ENC_TRG_NEXT_LO (k : Nat) : Nat := 0x701004 + 0x40 * k
/-- ENC_TRG_NEXT_HI: register of R69, 03_position_feedback.md. -/
def R.ENC_TRG_NEXT_HI (k : Nat) : Nat := 0x701008 + 0x40 * k
/-- ENC_TRG_PERIOD: register of R69, 03_position_feedback.md. -/
def R.ENC_TRG_PERIOD (k : Nat) : Nat := 0x70100C + 0x40 * k
/-- ENC_TRG_MININT: register of R69, 03_position_feedback.md. -/
def R.ENC_TRG_MININT (k : Nat) : Nat := 0x701010 + 0x40 * k
/-- ENC_TRG_STATUS: register of R69, 03_position_feedback.md. -/
def R.ENC_TRG_STATUS (k : Nat) : Nat := 0x701014 + 0x40 * k
/-- ENC_TRG_LATE_EVT: register of R69, 03_position_feedback.md. -/
def R.ENC_TRG_LATE_EVT (k : Nat) : Nat := 0x701018 + 0x40 * k
/-- ENC_TRG_LATE_PTS: register of R69, 03_position_feedback.md. -/
def R.ENC_TRG_LATE_PTS (k : Nat) : Nat := 0x70101C + 0x40 * k
/-- ENC_TRG_FIRED: register of R69, 03_position_feedback.md. -/
def R.ENC_TRG_FIRED (k : Nat) : Nat := 0x701020 + 0x40 * k
/-- ENC_LAT_CFG: register of R69, 03_position_feedback.md. -/
def R.ENC_LAT_CFG (j : Nat) : Nat := 0x702000 + 0x10 * j
/-- ENC_LAT_CMD: register of R69, 03_position_feedback.md. -/
def R.ENC_LAT_CMD (j : Nat) : Nat := 0x702004 + 0x10 * j
/-- ENC_LAT_DROP: register of R69, 03_position_feedback.md. -/
def R.ENC_LAT_DROP (j : Nat) : Nat := 0x702008 + 0x10 * j
/-- LANE_PORT_CFG: register of R92, 04_camera_lanes.md. -/
def R.LANE_PORT_CFG (p : Nat) : Nat := 0x100000 + 0x1000 * p
/-- LANE_PORT_CMD: register of R92, 04_camera_lanes.md. -/
def R.LANE_PORT_CMD (p : Nat) : Nat := 0x100004 + 0x1000 * p
/-- LANE_LINK_STATUS: register of R92, 04_camera_lanes.md. -/
def R.LANE_LINK_STATUS (p : Nat) (i : Nat) : Nat := 0x100010 + 0x1000 * p + 0x4 * i
/-- LANE_PORT_FLAGS: register of R92, 04_camera_lanes.md. -/
def R.LANE_PORT_FLAGS (p : Nat) : Nat := 0x100020 + 0x1000 * p
/-- LANE_PORT_EVCNT: register of R92, 04_camera_lanes.md. -/
def R.LANE_PORT_EVCNT (p : Nat) (b : Nat) : Nat := 0x100040 + 0x1000 * p + 0x4 * b
/-- LANE_CC_ADDR: register of R92, 04_camera_lanes.md. -/
def R.LANE_CC_ADDR (p : Nat) : Nat := 0x100080 + 0x1000 * p
/-- LANE_CC_DATA: register of R92, 04_camera_lanes.md. -/
def R.LANE_CC_DATA (p : Nat) : Nat := 0x100084 + 0x1000 * p
/-- LANE_CC_CMD: register of R92, 04_camera_lanes.md. -/
def R.LANE_CC_CMD (p : Nat) : Nat := 0x100088 + 0x1000 * p
/-- LANE_CC_STATUS: register of R92, 04_camera_lanes.md. -/
def R.LANE_CC_STATUS (p : Nat) : Nat := 0x10008C + 0x1000 * p
/-- LANE_TRG_SENT: register of R92, 04_camera_lanes.md. -/
def R.LANE_TRG_SENT (p : Nat) : Nat := 0x1000A0 + 0x1000 * p
/-- LANE_TRG_ACK: register of R92, 04_camera_lanes.md. -/
def R.LANE_TRG_ACK (p : Nat) : Nat := 0x1000A4 + 0x1000 * p
/-- LANE_RX_CFG: register of R92, 04_camera_lanes.md. -/
def R.LANE_RX_CFG (l : Nat) : Nat := 0x10108000 + 0x100 * l
/-- LANE_RX_STATUS: register of R92, 04_camera_lanes.md. (DESIGN CHOICE, unsafe: log 13) -/
def R.LANE_RX_STATUS (l : Nat) : Nat := 0x10108004 + 0x100 * l
/-- LANE_DFE: register of R92, 04_camera_lanes.md. -/
def R.LANE_DFE (l : Nat) : Nat := 0x10108008 + 0x100 * l
/-- LANE_CDR: register of R92, 04_camera_lanes.md. -/
def R.LANE_CDR (l : Nat) : Nat := 0x1010800C + 0x100 * l
/-- LANE_EYE_CTRL: register of R92, 04_camera_lanes.md. -/
def R.LANE_EYE_CTRL (l : Nat) : Nat := 0x10108010 + 0x100 * l
/-- LANE_EYE_RESULT: register of R92, 04_camera_lanes.md. -/
def R.LANE_EYE_RESULT (l : Nat) : Nat := 0x10108014 + 0x100 * l
/-- LANE_CRCERR: register of R92, 04_camera_lanes.md. -/
def R.LANE_CRCERR (l : Nat) : Nat := 0x10108018 + 0x100 * l
/-- LANE_CODEERR: register of R92, 04_camera_lanes.md. -/
def R.LANE_CODEERR (l : Nat) : Nat := 0x1010801C + 0x100 * l
/-- INT_CTX_CFG: register of R109, 05_line_intake.md. -/
def R.INT_CTX_CFG (n : Nat) : Nat := 0x200000 + 0x40 * n
/-- INT_CTX_WIDTH: register of R109, 05_line_intake.md. -/
def R.INT_CTX_WIDTH (n : Nat) : Nat := 0x200004 + 0x40 * n
/-- INT_CTX_FILL: register of R109, 05_line_intake.md. -/
def R.INT_CTX_FILL (n : Nat) : Nat := 0x200008 + 0x40 * n
/-- INT_CTX_PAIR: register of R109, 05_line_intake.md. -/
def R.INT_CTX_PAIR (n : Nat) : Nat := 0x20000C + 0x40 * n
/-- INT_CTX_RING: register of R109, 05_line_intake.md. -/
def R.INT_CTX_RING (n : Nat) : Nat := 0x200010 + 0x40 * n
/-- INT_CTX_RING_HANDLE: register of R109, 05_line_intake.md. -/
def R.INT_CTX_RING_HANDLE (n : Nat) : Nat := 0x200014 + 0x40 * n
/-- INT_CTX_FLAGS: register of R109, 05_line_intake.md. -/
def R.INT_CTX_FLAGS (n : Nat) : Nat := 0x200018 + 0x40 * n
/-- INT_CTX_SEQ_LO: register of R109, 05_line_intake.md. -/
def R.INT_CTX_SEQ_LO (n : Nat) : Nat := 0x20001C + 0x40 * n
/-- INT_CTX_SEQ_HI: register of R109, 05_line_intake.md. -/
def R.INT_CTX_SEQ_HI (n : Nat) : Nat := 0x200020 + 0x40 * n
/-- INT_CTX_GATED: register of R109, 05_line_intake.md. -/
def R.INT_CTX_GATED (n : Nat) : Nat := 0x200024 + 0x40 * n
/-- INT_CTX_EVCNT: register of R109, 05_line_intake.md. -/
def R.INT_CTX_EVCNT (n : Nat) (b : Nat) : Nat := 0x201000 + 0x20 * n + 0x4 * b
/-- INT_LANE_LEVEL: register of R109, 05_line_intake.md. -/
def R.INT_LANE_LEVEL (l : Nat) : Nat := 0x202000 + 0x20 * l
/-- INT_LANE_WM: register of R109, 05_line_intake.md. -/
def R.INT_LANE_WM (l : Nat) : Nat := 0x202004 + 0x20 * l
/-- INT_LANE_FLAGS: register of R109, 05_line_intake.md. -/
def R.INT_LANE_FLAGS (l : Nat) : Nat := 0x202008 + 0x20 * l
/-- INT_LANE_WM_CROSS: register of R109, 05_line_intake.md. -/
def R.INT_LANE_WM_CROSS (l : Nat) : Nat := 0x20200C + 0x20 * l
/-- INT_GLOBAL_CFG: register of R109, 05_line_intake.md. -/
def R.INT_GLOBAL_CFG : Nat := 0x203000
/-- INT_UNBOUND: register of R109, 05_line_intake.md. -/
def R.INT_UNBOUND : Nat := 0x203004
/-- INT_REINJ_MASK_LO: register of R109, 05_line_intake.md. -/
def R.INT_REINJ_MASK_LO : Nat := 0x203100
/-- INT_REINJ_MASK_HI: register of R109, 05_line_intake.md. -/
def R.INT_REINJ_MASK_HI : Nat := 0x203104
/-- INT_REINJ_SEQ_LO: register of R109, 05_line_intake.md. -/
def R.INT_REINJ_SEQ_LO : Nat := 0x203108
/-- INT_REINJ_SEQ_HI: register of R109, 05_line_intake.md. -/
def R.INT_REINJ_SEQ_HI : Nat := 0x20310C
/-- INT_REINJ_COUNT: register of R109, 05_line_intake.md. -/
def R.INT_REINJ_COUNT : Nat := 0x203110
/-- INT_REINJ_CMD: register of R109, 05_line_intake.md. -/
def R.INT_REINJ_CMD : Nat := 0x203114
/-- INT_REINJ_STATUS: register of R109, 05_line_intake.md. -/
def R.INT_REINJ_STATUS : Nat := 0x203118
/-- INT_REINJ_DONE: register of R109, 05_line_intake.md. -/
def R.INT_REINJ_DONE : Nat := 0x20311C
/-- INT_REINJ_SKIP: register of R109, 05_line_intake.md. -/
def R.INT_REINJ_SKIP : Nat := 0x203120
/-- COR_CTX_NR: register of R128, 06_pixel_correction.md. -/
def R.COR_CTX_NR (n : Nat) : Nat := 0x300000 + 0x40 * n
/-- COR_CTX_TNR: register of R128, 06_pixel_correction.md. -/
def R.COR_CTX_TNR (n : Nat) : Nat := 0x300004 + 0x40 * n
/-- COR_CTX_DARK: register of R128, 06_pixel_correction.md. -/
def R.COR_CTX_DARK (n : Nat) : Nat := 0x300008 + 0x40 * n
/-- COR_CTX_GAIN: register of R128, 06_pixel_correction.md. -/
def R.COR_CTX_GAIN (n : Nat) : Nat := 0x30000C + 0x40 * n
/-- COR_CTX_DEF: register of R128, 06_pixel_correction.md. -/
def R.COR_CTX_DEF (n : Nat) : Nat := 0x300010 + 0x40 * n
/-- COR_CTX_LIN: register of R128, 06_pixel_correction.md. -/
def R.COR_CTX_LIN (n : Nat) : Nat := 0x300014 + 0x40 * n
/-- COR_CTX_STATUS: register of R128, 06_pixel_correction.md. -/
def R.COR_CTX_STATUS (n : Nat) : Nat := 0x300018 + 0x40 * n
/-- COR_CTX_TNR_BASE: register of R128, 06_pixel_correction.md. -/
def R.COR_CTX_TNR_BASE (n : Nat) : Nat := 0x30001C + 0x40 * n
/-- COR_CTX_CMD: register of R128, 06_pixel_correction.md. -/
def R.COR_CTX_CMD (n : Nat) : Nat := 0x300020 + 0x40 * n
/-- COR_CTX_CLIP: register of R128, 06_pixel_correction.md. -/
def R.COR_CTX_CLIP (n : Nat) : Nat := 0x300024 + 0x40 * n
/-- COR_CTX_CLIP_LIMIT: register of R128, 06_pixel_correction.md. -/
def R.COR_CTX_CLIP_LIMIT (n : Nat) : Nat := 0x300028 + 0x40 * n
/-- COR_FLAGS: register of R128, 06_pixel_correction.md. -/
def R.COR_FLAGS : Nat := 0x302000
/-- COR_EVCNT: register of R128, 06_pixel_correction.md. -/
def R.COR_EVCNT (b : Nat) : Nat := 0x302004 + 0x4 * b
/-- COR_ECC_CORR: register of R128, 06_pixel_correction.md. -/
def R.COR_ECC_CORR : Nat := 0x302020
/-- COR_STORE_ADDR: register of R128, 06_pixel_correction.md. -/
def R.COR_STORE_ADDR : Nat := 0x302100
/-- COR_STORE_DATA: register of R128, 06_pixel_correction.md. -/
def R.COR_STORE_DATA : Nat := 0x302104
/-- COR_LOAD_HANDLE: register of R128, 06_pixel_correction.md. -/
def R.COR_LOAD_HANDLE : Nat := 0x302108
/-- COR_LOAD_COUNT: register of R128, 06_pixel_correction.md. -/
def R.COR_LOAD_COUNT : Nat := 0x30210C
/-- COR_LOAD_CMD: register of R128, 06_pixel_correction.md. -/
def R.COR_LOAD_CMD : Nat := 0x302110
/-- COR_LOAD_STATUS: register of R128, 06_pixel_correction.md. -/
def R.COR_LOAD_STATUS : Nat := 0x302114
/-- COR_LUT_ADDR: register of R128, 06_pixel_correction.md. -/
def R.COR_LUT_ADDR : Nat := 0x302200
/-- COR_LUT_DATA: register of R128, 06_pixel_correction.md. -/
def R.COR_LUT_DATA : Nat := 0x302204
/-- COR_CAP_CFG: register of R128, 06_pixel_correction.md. -/
def R.COR_CAP_CFG : Nat := 0x302300
/-- COR_CAP_LINES: register of R128, 06_pixel_correction.md. -/
def R.COR_CAP_LINES : Nat := 0x302304
/-- COR_CAP_HANDLE: register of R128, 06_pixel_correction.md. -/
def R.COR_CAP_HANDLE : Nat := 0x302308
/-- COR_CAP_CMD: register of R128, 06_pixel_correction.md. -/
def R.COR_CAP_CMD : Nat := 0x30230C
/-- COR_CAP_STATUS: register of R128, 06_pixel_correction.md. -/
def R.COR_CAP_STATUS : Nat := 0x302310
/-- STI_LINE_CFG: register of R151, 07_stitching.md. -/
def R.STI_LINE_CFG : Nat := 0x400000
/-- STI_STRIPE_CFG: register of R151, 07_stitching.md. -/
def R.STI_STRIPE_CFG : Nat := 0x400004
/-- STI_TIMING: register of R151, 07_stitching.md. -/
def R.STI_TIMING : Nat := 0x400008
/-- STI_GAP: register of R151, 07_stitching.md. -/
def R.STI_GAP : Nat := 0x40000C
/-- STI_CORR_CFG: register of R151, 07_stitching.md. -/
def R.STI_CORR_CFG : Nat := 0x400010
/-- STI_CMD: register of R151, 07_stitching.md. -/
def R.STI_CMD : Nat := 0x400014
/-- STI_STATUS: register of R151, 07_stitching.md. -/
def R.STI_STATUS : Nat := 0x400018
/-- STI_STORE_USED: register of R151, 07_stitching.md. -/
def R.STI_STORE_USED : Nat := 0x40001C
/-- STI_STORE_HW: register of R151, 07_stitching.md. -/
def R.STI_STORE_HW : Nat := 0x400020
/-- STI_FLAGS: register of R151, 07_stitching.md. -/
def R.STI_FLAGS : Nat := 0x400024
/-- STI_EVCNT: register of R151, 07_stitching.md. -/
def R.STI_EVCNT (b : Nat) : Nat := 0x400028 + 0x4 * b
/-- STI_UNMAPPED: register of R151, 07_stitching.md. -/
def R.STI_UNMAPPED : Nat := 0x400044
/-- STI_REF: register of R151, 07_stitching.md. -/
def R.STI_REF : Nat := 0x400048
/-- STI_REF_EVCNT: register of R151, 07_stitching.md. -/
def R.STI_REF_EVCNT : Nat := 0x40004C
/-- STI_REF_ORPHAN: register of R151, 07_stitching.md. -/
def R.STI_REF_ORPHAN : Nat := 0x400050
/-- STI_SEG_CFG: register of R151, 07_stitching.md. -/
def R.STI_SEG_CFG (s : Nat) : Nat := 0x401000 + 0x40 * s
/-- STI_SEG_FIRST: register of R151, 07_stitching.md. -/
def R.STI_SEG_FIRST (s : Nat) : Nat := 0x401004 + 0x40 * s
/-- STI_SEG_LAST: register of R151, 07_stitching.md. -/
def R.STI_SEG_LAST (s : Nat) : Nat := 0x401008 + 0x40 * s
/-- STI_SEG_U0: register of R151, 07_stitching.md. -/
def R.STI_SEG_U0 (s : Nat) : Nat := 0x40100C + 0x40 * s
/-- STI_SEG_STEP: register of R151, 07_stitching.md. -/
def R.STI_SEG_STEP (s : Nat) : Nat := 0x401010 + 0x40 * s
/-- STI_SEG_MD: register of R151, 07_stitching.md. -/
def R.STI_SEG_MD (s : Nat) : Nat := 0x401014 + 0x40 * s
/-- STI_SEG_LEVEL: register of R151, 07_stitching.md. -/
def R.STI_SEG_LEVEL (s : Nat) : Nat := 0x401018 + 0x40 * s
/-- STI_SEG_RAMP: register of R151, 07_stitching.md. -/
def R.STI_SEG_RAMP (s : Nat) : Nat := 0x40101C + 0x40 * s
/-- STI_SEG_SLOTS: register of R151, 07_stitching.md. -/
def R.STI_SEG_SLOTS (s : Nat) : Nat := 0x401020 + 0x40 * s
/-- STI_SEG_SHIFT: register of R151, 07_stitching.md. -/
def R.STI_SEG_SHIFT (s : Nat) : Nat := 0x401024 + 0x40 * s
/-- STI_SEAM_MEAS: register of R151, 07_stitching.md. -/
def R.STI_SEAM_MEAS (s : Nat) : Nat := 0x401028 + 0x40 * s
/-- STI_SEAM_MEANL: register of R151, 07_stitching.md. -/
def R.STI_SEAM_MEANL (s : Nat) : Nat := 0x40102C + 0x40 * s
/-- STI_SEAM_MEANR: register of R151, 07_stitching.md. -/
def R.STI_SEAM_MEANR (s : Nat) : Nat := 0x401030 + 0x40 * s
/-- STI_SEG_BLANK: register of R151, 07_stitching.md. -/
def R.STI_SEG_BLANK (s : Nat) : Nat := 0x401034 + 0x40 * s
/-- STI_SEG_EARLY: register of R151, 07_stitching.md. -/
def R.STI_SEG_EARLY (s : Nat) : Nat := 0x401038 + 0x40 * s
/-- STI_KNOT_ADDR: register of R151, 07_stitching.md. -/
def R.STI_KNOT_ADDR : Nat := 0x402000
/-- STI_KNOT_DATA: register of R151, 07_stitching.md. -/
def R.STI_KNOT_DATA : Nat := 0x402004
/-- ANV_CFG: register of R172, 08_anvil_array.md. -/
def R.ANV_CFG : Nat := 0x500000
/-- ANV_KSET_ENTRY: register of R172, 08_anvil_array.md. -/
def R.ANV_KSET_ENTRY : Nat := 0x500004
/-- ANV_KSET_REGION: register of R172, 08_anvil_array.md. -/
def R.ANV_KSET_REGION : Nat := 0x500008
/-- ANV_KSET_LIMIT: register of R172, 08_anvil_array.md. -/
def R.ANV_KSET_LIMIT : Nat := 0x50000C
/-- ANV_IMG: register of R172, 08_anvil_array.md. -/
def R.ANV_IMG (c : Nat) : Nat := 0x500010 + 0x8 * c
/-- ANV_IMG_HANDLE: register of R172, 08_anvil_array.md. -/
def R.ANV_IMG_HANDLE (c : Nat) : Nat := 0x500014 + 0x8 * c
/-- ANV_CMD: register of R172, 08_anvil_array.md. -/
def R.ANV_CMD : Nat := 0x500030
/-- ANV_STATUS: register of R172, 08_anvil_array.md. -/
def R.ANV_STATUS : Nat := 0x500034
/-- ANV_FLAGS: register of R172, 08_anvil_array.md. -/
def R.ANV_FLAGS : Nat := 0x500038
/-- ANV_EVCNT: register of R172, 08_anvil_array.md. -/
def R.ANV_EVCNT (b : Nat) : Nat := 0x500040 + 0x4 * b
/-- ANV_ECC_CORR: register of R172, 08_anvil_array.md. -/
def R.ANV_ECC_CORR : Nat := 0x500060
/-- ANV_PARAM_ADDR: register of R172, 08_anvil_array.md. -/
def R.ANV_PARAM_ADDR : Nat := 0x500100
/-- ANV_PARAM_D0: register of R172, 08_anvil_array.md. -/
def R.ANV_PARAM_D0 : Nat := 0x500104
/-- ANV_PARAM_D1: register of R172, 08_anvil_array.md. -/
def R.ANV_PARAM_D1 : Nat := 0x500108
/-- ANV_PARAM_D2: register of R172, 08_anvil_array.md. -/
def R.ANV_PARAM_D2 : Nat := 0x50010C
/-- ANV_KS_ADDR: register of R172, 08_anvil_array.md. -/
def R.ANV_KS_ADDR : Nat := 0x500200
/-- ANV_KS_D0: register of R172, 08_anvil_array.md. -/
def R.ANV_KS_D0 : Nat := 0x500204
/-- ANV_KS_D1: register of R172, 08_anvil_array.md. -/
def R.ANV_KS_D1 : Nat := 0x500208
/-- ANV_KS_D2: register of R172, 08_anvil_array.md. -/
def R.ANV_KS_D2 : Nat := 0x50020C
/-- ANV_KS_D3: register of R172, 08_anvil_array.md. -/
def R.ANV_KS_D3 : Nat := 0x500210
/-- ANV_LUT_ADDR: register of R172, 08_anvil_array.md. -/
def R.ANV_LUT_ADDR : Nat := 0x500220
/-- ANV_LUT_DATA: register of R172, 08_anvil_array.md. -/
def R.ANV_LUT_DATA : Nat := 0x500224
/-- ANV_LOAD_TARGET: register of R172, 08_anvil_array.md. -/
def R.ANV_LOAD_TARGET : Nat := 0x500300
/-- ANV_LOAD_HANDLE: register of R172, 08_anvil_array.md. -/
def R.ANV_LOAD_HANDLE : Nat := 0x500304
/-- ANV_LOAD_COUNT: register of R172, 08_anvil_array.md. -/
def R.ANV_LOAD_COUNT : Nat := 0x500308
/-- ANV_LOAD_CMD: register of R172, 08_anvil_array.md. -/
def R.ANV_LOAD_CMD : Nat := 0x50030C
/-- ANV_LOAD_STATUS: register of R172, 08_anvil_array.md. -/
def R.ANV_LOAD_STATUS : Nat := 0x500310
/-- ANV_SL_STATUS: register of R172, 08_anvil_array.md. -/
def R.ANV_SL_STATUS (n : Nat) : Nat := 0x501000 + 0x40 * n
/-- ANV_SL_LOAD: register of R172, 08_anvil_array.md. -/
def R.ANV_SL_LOAD (n : Nat) : Nat := 0x501004 + 0x40 * n
/-- ANV_SL_STALL: register of R172, 08_anvil_array.md. -/
def R.ANV_SL_STALL (n : Nat) : Nat := 0x501008 + 0x40 * n
/-- ANV_SL_KFAULT: register of R172, 08_anvil_array.md. -/
def R.ANV_SL_KFAULT (n : Nat) : Nat := 0x50100C + 0x40 * n
/-- ANV_SL_KFINFO: register of R172, 08_anvil_array.md. -/
def R.ANV_SL_KFINFO (n : Nat) : Nat := 0x501010 + 0x40 * n
/-- ANV_SL_DETECT: register of R172, 08_anvil_array.md. -/
def R.ANV_SL_DETECT (n : Nat) : Nat := 0x501014 + 0x40 * n
/-- ANV_SL_SIG: register of R172, 08_anvil_array.md. -/
def R.ANV_SL_SIG (n : Nat) : Nat := 0x501018 + 0x40 * n
/-- BLM_CFG: register of R218, 10_bloom_segmentation.md. -/
def R.BLM_CFG : Nat := 0x600000
/-- BLM_OUT: register of R218, 10_bloom_segmentation.md. -/
def R.BLM_OUT : Nat := 0x600004
/-- BLM_MIN_AREA: register of R218, 10_bloom_segmentation.md. -/
def R.BLM_MIN_AREA : Nat := 0x600008
/-- BLM_MARK_MIN: register of R218, 10_bloom_segmentation.md. -/
def R.BLM_MARK_MIN : Nat := 0x60000C
/-- BLM_CLASS: register of R218, 10_bloom_segmentation.md. -/
def R.BLM_CLASS : Nat := 0x600010
/-- BLM_CROP_CFG: register of R218, 10_bloom_segmentation.md. -/
def R.BLM_CROP_CFG : Nat := 0x600014
/-- BLM_CROP_MAX: register of R218, 10_bloom_segmentation.md. -/
def R.BLM_CROP_MAX : Nat := 0x600018
/-- BLM_CMD: register of R218, 10_bloom_segmentation.md. -/
def R.BLM_CMD : Nat := 0x60001C
/-- BLM_OPEN: register of R218, 10_bloom_segmentation.md. -/
def R.BLM_OPEN : Nat := 0x600020
/-- BLM_OPEN_HW: register of R218, 10_bloom_segmentation.md. -/
def R.BLM_OPEN_HW : Nat := 0x600024
/-- BLM_OPEN_WM: register of R218, 10_bloom_segmentation.md. -/
def R.BLM_OPEN_WM : Nat := 0x600028
/-- BLM_OPEN_CROSS: register of R218, 10_bloom_segmentation.md. -/
def R.BLM_OPEN_CROSS : Nat := 0x60002C
/-- BLM_SERIAL_LO: register of R218, 10_bloom_segmentation.md. -/
def R.BLM_SERIAL_LO : Nat := 0x600030
/-- BLM_SERIAL_HI: register of R218, 10_bloom_segmentation.md. -/
def R.BLM_SERIAL_HI : Nat := 0x600034
/-- BLM_SEQ_LO: register of R218, 10_bloom_segmentation.md. -/
def R.BLM_SEQ_LO : Nat := 0x600038
/-- BLM_SEQ_HI: register of R218, 10_bloom_segmentation.md. -/
def R.BLM_SEQ_HI : Nat := 0x60003C
/-- BLM_FLAGS: register of R218, 10_bloom_segmentation.md. -/
def R.BLM_FLAGS : Nat := 0x600040
/-- BLM_EVCNT: register of R218, 10_bloom_segmentation.md. -/
def R.BLM_EVCNT (b : Nat) : Nat := 0x600044 + 0x4 * b
/-- BLM_RECORDS: register of R218, 10_bloom_segmentation.md. -/
def R.BLM_RECORDS : Nat := 0x600060
/-- BLM_DISCARD: register of R218, 10_bloom_segmentation.md. -/
def R.BLM_DISCARD : Nat := 0x600064
/-- BLM_OVF_RUNS: register of R218, 10_bloom_segmentation.md. -/
def R.BLM_OVF_RUNS : Nat := 0x600068
/-- BLM_LINES: register of R218, 10_bloom_segmentation.md. -/
def R.BLM_LINES : Nat := 0x60006C
/-- BLM_CB_LEVEL: register of R218, 10_bloom_segmentation.md. -/
def R.BLM_CB_LEVEL : Nat := 0x600070
/-- BLM_REC_FIFO: register of R218, 10_bloom_segmentation.md. -/
def R.BLM_REC_FIFO : Nat := 0x600074
/-- TNG_CFG: register of R234, 11_marker_fanout.md. -/
def R.TNG_CFG : Nat := 0x800000
/-- TNG_PEND: register of R234, 11_marker_fanout.md. -/
def R.TNG_PEND : Nat := 0x800004
/-- TNG_CAP: register of R234, 11_marker_fanout.md. -/
def R.TNG_CAP : Nat := 0x800008
/-- TNG_PEND_WM: register of R234, 11_marker_fanout.md. -/
def R.TNG_PEND_WM : Nat := 0x80000C
/-- TNG_PEND_HW: register of R234, 11_marker_fanout.md. -/
def R.TNG_PEND_HW : Nat := 0x800010
/-- TNG_FLAGS: register of R234, 11_marker_fanout.md. -/
def R.TNG_FLAGS : Nat := 0x800014
/-- TNG_EVCNT: register of R234, 11_marker_fanout.md. -/
def R.TNG_EVCNT (b : Nat) : Nat := 0x800018 + 0x4 * b
/-- TNG_WM_CROSS: register of R234, 11_marker_fanout.md. -/
def R.TNG_WM_CROSS : Nat := 0x800030
/-- TNG_MARKS: register of R234, 11_marker_fanout.md. -/
def R.TNG_MARKS : Nat := 0x800034
/-- TNG_FIRED: register of R234, 11_marker_fanout.md. -/
def R.TNG_FIRED : Nat := 0x800038
/-- TNG_NOCHAN: register of R234, 11_marker_fanout.md. -/
def R.TNG_NOCHAN : Nat := 0x80003C
/-- TNG_LINK_CFG: register of R234, 11_marker_fanout.md. -/
def R.TNG_LINK_CFG (m : Nat) : Nat := 0x801000 + 0x20 * m
/-- TNG_LINK_FIRE: register of R234, 11_marker_fanout.md. -/
def R.TNG_LINK_FIRE (m : Nat) : Nat := 0x801004 + 0x20 * m
/-- TNG_LINK_CANCEL: register of R234, 11_marker_fanout.md. -/
def R.TNG_LINK_CANCEL (m : Nat) : Nat := 0x801008 + 0x20 * m
/-- TNG_LINK_SYNC: register of R234, 11_marker_fanout.md. -/
def R.TNG_LINK_SYNC (m : Nat) : Nat := 0x80100C + 0x20 * m
/-- TNG_LINK_CONFIG: register of R234, 11_marker_fanout.md. -/
def R.TNG_LINK_CONFIG (m : Nat) : Nat := 0x801010 + 0x20 * m
/-- TNG_CH_CFG: register of R234, 11_marker_fanout.md. -/
def R.TNG_CH_CFG (c : Nat) : Nat := 0x808000 + 0x20 * c
/-- TNG_CH_CDLO: register of R234, 11_marker_fanout.md. -/
def R.TNG_CH_CDLO (c : Nat) : Nat := 0x808004 + 0x20 * c
/-- TNG_CH_CDHI: register of R234, 11_marker_fanout.md. -/
def R.TNG_CH_CDHI (c : Nat) : Nat := 0x808008 + 0x20 * c
/-- TNG_CH_OFS: register of R234, 11_marker_fanout.md. -/
def R.TNG_CH_OFS (c : Nat) : Nat := 0x80800C + 0x20 * c
/-- TNG_CH_ACT: register of R234, 11_marker_fanout.md. -/
def R.TNG_CH_ACT (c : Nat) : Nat := 0x808010 + 0x20 * c
/-- TNG_CH_WIDTH: register of R234, 11_marker_fanout.md. -/
def R.TNG_CH_WIDTH (c : Nat) : Nat := 0x808014 + 0x20 * c
/-- TNG_CH_COUNT: register of R234, 11_marker_fanout.md. -/
def R.TNG_CH_COUNT (c : Nat) : Nat := 0x808018 + 0x20 * c
/-- OST_CFG: register of R244, 12_output_streams.md. -/
def R.OST_CFG (u : Nat) : Nat := 0x900000 + 0x100 * u
/-- OST_CROP: register of R244, 12_output_streams.md. -/
def R.OST_CROP (u : Nat) : Nat := 0x900004 + 0x100 * u
/-- OST_WIDTH: register of R244, 12_output_streams.md. -/
def R.OST_WIDTH (u : Nat) : Nat := 0x900008 + 0x100 * u
/-- OST_DEC: register of R244, 12_output_streams.md. -/
def R.OST_DEC (u : Nat) : Nat := 0x90000C + 0x100 * u
/-- OST_PHASE: register of R244, 12_output_streams.md. -/
def R.OST_PHASE (u : Nat) : Nat := 0x900010 + 0x100 * u
/-- OST_SCALE: register of R244, 12_output_streams.md. -/
def R.OST_SCALE (u : Nat) : Nat := 0x900014 + 0x100 * u
/-- OST_START_LO: register of R244, 12_output_streams.md. -/
def R.OST_START_LO (u : Nat) : Nat := 0x900018 + 0x100 * u
/-- OST_START_HI: register of R244, 12_output_streams.md. -/
def R.OST_START_HI (u : Nat) : Nat := 0x90001C + 0x100 * u
/-- OST_COUNT: register of R244, 12_output_streams.md. -/
def R.OST_COUNT (u : Nat) : Nat := 0x900020 + 0x100 * u
/-- OST_RSVD: register of R244, 12_output_streams.md. -/
def R.OST_RSVD (u : Nat) : Nat := 0x900024 + 0x100 * u
/-- OST_RING: register of R244, 12_output_streams.md. -/
def R.OST_RING (u : Nat) : Nat := 0x900028 + 0x100 * u
/-- OST_HANDLE: register of R244, 12_output_streams.md. -/
def R.OST_HANDLE (u : Nat) : Nat := 0x90002C + 0x100 * u
/-- OST_CMD: register of R244, 12_output_streams.md. -/
def R.OST_CMD (u : Nat) : Nat := 0x900030 + 0x100 * u
/-- OST_STATUS: register of R244, 12_output_streams.md. -/
def R.OST_STATUS (u : Nat) : Nat := 0x900034 + 0x100 * u
/-- OST_SEQ_LO: register of R244, 12_output_streams.md. -/
def R.OST_SEQ_LO (u : Nat) : Nat := 0x900038 + 0x100 * u
/-- OST_SEQ_HI: register of R244, 12_output_streams.md. -/
def R.OST_SEQ_HI (u : Nat) : Nat := 0x90003C + 0x100 * u
/-- OST_FLAGS: register of R244, 12_output_streams.md. -/
def R.OST_FLAGS (u : Nat) : Nat := 0x900040 + 0x100 * u
/-- OST_EVCNT: register of R244, 12_output_streams.md. -/
def R.OST_EVCNT (u : Nat) (b : Nat) : Nat := 0x900044 + 0x100 * u + 0x4 * b
/-- OST_SAT: register of R244, 12_output_streams.md. -/
def R.OST_SAT (u : Nat) : Nat := 0x90005C + 0x100 * u
/-- OST_DROP: register of R244, 12_output_streams.md. -/
def R.OST_DROP (u : Nat) : Nat := 0x900060 + 0x100 * u
/-- OST_SNAP_HANDLE: register of R244, 12_output_streams.md. -/
def R.OST_SNAP_HANDLE : Nat := 0x900800
/-- CMP_STATE_HANDLE: register of R257, 13_compression.md. -/
def R.CMP_STATE_HANDLE : Nat := 0xA00000
/-- CMP_STATUS: register of R257, 13_compression.md. -/
def R.CMP_STATUS : Nat := 0xA00004
/-- CMP_CMD: register of R257, 13_compression.md. -/
def R.CMP_CMD : Nat := 0xA00008
/-- CMP_FLAGS: register of R257, 13_compression.md. -/
def R.CMP_FLAGS : Nat := 0xA0000C
/-- CMP_EVCNT: register of R257, 13_compression.md. -/
def R.CMP_EVCNT (b : Nat) : Nat := 0xA00010 + 0x4 * b
/-- CMP_ABANDON: register of R257, 13_compression.md. -/
def R.CMP_ABANDON : Nat := 0xA00028
/-- CMP_TBL_ADDR: register of R257, 13_compression.md. -/
def R.CMP_TBL_ADDR : Nat := 0xA00100
/-- CMP_TBL_DATA: register of R257, 13_compression.md. -/
def R.CMP_TBL_DATA : Nat := 0xA00104
/-- CMP_ENG_CFG: register of R257, 13_compression.md. -/
def R.CMP_ENG_CFG (e : Nat) : Nat := 0xA01000 + 0x40 * e
/-- CMP_ENG_STATUS: register of R257, 13_compression.md. -/
def R.CMP_ENG_STATUS (e : Nat) : Nat := 0xA01004 + 0x40 * e
/-- CMP_ENG_IN: register of R257, 13_compression.md. -/
def R.CMP_ENG_IN (e : Nat) : Nat := 0xA01008 + 0x40 * e
/-- CMP_ENG_OUT: register of R257, 13_compression.md. -/
def R.CMP_ENG_OUT (e : Nat) : Nat := 0xA0100C + 0x40 * e
/-- CMP_ENG_JOBS: register of R257, 13_compression.md. -/
def R.CMP_ENG_JOBS (e : Nat) : Nat := 0xA01010 + 0x40 * e
/-- CMP_ENG_FAIL: register of R257, 13_compression.md. -/
def R.CMP_ENG_FAIL (e : Nat) : Nat := 0xA01014 + 0x40 * e
/-- CMP_ENG_SWAP: register of R257, 13_compression.md. -/
def R.CMP_ENG_SWAP (e : Nat) : Nat := 0xA01018 + 0x40 * e
/-- HRT_CAP: register of R276, 14_hearth_memory.md. -/
def R.HRT_CAP : Nat := 0xB00000
/-- HRT_FREE: register of R276, 14_hearth_memory.md. -/
def R.HRT_FREE : Nat := 0xB00004
/-- HRT_RESV: register of R276, 14_hearth_memory.md. -/
def R.HRT_RESV : Nat := 0xB00008
/-- HRT_PINNED: register of R276, 14_hearth_memory.md. -/
def R.HRT_PINNED : Nat := 0xB0000C
/-- HRT_PIN_LIMIT: register of R276, 14_hearth_memory.md. -/
def R.HRT_PIN_LIMIT : Nat := 0xB00010
/-- HRT_SPARES: register of R276, 14_hearth_memory.md. -/
def R.HRT_SPARES : Nat := 0xB00014
/-- HRT_HANDLES: register of R276, 14_hearth_memory.md. -/
def R.HRT_HANDLES : Nat := 0xB00018
/-- HRT_WM: register of R276, 14_hearth_memory.md. -/
def R.HRT_WM : Nat := 0xB0001C
/-- HRT_FREE_LW: register of R276, 14_hearth_memory.md. -/
def R.HRT_FREE_LW : Nat := 0xB00020
/-- HRT_SPILL_LO: register of R276, 14_hearth_memory.md. -/
def R.HRT_SPILL_LO : Nat := 0xB00024
/-- HRT_SPILL_HI: register of R276, 14_hearth_memory.md. -/
def R.HRT_SPILL_HI : Nat := 0xB00028
/-- HRT_SPILL_FRAMES: register of R276, 14_hearth_memory.md. -/
def R.HRT_SPILL_FRAMES : Nat := 0xB0002C
/-- HRT_SPILL_USED: register of R276, 14_hearth_memory.md. -/
def R.HRT_SPILL_USED : Nat := 0xB00030
/-- HRT_SCRUB: register of R276, 14_hearth_memory.md. -/
def R.HRT_SCRUB : Nat := 0xB00034
/-- HRT_FLAGS: register of R276, 14_hearth_memory.md. -/
def R.HRT_FLAGS : Nat := 0xB00040
/-- HRT_EVCNT: register of R276, 14_hearth_memory.md. -/
def R.HRT_EVCNT (b : Nat) : Nat := 0xB00044 + 0x4 * b
/-- HRT_STARVE: register of R276, 14_hearth_memory.md. -/
def R.HRT_STARVE : Nat := 0xB00068
/-- HRT_ECC_CORR: register of R276, 14_hearth_memory.md. -/
def R.HRT_ECC_CORR : Nat := 0xB0006C
/-- HRT_ECC_RETRY: register of R276, 14_hearth_memory.md. -/
def R.HRT_ECC_RETRY : Nat := 0xB00070
/-- HRT_RETIRED: register of R276, 14_hearth_memory.md. -/
def R.HRT_RETIRED : Nat := 0xB00074
/-- HRT_PAGE_OUT: register of R276, 14_hearth_memory.md. -/
def R.HRT_PAGE_OUT : Nat := 0xB00078
/-- HRT_PAGE_IN: register of R276, 14_hearth_memory.md. -/
def R.HRT_PAGE_IN : Nat := 0xB0007C
/-- HRT_CLASS_KB: register of R276, 14_hearth_memory.md. -/
def R.HRT_CLASS_KB (c : Nat) : Nat := 0xB00080 + 0x4 * c
/-- HRT_LOST_HANDLE: register of R276, 14_hearth_memory.md. -/
def R.HRT_LOST_HANDLE : Nat := 0xB00094
/-- HRT_LOST_SLOT: register of R276, 14_hearth_memory.md. -/
def R.HRT_LOST_SLOT : Nat := 0xB00098
/-- HRT_LOST_COUNT: register of R276, 14_hearth_memory.md. -/
def R.HRT_LOST_COUNT : Nat := 0xB0009C
/-- HRT_AP_SIZE: register of R276, 14_hearth_memory.md. -/
def R.HRT_AP_SIZE (n : Nat) : Nat := 0xB01000 + 0x20 * n
/-- HRT_AP_HANDLE: register of R276, 14_hearth_memory.md. -/
def R.HRT_AP_HANDLE (n : Nat) : Nat := 0xB01004 + 0x20 * n
/-- HRT_AP_CMD: register of R276, 14_hearth_memory.md. -/
def R.HRT_AP_CMD (n : Nat) : Nat := 0xB01008 + 0x20 * n
/-- HRT_AP_STATUS: register of R276, 14_hearth_memory.md. -/
def R.HRT_AP_STATUS (n : Nat) : Nat := 0xB0100C + 0x20 * n
/-- HRT_AP_INFO: register of R276, 14_hearth_memory.md. -/
def R.HRT_AP_INFO (n : Nat) : Nat := 0xB01010 + 0x20 * n
/-- EMB_CFG: register of R291, 15_replay_and_journal.md. -/
def R.EMB_CFG : Nat := 0xC00000
/-- EMB_FLAGS: register of R291, 15_replay_and_journal.md. -/
def R.EMB_FLAGS : Nat := 0xC00004
/-- EMB_EVCNT: register of R291, 15_replay_and_journal.md. -/
def R.EMB_EVCNT (b : Nat) : Nat := 0xC00008 + 0x4 * b
/-- EMB_REPLAYS: register of R291, 15_replay_and_journal.md. -/
def R.EMB_REPLAYS : Nat := 0xC00030
/-- EMB_LASTING: register of R291, 15_replay_and_journal.md. -/
def R.EMB_LASTING : Nat := 0xC00034
/-- EMB_LOST_LINES: register of R291, 15_replay_and_journal.md. -/
def R.EMB_LOST_LINES : Nat := 0xC00038
/-- EMB_REWOUND: register of R291, 15_replay_and_journal.md. -/
def R.EMB_REWOUND : Nat := 0xC0003C
/-- EMB_FENCE: register of R291, 15_replay_and_journal.md. -/
def R.EMB_FENCE : Nat := 0xC00040
/-- EMB_FENCE_CTX_LO: register of R291, 15_replay_and_journal.md. -/
def R.EMB_FENCE_CTX_LO : Nat := 0xC00044
/-- EMB_FENCE_CTX_HI: register of R291, 15_replay_and_journal.md. -/
def R.EMB_FENCE_CTX_HI : Nat := 0xC00048
/-- EMB_SUSPECT: register of R291, 15_replay_and_journal.md. -/
def R.EMB_SUSPECT : Nat := 0xC0004C
/-- EMB_JNL_STATUS: register of R291, 15_replay_and_journal.md. -/
def R.EMB_JNL_STATUS : Nat := 0xC00060
/-- EMB_JNL_WEAR: register of R291, 15_replay_and_journal.md. -/
def R.EMB_JNL_WEAR : Nat := 0xC00064
/-- EMB_JNL_BACKLOG: register of R291, 15_replay_and_journal.md. -/
def R.EMB_JNL_BACKLOG : Nat := 0xC00068
/-- EMB_REC_STATUS: register of R291, 15_replay_and_journal.md. -/
def R.EMB_REC_STATUS : Nat := 0xC00070
/-- EMB_REC_MARKS: register of R291, 15_replay_and_journal.md. -/
def R.EMB_REC_MARKS : Nat := 0xC00074
/-- EMB_REC_LOST: register of R291, 15_replay_and_journal.md. -/
def R.EMB_REC_LOST : Nat := 0xC00078
/-- EMB_REC_CMDS: register of R291, 15_replay_and_journal.md. -/
def R.EMB_REC_CMDS : Nat := 0xC0007C
/-- EMB_ACK_ADDR: register of R291, 15_replay_and_journal.md. -/
def R.EMB_ACK_ADDR : Nat := 0xC00080
/-- EMB_ACK_DATA: register of R291, 15_replay_and_journal.md. -/
def R.EMB_ACK_DATA : Nat := 0xC00084
/-- EMB_REC_BLOOMS: register of R291, 15_replay_and_journal.md. -/
def R.EMB_REC_BLOOMS : Nat := 0xC00088
/-- EMB_REC_AREA: register of R291, 15_replay_and_journal.md. -/
def R.EMB_REC_AREA : Nat := 0xC0008C
/-- WCK_CORE_STATUS: register of R322, 16_wick_processors.md. -/
def R.WCK_CORE_STATUS (n : Nat) : Nat := 0xD00000 + 0x100 * n
/-- WCK_PC: register of R322, 16_wick_processors.md. -/
def R.WCK_PC (n : Nat) : Nat := 0xD00004 + 0x100 * n
/-- WCK_EPC: register of R322, 16_wick_processors.md. -/
def R.WCK_EPC (n : Nat) : Nat := 0xD00008 + 0x100 * n
/-- WCK_BADADDR: register of R322, 16_wick_processors.md. -/
def R.WCK_BADADDR (n : Nat) : Nat := 0xD0000C + 0x100 * n
/-- WCK_WDOG: register of R322, 16_wick_processors.md. -/
def R.WCK_WDOG (n : Nat) : Nat := 0xD00010 + 0x100 * n
/-- WCK_SWI: register of R322, 16_wick_processors.md. -/
def R.WCK_SWI (n : Nat) : Nat := 0xD00014 + 0x100 * n
/-- WCK_SVC_NUM: register of R322, 16_wick_processors.md. -/
def R.WCK_SVC_NUM (n : Nat) : Nat := 0xD00018 + 0x100 * n
/-- WCK_SVC_ARG: register of R322, 16_wick_processors.md. -/
def R.WCK_SVC_ARG (n : Nat) (i : Nat) : Nat := 0xD00020 + 0x100 * n + 0x4 * i
/-- WCK_SVC_RET_LO: register of R322, 16_wick_processors.md. -/
def R.WCK_SVC_RET_LO (n : Nat) : Nat := 0xD00040 + 0x100 * n
/-- WCK_SVC_RET_HI: register of R322, 16_wick_processors.md. -/
def R.WCK_SVC_RET_HI (n : Nat) : Nat := 0xD00044 + 0x100 * n
/-- WCK_SVC_DONE: register of R322, 16_wick_processors.md. -/
def R.WCK_SVC_DONE (n : Nat) : Nat := 0xD00048 + 0x100 * n
/-- WCK_FLAGS: register of R322, 16_wick_processors.md. -/
def R.WCK_FLAGS : Nat := 0xD00800
/-- WCK_EVCNT: register of R322, 16_wick_processors.md. -/
def R.WCK_EVCNT (b : Nat) : Nat := 0xD00804 + 0x4 * b
/-- WCK_ECC_CORR: register of R322, 16_wick_processors.md. -/
def R.WCK_ECC_CORR : Nat := 0xD00828
/-- WCK_ECC_RETRY: register of R322, 16_wick_processors.md. -/
def R.WCK_ECC_RETRY : Nat := 0xD0082C
/-- HST_QUENCH: register of R346, 17_host_interface.md. -/
def R.HST_QUENCH : Nat := 0xE00000
/-- HST_LINK: register of R346, 17_host_interface.md. -/
def R.HST_LINK : Nat := 0xE00004
/-- HST_FLAGS: register of R346, 17_host_interface.md. -/
def R.HST_FLAGS : Nat := 0xE00008
/-- HST_EVCNT: register of R346, 17_host_interface.md. -/
def R.HST_EVCNT (b : Nat) : Nat := 0xE0000C + 0x4 * b
/-- HST_CMD_STATUS: register of R346, 17_host_interface.md. -/
def R.HST_CMD_STATUS : Nat := 0xE00030
/-- HST_CMD_SEQ_LO: register of R346, 17_host_interface.md. -/
def R.HST_CMD_SEQ_LO : Nat := 0xE00034
/-- HST_CMD_SEQ_HI: register of R346, 17_host_interface.md. -/
def R.HST_CMD_SEQ_HI : Nat := 0xE00038
/-- HST_CMD_BAD: register of R346, 17_host_interface.md. -/
def R.HST_CMD_BAD : Nat := 0xE0003C
/-- HST_BP_CFG: register of R346, 17_host_interface.md. -/
def R.HST_BP_CFG : Nat := 0xE00040
/-- HST_BP_HANDLE: register of R346, 17_host_interface.md. -/
def R.HST_BP_HANDLE : Nat := 0xE00044
/-- HST_BP_BASE_LO: register of R346, 17_host_interface.md. -/
def R.HST_BP_BASE_LO : Nat := 0xE00048
/-- HST_BP_BASE_HI: register of R346, 17_host_interface.md. -/
def R.HST_BP_BASE_HI : Nat := 0xE0004C
/-- HST_BP_PTR_LO: register of R346, 17_host_interface.md. -/
def R.HST_BP_PTR_LO : Nat := 0xE00050
/-- HST_BP_PTR_HI: register of R346, 17_host_interface.md. -/
def R.HST_BP_PTR_HI : Nat := 0xE00054
/-- HST_Q_CFG: register of R346, 17_host_interface.md. -/
def R.HST_Q_CFG (q : Nat) : Nat := 0xE01000 + 0x40 * q
/-- HST_Q_LEVEL: register of R346, 17_host_interface.md. -/
def R.HST_Q_LEVEL (q : Nat) : Nat := 0xE01004 + 0x40 * q
/-- HST_Q_WM: register of R346, 17_host_interface.md. -/
def R.HST_Q_WM (q : Nat) : Nat := 0xE01008 + 0x40 * q
/-- HST_Q_FLAGS: register of R346, 17_host_interface.md. -/
def R.HST_Q_FLAGS (q : Nat) : Nat := 0xE0100C + 0x40 * q
/-- HST_Q_ECC: register of R346, 17_host_interface.md. -/
def R.HST_Q_ECC (q : Nat) : Nat := 0xE01010 + 0x40 * q
/-- HST_Q_DROP: register of R346, 17_host_interface.md. -/
def R.HST_Q_DROP (q : Nat) : Nat := 0xE01014 + 0x40 * q
/-- HST_Q_CTRL: register of R346, 17_host_interface.md. -/
def R.HST_Q_CTRL (q : Nat) : Nat := 0xE01018 + 0x40 * q
/-- HST_Q_ACK: register of R346, 17_host_interface.md. -/
def R.HST_Q_ACK (q : Nat) : Nat := 0xE0101C + 0x40 * q
/-- HST_Q_EVCNT: register of R346, 17_host_interface.md. -/
def R.HST_Q_EVCNT (q : Nat) (b : Nat) : Nat := 0xE01020 + 0x40 * q + 0x4 * b
/-- HST_RING_CFG: register of R346, 17_host_interface.md. -/
def R.HST_RING_CFG (d : Nat) : Nat := 0xE02000 + 0x40 * d
/-- HST_RING_BASE_LO: register of R346, 17_host_interface.md. -/
def R.HST_RING_BASE_LO (d : Nat) : Nat := 0xE02004 + 0x40 * d
/-- HST_RING_BASE_HI: register of R346, 17_host_interface.md. -/
def R.HST_RING_BASE_HI (d : Nat) : Nat := 0xE02008 + 0x40 * d
/-- HST_RING_WB_LO: register of R346, 17_host_interface.md. -/
def R.HST_RING_WB_LO (d : Nat) : Nat := 0xE0200C + 0x40 * d
/-- HST_RING_WB_HI: register of R346, 17_host_interface.md. -/
def R.HST_RING_WB_HI (d : Nat) : Nat := 0xE02010 + 0x40 * d
/-- HST_RING_DEV: register of R346, 17_host_interface.md. -/
def R.HST_RING_DEV (d : Nat) : Nat := 0xE02014 + 0x40 * d
/-- HST_RING_HOST: register of R346, 17_host_interface.md. -/
def R.HST_RING_HOST (d : Nat) : Nat := 0xE02018 + 0x40 * d
/-- HST_RING_ERR: register of R346, 17_host_interface.md. -/
def R.HST_RING_ERR (d : Nat) : Nat := 0xE0201C + 0x40 * d
/-- EVT_SRC: register of R361, 18_events_and_interrupts.md. -/
def R.EVT_SRC (s : Nat) : Nat := 0xF00000 + 0x4 * s
/-- EVT_GRP_CFG: register of R361, 18_events_and_interrupts.md. -/
def R.EVT_GRP_CFG (g : Nat) : Nat := 0xF01000 + 0x20 * g
/-- EVT_GRP_HOLD: register of R361, 18_events_and_interrupts.md. -/
def R.EVT_GRP_HOLD (g : Nat) : Nat := 0xF01004 + 0x20 * g
/-- EVT_GRP_STATUS: register of R361, 18_events_and_interrupts.md. -/
def R.EVT_GRP_STATUS (g : Nat) : Nat := 0xF01008 + 0x20 * g
/-- EVT_GRP_RAISES: register of R361, 18_events_and_interrupts.md. -/
def R.EVT_GRP_RAISES (g : Nat) : Nat := 0xF0100C + 0x20 * g
/-- EVT_GRP_OPENS: register of R361, 18_events_and_interrupts.md. -/
def R.EVT_GRP_OPENS (g : Nat) : Nat := 0xF01010 + 0x20 * g
/-- EVT_HOST_SEEN: register of R361, 18_events_and_interrupts.md. -/
def R.EVT_HOST_SEEN (i : Nat) : Nat := 0xF02000 + 0x4 * i
/-- EVT_LTN_CFG: register of R361, 18_events_and_interrupts.md. -/
def R.EVT_LTN_CFG : Nat := 0xF03000
/-- EVT_LTN_CAUSE: register of R361, 18_events_and_interrupts.md. -/
def R.EVT_LTN_CAUSE : Nat := 0xF03004
/-- EVT_LTN_SLOT: register of R361, 18_events_and_interrupts.md. -/
def R.EVT_LTN_SLOT (i : Nat) : Nat := 0xF03100 + 0x4 * i
/-- EVT_FLAGS: register of R361, 18_events_and_interrupts.md. -/
def R.EVT_FLAGS : Nat := 0xF03800
/-- EVT_EVCNT_0: register of R361, 18_events_and_interrupts.md. -/
def R.EVT_EVCNT_0 : Nat := 0xF03804
/-- TIM_CFG: register of R379, 19_time_and_plant_ports.md. -/
def R.TIM_CFG : Nat := 0x1000000
/-- TIM_SERVO: register of R379, 19_time_and_plant_ports.md. -/
def R.TIM_SERVO : Nat := 0x1000004
/-- TIM_STATUS: register of R379, 19_time_and_plant_ports.md. -/
def R.TIM_STATUS : Nat := 0x1000008
/-- TIM_NOW_LO: register of R379, 19_time_and_plant_ports.md. -/
def R.TIM_NOW_LO : Nat := 0x100000C
/-- TIM_NOW_MID: register of R379, 19_time_and_plant_ports.md. -/
def R.TIM_NOW_MID : Nat := 0x1000010
/-- TIM_NOW_HI: register of R379, 19_time_and_plant_ports.md. -/
def R.TIM_NOW_HI : Nat := 0x1000014
/-- TIM_RATE: register of R379, 19_time_and_plant_ports.md. -/
def R.TIM_RATE : Nat := 0x1000018
/-- TIM_OFS_LO: register of R379, 19_time_and_plant_ports.md. -/
def R.TIM_OFS_LO : Nat := 0x100001C
/-- TIM_OFS_HI: register of R379, 19_time_and_plant_ports.md. -/
def R.TIM_OFS_HI : Nat := 0x1000020
/-- TIM_MPD: register of R379, 19_time_and_plant_ports.md. -/
def R.TIM_MPD : Nat := 0x1000024
/-- TIM_HOST_OFS_LO: register of R379, 19_time_and_plant_ports.md. -/
def R.TIM_HOST_OFS_LO : Nat := 0x1000028
/-- TIM_HOST_OFS_HI: register of R379, 19_time_and_plant_ports.md. -/
def R.TIM_HOST_OFS_HI : Nat := 0x100002C
/-- TIM_QKEY: register of R379, 19_time_and_plant_ports.md. -/
def R.TIM_QKEY : Nat := 0x1000030
/-- TIM_FLAGS: register of R379, 19_time_and_plant_ports.md. -/
def R.TIM_FLAGS : Nat := 0x1000034
/-- TIM_EVCNT: register of R379, 19_time_and_plant_ports.md. -/
def R.TIM_EVCNT (b : Nat) : Nat := 0x1000038 + 0x4 * b
/-- TIM_PP_CFG: register of R379, 19_time_and_plant_ports.md. -/
def R.TIM_PP_CFG (k : Nat) : Nat := 0x1001000 + 0x100 * k
/-- TIM_PP_MAC_LO: register of R379, 19_time_and_plant_ports.md. -/
def R.TIM_PP_MAC_LO (k : Nat) : Nat := 0x1001004 + 0x100 * k
/-- TIM_PP_MAC_HI: register of R379, 19_time_and_plant_ports.md. -/
def R.TIM_PP_MAC_HI (k : Nat) : Nat := 0x1001008 + 0x100 * k
/-- TIM_PP_IP: register of R379, 19_time_and_plant_ports.md. -/
def R.TIM_PP_IP (k : Nat) : Nat := 0x100100C + 0x100 * k
/-- TIM_PP_STATUS: register of R379, 19_time_and_plant_ports.md. -/
def R.TIM_PP_STATUS (k : Nat) : Nat := 0x1001010 + 0x100 * k
/-- TIM_PP_TX_DGRAMS: register of R379, 19_time_and_plant_ports.md. -/
def R.TIM_PP_TX_DGRAMS (k : Nat) : Nat := 0x1001014 + 0x100 * k
/-- TIM_PP_TX_DROP: register of R379, 19_time_and_plant_ports.md. -/
def R.TIM_PP_TX_DROP (k : Nat) : Nat := 0x1001018 + 0x100 * k
/-- TIM_PP_RX_FRAMES: register of R379, 19_time_and_plant_ports.md. -/
def R.TIM_PP_RX_FRAMES (k : Nat) : Nat := 0x100101C + 0x100 * k
/-- TIM_PP_RX_DISCARD: register of R379, 19_time_and_plant_ports.md. -/
def R.TIM_PP_RX_DISCARD (k : Nat) : Nat := 0x1001020 + 0x100 * k
/-- TIM_PP_TC_FWD: register of R379, 19_time_and_plant_ports.md. -/
def R.TIM_PP_TC_FWD (k : Nat) : Nat := 0x1001024 + 0x100 * k
/-- TIM_PP_QUENCH_RX: register of R379, 19_time_and_plant_ports.md. -/
def R.TIM_PP_QUENCH_RX (k : Nat) : Nat := 0x1001028 + 0x100 * k
/-- TIM_DST_MAC_LO: register of R379, 19_time_and_plant_ports.md. -/
def R.TIM_DST_MAC_LO (i : Nat) : Nat := 0x1002000 + 0x10 * i
/-- TIM_DST_MAC_HI: register of R379, 19_time_and_plant_ports.md. -/
def R.TIM_DST_MAC_HI (i : Nat) : Nat := 0x1002004 + 0x10 * i
/-- TIM_DST_IP: register of R379, 19_time_and_plant_ports.md. -/
def R.TIM_DST_IP (i : Nat) : Nat := 0x1002008 + 0x10 * i
/-- TIM_DST_UDP: register of R379, 19_time_and_plant_ports.md. -/
def R.TIM_DST_UDP (i : Nat) : Nat := 0x100200C + 0x10 * i
/-- TIM_GPIO_DIR: register of R379, 19_time_and_plant_ports.md. -/
def R.TIM_GPIO_DIR : Nat := 0x1003000
/-- TIM_GPIO_OUT: register of R379, 19_time_and_plant_ports.md. -/
def R.TIM_GPIO_OUT : Nat := 0x1003004
/-- TIM_GPIO_IN: register of R379, 19_time_and_plant_ports.md. -/
def R.TIM_GPIO_IN : Nat := 0x1003008
/-- TMP_CFG: register of R388, 20_calibration.md. -/
def R.TMP_CFG : Nat := 0x1100000
/-- TMP_TDC_PERIOD: register of R388, 20_calibration.md. -/
def R.TMP_TDC_PERIOD : Nat := 0x1100004
/-- TMP_CMD: register of R388, 20_calibration.md. -/
def R.TMP_CMD : Nat := 0x1100008
/-- TMP_STATUS: register of R388, 20_calibration.md. -/
def R.TMP_STATUS : Nat := 0x110000C
/-- TMP_FLAGS: register of R388, 20_calibration.md. -/
def R.TMP_FLAGS : Nat := 0x1100010
/-- TMP_EVCNT: register of R388, 20_calibration.md. -/
def R.TMP_EVCNT (b : Nat) : Nat := 0x1100014 + 0x4 * b
/-- TMP_HBM_RUNS: register of R388, 20_calibration.md. -/
def R.TMP_HBM_RUNS : Nat := 0x1100030
/-- TMP_TDC_RUNS: register of R388, 20_calibration.md. -/
def R.TMP_TDC_RUNS : Nat := 0x1100034
/-- TMP_HBM_DEFER: register of R388, 20_calibration.md. -/
def R.TMP_HBM_DEFER : Nat := 0x1100038
/-- TMP_HBM_LAST: register of R388, 20_calibration.md. -/
def R.TMP_HBM_LAST : Nat := 0x110003C
/-- TMP_COEF_SEL: register of R388, 20_calibration.md. -/
def R.TMP_COEF_SEL : Nat := 0x1100040
/-- TMP_COEF_DATA: register of R388, 20_calibration.md. -/
def R.TMP_COEF_DATA : Nat := 0x1100044
/-- BLW_CTRL: register of R407, 21_power_reset_startup.md. -/
def R.BLW_CTRL : Nat := 0x1000
/-- BLW_CMD: register of R407, 21_power_reset_startup.md. -/
def R.BLW_CMD : Nat := 0x1004
/-- BLW_RESET_CAUSE: register of R407, 21_power_reset_startup.md. -/
def R.BLW_RESET_CAUSE : Nat := 0x1008
/-- BLW_BOOT: register of R407, 21_power_reset_startup.md. -/
def R.BLW_BOOT : Nat := 0x100C
/-- BLW_TEMP: register of R407, 21_power_reset_startup.md. -/
def R.BLW_TEMP : Nat := 0x1010
/-- BLW_THERM: register of R407, 21_power_reset_startup.md. -/
def R.BLW_THERM : Nat := 0x1014
/-- BLW_SUPPLY: register of R407, 21_power_reset_startup.md. -/
def R.BLW_SUPPLY : Nat := 0x1018
/-- BLW_FLAGS: register of R407, 21_power_reset_startup.md. -/
def R.BLW_FLAGS : Nat := 0x101C
/-- BLW_EVCNT: register of R407, 21_power_reset_startup.md. -/
def R.BLW_EVCNT (b : Nat) : Nat := 0x1020 + 0x4 * b
/-- BLW_BANKS: register of R407, 21_power_reset_startup.md. -/
def R.BLW_BANKS : Nat := 0x1030
/-- BLW_WAKE_US: register of R407, 21_power_reset_startup.md. -/
def R.BLW_WAKE_US : Nat := 0x1034
/-- SEC_STATUS: register of R420, 22_security.md. -/
def R.SEC_STATUS : Nat := 0x1200000
/-- SEC_FLAGS: register of R420, 22_security.md. -/
def R.SEC_FLAGS : Nat := 0x1200004
/-- SEC_EVCNT: register of R420, 22_security.md. -/
def R.SEC_EVCNT (b : Nat) : Nat := 0x1200008 + 0x4 * b
/-- SEC_LAST_FAIL: register of R420, 22_security.md. -/
def R.SEC_LAST_FAIL : Nat := 0x1200018
/-- SEC_BOOT_FAILS: register of R420, 22_security.md. -/
def R.SEC_BOOT_FAILS : Nat := 0x120001C
/-- SEC_DEVID: register of R420, 22_security.md. -/
def R.SEC_DEVID (i : Nat) : Nat := 0x1200020 + 0x4 * i
/-- SEC_MEAS_SEL: register of R420, 22_security.md. -/
def R.SEC_MEAS_SEL : Nat := 0x1200040
/-- SEC_MEAS_DATA: register of R420, 22_security.md. -/
def R.SEC_MEAS_DATA : Nat := 0x1200044
/-- SEC_PUBKEY_SEL: register of R420, 22_security.md. -/
def R.SEC_PUBKEY_SEL : Nat := 0x1200048
/-- SEC_PUBKEY_DATA: register of R420, 22_security.md. -/
def R.SEC_PUBKEY_DATA : Nat := 0x120004C
/-- SEC_PROV_DATA: register of R420, 22_security.md. -/
def R.SEC_PROV_DATA (i : Nat) : Nat := 0x1200080 + 0x4 * i
/-- SEC_PROV_CMD: register of R420, 22_security.md. -/
def R.SEC_PROV_CMD : Nat := 0x12000C0
/-- SEC_PROV_STATUS: register of R420, 22_security.md. -/
def R.SEC_PROV_STATUS : Nat := 0x12000C4
/-- SEC_DBG_CHAL: register of R420, 22_security.md. -/
def R.SEC_DBG_CHAL (i : Nat) : Nat := 0x1200100 + 0x4 * i
/-- SEC_DBG_HANDLE: register of R420, 22_security.md. -/
def R.SEC_DBG_HANDLE : Nat := 0x1200120
/-- SEC_DBG_CMD: register of R420, 22_security.md. -/
def R.SEC_DBG_CMD : Nat := 0x1200124

def F.BLW_ID_vendor : Field := ⟨31, 16⟩
def F.BLW_ID_device : Field := ⟨15, 0⟩
def F.BLW_REV_grade : Field := ⟨19, 16⟩
def F.BLW_REV_step_letter : Field := ⟨7, 4⟩
def F.BLW_REV_step_number : Field := ⟨3, 0⟩
def F.BLW_STATE_holdover : Field := ⟨9, 9⟩
def F.BLW_STATE_degraded : Field := ⟨8, 8⟩
def F.BLW_STATE_state : Field := ⟨3, 0⟩
def F.BLW_CLK_STATUS_lane_pll_lock : Field := ⟨31, 16⟩
def F.BLW_CLK_STATUS_pcie_pll_lock : Field := ⟨3, 3⟩
def F.BLW_CLK_STATUS_hbm_pll_lock : Field := ⟨2, 2⟩
def F.BLW_CLK_STATUS_sys_pll_lock : Field := ⟨1, 1⟩
def F.BLW_CLK_STATUS_root_ok : Field := ⟨0, 0⟩
def F.ENC_COORD_md_downstream_negative : Field := ⟨8, 8⟩
def F.ENC_COORD_valid : Field := ⟨2, 2⟩
def F.ENC_COORD_master : Field := ⟨1, 0⟩
def F.ENC_MD_SCALE_md_scale : Field := ⟨31, 0⟩
def F.ENC_EXPOFS_offset_ns : Field := ⟨23, 0⟩
def F.STI_CD_PITCH_cd_descending : Field := ⟨31, 31⟩
def F.STI_CD_PITCH_cd_pitch : Field := ⟨30, 0⟩
def F.STI_CD_ORIGIN_cd_origin : Field := ⟨31, 0⟩
def F.ENC_CFG_enable : Field := ⟨31, 31⟩
def F.ENC_CFG_mode : Field := ⟨25, 24⟩
def F.ENC_CFG_invert_dir : Field := ⟨23, 23⟩
def F.ENC_CFG_z_active_low : Field := ⟨22, 22⟩
def F.ENC_CFG_gap_kind : Field := ⟨21, 20⟩
def F.ENC_CFG_gap_teeth : Field := ⟨19, 18⟩
def F.ENC_CFG_gap_ratio : Field := ⟨7, 0⟩
def F.ENC_STILL_timeout_us : Field := ⟨18, 0⟩
def F.ENC_COUNT_LO_count_lo : Field := ⟨31, 0⟩
def F.ENC_COUNT_HI_count_hi : Field := ⟨23, 0⟩
def F.ENC_PERIOD_valid : Field := ⟨31, 31⟩
def F.ENC_PERIOD_period : Field := ⟨30, 0⟩
def F.ENC_STATUS_moving : Field := ⟨9, 9⟩
def F.ENC_STATUS_dir_up : Field := ⟨8, 8⟩
def F.ENC_STATUS_preset_refused : Field := ⟨4, 4⟩
def F.ENC_STATUS_ref_seen : Field := ⟨3, 3⟩
def F.ENC_STATUS_reversal : Field := ⟨2, 2⟩
def F.ENC_STATUS_still : Field := ⟨1, 1⟩
def F.ENC_STATUS_illegal : Field := ⟨0, 0⟩
def F.ENC_EVCNT_count : Field := ⟨31, 0⟩
def F.ENC_UNCERT_uncert : Field := ⟨15, 0⟩
def F.ENC_PRESET_LO_preset_lo : Field := ⟨31, 0⟩
def F.ENC_PRESET_HI_preset_hi : Field := ⟨23, 0⟩
def F.ENC_CMD_arm_ref : Field := ⟨1, 1⟩
def F.ENC_CMD_preset_now : Field := ⟨0, 0⟩
def F.ENC_TRG_CFG_enable : Field := ⟨31, 31⟩
def F.ENC_TRG_CFG_bidir : Field := ⟨30, 30⟩
def F.ENC_TRG_CFG_fwd_negative : Field := ⟨29, 29⟩
def F.ENC_TRG_CFG_ltrig_en : Field := ⟨28, 28⟩
def F.ENC_TRG_CFG_encoder : Field := ⟨27, 26⟩
def F.ENC_TRG_CFG_cxp_en : Field := ⟨25, 25⟩
def F.ENC_TRG_CFG_pulse_width : Field := ⟨23, 16⟩
def F.ENC_TRG_CFG_cxp_ports : Field := ⟨15, 0⟩
def F.ENC_TRG_NEXT_LO_next_whole_lo : Field := ⟨31, 16⟩
def F.ENC_TRG_NEXT_LO_next_frac : Field := ⟨15, 0⟩
def F.ENC_TRG_NEXT_HI_next_whole_hi : Field := ⟨31, 0⟩
def F.ENC_TRG_PERIOD_period_whole : Field := ⟨31, 16⟩
def F.ENC_TRG_PERIOD_period_frac : Field := ⟨15, 0⟩
def F.ENC_TRG_MININT_min_interval : Field := ⟨15, 0⟩
def F.ENC_TRG_STATUS_late : Field := ⟨0, 0⟩
def F.ENC_TRG_LATE_EVT_count : Field := ⟨31, 0⟩
def F.ENC_TRG_LATE_PTS_count : Field := ⟨31, 0⟩
def F.ENC_TRG_FIRED_count : Field := ⟨31, 0⟩
def F.ENC_LAT_CFG_enable : Field := ⟨31, 31⟩
def F.ENC_LAT_CFG_source : Field := ⟨23, 16⟩
def F.ENC_LAT_CFG_encoder : Field := ⟨13, 12⟩
def F.ENC_LAT_CFG_queue : Field := ⟨5, 0⟩
def F.ENC_LAT_CMD_latch_now : Field := ⟨0, 0⟩
def F.ENC_LAT_DROP_dropped : Field := ⟨31, 0⟩
def F.LANE_PORT_CFG_enable : Field := ⟨31, 31⟩
def F.LANE_PORT_CFG_auto_restart : Field := ⟨30, 30⟩
def F.LANE_PORT_CFG_allow_wimen : Field := ⟨29, 29⟩
def F.LANE_PORT_CFG_max_rate : Field := ⟨27, 24⟩
def F.LANE_PORT_CFG_layout : Field := ⟨23, 22⟩
def F.LANE_PORT_CFG_evq : Field := ⟨21, 16⟩
def F.LANE_PORT_CFG_disc_timeout : Field := ⟨15, 8⟩
def F.LANE_PORT_CMD_restart : Field := ⟨2, 2⟩
def F.LANE_PORT_CMD_stop : Field := ⟨1, 1⟩
def F.LANE_PORT_CMD_start : Field := ⟨0, 0⟩
def F.LANE_LINK_STATUS_wimen_excluded : Field := ⟨28, 28⟩
def F.LANE_LINK_STATUS_rate : Field := ⟨27, 24⟩
def F.LANE_LINK_STATUS_conns : Field := ⟨18, 16⟩
def F.LANE_LINK_STATUS_state : Field := ⟨3, 0⟩
def F.LANE_PORT_FLAGS_trig_drop : Field := ⟨6, 6⟩
def F.LANE_PORT_FLAGS_unsupported : Field := ⟨5, 5⟩
def F.LANE_PORT_FLAGS_code_error : Field := ⟨4, 4⟩
def F.LANE_PORT_FLAGS_crc_error : Field := ⟨3, 3⟩
def F.LANE_PORT_FLAGS_fallback : Field := ⟨2, 2⟩
def F.LANE_PORT_FLAGS_link_down : Field := ⟨1, 1⟩
def F.LANE_PORT_FLAGS_link_up : Field := ⟨0, 0⟩
def F.LANE_PORT_EVCNT_count : Field := ⟨31, 0⟩
def F.LANE_CC_ADDR_addr : Field := ⟨31, 0⟩
def F.LANE_CC_DATA_data : Field := ⟨31, 0⟩
def F.LANE_CC_CMD_go : Field := ⟨31, 31⟩
def F.LANE_CC_CMD_write : Field := ⟨30, 30⟩
def F.LANE_CC_CMD_link : Field := ⟨29, 28⟩
def F.LANE_CC_STATUS_busy : Field := ⟨31, 31⟩
def F.LANE_CC_STATUS_camera_code : Field := ⟨15, 8⟩
def F.LANE_CC_STATUS_result : Field := ⟨7, 0⟩
def F.LANE_TRG_SENT_count : Field := ⟨31, 0⟩
def F.LANE_TRG_ACK_count : Field := ⟨31, 0⟩
def F.LANE_RX_CFG_ctle_hold : Field := ⟨31, 31⟩
def F.LANE_RX_CFG_dfe_freeze : Field := ⟨30, 30⟩
def F.LANE_RX_CFG_cdr_bw : Field := ⟨29, 28⟩
def F.LANE_RX_CFG_ctle_code : Field := ⟨27, 24⟩
def F.LANE_RX_CFG_dfe_mu : Field := ⟨23, 20⟩
def F.LANE_RX_STATUS_ctle_code : Field := ⟨31, 28⟩
def F.LANE_RX_STATUS_block_lock : Field := ⟨7, 7⟩
def F.LANE_RX_STATUS_aligned : Field := ⟨6, 6⟩
def F.LANE_RX_STATUS_cdr_lock : Field := ⟨5, 5⟩
def F.LANE_RX_STATUS_signal_detect : Field := ⟨4, 4⟩
def F.LANE_RX_STATUS_rate : Field := ⟨3, 0⟩
def F.LANE_DFE_tap1 : Field := ⟨29, 24⟩
def F.LANE_DFE_tap2 : Field := ⟨23, 18⟩
def F.LANE_DFE_tap3 : Field := ⟨17, 12⟩
def F.LANE_DFE_tap4 : Field := ⟨11, 6⟩
def F.LANE_DFE_tap5 : Field := ⟨5, 0⟩
def F.LANE_CDR_freq_offset : Field := ⟨31, 16⟩
def F.LANE_CDR_phase : Field := ⟨5, 0⟩
def F.LANE_EYE_CTRL_start : Field := ⟨31, 31⟩
def F.LANE_EYE_CTRL_h_offset : Field := ⟨21, 16⟩
def F.LANE_EYE_CTRL_v_offset : Field := ⟨13, 8⟩
def F.LANE_EYE_CTRL_dwell : Field := ⟨3, 0⟩
def F.LANE_EYE_RESULT_done : Field := ⟨31, 31⟩
def F.LANE_EYE_RESULT_errors : Field := ⟨30, 0⟩
def F.LANE_CRCERR_count : Field := ⟨31, 0⟩
def F.LANE_CODEERR_count : Field := ⟨31, 0⟩
def F.INT_CTX_CFG_enable : Field := ⟨31, 31⟩
def F.INT_CTX_CFG_free_run : Field := ⟨30, 30⟩
def F.INT_CTX_CFG_trig_unit : Field := ⟨29, 26⟩
def F.INT_CTX_CFG_pixel_lane : Field := ⟨25, 22⟩
def F.INT_CTX_CFG_port : Field := ⟨21, 18⟩
def F.INT_CTX_CFG_link : Field := ⟨17, 16⟩
def F.INT_CTX_CFG_stream_id : Field := ⟨15, 8⟩
def F.INT_CTX_CFG_format : Field := ⟨7, 5⟩
def F.INT_CTX_WIDTH_width : Field := ⟨15, 0⟩
def F.INT_CTX_FILL_fill_value : Field := ⟨17, 0⟩
def F.INT_CTX_PAIR_max_age_ns : Field := ⟨23, 0⟩
def F.INT_CTX_RING_stride : Field := ⟨23, 8⟩
def F.INT_CTX_RING_ring_log2 : Field := ⟨4, 0⟩
def F.INT_CTX_RING_HANDLE_handle : Field := ⟨31, 0⟩
def F.INT_CTX_FLAGS_format_mismatch : Field := ⟨7, 7⟩
def F.INT_CTX_FLAGS_unpaired : Field := ⟨6, 6⟩
def F.INT_CTX_FLAGS_missed : Field := ⟨5, 5⟩
def F.INT_CTX_FLAGS_overrun : Field := ⟨4, 4⟩
def F.INT_CTX_FLAGS_dropped : Field := ⟨3, 3⟩
def F.INT_CTX_FLAGS_crc_error : Field := ⟨2, 2⟩
def F.INT_CTX_FLAGS_long : Field := ⟨1, 1⟩
def F.INT_CTX_FLAGS_short : Field := ⟨0, 0⟩
def F.INT_CTX_SEQ_LO_seq_lo : Field := ⟨31, 0⟩
def F.INT_CTX_SEQ_HI_seq_hi : Field := ⟨7, 0⟩
def F.INT_CTX_GATED_count : Field := ⟨31, 0⟩
def F.INT_CTX_EVCNT_count : Field := ⟨31, 0⟩
def F.INT_LANE_LEVEL_high_water : Field := ⟨29, 16⟩
def F.INT_LANE_LEVEL_occupancy : Field := ⟨13, 0⟩
def F.INT_LANE_WM_threshold : Field := ⟨13, 0⟩
def F.INT_LANE_FLAGS_watermark : Field := ⟨0, 0⟩
def F.INT_LANE_WM_CROSS_count : Field := ⟨31, 0⟩
def F.INT_GLOBAL_CFG_line_timeout_us : Field := ⟨15, 0⟩
def F.INT_UNBOUND_count : Field := ⟨31, 0⟩
def F.INT_REINJ_MASK_LO_mask_lo : Field := ⟨31, 0⟩
def F.INT_REINJ_MASK_HI_mask_hi : Field := ⟨31, 0⟩
def F.INT_REINJ_SEQ_LO_first_seq_lo : Field := ⟨31, 0⟩
def F.INT_REINJ_SEQ_HI_first_seq_hi : Field := ⟨7, 0⟩
def F.INT_REINJ_COUNT_count : Field := ⟨20, 0⟩
def F.INT_REINJ_CMD_abort : Field := ⟨1, 1⟩
def F.INT_REINJ_CMD_go : Field := ⟨0, 0⟩
def F.INT_REINJ_STATUS_busy : Field := ⟨31, 31⟩
def F.INT_REINJ_STATUS_result : Field := ⟨7, 0⟩
def F.INT_REINJ_DONE_count : Field := ⟨31, 0⟩
def F.INT_REINJ_SKIP_count : Field := ⟨31, 0⟩
def F.COR_CTX_NR_sp_kernel : Field := ⟨31, 30⟩
def F.COR_CTX_NR_sp_thresh : Field := ⟨17, 0⟩
def F.COR_CTX_TNR_tnr_en : Field := ⟨31, 31⟩
def F.COR_CTX_TNR_k_min : Field := ⟨28, 24⟩
def F.COR_CTX_TNR_motion_hi : Field := ⟨23, 12⟩
def F.COR_CTX_TNR_motion_lo : Field := ⟨11, 0⟩
def F.COR_CTX_DARK_dark_en : Field := ⟨31, 31⟩
def F.COR_CTX_DARK_offset_step : Field := ⟨30, 29⟩
def F.COR_CTX_DARK_offset_base : Field := ⟨17, 0⟩
def F.COR_CTX_GAIN_gain_en : Field := ⟨31, 31⟩
def F.COR_CTX_GAIN_gain_shift : Field := ⟨30, 29⟩
def F.COR_CTX_GAIN_coef_base : Field := ⟨18, 0⟩
def F.COR_CTX_DEF_def_en : Field := ⟨31, 31⟩
def F.COR_CTX_DEF_def_mode : Field := ⟨30, 29⟩
def F.COR_CTX_DEF_repl_value : Field := ⟨17, 0⟩
def F.COR_CTX_LIN_lin_en : Field := ⟨31, 31⟩
def F.COR_CTX_LIN_lut_sel : Field := ⟨3, 0⟩
def F.COR_CTX_STATUS_apply_pending : Field := ⟨31, 31⟩
def F.COR_CTX_STATUS_old_busy : Field := ⟨30, 30⟩
def F.COR_CTX_STATUS_fenced : Field := ⟨29, 29⟩
def F.COR_CTX_STATUS_active_base : Field := ⟨18, 0⟩
def F.COR_CTX_TNR_BASE_region : Field := ⟨31, 31⟩
def F.COR_CTX_TNR_BASE_tnr_base : Field := ⟨18, 0⟩
def F.COR_CTX_CMD_apply : Field := ⟨0, 0⟩
def F.COR_CTX_CLIP_count : Field := ⟨31, 0⟩
def F.COR_CTX_CLIP_LIMIT_clip_limit : Field := ⟨17, 0⟩
def F.COR_FLAGS_snapshot_wait : Field := ⟨5, 5⟩
def F.COR_FLAGS_capture_done : Field := ⟨4, 4⟩
def F.COR_FLAGS_clip : Field := ⟨3, 3⟩
def F.COR_FLAGS_store_refused : Field := ⟨2, 2⟩
def F.COR_FLAGS_apply_refused : Field := ⟨1, 1⟩
def F.COR_FLAGS_apply_done : Field := ⟨0, 0⟩
def F.COR_EVCNT_count : Field := ⟨31, 0⟩
def F.COR_ECC_CORR_count : Field := ⟨31, 0⟩
def F.COR_STORE_ADDR_addr : Field := ⟨18, 0⟩
def F.COR_STORE_DATA_data : Field := ⟨31, 0⟩
def F.COR_LOAD_HANDLE_handle : Field := ⟨31, 0⟩
def F.COR_LOAD_COUNT_count : Field := ⟨19, 0⟩
def F.COR_LOAD_CMD_go : Field := ⟨0, 0⟩
def F.COR_LOAD_STATUS_busy : Field := ⟨31, 31⟩
def F.COR_LOAD_STATUS_result : Field := ⟨7, 0⟩
def F.COR_LUT_ADDR_addr : Field := ⟨15, 0⟩
def F.COR_LUT_DATA_data : Field := ⟨17, 0⟩
def F.COR_CAP_CFG_ctx : Field := ⟨21, 16⟩
def F.COR_CAP_CFG_tap : Field := ⟨1, 0⟩
def F.COR_CAP_LINES_lines : Field := ⟨16, 0⟩
def F.COR_CAP_HANDLE_handle : Field := ⟨31, 0⟩
def F.COR_CAP_CMD_abort : Field := ⟨1, 1⟩
def F.COR_CAP_CMD_go : Field := ⟨0, 0⟩
def F.COR_CAP_STATUS_busy : Field := ⟨31, 31⟩
def F.COR_CAP_STATUS_done_lines : Field := ⟨24, 8⟩
def F.COR_CAP_STATUS_result : Field := ⟨7, 0⟩
def F.STI_LINE_CFG_bits18 : Field := ⟨31, 31⟩
def F.STI_LINE_CFG_ref_seg : Field := ⟨27, 24⟩
def F.STI_LINE_CFG_line_width : Field := ⟨18, 0⟩
def F.STI_STRIPE_CFG_stripes : Field := ⟨20, 16⟩
def F.STI_STRIPE_CFG_stripe_width : Field := ⟨14, 0⟩
def F.STI_TIMING_max_gap : Field := ⟨19, 16⟩
def F.STI_TIMING_wait_ns : Field := ⟨15, 0⟩
def F.STI_GAP_gap_value : Field := ⟨17, 0⟩
def F.STI_CORR_CFG_auto_en : Field := ⟨31, 31⟩
def F.STI_CORR_CFG_anchor : Field := ⟨27, 24⟩
def F.STI_CORR_CFG_search : Field := ⟨19, 16⟩
def F.STI_CORR_CFG_conf : Field := ⟨15, 12⟩
def F.STI_CORR_CFG_step_max : Field := ⟨7, 0⟩
def F.STI_CMD_apply : Field := ⟨0, 0⟩
def F.STI_STATUS_apply_pending : Field := ⟨31, 31⟩
def F.STI_STORE_USED_used : Field := ⟨17, 0⟩
def F.STI_STORE_HW_high_water : Field := ⟨17, 0⟩
def F.STI_FLAGS_corr_ready : Field := ⟨6, 6⟩
def F.STI_FLAGS_store_full : Field := ⟨5, 5⟩
def F.STI_FLAGS_shift_clamped : Field := ⟨4, 4⟩
def F.STI_FLAGS_early : Field := ⟨3, 3⟩
def F.STI_FLAGS_blank : Field := ⟨2, 2⟩
def F.STI_FLAGS_apply_refused : Field := ⟨1, 1⟩
def F.STI_FLAGS_apply_done : Field := ⟨0, 0⟩
def F.STI_EVCNT_count : Field := ⟨31, 0⟩
def F.STI_UNMAPPED_count : Field := ⟨31, 0⟩
def F.STI_REF_ref_lost : Field := ⟨31, 31⟩
def F.STI_REF_ref_timeout_us : Field := ⟨15, 0⟩
def F.STI_REF_EVCNT_count : Field := ⟨31, 0⟩
def F.STI_REF_ORPHAN_count : Field := ⟨31, 0⟩
def F.STI_SEG_CFG_enable : Field := ⟨31, 31⟩
def F.STI_SEG_CFG_ctx : Field := ⟨29, 24⟩
def F.STI_SEG_CFG_knot_shift : Field := ⟨23, 20⟩
def F.STI_SEG_CFG_shift_limit : Field := ⟨15, 0⟩
def F.STI_SEG_FIRST_cd_first : Field := ⟨17, 0⟩
def F.STI_SEG_LAST_cd_last : Field := ⟨17, 0⟩
def F.STI_SEG_U0_u0 : Field := ⟨23, 0⟩
def F.STI_SEG_STEP_step : Field := ⟨17, 0⟩
def F.STI_SEG_MD_md_offset : Field := ⟨31, 0⟩
def F.STI_SEG_LEVEL_seg_gain : Field := ⟨31, 16⟩
def F.STI_SEG_LEVEL_seg_offset : Field := ⟨15, 0⟩
def F.STI_SEG_RAMP_ramp_len : Field := ⟨28, 18⟩
def F.STI_SEG_RAMP_ramp_start : Field := ⟨17, 0⟩
def F.STI_SEG_SLOTS_slots : Field := ⟨7, 0⟩
def F.STI_SEG_SHIFT_shift : Field := ⟨15, 0⟩
def F.STI_SEAM_MEAS_valid : Field := ⟨31, 31⟩
def F.STI_SEAM_MEAS_interval : Field := ⟨23, 16⟩
def F.STI_SEAM_MEAS_m : Field := ⟨15, 0⟩
def F.STI_SEAM_MEANL_mean : Field := ⟨17, 0⟩
def F.STI_SEAM_MEANR_mean : Field := ⟨17, 0⟩
def F.STI_SEG_BLANK_count : Field := ⟨31, 0⟩
def F.STI_SEG_EARLY_count : Field := ⟨31, 0⟩
def F.STI_KNOT_ADDR_segment : Field := ⟨10, 7⟩
def F.STI_KNOT_ADDR_knot : Field := ⟨6, 0⟩
def F.STI_KNOT_DATA_value : Field := ⟨15, 0⟩
def F.ANV_CFG_window_lines : Field := ⟨19, 16⟩
def F.ANV_CFG_slices : Field := ⟨4, 0⟩
def F.ANV_KSET_ENTRY_entry : Field := ⟨11, 0⟩
def F.ANV_KSET_REGION_last : Field := ⟨27, 16⟩
def F.ANV_KSET_REGION_first : Field := ⟨11, 0⟩
def F.ANV_KSET_LIMIT_lut_use : Field := ⟨19, 16⟩
def F.ANV_KSET_LIMIT_max_bundles : Field := ⟨7, 0⟩
def F.ANV_IMG_enable : Field := ⟨31, 31⟩
def F.ANV_IMG_to_hearth : Field := ⟨30, 30⟩
def F.ANV_IMG_ring_log2 : Field := ⟨4, 0⟩
def F.ANV_IMG_HANDLE_handle : Field := ⟨31, 0⟩
def F.ANV_CMD_apply : Field := ⟨0, 0⟩
def F.ANV_STATUS_apply_pending : Field := ⟨31, 31⟩
def F.ANV_STATUS_old_busy : Field := ⟨30, 30⟩
def F.ANV_STATUS_active_entry : Field := ⟨11, 0⟩
def F.ANV_FLAGS_sig_fault : Field := ⟨5, 5⟩
def F.ANV_FLAGS_kfault : Field := ⟨4, 4⟩
def F.ANV_FLAGS_stall : Field := ⟨3, 3⟩
def F.ANV_FLAGS_store_refused : Field := ⟨2, 2⟩
def F.ANV_FLAGS_apply_refused : Field := ⟨1, 1⟩
def F.ANV_FLAGS_apply_done : Field := ⟨0, 0⟩
def F.ANV_EVCNT_count : Field := ⟨31, 0⟩
def F.ANV_ECC_CORR_count : Field := ⟨31, 0⟩
def F.ANV_PARAM_ADDR_word : Field := ⟨5, 0⟩
def F.ANV_PARAM_D0_data : Field := ⟨31, 0⟩
def F.ANV_PARAM_D1_data : Field := ⟨31, 0⟩
def F.ANV_PARAM_D2_data : Field := ⟨7, 0⟩
def F.ANV_KS_ADDR_bundle : Field := ⟨11, 0⟩
def F.ANV_KS_D0_data : Field := ⟨31, 0⟩
def F.ANV_KS_D1_data : Field := ⟨31, 0⟩
def F.ANV_KS_D2_data : Field := ⟨31, 0⟩
def F.ANV_KS_D3_data : Field := ⟨31, 0⟩
def F.ANV_LUT_ADDR_addr : Field := ⟨13, 0⟩
def F.ANV_LUT_DATA_data : Field := ⟨17, 0⟩
def F.ANV_LOAD_TARGET_target : Field := ⟨29, 28⟩
def F.ANV_LOAD_TARGET_start : Field := ⟨13, 0⟩
def F.ANV_LOAD_HANDLE_handle : Field := ⟨31, 0⟩
def F.ANV_LOAD_COUNT_count : Field := ⟨14, 0⟩
def F.ANV_LOAD_CMD_go : Field := ⟨0, 0⟩
def F.ANV_LOAD_STATUS_busy : Field := ⟨31, 31⟩
def F.ANV_LOAD_STATUS_result : Field := ⟨7, 0⟩
def F.ANV_SL_STATUS_fenced : Field := ⟨31, 31⟩
def F.ANV_SL_STATUS_active : Field := ⟨30, 30⟩
def F.ANV_SL_STATUS_budget : Field := ⟨7, 0⟩
def F.ANV_SL_LOAD_avg_bundles : Field := ⟨15, 0⟩
def F.ANV_SL_STALL_cycles : Field := ⟨31, 0⟩
def F.ANV_SL_KFAULT_count : Field := ⟨31, 0⟩
def F.ANV_SL_KFINFO_code : Field := ⟨31, 24⟩
def F.ANV_SL_KFINFO_column : Field := ⟨17, 0⟩
def F.ANV_SL_DETECT_count : Field := ⟨31, 0⟩
def F.ANV_SL_SIG_crc : Field := ⟨31, 0⟩
def F.BLM_CFG_conn4 : Field := ⟨31, 31⟩
def F.BLM_CFG_max_lines : Field := ⟨19, 0⟩
def F.BLM_OUT_rec_q : Field := ⟨21, 16⟩
def F.BLM_OUT_drain_us : Field := ⟨15, 0⟩
def F.BLM_MIN_AREA_min_area : Field := ⟨31, 0⟩
def F.BLM_MARK_MIN_mark_min_area : Field := ⟨31, 0⟩
def F.BLM_CLASS_mark_mask : Field := ⟨30, 16⟩
def F.BLM_CLASS_crop_mask : Field := ⟨14, 0⟩
def F.BLM_CROP_CFG_crop_en : Field := ⟨31, 31⟩
def F.BLM_CROP_CFG_channel : Field := ⟨27, 26⟩
def F.BLM_CROP_CFG_margin_md : Field := ⟨25, 16⟩
def F.BLM_CROP_CFG_margin_cd : Field := ⟨9, 0⟩
def F.BLM_CROP_MAX_max_kwords : Field := ⟨15, 0⟩
def F.BLM_CMD_flush : Field := ⟨0, 0⟩
def F.BLM_OPEN_ovf_open : Field := ⟨28, 24⟩
def F.BLM_OPEN_open : Field := ⟨18, 0⟩
def F.BLM_OPEN_HW_high_water : Field := ⟨18, 0⟩
def F.BLM_OPEN_WM_threshold : Field := ⟨18, 0⟩
def F.BLM_OPEN_CROSS_count : Field := ⟨31, 0⟩
def F.BLM_SERIAL_LO_serial_lo : Field := ⟨31, 0⟩
def F.BLM_SERIAL_HI_serial_hi : Field := ⟨7, 0⟩
def F.BLM_SEQ_LO_seq_lo : Field := ⟨31, 0⟩
def F.BLM_SEQ_HI_seq_hi : Field := ⟨7, 0⟩
def F.BLM_FLAGS_run_overload : Field := ⟨6, 6⟩
def F.BLM_FLAGS_rec_hold : Field := ⟨5, 5⟩
def F.BLM_FLAGS_crop_refused : Field := ⟨4, 4⟩
def F.BLM_FLAGS_crop_partial : Field := ⟨3, 3⟩
def F.BLM_FLAGS_forced : Field := ⟨2, 2⟩
def F.BLM_FLAGS_watermark : Field := ⟨1, 1⟩
def F.BLM_FLAGS_overflow : Field := ⟨0, 0⟩
def F.BLM_EVCNT_count : Field := ⟨31, 0⟩
def F.BLM_RECORDS_count : Field := ⟨31, 0⟩
def F.BLM_DISCARD_count : Field := ⟨31, 0⟩
def F.BLM_OVF_RUNS_count : Field := ⟨31, 0⟩
def F.BLM_LINES_count : Field := ⟨31, 0⟩
def F.BLM_CB_LEVEL_used : Field := ⟨22, 0⟩
def F.BLM_REC_FIFO_waiting : Field := ⟨12, 0⟩
def F.TNG_CFG_commit : Field := ⟨15, 0⟩
def F.TNG_PEND_pending : Field := ⟨16, 0⟩
def F.TNG_CAP_capacity : Field := ⟨16, 0⟩
def F.TNG_PEND_WM_threshold : Field := ⟨16, 0⟩
def F.TNG_PEND_HW_high_water : Field := ⟨16, 0⟩
def F.TNG_FLAGS_watermark : Field := ⟨5, 5⟩
def F.TNG_FLAGS_cancel : Field := ⟨4, 4⟩
def F.TNG_FLAGS_not_armed : Field := ⟨3, 3⟩
def F.TNG_FLAGS_full_drop : Field := ⟨2, 2⟩
def F.TNG_FLAGS_late_fired : Field := ⟨1, 1⟩
def F.TNG_FLAGS_late_discard : Field := ⟨0, 0⟩
def F.TNG_EVCNT_count : Field := ⟨31, 0⟩
def F.TNG_WM_CROSS_count : Field := ⟨31, 0⟩
def F.TNG_MARKS_count : Field := ⟨31, 0⟩
def F.TNG_FIRED_count : Field := ⟨31, 0⟩
def F.TNG_NOCHAN_count : Field := ⟨31, 0⟩
def F.TNG_LINK_CFG_enable : Field := ⟨31, 31⟩
def F.TNG_LINK_CFG_link_delay_ns : Field := ⟨9, 0⟩
def F.TNG_LINK_FIRE_count : Field := ⟨31, 0⟩
def F.TNG_LINK_CANCEL_count : Field := ⟨31, 0⟩
def F.TNG_LINK_SYNC_count : Field := ⟨31, 0⟩
def F.TNG_LINK_CONFIG_count : Field := ⟨31, 0⟩
def F.TNG_CH_CFG_enable : Field := ⟨31, 31⟩
def F.TNG_CH_CFG_late_fire : Field := ⟨30, 30⟩
def F.TNG_CH_CFG_class_mask : Field := ⟨14, 0⟩
def F.TNG_CH_CDLO_cd_lo : Field := ⟨17, 0⟩
def F.TNG_CH_CDHI_cd_hi : Field := ⟨17, 0⟩
def F.TNG_CH_OFS_ofs : Field := ⟨31, 0⟩
def F.TNG_CH_ACT_act_ns : Field := ⟨23, 0⟩
def F.TNG_CH_WIDTH_width_us : Field := ⟨15, 0⟩
def F.TNG_CH_COUNT_count : Field := ⟨31, 0⟩
def F.OST_CFG_source : Field := ⟨30, 28⟩
def F.OST_CFG_mode : Field := ⟨27, 26⟩
def F.OST_CFG_order : Field := ⟨25, 24⟩
def F.OST_CFG_out18 : Field := ⟨23, 23⟩
def F.OST_CFG_host_dma : Field := ⟨22, 22⟩
def F.OST_CFG_dma_ring : Field := ⟨21, 16⟩
def F.OST_CFG_start_at_seq : Field := ⟨15, 15⟩
def F.OST_CFG_class_mask : Field := ⟨14, 0⟩
def F.OST_CROP_cd_first : Field := ⟨17, 0⟩
def F.OST_WIDTH_cd_width : Field := ⟨18, 0⟩
def F.OST_DEC_dc : Field := ⟨30, 24⟩
def F.OST_DEC_dm : Field := ⟨22, 16⟩
def F.OST_PHASE_p_md : Field := ⟨25, 16⟩
def F.OST_PHASE_p_cd : Field := ⟨9, 0⟩
def F.OST_SCALE_out_gain : Field := ⟨31, 16⟩
def F.OST_SCALE_md_shift : Field := ⟨13, 8⟩
def F.OST_SCALE_cd_shift : Field := ⟨5, 0⟩
def F.OST_START_LO_start_lo : Field := ⟨31, 0⟩
def F.OST_START_HI_start_hi : Field := ⟨7, 0⟩
def F.OST_COUNT_out_count : Field := ⟨31, 0⟩
def F.OST_RING_stride : Field := ⟨23, 8⟩
def F.OST_RING_ring_log2 : Field := ⟨4, 0⟩
def F.OST_HANDLE_handle : Field := ⟨31, 0⟩
def F.OST_CMD_stop : Field := ⟨1, 1⟩
def F.OST_CMD_apply : Field := ⟨0, 0⟩
def F.OST_STATUS_apply_pending : Field := ⟨31, 31⟩
def F.OST_STATUS_state : Field := ⟨1, 0⟩
def F.OST_SEQ_LO_out_seq_lo : Field := ⟨31, 0⟩
def F.OST_SEQ_HI_out_seq_hi : Field := ⟨7, 0⟩
def F.OST_FLAGS_done : Field := ⟨5, 5⟩
def F.OST_FLAGS_skip : Field := ⟨4, 4⟩
def F.OST_FLAGS_drop : Field := ⟨3, 3⟩
def F.OST_FLAGS_sat : Field := ⟨2, 2⟩
def F.OST_FLAGS_apply_refused : Field := ⟨1, 1⟩
def F.OST_FLAGS_apply_done : Field := ⟨0, 0⟩
def F.OST_EVCNT_count : Field := ⟨31, 0⟩
def F.OST_SAT_count : Field := ⟨31, 0⟩
def F.OST_DROP_count : Field := ⟨31, 0⟩
def F.OST_SNAP_HANDLE_handle : Field := ⟨31, 0⟩
def F.CMP_STATE_HANDLE_handle : Field := ⟨31, 0⟩
def F.CMP_STATUS_busy : Field := ⟨31, 24⟩
def F.CMP_STATUS_open : Field := ⟨8, 0⟩
def F.CMP_CMD_abort : Field := ⟨15, 8⟩
def F.CMP_CMD_save_all : Field := ⟨0, 0⟩
def F.CMP_FLAGS_save_done : Field := ⟨5, 5⟩
def F.CMP_FLAGS_aborted : Field := ⟨4, 4⟩
def F.CMP_FLAGS_tbl_refused : Field := ⟨3, 3⟩
def F.CMP_FLAGS_badarg : Field := ⟨2, 2⟩
def F.CMP_FLAGS_fault : Field := ⟨1, 1⟩
def F.CMP_FLAGS_nospace : Field := ⟨0, 0⟩
def F.CMP_EVCNT_count : Field := ⟨31, 0⟩
def F.CMP_ABANDON_count : Field := ⟨31, 0⟩
def F.CMP_TBL_ADDR_set : Field := ⟨11, 9⟩
def F.CMP_TBL_ADDR_entry : Field := ⟨8, 0⟩
def F.CMP_TBL_DATA_length : Field := ⟨3, 0⟩
def F.CMP_ENG_CFG_enable : Field := ⟨31, 31⟩
def F.CMP_ENG_CFG_jobq : Field := ⟨5, 0⟩
def F.CMP_ENG_STATUS_busy : Field := ⟨31, 31⟩
def F.CMP_ENG_STATUS_resident : Field := ⟨30, 30⟩
def F.CMP_ENG_STATUS_stream : Field := ⟨15, 8⟩
def F.CMP_ENG_STATUS_last : Field := ⟨7, 0⟩
def F.CMP_ENG_IN_kbytes : Field := ⟨31, 0⟩
def F.CMP_ENG_OUT_kbytes : Field := ⟨31, 0⟩
def F.CMP_ENG_JOBS_count : Field := ⟨31, 0⟩
def F.CMP_ENG_FAIL_count : Field := ⟨31, 0⟩
def F.CMP_ENG_SWAP_count : Field := ⟨31, 0⟩
def F.HRT_CAP_cap : Field := ⟨18, 0⟩
def F.HRT_FREE_free : Field := ⟨18, 0⟩
def F.HRT_RESV_resv : Field := ⟨19, 0⟩
def F.HRT_PINNED_pinned : Field := ⟨18, 0⟩
def F.HRT_PIN_LIMIT_pin_limit : Field := ⟨18, 0⟩
def F.HRT_SPARES_spares : Field := ⟨11, 0⟩
def F.HRT_HANDLES_live : Field := ⟨20, 0⟩
def F.HRT_WM_high_wm : Field := ⟨31, 16⟩
def F.HRT_WM_low_wm : Field := ⟨15, 0⟩
def F.HRT_FREE_LW_low_water : Field := ⟨18, 0⟩
def F.HRT_SPILL_LO_addr_lo : Field := ⟨31, 16⟩
def F.HRT_SPILL_HI_addr_hi : Field := ⟨31, 0⟩
def F.HRT_SPILL_FRAMES_spill_frames : Field := ⟨19, 0⟩
def F.HRT_SPILL_USED_used : Field := ⟨19, 0⟩
def F.HRT_SCRUB_scrub_min : Field := ⟨15, 0⟩
def F.HRT_FLAGS_bad_access : Field := ⟨8, 8⟩
def F.HRT_FLAGS_overcommit : Field := ⟨7, 7⟩
def F.HRT_FLAGS_spill_error : Field := ⟨6, 6⟩
def F.HRT_FLAGS_starve : Field := ⟨5, 5⟩
def F.HRT_FLAGS_poison : Field := ⟨4, 4⟩
def F.HRT_FLAGS_spares_out : Field := ⟨3, 3⟩
def F.HRT_FLAGS_retire : Field := ⟨2, 2⟩
def F.HRT_FLAGS_ecc_retry : Field := ⟨1, 1⟩
def F.HRT_FLAGS_low_free : Field := ⟨0, 0⟩
def F.HRT_EVCNT_count : Field := ⟨31, 0⟩
def F.HRT_STARVE_classes : Field := ⟨4, 0⟩
def F.HRT_ECC_CORR_count : Field := ⟨31, 0⟩
def F.HRT_ECC_RETRY_count : Field := ⟨31, 0⟩
def F.HRT_RETIRED_count : Field := ⟨18, 0⟩
def F.HRT_PAGE_OUT_count : Field := ⟨31, 0⟩
def F.HRT_PAGE_IN_count : Field := ⟨31, 0⟩
def F.HRT_CLASS_KB_kbytes : Field := ⟨31, 0⟩
def F.HRT_LOST_HANDLE_handle : Field := ⟨31, 0⟩
def F.HRT_LOST_SLOT_slot : Field := ⟨19, 0⟩
def F.HRT_LOST_COUNT_count : Field := ⟨15, 0⟩
def F.HRT_AP_SIZE_size : Field := ⟨18, 0⟩
def F.HRT_AP_HANDLE_handle : Field := ⟨31, 0⟩
def F.HRT_AP_CMD_op : Field := ⟨3, 0⟩
def F.HRT_AP_STATUS_busy : Field := ⟨31, 31⟩
def F.HRT_AP_STATUS_result : Field := ⟨7, 0⟩
def F.HRT_AP_INFO_pinned : Field := ⟨31, 31⟩
def F.HRT_AP_INFO_poisoned : Field := ⟨30, 30⟩
def F.HRT_AP_INFO_kind : Field := ⟨29, 28⟩
def F.HRT_AP_INFO_size : Field := ⟨18, 0⟩
def F.EMB_CFG_report_q : Field := ⟨21, 16⟩
def F.EMB_CFG_restore_hold_ms : Field := ⟨15, 0⟩
def F.EMB_FLAGS_cb_spare : Field := ⟨9, 9⟩
def F.EMB_FLAGS_recovered : Field := ⟨8, 8⟩
def F.EMB_FLAGS_jnl_behind : Field := ⟨7, 7⟩
def F.EMB_FLAGS_jnl_disabled : Field := ⟨6, 6⟩
def F.EMB_FLAGS_jnl_retire : Field := ⟨5, 5⟩
def F.EMB_FLAGS_jnl_remap : Field := ⟨4, 4⟩
def F.EMB_FLAGS_report_drop : Field := ⟨3, 3⟩
def F.EMB_FLAGS_lost_line : Field := ⟨2, 2⟩
def F.EMB_FLAGS_lasting : Field := ⟨1, 1⟩
def F.EMB_FLAGS_replay : Field := ⟨0, 0⟩
def F.EMB_EVCNT_count : Field := ⟨31, 0⟩
def F.EMB_REPLAYS_count : Field := ⟨31, 0⟩
def F.EMB_LASTING_count : Field := ⟨31, 0⟩
def F.EMB_LOST_LINES_count : Field := ⟨31, 0⟩
def F.EMB_REWOUND_count : Field := ⟨31, 0⟩
def F.EMB_FENCE_slices : Field := ⟨15, 0⟩
def F.EMB_FENCE_CTX_LO_ctx_lo : Field := ⟨31, 0⟩
def F.EMB_FENCE_CTX_HI_ctx_hi : Field := ⟨31, 0⟩
def F.EMB_SUSPECT_stripes : Field := ⟨15, 0⟩
def F.EMB_JNL_STATUS_enabled : Field := ⟨31, 31⟩
def F.EMB_JNL_STATUS_usable : Field := ⟨27, 16⟩
def F.EMB_JNL_STATUS_spares : Field := ⟨6, 0⟩
def F.EMB_JNL_WEAR_writes : Field := ⟨31, 0⟩
def F.EMB_JNL_BACKLOG_bytes : Field := ⟨16, 0⟩
def F.EMB_REC_STATUS_valid : Field := ⟨31, 31⟩
def F.EMB_REC_STATUS_lost : Field := ⟨30, 30⟩
def F.EMB_REC_STATUS_digest_match : Field := ⟨29, 29⟩
def F.EMB_REC_STATUS_cause : Field := ⟨7, 0⟩
def F.EMB_REC_MARKS_restored : Field := ⟨16, 0⟩
def F.EMB_REC_LOST_lost : Field := ⟨16, 0⟩
def F.EMB_REC_CMDS_answered : Field := ⟨10, 0⟩
def F.EMB_ACK_ADDR_queue : Field := ⟨5, 0⟩
def F.EMB_ACK_DATA_ack : Field := ⟨31, 0⟩
def F.EMB_REC_BLOOMS_blooms : Field := ⟨18, 0⟩
def F.EMB_REC_AREA_area : Field := ⟨31, 0⟩
def F.WCK_CORE_STATUS_state : Field := ⟨31, 30⟩
def F.WCK_CORE_STATUS_mode : Field := ⟨29, 29⟩
def F.WCK_CORE_STATUS_ie : Field := ⟨28, 28⟩
def F.WCK_CORE_STATUS_ex : Field := ⟨27, 27⟩
def F.WCK_CORE_STATUS_rp : Field := ⟨20, 16⟩
def F.WCK_CORE_STATUS_halt_cause : Field := ⟨15, 8⟩
def F.WCK_CORE_STATUS_last_cause : Field := ⟨7, 0⟩
def F.WCK_PC_pc : Field := ⟨31, 0⟩
def F.WCK_EPC_epc : Field := ⟨31, 0⟩
def F.WCK_BADADDR_badaddr : Field := ⟨31, 0⟩
def F.WCK_WDOG_enable : Field := ⟨31, 31⟩
def F.WCK_WDOG_timeout_us : Field := ⟨19, 0⟩
def F.WCK_SWI_swi : Field := ⟨7, 0⟩
def F.WCK_SVC_NUM_pending : Field := ⟨31, 31⟩
def F.WCK_SVC_NUM_number : Field := ⟨15, 0⟩
def F.WCK_SVC_ARG_arg : Field := ⟨31, 0⟩
def F.WCK_SVC_RET_LO_value_lo : Field := ⟨31, 0⟩
def F.WCK_SVC_RET_HI_value_hi : Field := ⟨31, 0⟩
def F.WCK_SVC_DONE_status : Field := ⟨7, 0⟩
def F.WCK_FLAGS_ecc_retry : Field := ⟨8, 8⟩
def F.WCK_FLAGS_wdog : Field := ⟨7, 4⟩
def F.WCK_FLAGS_halted : Field := ⟨3, 0⟩
def F.WCK_EVCNT_count : Field := ⟨31, 0⟩
def F.WCK_ECC_CORR_count : Field := ⟨31, 0⟩
def F.WCK_ECC_RETRY_count : Field := ⟨31, 0⟩
def F.HST_QUENCH_pin : Field := ⟨2, 2⟩
def F.HST_QUENCH_release : Field := ⟨1, 1⟩
def F.HST_QUENCH_quench : Field := ⟨0, 0⟩
def F.HST_LINK_width : Field := ⟨11, 8⟩
def F.HST_LINK_flit : Field := ⟨7, 7⟩
def F.HST_LINK_speed : Field := ⟨3, 0⟩
def F.HST_FLAGS_aer : Field := ⟨6, 6⟩
def F.HST_FLAGS_q_watermark : Field := ⟨5, 5⟩
def F.HST_FLAGS_q_fault : Field := ⟨4, 4⟩
def F.HST_FLAGS_ring_error : Field := ⟨3, 3⟩
def F.HST_FLAGS_link_degraded : Field := ⟨2, 2⟩
def F.HST_FLAGS_quench_released : Field := ⟨1, 1⟩
def F.HST_FLAGS_quench_entered : Field := ⟨0, 0⟩
def F.HST_EVCNT_count : Field := ⟨31, 0⟩
def F.HST_CMD_STATUS_busy : Field := ⟨31, 31⟩
def F.HST_CMD_SEQ_LO_seq_lo : Field := ⟨31, 0⟩
def F.HST_CMD_SEQ_HI_seq_hi : Field := ⟨7, 0⟩
def F.HST_CMD_BAD_count : Field := ⟨31, 0⟩
def F.HST_BP_CFG_stream : Field := ⟨31, 31⟩
def F.HST_BP_HANDLE_handle : Field := ⟨31, 0⟩
def F.HST_BP_BASE_LO_base_lo : Field := ⟨31, 0⟩
def F.HST_BP_BASE_HI_base_hi : Field := ⟨7, 0⟩
def F.HST_BP_PTR_LO_ptr_lo : Field := ⟨31, 0⟩
def F.HST_BP_PTR_HI_ptr_hi : Field := ⟨7, 0⟩
def F.HST_Q_CFG_enable : Field := ⟨31, 31⟩
def F.HST_Q_CFG_pages : Field := ⟨10, 0⟩
def F.HST_Q_LEVEL_high_water : Field := ⟨30, 16⟩
def F.HST_Q_LEVEL_level : Field := ⟨14, 0⟩
def F.HST_Q_WM_threshold : Field := ⟨14, 0⟩
def F.HST_Q_FLAGS_ecc_lasting : Field := ⟨3, 3⟩
def F.HST_Q_FLAGS_drop : Field := ⟨2, 2⟩
def F.HST_Q_FLAGS_snuffed : Field := ⟨1, 1⟩
def F.HST_Q_FLAGS_watermark : Field := ⟨0, 0⟩
def F.HST_Q_ECC_count : Field := ⟨31, 0⟩
def F.HST_Q_DROP_count : Field := ⟨31, 0⟩
def F.HST_Q_CTRL_snuff_busy : Field := ⟨31, 31⟩
def F.HST_Q_CTRL_snuff : Field := ⟨0, 0⟩
def F.HST_Q_ACK_ack : Field := ⟨31, 0⟩
def F.HST_Q_EVCNT_count : Field := ⟨31, 0⟩
def F.HST_RING_CFG_enable : Field := ⟨31, 31⟩
def F.HST_RING_CFG_kind : Field := ⟨30, 29⟩
def F.HST_RING_CFG_dense : Field := ⟨28, 28⟩
def F.HST_RING_CFG_notify_en : Field := ⟨27, 27⟩
def F.HST_RING_CFG_notify : Field := ⟨26, 22⟩
def F.HST_RING_CFG_size_log2 : Field := ⟨20, 16⟩
def F.HST_RING_CFG_queue : Field := ⟨5, 0⟩
def F.HST_RING_BASE_LO_base_lo : Field := ⟨31, 6⟩
def F.HST_RING_BASE_HI_base_hi : Field := ⟨31, 0⟩
def F.HST_RING_WB_LO_wb_lo : Field := ⟨31, 3⟩
def F.HST_RING_WB_HI_wb_hi : Field := ⟨31, 0⟩
def F.HST_RING_DEV_dev_ptr : Field := ⟨31, 0⟩
def F.HST_RING_HOST_host_ptr : Field := ⟨31, 0⟩
def F.HST_RING_ERR_code : Field := ⟨7, 0⟩
def F.EVT_SRC_enable : Field := ⟨31, 31⟩
def F.EVT_SRC_mask : Field := ⟨30, 30⟩
def F.EVT_SRC_pending : Field := ⟨29, 29⟩
def F.EVT_SRC_released : Field := ⟨28, 28⟩
def F.EVT_SRC_target : Field := ⟨26, 24⟩
def F.EVT_SRC_priority : Field := ⟨19, 16⟩
def F.EVT_SRC_vector : Field := ⟨5, 0⟩
def F.EVT_GRP_CFG_timer : Field := ⟨31, 16⟩
def F.EVT_GRP_CFG_count : Field := ⟨12, 0⟩
def F.EVT_GRP_HOLD_hold_off : Field := ⟨15, 0⟩
def F.EVT_GRP_STATUS_timing : Field := ⟨31, 31⟩
def F.EVT_GRP_STATUS_held : Field := ⟨30, 30⟩
def F.EVT_GRP_STATUS_accum : Field := ⟨12, 0⟩
def F.EVT_GRP_RAISES_count : Field := ⟨31, 0⟩
def F.EVT_GRP_OPENS_count : Field := ⟨31, 0⟩
def F.EVT_HOST_SEEN_seen : Field := ⟨31, 0⟩
def F.EVT_LTN_CFG_arm : Field := ⟨31, 31⟩
def F.EVT_LTN_CAUSE_source : Field := ⟨9, 0⟩
def F.EVT_LTN_SLOT_valid : Field := ⟨31, 31⟩
def F.EVT_LTN_SLOT_source : Field := ⟨8, 0⟩
def F.EVT_FLAGS_lantern_wake : Field := ⟨0, 0⟩
def F.EVT_EVCNT_0_count : Field := ⟨31, 0⟩
def F.TIM_CFG_source : Field := ⟨31, 30⟩
def F.TIM_CFG_tc_en : Field := ⟨29, 29⟩
def F.TIM_CFG_quench_en : Field := ⟨28, 28⟩
def F.TIM_CFG_domain : Field := ⟨23, 16⟩
def F.TIM_CFG_step_thresh : Field := ⟨15, 0⟩
def F.TIM_SERVO_master_tmo : Field := ⟨31, 24⟩
def F.TIM_SERVO_kp : Field := ⟨12, 8⟩
def F.TIM_SERVO_ki : Field := ⟨4, 0⟩
def F.TIM_STATUS_mpd_valid : Field := ⟨9, 9⟩
def F.TIM_STATUS_restep_armed : Field := ⟨8, 8⟩
def F.TIM_STATUS_state : Field := ⟨1, 0⟩
def F.TIM_NOW_LO_now_lo : Field := ⟨31, 0⟩
def F.TIM_NOW_MID_now_mid : Field := ⟨31, 0⟩
def F.TIM_NOW_HI_now_hi : Field := ⟨7, 0⟩
def F.TIM_RATE_rate : Field := ⟨31, 0⟩
def F.TIM_OFS_LO_ofs_lo : Field := ⟨31, 0⟩
def F.TIM_OFS_HI_ofs_hi : Field := ⟨31, 0⟩
def F.TIM_MPD_mpd : Field := ⟨31, 0⟩
def F.TIM_HOST_OFS_LO_hofs_lo : Field := ⟨31, 0⟩
def F.TIM_HOST_OFS_HI_hofs_hi : Field := ⟨31, 0⟩
def F.TIM_QKEY_qkey : Field := ⟨31, 0⟩
def F.TIM_FLAGS_rx_discard : Field := ⟨8, 8⟩
def F.TIM_FLAGS_quench_rx : Field := ⟨7, 7⟩
def F.TIM_FLAGS_tx_drop : Field := ⟨6, 6⟩
def F.TIM_FLAGS_link1 : Field := ⟨5, 5⟩
def F.TIM_FLAGS_link0 : Field := ⟨4, 4⟩
def F.TIM_FLAGS_master_lost : Field := ⟨3, 3⟩
def F.TIM_FLAGS_held : Field := ⟨2, 2⟩
def F.TIM_FLAGS_holdover : Field := ⟨1, 1⟩
def F.TIM_FLAGS_step : Field := ⟨0, 0⟩
def F.TIM_EVCNT_count : Field := ⟨31, 0⟩
def F.TIM_PP_CFG_enable : Field := ⟨31, 31⟩
def F.TIM_PP_CFG_speed25 : Field := ⟨30, 30⟩
def F.TIM_PP_CFG_jumbo : Field := ⟨29, 29⟩
def F.TIM_PP_CFG_ptp_l2 : Field := ⟨28, 28⟩
def F.TIM_PP_CFG_ptp_pcp : Field := ⟨27, 25⟩
def F.TIM_PP_CFG_vlan_en : Field := ⟨24, 24⟩
def F.TIM_PP_CFG_vlan_id : Field := ⟨23, 12⟩
def F.TIM_PP_CFG_tx_q : Field := ⟨5, 0⟩
def F.TIM_PP_MAC_LO_mac_lo : Field := ⟨31, 0⟩
def F.TIM_PP_MAC_HI_mac_hi : Field := ⟨15, 0⟩
def F.TIM_PP_IP_ip : Field := ⟨31, 0⟩
def F.TIM_PP_STATUS_link_up : Field := ⟨31, 31⟩
def F.TIM_PP_TX_DGRAMS_count : Field := ⟨31, 0⟩
def F.TIM_PP_TX_DROP_count : Field := ⟨31, 0⟩
def F.TIM_PP_RX_FRAMES_count : Field := ⟨31, 0⟩
def F.TIM_PP_RX_DISCARD_count : Field := ⟨31, 0⟩
def F.TIM_PP_TC_FWD_count : Field := ⟨31, 0⟩
def F.TIM_PP_QUENCH_RX_count : Field := ⟨31, 0⟩
def F.TIM_DST_MAC_LO_mac_lo : Field := ⟨31, 0⟩
def F.TIM_DST_MAC_HI_pcp : Field := ⟨18, 16⟩
def F.TIM_DST_MAC_HI_mac_hi : Field := ⟨15, 0⟩
def F.TIM_DST_IP_ip : Field := ⟨31, 0⟩
def F.TIM_DST_UDP_udp_dst : Field := ⟨31, 16⟩
def F.TIM_DST_UDP_udp_src : Field := ⟨15, 0⟩
def F.TIM_GPIO_DIR_dir : Field := ⟨31, 0⟩
def F.TIM_GPIO_OUT_out : Field := ⟨31, 0⟩
def F.TIM_GPIO_IN_in : Field := ⟨31, 0⟩
def F.TMP_CFG_hbm_en : Field := ⟨31, 31⟩
def F.TMP_CFG_tdc_en : Field := ⟨30, 30⟩
def F.TMP_CFG_hbm_freeze : Field := ⟨29, 29⟩
def F.TMP_CFG_tdc_freeze : Field := ⟨28, 28⟩
def F.TMP_CFG_temp_step : Field := ⟨27, 24⟩
def F.TMP_CFG_hbm_period_ms : Field := ⟨15, 0⟩
def F.TMP_TDC_PERIOD_tdc_period_ms : Field := ⟨15, 0⟩
def F.TMP_CMD_run_tdc : Field := ⟨1, 1⟩
def F.TMP_CMD_run_hbm : Field := ⟨0, 0⟩
def F.TMP_STATUS_hbm_busy : Field := ⟨31, 31⟩
def F.TMP_STATUS_hbm_waiting : Field := ⟨30, 30⟩
def F.TMP_STATUS_tdc_busy : Field := ⟨29, 29⟩
def F.TMP_STATUS_since_ms : Field := ⟨15, 0⟩
def F.TMP_FLAGS_deskew_err : Field := ⟨6, 6⟩
def F.TMP_FLAGS_tdc_lasting : Field := ⟨5, 5⟩
def F.TMP_FLAGS_tdc_retry : Field := ⟨4, 4⟩
def F.TMP_FLAGS_hbm_range : Field := ⟨3, 3⟩
def F.TMP_FLAGS_hbm_overdue : Field := ⟨2, 2⟩
def F.TMP_FLAGS_hbm_lasting : Field := ⟨1, 1⟩
def F.TMP_FLAGS_hbm_retry : Field := ⟨0, 0⟩
def F.TMP_EVCNT_count : Field := ⟨31, 0⟩
def F.TMP_HBM_RUNS_count : Field := ⟨31, 0⟩
def F.TMP_TDC_RUNS_count : Field := ⟨31, 0⟩
def F.TMP_HBM_DEFER_count : Field := ⟨31, 0⟩
def F.TMP_HBM_LAST_min_eye : Field := ⟨13, 8⟩
def F.TMP_HBM_LAST_max_move : Field := ⟨5, 0⟩
def F.TMP_COEF_SEL_kind : Field := ⟨29, 28⟩
def F.TMP_COEF_SEL_index : Field := ⟨11, 0⟩
def F.TMP_COEF_DATA_measured : Field := ⟨23, 16⟩
def F.TMP_COEF_DATA_active : Field := ⟨7, 0⟩
def F.BLW_CTRL_auto_reset : Field := ⟨31, 31⟩
def F.BLW_CMD_key : Field := ⟨31, 16⟩
def F.BLW_CMD_device_reset : Field := ⟨0, 0⟩
def F.BLW_RESET_CAUSE_link_resets : Field := ⟨31, 16⟩
def F.BLW_RESET_CAUSE_cause : Field := ⟨3, 0⟩
def F.BLW_BOOT_boot_sel : Field := ⟨31, 30⟩
def F.BLW_BOOT_pushed : Field := ⟨29, 29⟩
def F.BLW_BOOT_boot_ms : Field := ⟨15, 0⟩
def F.BLW_TEMP_die : Field := ⟨27, 16⟩
def F.BLW_TEMP_hbm : Field := ⟨11, 0⟩
def F.BLW_THERM_lock : Field := ⟨31, 31⟩
def F.BLW_THERM_trip : Field := ⟨23, 16⟩
def F.BLW_THERM_warn : Field := ⟨15, 8⟩
def F.BLW_THERM_hbm_warn : Field := ⟨7, 0⟩
def F.BLW_SUPPLY_below_warn : Field := ⟨12, 0⟩
def F.BLW_FLAGS_bank_busy : Field := ⟨3, 3⟩
def F.BLW_FLAGS_supply_warn : Field := ⟨2, 2⟩
def F.BLW_FLAGS_therm_warn : Field := ⟨1, 1⟩
def F.BLW_FLAGS_clk_loss : Field := ⟨0, 0⟩
def F.BLW_EVCNT_count : Field := ⟨31, 0⟩
def F.BLW_BANKS_count : Field := ⟨31, 0⟩
def F.BLW_WAKE_US_wake_us : Field := ⟨15, 0⟩
def F.SEC_STATUS_cust_key : Field := ⟨31, 31⟩
def F.SEC_STATUS_debug_disabled : Field := ⟨30, 30⟩
def F.SEC_STATUS_debug_level : Field := ⟨29, 28⟩
def F.SEC_STATUS_slot_dead : Field := ⟨27, 27⟩
def F.SEC_STATUS_fw_svn_min : Field := ⟨23, 16⟩
def F.SEC_STATUS_rcp_svn_min : Field := ⟨15, 8⟩
def F.SEC_STATUS_rom_version : Field := ⟨7, 0⟩
def F.SEC_FLAGS_prov_fail : Field := ⟨3, 3⟩
def F.SEC_FLAGS_provisioned : Field := ⟨2, 2⟩
def F.SEC_FLAGS_debug_unlocked : Field := ⟨1, 1⟩
def F.SEC_FLAGS_verify_fail : Field := ⟨0, 0⟩
def F.SEC_EVCNT_count : Field := ⟨31, 0⟩
def F.SEC_LAST_FAIL_use : Field := ⟨15, 8⟩
def F.SEC_LAST_FAIL_reason : Field := ⟨7, 0⟩
def F.SEC_BOOT_FAILS_boot_fails : Field := ⟨1, 0⟩
def F.SEC_DEVID_id : Field := ⟨31, 0⟩
def F.SEC_MEAS_SEL_reg : Field := ⟨5, 4⟩
def F.SEC_MEAS_SEL_word : Field := ⟨3, 0⟩
def F.SEC_MEAS_DATA_data : Field := ⟨31, 0⟩
def F.SEC_PUBKEY_SEL_key : Field := ⟨5, 4⟩
def F.SEC_PUBKEY_SEL_word : Field := ⟨3, 0⟩
def F.SEC_PUBKEY_DATA_data : Field := ⟨31, 0⟩
def F.SEC_PROV_DATA_data : Field := ⟨31, 0⟩
def F.SEC_PROV_CMD_key : Field := ⟨31, 16⟩
def F.SEC_PROV_CMD_op : Field := ⟨3, 0⟩
def F.SEC_PROV_STATUS_busy : Field := ⟨31, 31⟩
def F.SEC_PROV_STATUS_result : Field := ⟨7, 0⟩
def F.SEC_DBG_CHAL_chal : Field := ⟨31, 0⟩
def F.SEC_DBG_HANDLE_handle : Field := ⟨31, 0⟩
def F.SEC_DBG_CMD_go : Field := ⟨31, 31⟩
def F.SEC_DBG_CMD_level : Field := ⟨1, 0⟩

/-- Registers of window 0x0, part 0. -/
def regsBellowsPart0 : List RegInfo := [
  ⟨0x0, 0, 1, 0, 1, .por, [⟨F.BLW_ID_vendor, .ro, 8011, []⟩, ⟨F.BLW_ID_device, .ro, 22, []⟩]⟩,
  ⟨0x4, 0, 1, 0, 1, .por, [⟨F.BLW_REV_grade, .ro, 0, []⟩, ⟨F.BLW_REV_step_letter, .ro, 1, []⟩, ⟨F.BLW_REV_step_number, .ro, 0, []⟩]⟩,
  ⟨0x8, 0, 1, 0, 1, .device, [⟨F.BLW_STATE_holdover, .ro, 0, []⟩, ⟨F.BLW_STATE_degraded, .ro, 0, []⟩, ⟨F.BLW_STATE_state, .ro, 1, []⟩]⟩,
  ⟨0xC, 0, 1, 0, 1, .por, [⟨F.BLW_CLK_STATUS_lane_pll_lock, .ro, 0, []⟩, ⟨F.BLW_CLK_STATUS_pcie_pll_lock, .ro, 0, []⟩, ⟨F.BLW_CLK_STATUS_hbm_pll_lock, .ro, 0, []⟩, ⟨F.BLW_CLK_STATUS_sys_pll_lock, .ro, 0, []⟩, ⟨F.BLW_CLK_STATUS_root_ok, .ro, 0, []⟩]⟩,
  ⟨0x1000, 0, 1, 0, 1, .device, [⟨F.BLW_CTRL_auto_reset, .rw, 1, []⟩]⟩,
  ⟨0x1004, 0, 1, 0, 1, .por, [⟨F.BLW_CMD_key, .wo, 0, []⟩, ⟨F.BLW_CMD_device_reset, .wo, 0, []⟩]⟩,
  ⟨0x1008, 0, 1, 0, 1, .por, [⟨F.BLW_RESET_CAUSE_link_resets, .ro, 0, []⟩, ⟨F.BLW_RESET_CAUSE_cause, .ro, 1, []⟩]⟩,
  ⟨0x100C, 0, 1, 0, 1, .por, [⟨F.BLW_BOOT_boot_sel, .ro, 0, []⟩, ⟨F.BLW_BOOT_pushed, .ro, 0, []⟩, ⟨F.BLW_BOOT_boot_ms, .ro, 0, []⟩]⟩,
  ⟨0x1010, 0, 1, 0, 1, .por, [⟨F.BLW_TEMP_die, .ro, 0, []⟩, ⟨F.BLW_TEMP_hbm, .ro, 0, []⟩]⟩,
  ⟨0x1014, 0, 1, 0, 1, .por, [⟨F.BLW_THERM_lock, .w1s, 0, []⟩, ⟨F.BLW_THERM_trip, .rwl, 110, []⟩, ⟨F.BLW_THERM_warn, .rw, 95, []⟩, ⟨F.BLW_THERM_hbm_warn, .rw, 90, []⟩]⟩,
  ⟨0x1018, 0, 1, 0, 1, .por, [⟨F.BLW_SUPPLY_below_warn, .ro, 0, []⟩]⟩,
  ⟨0x101C, 0, 1, 0, 1, .device, [⟨F.BLW_FLAGS_bank_busy, .w1c, 0, []⟩, ⟨F.BLW_FLAGS_supply_warn, .w1c, 0, []⟩, ⟨F.BLW_FLAGS_therm_warn, .w1c, 0, []⟩, ⟨F.BLW_FLAGS_clk_loss, .w1c, 0, []⟩]⟩,
  ⟨0x1020, 4, 4, 0, 1, .device, [⟨F.BLW_EVCNT_count, .ro, 0, []⟩]⟩,
  ⟨0x1030, 0, 1, 0, 1, .device, [⟨F.BLW_BANKS_count, .ro, 0, []⟩]⟩,
  ⟨0x1034, 0, 1, 0, 1, .device, [⟨F.BLW_WAKE_US_wake_us, .ro, 0, []⟩]⟩]
/-- Every register of window 0x0. -/
def regsBellows : List RegInfo :=
  regsBellowsPart0
/-- Registers of window 0x100000, part 0. -/
def regsLanePart0 : List RegInfo := [
  ⟨0x100000, 4096, 16, 0, 1, .device, [⟨F.LANE_PORT_CFG_enable, .rw, 0, []⟩, ⟨F.LANE_PORT_CFG_auto_restart, .rw, 1, []⟩, ⟨F.LANE_PORT_CFG_allow_wimen, .rw, 0, []⟩, ⟨F.LANE_PORT_CFG_max_rate, .rw, 7, [(1, 8)]⟩, ⟨F.LANE_PORT_CFG_layout, .rw, 0, []⟩, ⟨F.LANE_PORT_CFG_evq, .rw, 0, []⟩, ⟨F.LANE_PORT_CFG_disc_timeout, .rw, 100, [(1, 255)]⟩]⟩,
  ⟨0x100004, 4096, 16, 0, 1, .device, [⟨F.LANE_PORT_CMD_restart, .wo, 0, []⟩, ⟨F.LANE_PORT_CMD_stop, .wo, 0, []⟩, ⟨F.LANE_PORT_CMD_start, .wo, 0, []⟩]⟩,
  ⟨0x100010, 4096, 16, 4, 4, .device, [⟨F.LANE_LINK_STATUS_wimen_excluded, .ro, 0, []⟩, ⟨F.LANE_LINK_STATUS_rate, .ro, 0, []⟩, ⟨F.LANE_LINK_STATUS_conns, .ro, 0, []⟩, ⟨F.LANE_LINK_STATUS_state, .ro, 0, []⟩]⟩,
  ⟨0x100020, 4096, 16, 0, 1, .device, [⟨F.LANE_PORT_FLAGS_trig_drop, .w1c, 0, []⟩, ⟨F.LANE_PORT_FLAGS_unsupported, .w1c, 0, []⟩, ⟨F.LANE_PORT_FLAGS_code_error, .w1c, 0, []⟩, ⟨F.LANE_PORT_FLAGS_crc_error, .w1c, 0, []⟩, ⟨F.LANE_PORT_FLAGS_fallback, .w1c, 0, []⟩, ⟨F.LANE_PORT_FLAGS_link_down, .w1c, 0, []⟩, ⟨F.LANE_PORT_FLAGS_link_up, .w1c, 0, []⟩]⟩,
  ⟨0x100040, 4096, 16, 4, 7, .device, [⟨F.LANE_PORT_EVCNT_count, .ro, 0, []⟩]⟩,
  ⟨0x100080, 4096, 16, 0, 1, .device, [⟨F.LANE_CC_ADDR_addr, .rw, 0, []⟩]⟩,
  ⟨0x100084, 4096, 16, 0, 1, .device, [⟨F.LANE_CC_DATA_data, .rw, 0, []⟩]⟩,
  ⟨0x100088, 4096, 16, 0, 1, .device, [⟨F.LANE_CC_CMD_go, .wo, 0, []⟩, ⟨F.LANE_CC_CMD_write, .wo, 0, []⟩, ⟨F.LANE_CC_CMD_link, .wo, 0, []⟩]⟩,
  ⟨0x10008C, 4096, 16, 0, 1, .device, [⟨F.LANE_CC_STATUS_busy, .ro, 0, []⟩, ⟨F.LANE_CC_STATUS_camera_code, .ro, 0, []⟩, ⟨F.LANE_CC_STATUS_result, .ro, 0, []⟩]⟩,
  ⟨0x1000A0, 4096, 16, 0, 1, .device, [⟨F.LANE_TRG_SENT_count, .ro, 0, []⟩]⟩,
  ⟨0x1000A4, 4096, 16, 0, 1, .device, [⟨F.LANE_TRG_ACK_count, .ro, 0, []⟩]⟩,
  ⟨0x10108000, 256, 64, 0, 1, .device, [⟨F.LANE_RX_CFG_ctle_hold, .rw, 0, []⟩, ⟨F.LANE_RX_CFG_dfe_freeze, .rw, 0, []⟩, ⟨F.LANE_RX_CFG_cdr_bw, .rw, 2, []⟩, ⟨F.LANE_RX_CFG_ctle_code, .rw, 0, []⟩, ⟨F.LANE_RX_CFG_dfe_mu, .rw, 8, [(4, 15)]⟩]⟩,
  ⟨0x10108004, 256, 64, 0, 1, .device, [⟨F.LANE_RX_STATUS_ctle_code, .ro, 0, []⟩, ⟨F.LANE_RX_STATUS_block_lock, .ro, 0, []⟩, ⟨F.LANE_RX_STATUS_aligned, .ro, 0, []⟩, ⟨F.LANE_RX_STATUS_cdr_lock, .ro, 0, []⟩, ⟨F.LANE_RX_STATUS_signal_detect, .ro, 0, []⟩, ⟨F.LANE_RX_STATUS_rate, .ro, 0, []⟩]⟩,
  ⟨0x10108008, 256, 64, 0, 1, .device, [⟨F.LANE_DFE_tap1, .ro, 0, []⟩, ⟨F.LANE_DFE_tap2, .ro, 0, []⟩, ⟨F.LANE_DFE_tap3, .ro, 0, []⟩, ⟨F.LANE_DFE_tap4, .ro, 0, []⟩, ⟨F.LANE_DFE_tap5, .ro, 0, []⟩]⟩,
  ⟨0x1010800C, 256, 64, 0, 1, .device, [⟨F.LANE_CDR_freq_offset, .ro, 0, []⟩, ⟨F.LANE_CDR_phase, .ro, 0, []⟩]⟩,
  ⟨0x10108010, 256, 64, 0, 1, .device, [⟨F.LANE_EYE_CTRL_start, .w1s, 0, []⟩, ⟨F.LANE_EYE_CTRL_h_offset, .rw, 0, []⟩, ⟨F.LANE_EYE_CTRL_v_offset, .rw, 0, []⟩, ⟨F.LANE_EYE_CTRL_dwell, .rw, 0, [(0, 12)]⟩]⟩,
  ⟨0x10108014, 256, 64, 0, 1, .device, [⟨F.LANE_EYE_RESULT_done, .ro, 0, []⟩, ⟨F.LANE_EYE_RESULT_errors, .ro, 0, []⟩]⟩,
  ⟨0x10108018, 256, 64, 0, 1, .device, [⟨F.LANE_CRCERR_count, .ro, 0, []⟩]⟩,
  ⟨0x1010801C, 256, 64, 0, 1, .device, [⟨F.LANE_CODEERR_count, .ro, 0, []⟩]⟩]
/-- Every register of window 0x100000. -/
def regsLane : List RegInfo :=
  regsLanePart0
/-- Registers of window 0x200000, part 0. -/
def regsIntakePart0 : List RegInfo := [
  ⟨0x200000, 64, 64, 0, 1, .device, [⟨F.INT_CTX_CFG_enable, .rw, 0, []⟩, ⟨F.INT_CTX_CFG_free_run, .rw, 0, []⟩, ⟨F.INT_CTX_CFG_trig_unit, .rw, 0, []⟩, ⟨F.INT_CTX_CFG_pixel_lane, .rw, 0, []⟩, ⟨F.INT_CTX_CFG_port, .rw, 0, []⟩, ⟨F.INT_CTX_CFG_link, .rw, 0, []⟩, ⟨F.INT_CTX_CFG_stream_id, .rw, 0, []⟩, ⟨F.INT_CTX_CFG_format, .rw, 2, [(0, 4)]⟩]⟩,
  ⟨0x200004, 64, 64, 0, 1, .device, [⟨F.INT_CTX_WIDTH_width, .rw, 16384, [(1, 32768)]⟩]⟩,
  ⟨0x200008, 64, 64, 0, 1, .device, [⟨F.INT_CTX_FILL_fill_value, .rw, 0, []⟩]⟩,
  ⟨0x20000C, 64, 64, 0, 1, .device, [⟨F.INT_CTX_PAIR_max_age_ns, .rw, 10000, [(1, 16777215)]⟩]⟩,
  ⟨0x200010, 64, 64, 0, 1, .device, [⟨F.INT_CTX_RING_stride, .ro, 0, []⟩, ⟨F.INT_CTX_RING_ring_log2, .ro, 0, []⟩]⟩,
  ⟨0x200014, 64, 64, 0, 1, .device, [⟨F.INT_CTX_RING_HANDLE_handle, .ro, 0, []⟩]⟩,
  ⟨0x200018, 64, 64, 0, 1, .device, [⟨F.INT_CTX_FLAGS_format_mismatch, .w1c, 0, []⟩, ⟨F.INT_CTX_FLAGS_unpaired, .w1c, 0, []⟩, ⟨F.INT_CTX_FLAGS_missed, .w1c, 0, []⟩, ⟨F.INT_CTX_FLAGS_overrun, .w1c, 0, []⟩, ⟨F.INT_CTX_FLAGS_dropped, .w1c, 0, []⟩, ⟨F.INT_CTX_FLAGS_crc_error, .w1c, 0, []⟩, ⟨F.INT_CTX_FLAGS_long, .w1c, 0, []⟩, ⟨F.INT_CTX_FLAGS_short, .w1c, 0, []⟩]⟩,
  ⟨0x20001C, 64, 64, 0, 1, .device, [⟨F.INT_CTX_SEQ_LO_seq_lo, .ro, 0, []⟩]⟩,
  ⟨0x200020, 64, 64, 0, 1, .device, [⟨F.INT_CTX_SEQ_HI_seq_hi, .ro, 0, []⟩]⟩,
  ⟨0x200024, 64, 64, 0, 1, .device, [⟨F.INT_CTX_GATED_count, .ro, 0, []⟩]⟩,
  ⟨0x201000, 32, 64, 4, 8, .device, [⟨F.INT_CTX_EVCNT_count, .ro, 0, []⟩]⟩,
  ⟨0x202000, 32, 16, 0, 1, .device, [⟨F.INT_LANE_LEVEL_high_water, .rc, 0, []⟩, ⟨F.INT_LANE_LEVEL_occupancy, .ro, 0, []⟩]⟩,
  ⟨0x202004, 32, 16, 0, 1, .device, [⟨F.INT_LANE_WM_threshold, .rw, 12000, [(1, 14563)]⟩]⟩,
  ⟨0x202008, 32, 16, 0, 1, .device, [⟨F.INT_LANE_FLAGS_watermark, .w1c, 0, []⟩]⟩,
  ⟨0x20200C, 32, 16, 0, 1, .device, [⟨F.INT_LANE_WM_CROSS_count, .ro, 0, []⟩]⟩,
  ⟨0x203000, 0, 1, 0, 1, .device, [⟨F.INT_GLOBAL_CFG_line_timeout_us, .rw, 1000, [(1, 65535)]⟩]⟩,
  ⟨0x203004, 0, 1, 0, 1, .device, [⟨F.INT_UNBOUND_count, .ro, 0, []⟩]⟩,
  ⟨0x203100, 0, 1, 0, 1, .device, [⟨F.INT_REINJ_MASK_LO_mask_lo, .rw, 0, []⟩]⟩,
  ⟨0x203104, 0, 1, 0, 1, .device, [⟨F.INT_REINJ_MASK_HI_mask_hi, .rw, 0, []⟩]⟩,
  ⟨0x203108, 0, 1, 0, 1, .device, [⟨F.INT_REINJ_SEQ_LO_first_seq_lo, .rw, 0, []⟩]⟩,
  ⟨0x20310C, 0, 1, 0, 1, .device, [⟨F.INT_REINJ_SEQ_HI_first_seq_hi, .rw, 0, []⟩]⟩,
  ⟨0x203110, 0, 1, 0, 1, .device, [⟨F.INT_REINJ_COUNT_count, .rw, 0, []⟩]⟩,
  ⟨0x203114, 0, 1, 0, 1, .device, [⟨F.INT_REINJ_CMD_abort, .wo, 0, []⟩, ⟨F.INT_REINJ_CMD_go, .wo, 0, []⟩]⟩,
  ⟨0x203118, 0, 1, 0, 1, .device, [⟨F.INT_REINJ_STATUS_busy, .ro, 0, []⟩, ⟨F.INT_REINJ_STATUS_result, .ro, 0, []⟩]⟩]
/-- Registers of window 0x200000, part 1. -/
def regsIntakePart1 : List RegInfo := [
  ⟨0x20311C, 0, 1, 0, 1, .device, [⟨F.INT_REINJ_DONE_count, .ro, 0, []⟩]⟩,
  ⟨0x203120, 0, 1, 0, 1, .device, [⟨F.INT_REINJ_SKIP_count, .ro, 0, []⟩]⟩]
/-- Every register of window 0x200000. -/
def regsIntake : List RegInfo :=
  regsIntakePart0 ++ regsIntakePart1
/-- Registers of window 0x300000, part 0. -/
def regsCorrectionPart0 : List RegInfo := [
  ⟨0x300000, 64, 64, 0, 1, .device, [⟨F.COR_CTX_NR_sp_kernel, .rw, 0, [(0, 2)]⟩, ⟨F.COR_CTX_NR_sp_thresh, .rw, 262143, []⟩]⟩,
  ⟨0x300004, 64, 64, 0, 1, .device, [⟨F.COR_CTX_TNR_tnr_en, .rw, 0, []⟩, ⟨F.COR_CTX_TNR_k_min, .rw, 16, [(1, 16)]⟩, ⟨F.COR_CTX_TNR_motion_hi, .rw, 0, []⟩, ⟨F.COR_CTX_TNR_motion_lo, .rw, 0, []⟩]⟩,
  ⟨0x300008, 64, 64, 0, 1, .device, [⟨F.COR_CTX_DARK_dark_en, .rw, 0, []⟩, ⟨F.COR_CTX_DARK_offset_step, .rw, 0, []⟩, ⟨F.COR_CTX_DARK_offset_base, .rw, 0, []⟩]⟩,
  ⟨0x30000C, 64, 64, 0, 1, .device, [⟨F.COR_CTX_GAIN_gain_en, .rw, 0, []⟩, ⟨F.COR_CTX_GAIN_gain_shift, .rw, 0, [(0, 2)]⟩, ⟨F.COR_CTX_GAIN_coef_base, .rw, 0, []⟩]⟩,
  ⟨0x300010, 64, 64, 0, 1, .device, [⟨F.COR_CTX_DEF_def_en, .rw, 0, []⟩, ⟨F.COR_CTX_DEF_def_mode, .rw, 0, [(0, 2)]⟩, ⟨F.COR_CTX_DEF_repl_value, .rw, 0, []⟩]⟩,
  ⟨0x300014, 64, 64, 0, 1, .device, [⟨F.COR_CTX_LIN_lin_en, .rw, 0, []⟩, ⟨F.COR_CTX_LIN_lut_sel, .rw, 0, []⟩]⟩,
  ⟨0x300018, 64, 64, 0, 1, .device, [⟨F.COR_CTX_STATUS_apply_pending, .ro, 0, []⟩, ⟨F.COR_CTX_STATUS_old_busy, .ro, 0, []⟩, ⟨F.COR_CTX_STATUS_fenced, .ro, 0, []⟩, ⟨F.COR_CTX_STATUS_active_base, .ro, 0, []⟩]⟩,
  ⟨0x30001C, 64, 64, 0, 1, .device, [⟨F.COR_CTX_TNR_BASE_region, .ro, 0, []⟩, ⟨F.COR_CTX_TNR_BASE_tnr_base, .ro, 0, []⟩]⟩,
  ⟨0x300020, 64, 64, 0, 1, .device, [⟨F.COR_CTX_CMD_apply, .wo, 0, []⟩]⟩,
  ⟨0x300024, 64, 64, 0, 1, .device, [⟨F.COR_CTX_CLIP_count, .ro, 0, []⟩]⟩,
  ⟨0x300028, 64, 64, 0, 1, .device, [⟨F.COR_CTX_CLIP_LIMIT_clip_limit, .rw, 262143, []⟩]⟩,
  ⟨0x302000, 0, 1, 0, 1, .device, [⟨F.COR_FLAGS_snapshot_wait, .w1c, 0, []⟩, ⟨F.COR_FLAGS_capture_done, .w1c, 0, []⟩, ⟨F.COR_FLAGS_clip, .w1c, 0, []⟩, ⟨F.COR_FLAGS_store_refused, .w1c, 0, []⟩, ⟨F.COR_FLAGS_apply_refused, .w1c, 0, []⟩, ⟨F.COR_FLAGS_apply_done, .w1c, 0, []⟩]⟩,
  ⟨0x302004, 4, 6, 0, 1, .device, [⟨F.COR_EVCNT_count, .ro, 0, []⟩]⟩,
  ⟨0x302020, 0, 1, 0, 1, .device, [⟨F.COR_ECC_CORR_count, .ro, 0, []⟩]⟩,
  ⟨0x302100, 0, 1, 0, 1, .device, [⟨F.COR_STORE_ADDR_addr, .rw, 0, []⟩]⟩,
  ⟨0x302104, 0, 1, 0, 1, .device, [⟨F.COR_STORE_DATA_data, .rw, 0, []⟩]⟩,
  ⟨0x302108, 0, 1, 0, 1, .device, [⟨F.COR_LOAD_HANDLE_handle, .rw, 0, []⟩]⟩,
  ⟨0x30210C, 0, 1, 0, 1, .device, [⟨F.COR_LOAD_COUNT_count, .rw, 0, []⟩]⟩,
  ⟨0x302110, 0, 1, 0, 1, .device, [⟨F.COR_LOAD_CMD_go, .wo, 0, []⟩]⟩,
  ⟨0x302114, 0, 1, 0, 1, .device, [⟨F.COR_LOAD_STATUS_busy, .ro, 0, []⟩, ⟨F.COR_LOAD_STATUS_result, .ro, 0, []⟩]⟩,
  ⟨0x302200, 0, 1, 0, 1, .device, [⟨F.COR_LUT_ADDR_addr, .rw, 0, []⟩]⟩,
  ⟨0x302204, 0, 1, 0, 1, .device, [⟨F.COR_LUT_DATA_data, .rw, 0, []⟩]⟩,
  ⟨0x302300, 0, 1, 0, 1, .device, [⟨F.COR_CAP_CFG_ctx, .rw, 0, []⟩, ⟨F.COR_CAP_CFG_tap, .rw, 0, [(0, 2)]⟩]⟩,
  ⟨0x302304, 0, 1, 0, 1, .device, [⟨F.COR_CAP_LINES_lines, .rw, 65536, [(1, 65536)]⟩]⟩]
/-- Registers of window 0x300000, part 1. -/
def regsCorrectionPart1 : List RegInfo := [
  ⟨0x302308, 0, 1, 0, 1, .device, [⟨F.COR_CAP_HANDLE_handle, .rw, 0, []⟩]⟩,
  ⟨0x30230C, 0, 1, 0, 1, .device, [⟨F.COR_CAP_CMD_abort, .wo, 0, []⟩, ⟨F.COR_CAP_CMD_go, .wo, 0, []⟩]⟩,
  ⟨0x302310, 0, 1, 0, 1, .device, [⟨F.COR_CAP_STATUS_busy, .ro, 0, []⟩, ⟨F.COR_CAP_STATUS_done_lines, .ro, 0, []⟩, ⟨F.COR_CAP_STATUS_result, .ro, 0, []⟩]⟩]
/-- Every register of window 0x300000. -/
def regsCorrection : List RegInfo :=
  regsCorrectionPart0 ++ regsCorrectionPart1
/-- Registers of window 0x400000, part 0. -/
def regsStitcherPart0 : List RegInfo := [
  ⟨0x408000, 0, 1, 0, 1, .device, [⟨F.STI_CD_PITCH_cd_descending, .ro, 0, []⟩, ⟨F.STI_CD_PITCH_cd_pitch, .ro, 0, []⟩]⟩,
  ⟨0x408004, 0, 1, 0, 1, .device, [⟨F.STI_CD_ORIGIN_cd_origin, .ro, 0, []⟩]⟩,
  ⟨0x400000, 0, 1, 0, 1, .device, [⟨F.STI_LINE_CFG_bits18, .ro, 0, []⟩, ⟨F.STI_LINE_CFG_ref_seg, .ro, 0, []⟩, ⟨F.STI_LINE_CFG_line_width, .ro, 0, []⟩]⟩,
  ⟨0x400004, 0, 1, 0, 1, .device, [⟨F.STI_STRIPE_CFG_stripes, .ro, 0, []⟩, ⟨F.STI_STRIPE_CFG_stripe_width, .ro, 0, []⟩]⟩,
  ⟨0x400008, 0, 1, 0, 1, .device, [⟨F.STI_TIMING_max_gap, .rw, 2, [(1, 15)]⟩, ⟨F.STI_TIMING_wait_ns, .rw, 20000, [(1, 65535)]⟩]⟩,
  ⟨0x40000C, 0, 1, 0, 1, .device, [⟨F.STI_GAP_gap_value, .rw, 0, []⟩]⟩,
  ⟨0x400010, 0, 1, 0, 1, .device, [⟨F.STI_CORR_CFG_auto_en, .rw, 0, []⟩, ⟨F.STI_CORR_CFG_anchor, .rw, 0, []⟩, ⟨F.STI_CORR_CFG_search, .rw, 4, [(1, 8)]⟩, ⟨F.STI_CORR_CFG_conf, .rw, 8, [(1, 15)]⟩, ⟨F.STI_CORR_CFG_step_max, .rw, 16, []⟩]⟩,
  ⟨0x400014, 0, 1, 0, 1, .device, [⟨F.STI_CMD_apply, .wo, 0, []⟩]⟩,
  ⟨0x400018, 0, 1, 0, 1, .device, [⟨F.STI_STATUS_apply_pending, .ro, 0, []⟩]⟩,
  ⟨0x40001C, 0, 1, 0, 1, .device, [⟨F.STI_STORE_USED_used, .ro, 0, []⟩]⟩,
  ⟨0x400020, 0, 1, 0, 1, .device, [⟨F.STI_STORE_HW_high_water, .rc, 0, []⟩]⟩,
  ⟨0x400024, 0, 1, 0, 1, .device, [⟨F.STI_FLAGS_corr_ready, .w1c, 0, []⟩, ⟨F.STI_FLAGS_store_full, .w1c, 0, []⟩, ⟨F.STI_FLAGS_shift_clamped, .w1c, 0, []⟩, ⟨F.STI_FLAGS_early, .w1c, 0, []⟩, ⟨F.STI_FLAGS_blank, .w1c, 0, []⟩, ⟨F.STI_FLAGS_apply_refused, .w1c, 0, []⟩, ⟨F.STI_FLAGS_apply_done, .w1c, 0, []⟩]⟩,
  ⟨0x400028, 4, 7, 0, 1, .device, [⟨F.STI_EVCNT_count, .ro, 0, []⟩]⟩,
  ⟨0x400044, 0, 1, 0, 1, .device, [⟨F.STI_UNMAPPED_count, .ro, 0, []⟩]⟩,
  ⟨0x400048, 0, 1, 0, 1, .device, [⟨F.STI_REF_ref_lost, .ro, 0, []⟩, ⟨F.STI_REF_ref_timeout_us, .rw, 1000, [(1, 65535)]⟩]⟩,
  ⟨0x40004C, 0, 1, 0, 1, .device, [⟨F.STI_REF_EVCNT_count, .ro, 0, []⟩]⟩,
  ⟨0x400050, 0, 1, 0, 1, .device, [⟨F.STI_REF_ORPHAN_count, .ro, 0, []⟩]⟩,
  ⟨0x401000, 64, 16, 0, 1, .device, [⟨F.STI_SEG_CFG_enable, .rw, 0, []⟩, ⟨F.STI_SEG_CFG_ctx, .rw, 0, []⟩, ⟨F.STI_SEG_CFG_knot_shift, .rw, 8, [(6, 10)]⟩, ⟨F.STI_SEG_CFG_shift_limit, .rw, 256, []⟩]⟩,
  ⟨0x401004, 64, 16, 0, 1, .device, [⟨F.STI_SEG_FIRST_cd_first, .rw, 0, []⟩]⟩,
  ⟨0x401008, 64, 16, 0, 1, .device, [⟨F.STI_SEG_LAST_cd_last, .rw, 0, []⟩]⟩,
  ⟨0x40100C, 64, 16, 0, 1, .device, [⟨F.STI_SEG_U0_u0, .rw, 0, []⟩]⟩,
  ⟨0x401010, 64, 16, 0, 1, .device, [⟨F.STI_SEG_STEP_step, .rw, 65536, [(32768, 131072)]⟩]⟩,
  ⟨0x401014, 64, 16, 0, 1, .device, [⟨F.STI_SEG_MD_md_offset, .rw, 0, []⟩]⟩,
  ⟨0x401018, 64, 16, 0, 1, .device, [⟨F.STI_SEG_LEVEL_seg_gain, .rw, 4096, []⟩, ⟨F.STI_SEG_LEVEL_seg_offset, .rw, 0, []⟩]⟩]
/-- Registers of window 0x400000, part 1. -/
def regsStitcherPart1 : List RegInfo := [
  ⟨0x40101C, 64, 16, 0, 1, .device, [⟨F.STI_SEG_RAMP_ramp_len, .rw, 0, [(0, 1024)]⟩, ⟨F.STI_SEG_RAMP_ramp_start, .rw, 0, []⟩]⟩,
  ⟨0x401020, 64, 16, 0, 1, .device, [⟨F.STI_SEG_SLOTS_slots, .ro, 0, []⟩]⟩,
  ⟨0x401024, 64, 16, 0, 1, .device, [⟨F.STI_SEG_SHIFT_shift, .ro, 0, []⟩]⟩,
  ⟨0x401028, 64, 16, 0, 1, .device, [⟨F.STI_SEAM_MEAS_valid, .ro, 0, []⟩, ⟨F.STI_SEAM_MEAS_interval, .ro, 0, []⟩, ⟨F.STI_SEAM_MEAS_m, .ro, 0, []⟩]⟩,
  ⟨0x40102C, 64, 16, 0, 1, .device, [⟨F.STI_SEAM_MEANL_mean, .ro, 0, []⟩]⟩,
  ⟨0x401030, 64, 16, 0, 1, .device, [⟨F.STI_SEAM_MEANR_mean, .ro, 0, []⟩]⟩,
  ⟨0x401034, 64, 16, 0, 1, .device, [⟨F.STI_SEG_BLANK_count, .ro, 0, []⟩]⟩,
  ⟨0x401038, 64, 16, 0, 1, .device, [⟨F.STI_SEG_EARLY_count, .ro, 0, []⟩]⟩,
  ⟨0x402000, 0, 1, 0, 1, .device, [⟨F.STI_KNOT_ADDR_segment, .rw, 0, []⟩, ⟨F.STI_KNOT_ADDR_knot, .rw, 0, [(0, 64)]⟩]⟩,
  ⟨0x402004, 0, 1, 0, 1, .device, [⟨F.STI_KNOT_DATA_value, .rw, 0, []⟩]⟩]
/-- Every register of window 0x400000. -/
def regsStitcher : List RegInfo :=
  regsStitcherPart0 ++ regsStitcherPart1
/-- Registers of window 0x500000, part 0. -/
def regsAnvilPart0 : List RegInfo := [
  ⟨0x500000, 0, 1, 0, 1, .device, [⟨F.ANV_CFG_window_lines, .ro, 0, []⟩, ⟨F.ANV_CFG_slices, .ro, 0, []⟩]⟩,
  ⟨0x500004, 0, 1, 0, 1, .device, [⟨F.ANV_KSET_ENTRY_entry, .rw, 0, []⟩]⟩,
  ⟨0x500008, 0, 1, 0, 1, .device, [⟨F.ANV_KSET_REGION_last, .rw, 0, []⟩, ⟨F.ANV_KSET_REGION_first, .rw, 0, []⟩]⟩,
  ⟨0x50000C, 0, 1, 0, 1, .device, [⟨F.ANV_KSET_LIMIT_lut_use, .rw, 0, []⟩, ⟨F.ANV_KSET_LIMIT_max_bundles, .rw, 16, [(1, 255)]⟩]⟩,
  ⟨0x500010, 8, 4, 0, 1, .device, [⟨F.ANV_IMG_enable, .ro, 0, []⟩, ⟨F.ANV_IMG_to_hearth, .ro, 0, []⟩, ⟨F.ANV_IMG_ring_log2, .ro, 0, []⟩]⟩,
  ⟨0x500014, 8, 4, 0, 1, .device, [⟨F.ANV_IMG_HANDLE_handle, .ro, 0, []⟩]⟩,
  ⟨0x500030, 0, 1, 0, 1, .device, [⟨F.ANV_CMD_apply, .wo, 0, []⟩]⟩,
  ⟨0x500034, 0, 1, 0, 1, .device, [⟨F.ANV_STATUS_apply_pending, .ro, 0, []⟩, ⟨F.ANV_STATUS_old_busy, .ro, 0, []⟩, ⟨F.ANV_STATUS_active_entry, .ro, 0, []⟩]⟩,
  ⟨0x500038, 0, 1, 0, 1, .device, [⟨F.ANV_FLAGS_sig_fault, .w1c, 0, []⟩, ⟨F.ANV_FLAGS_kfault, .w1c, 0, []⟩, ⟨F.ANV_FLAGS_stall, .w1c, 0, []⟩, ⟨F.ANV_FLAGS_store_refused, .w1c, 0, []⟩, ⟨F.ANV_FLAGS_apply_refused, .w1c, 0, []⟩, ⟨F.ANV_FLAGS_apply_done, .w1c, 0, []⟩]⟩,
  ⟨0x500040, 4, 6, 0, 1, .device, [⟨F.ANV_EVCNT_count, .ro, 0, []⟩]⟩,
  ⟨0x500060, 0, 1, 0, 1, .device, [⟨F.ANV_ECC_CORR_count, .ro, 0, []⟩]⟩,
  ⟨0x500100, 0, 1, 0, 1, .device, [⟨F.ANV_PARAM_ADDR_word, .rw, 0, []⟩]⟩,
  ⟨0x500104, 0, 1, 0, 1, .device, [⟨F.ANV_PARAM_D0_data, .rw, 0, []⟩]⟩,
  ⟨0x500108, 0, 1, 0, 1, .device, [⟨F.ANV_PARAM_D1_data, .rw, 0, []⟩]⟩,
  ⟨0x50010C, 0, 1, 0, 1, .device, [⟨F.ANV_PARAM_D2_data, .rw, 0, []⟩]⟩,
  ⟨0x500200, 0, 1, 0, 1, .device, [⟨F.ANV_KS_ADDR_bundle, .rw, 0, []⟩]⟩,
  ⟨0x500204, 0, 1, 0, 1, .device, [⟨F.ANV_KS_D0_data, .rw, 0, []⟩]⟩,
  ⟨0x500208, 0, 1, 0, 1, .device, [⟨F.ANV_KS_D1_data, .rw, 0, []⟩]⟩,
  ⟨0x50020C, 0, 1, 0, 1, .device, [⟨F.ANV_KS_D2_data, .rw, 0, []⟩]⟩,
  ⟨0x500210, 0, 1, 0, 1, .device, [⟨F.ANV_KS_D3_data, .rw, 0, []⟩]⟩,
  ⟨0x500220, 0, 1, 0, 1, .device, [⟨F.ANV_LUT_ADDR_addr, .rw, 0, []⟩]⟩,
  ⟨0x500224, 0, 1, 0, 1, .device, [⟨F.ANV_LUT_DATA_data, .rw, 0, []⟩]⟩,
  ⟨0x500300, 0, 1, 0, 1, .device, [⟨F.ANV_LOAD_TARGET_target, .rw, 0, [(0, 2)]⟩, ⟨F.ANV_LOAD_TARGET_start, .rw, 0, []⟩]⟩,
  ⟨0x500304, 0, 1, 0, 1, .device, [⟨F.ANV_LOAD_HANDLE_handle, .rw, 0, []⟩]⟩]
/-- Registers of window 0x500000, part 1. -/
def regsAnvilPart1 : List RegInfo := [
  ⟨0x500308, 0, 1, 0, 1, .device, [⟨F.ANV_LOAD_COUNT_count, .rw, 0, [(1, 16384)]⟩]⟩,
  ⟨0x50030C, 0, 1, 0, 1, .device, [⟨F.ANV_LOAD_CMD_go, .wo, 0, []⟩]⟩,
  ⟨0x500310, 0, 1, 0, 1, .device, [⟨F.ANV_LOAD_STATUS_busy, .ro, 0, []⟩, ⟨F.ANV_LOAD_STATUS_result, .ro, 0, []⟩]⟩,
  ⟨0x501000, 64, 16, 0, 1, .device, [⟨F.ANV_SL_STATUS_fenced, .ro, 0, []⟩, ⟨F.ANV_SL_STATUS_active, .ro, 0, []⟩, ⟨F.ANV_SL_STATUS_budget, .ro, 0, []⟩]⟩,
  ⟨0x501004, 64, 16, 0, 1, .device, [⟨F.ANV_SL_LOAD_avg_bundles, .ro, 0, []⟩]⟩,
  ⟨0x501008, 64, 16, 0, 1, .device, [⟨F.ANV_SL_STALL_cycles, .ro, 0, []⟩]⟩,
  ⟨0x50100C, 64, 16, 0, 1, .device, [⟨F.ANV_SL_KFAULT_count, .ro, 0, []⟩]⟩,
  ⟨0x501010, 64, 16, 0, 1, .device, [⟨F.ANV_SL_KFINFO_code, .ro, 0, []⟩, ⟨F.ANV_SL_KFINFO_column, .ro, 0, []⟩]⟩,
  ⟨0x501014, 64, 16, 0, 1, .device, [⟨F.ANV_SL_DETECT_count, .ro, 0, []⟩]⟩,
  ⟨0x501018, 64, 16, 0, 1, .device, [⟨F.ANV_SL_SIG_crc, .ro, 0, []⟩]⟩]
/-- Every register of window 0x500000. -/
def regsAnvil : List RegInfo :=
  regsAnvilPart0 ++ regsAnvilPart1
/-- Registers of window 0x600000, part 0. -/
def regsBloomPart0 : List RegInfo := [
  ⟨0x600000, 0, 1, 0, 1, .device, [⟨F.BLM_CFG_conn4, .rw, 0, []⟩, ⟨F.BLM_CFG_max_lines, .rw, 0, []⟩]⟩,
  ⟨0x600004, 0, 1, 0, 1, .device, [⟨F.BLM_OUT_rec_q, .rw, 0, []⟩, ⟨F.BLM_OUT_drain_us, .rw, 100, [(1, 65535)]⟩]⟩,
  ⟨0x600008, 0, 1, 0, 1, .device, [⟨F.BLM_MIN_AREA_min_area, .rw, 1, [(1, 4294967295)]⟩]⟩,
  ⟨0x60000C, 0, 1, 0, 1, .device, [⟨F.BLM_MARK_MIN_mark_min_area, .rw, 1, [(1, 4294967295)]⟩]⟩,
  ⟨0x600010, 0, 1, 0, 1, .device, [⟨F.BLM_CLASS_mark_mask, .rw, 0, []⟩, ⟨F.BLM_CLASS_crop_mask, .rw, 0, []⟩]⟩,
  ⟨0x600014, 0, 1, 0, 1, .device, [⟨F.BLM_CROP_CFG_crop_en, .rw, 0, []⟩, ⟨F.BLM_CROP_CFG_channel, .rw, 0, []⟩, ⟨F.BLM_CROP_CFG_margin_md, .rw, 0, []⟩, ⟨F.BLM_CROP_CFG_margin_cd, .rw, 0, []⟩]⟩,
  ⟨0x600018, 0, 1, 0, 1, .device, [⟨F.BLM_CROP_MAX_max_kwords, .rw, 256, [(1, 65535)]⟩]⟩,
  ⟨0x60001C, 0, 1, 0, 1, .device, [⟨F.BLM_CMD_flush, .wo, 0, []⟩]⟩,
  ⟨0x600020, 0, 1, 0, 1, .device, [⟨F.BLM_OPEN_ovf_open, .ro, 0, []⟩, ⟨F.BLM_OPEN_open, .ro, 0, []⟩]⟩,
  ⟨0x600024, 0, 1, 0, 1, .device, [⟨F.BLM_OPEN_HW_high_water, .rc, 0, []⟩]⟩,
  ⟨0x600028, 0, 1, 0, 1, .device, [⟨F.BLM_OPEN_WM_threshold, .rw, 196608, [(1, 262144)]⟩]⟩,
  ⟨0x60002C, 0, 1, 0, 1, .device, [⟨F.BLM_OPEN_CROSS_count, .ro, 0, []⟩]⟩,
  ⟨0x600030, 0, 1, 0, 1, .device, [⟨F.BLM_SERIAL_LO_serial_lo, .ro, 0, []⟩]⟩,
  ⟨0x600034, 0, 1, 0, 1, .device, [⟨F.BLM_SERIAL_HI_serial_hi, .ro, 0, []⟩]⟩,
  ⟨0x600038, 0, 1, 0, 1, .device, [⟨F.BLM_SEQ_LO_seq_lo, .ro, 0, []⟩]⟩,
  ⟨0x60003C, 0, 1, 0, 1, .device, [⟨F.BLM_SEQ_HI_seq_hi, .ro, 0, []⟩]⟩,
  ⟨0x600040, 0, 1, 0, 1, .device, [⟨F.BLM_FLAGS_run_overload, .w1c, 0, []⟩, ⟨F.BLM_FLAGS_rec_hold, .w1c, 0, []⟩, ⟨F.BLM_FLAGS_crop_refused, .w1c, 0, []⟩, ⟨F.BLM_FLAGS_crop_partial, .w1c, 0, []⟩, ⟨F.BLM_FLAGS_forced, .w1c, 0, []⟩, ⟨F.BLM_FLAGS_watermark, .w1c, 0, []⟩, ⟨F.BLM_FLAGS_overflow, .w1c, 0, []⟩]⟩,
  ⟨0x600044, 4, 7, 0, 1, .device, [⟨F.BLM_EVCNT_count, .ro, 0, []⟩]⟩,
  ⟨0x600060, 0, 1, 0, 1, .device, [⟨F.BLM_RECORDS_count, .ro, 0, []⟩]⟩,
  ⟨0x600064, 0, 1, 0, 1, .device, [⟨F.BLM_DISCARD_count, .ro, 0, []⟩]⟩,
  ⟨0x600068, 0, 1, 0, 1, .device, [⟨F.BLM_OVF_RUNS_count, .ro, 0, []⟩]⟩,
  ⟨0x60006C, 0, 1, 0, 1, .device, [⟨F.BLM_LINES_count, .ro, 0, []⟩]⟩,
  ⟨0x600070, 0, 1, 0, 1, .device, [⟨F.BLM_CB_LEVEL_used, .ro, 0, []⟩]⟩,
  ⟨0x600074, 0, 1, 0, 1, .device, [⟨F.BLM_REC_FIFO_waiting, .ro, 0, []⟩]⟩]
/-- Every register of window 0x600000. -/
def regsBloom : List RegInfo :=
  regsBloomPart0
/-- Registers of window 0x700000, part 0. -/
def regsPositionPart0 : List RegInfo := [
  ⟨0x708000, 0, 1, 0, 1, .device, [⟨F.ENC_COORD_md_downstream_negative, .ro, 0, []⟩, ⟨F.ENC_COORD_valid, .ro, 0, []⟩, ⟨F.ENC_COORD_master, .ro, 0, []⟩]⟩,
  ⟨0x708004, 0, 1, 0, 1, .device, [⟨F.ENC_MD_SCALE_md_scale, .ro, 0, []⟩]⟩,
  ⟨0x708100, 4, 64, 0, 1, .device, [⟨F.ENC_EXPOFS_offset_ns, .rw, 0, []⟩]⟩,
  ⟨0x700000, 256, 4, 0, 1, .por, [⟨F.ENC_CFG_enable, .rw, 0, []⟩, ⟨F.ENC_CFG_mode, .rw, 0, [(0, 1)]⟩, ⟨F.ENC_CFG_invert_dir, .rw, 0, []⟩, ⟨F.ENC_CFG_z_active_low, .rw, 0, []⟩, ⟨F.ENC_CFG_gap_kind, .rw, 0, [(0, 2)]⟩, ⟨F.ENC_CFG_gap_teeth, .rw, 1, [(1, 3)]⟩, ⟨F.ENC_CFG_gap_ratio, .rw, 24, [(17, 255)]⟩]⟩,
  ⟨0x700004, 256, 4, 0, 1, .por, [⟨F.ENC_STILL_timeout_us, .rw, 100000, [(1, 500000)]⟩]⟩,
  ⟨0x700008, 256, 4, 0, 1, .por, [⟨F.ENC_COUNT_LO_count_lo, .ro, 0, []⟩]⟩,
  ⟨0x70000C, 256, 4, 0, 1, .por, [⟨F.ENC_COUNT_HI_count_hi, .ro, 0, []⟩]⟩,
  ⟨0x700010, 256, 4, 0, 1, .por, [⟨F.ENC_PERIOD_valid, .ro, 0, []⟩, ⟨F.ENC_PERIOD_period, .ro, 0, []⟩]⟩,
  ⟨0x700014, 256, 4, 0, 1, .por, [⟨F.ENC_STATUS_moving, .ro, 0, []⟩, ⟨F.ENC_STATUS_dir_up, .ro, 0, []⟩, ⟨F.ENC_STATUS_preset_refused, .w1c, 0, []⟩, ⟨F.ENC_STATUS_ref_seen, .w1c, 0, []⟩, ⟨F.ENC_STATUS_reversal, .w1c, 0, []⟩, ⟨F.ENC_STATUS_still, .w1c, 0, []⟩, ⟨F.ENC_STATUS_illegal, .w1c, 0, []⟩]⟩,
  ⟨0x700018, 256, 4, 4, 5, .por, [⟨F.ENC_EVCNT_count, .ro, 0, []⟩]⟩,
  ⟨0x70002C, 256, 4, 0, 1, .por, [⟨F.ENC_UNCERT_uncert, .rc, 0, []⟩]⟩,
  ⟨0x700030, 256, 4, 0, 1, .por, [⟨F.ENC_PRESET_LO_preset_lo, .rw, 0, []⟩]⟩,
  ⟨0x700034, 256, 4, 0, 1, .por, [⟨F.ENC_PRESET_HI_preset_hi, .rw, 0, []⟩]⟩,
  ⟨0x700038, 256, 4, 0, 1, .por, [⟨F.ENC_CMD_arm_ref, .wo, 0, []⟩, ⟨F.ENC_CMD_preset_now, .wo, 0, []⟩]⟩,
  ⟨0x701000, 64, 16, 0, 1, .device, [⟨F.ENC_TRG_CFG_enable, .rw, 0, []⟩, ⟨F.ENC_TRG_CFG_bidir, .rw, 0, []⟩, ⟨F.ENC_TRG_CFG_fwd_negative, .rw, 0, []⟩, ⟨F.ENC_TRG_CFG_ltrig_en, .rw, 0, []⟩, ⟨F.ENC_TRG_CFG_encoder, .rw, 0, []⟩, ⟨F.ENC_TRG_CFG_cxp_en, .rw, 0, []⟩, ⟨F.ENC_TRG_CFG_pulse_width, .rw, 16, [(1, 255)]⟩, ⟨F.ENC_TRG_CFG_cxp_ports, .rw, 0, []⟩]⟩,
  ⟨0x701004, 64, 16, 0, 1, .device, [⟨F.ENC_TRG_NEXT_LO_next_whole_lo, .rw, 0, []⟩, ⟨F.ENC_TRG_NEXT_LO_next_frac, .rw, 0, []⟩]⟩,
  ⟨0x701008, 64, 16, 0, 1, .device, [⟨F.ENC_TRG_NEXT_HI_next_whole_hi, .rw, 0, []⟩]⟩,
  ⟨0x70100C, 64, 16, 0, 1, .device, [⟨F.ENC_TRG_PERIOD_period_whole, .rw, 0, []⟩, ⟨F.ENC_TRG_PERIOD_period_frac, .rw, 0, []⟩]⟩,
  ⟨0x701010, 64, 16, 0, 1, .device, [⟨F.ENC_TRG_MININT_min_interval, .rw, 625, [(1, 65535)]⟩]⟩,
  ⟨0x701014, 64, 16, 0, 1, .device, [⟨F.ENC_TRG_STATUS_late, .w1c, 0, []⟩]⟩,
  ⟨0x701018, 64, 16, 0, 1, .device, [⟨F.ENC_TRG_LATE_EVT_count, .ro, 0, []⟩]⟩,
  ⟨0x70101C, 64, 16, 0, 1, .device, [⟨F.ENC_TRG_LATE_PTS_count, .ro, 0, []⟩]⟩,
  ⟨0x701020, 64, 16, 0, 1, .device, [⟨F.ENC_TRG_FIRED_count, .ro, 0, []⟩]⟩,
  ⟨0x702000, 16, 16, 0, 1, .device, [⟨F.ENC_LAT_CFG_enable, .rw, 0, []⟩, ⟨F.ENC_LAT_CFG_source, .rw, 255, [(0, 67), (80, 95), (255, 255)]⟩, ⟨F.ENC_LAT_CFG_encoder, .rw, 0, []⟩, ⟨F.ENC_LAT_CFG_queue, .rw, 0, []⟩]⟩]
/-- Registers of window 0x700000, part 1. -/
def regsPositionPart1 : List RegInfo := [
  ⟨0x702004, 16, 16, 0, 1, .device, [⟨F.ENC_LAT_CMD_latch_now, .wo, 0, []⟩]⟩,
  ⟨0x702008, 16, 16, 0, 1, .device, [⟨F.ENC_LAT_DROP_dropped, .ro, 0, []⟩]⟩]
/-- Every register of window 0x700000. -/
def regsPosition : List RegInfo :=
  regsPositionPart0 ++ regsPositionPart1
/-- Registers of window 0x800000, part 0. -/
def regsTongsPart0 : List RegInfo := [
  ⟨0x800000, 0, 1, 0, 1, .device, [⟨F.TNG_CFG_commit, .rw, 20, [(16, 40000)]⟩]⟩,
  ⟨0x800004, 0, 1, 0, 1, .device, [⟨F.TNG_PEND_pending, .ro, 0, []⟩]⟩,
  ⟨0x800008, 0, 1, 0, 1, .device, [⟨F.TNG_CAP_capacity, .ro, 65536, []⟩]⟩,
  ⟨0x80000C, 0, 1, 0, 1, .device, [⟨F.TNG_PEND_WM_threshold, .rw, 49152, [(1, 65536)]⟩]⟩,
  ⟨0x800010, 0, 1, 0, 1, .device, [⟨F.TNG_PEND_HW_high_water, .rc, 0, []⟩]⟩,
  ⟨0x800014, 0, 1, 0, 1, .device, [⟨F.TNG_FLAGS_watermark, .w1c, 0, []⟩, ⟨F.TNG_FLAGS_cancel, .w1c, 0, []⟩, ⟨F.TNG_FLAGS_not_armed, .w1c, 0, []⟩, ⟨F.TNG_FLAGS_full_drop, .w1c, 0, []⟩, ⟨F.TNG_FLAGS_late_fired, .w1c, 0, []⟩, ⟨F.TNG_FLAGS_late_discard, .w1c, 0, []⟩]⟩,
  ⟨0x800018, 4, 6, 0, 1, .device, [⟨F.TNG_EVCNT_count, .ro, 0, []⟩]⟩,
  ⟨0x800030, 0, 1, 0, 1, .device, [⟨F.TNG_WM_CROSS_count, .ro, 0, []⟩]⟩,
  ⟨0x800034, 0, 1, 0, 1, .device, [⟨F.TNG_MARKS_count, .ro, 0, []⟩]⟩,
  ⟨0x800038, 0, 1, 0, 1, .device, [⟨F.TNG_FIRED_count, .ro, 0, []⟩]⟩,
  ⟨0x80003C, 0, 1, 0, 1, .device, [⟨F.TNG_NOCHAN_count, .ro, 0, []⟩]⟩,
  ⟨0x801000, 32, 8, 0, 1, .device, [⟨F.TNG_LINK_CFG_enable, .rw, 0, []⟩, ⟨F.TNG_LINK_CFG_link_delay_ns, .rw, 0, []⟩]⟩,
  ⟨0x801004, 32, 8, 0, 1, .device, [⟨F.TNG_LINK_FIRE_count, .ro, 0, []⟩]⟩,
  ⟨0x801008, 32, 8, 0, 1, .device, [⟨F.TNG_LINK_CANCEL_count, .ro, 0, []⟩]⟩,
  ⟨0x80100C, 32, 8, 0, 1, .device, [⟨F.TNG_LINK_SYNC_count, .ro, 0, []⟩]⟩,
  ⟨0x801010, 32, 8, 0, 1, .device, [⟨F.TNG_LINK_CONFIG_count, .ro, 0, []⟩]⟩,
  ⟨0x808000, 32, 1024, 0, 1, .device, [⟨F.TNG_CH_CFG_enable, .rw, 0, []⟩, ⟨F.TNG_CH_CFG_late_fire, .rw, 0, []⟩, ⟨F.TNG_CH_CFG_class_mask, .rw, 32767, []⟩]⟩,
  ⟨0x808004, 32, 1024, 0, 1, .device, [⟨F.TNG_CH_CDLO_cd_lo, .rw, 0, []⟩]⟩,
  ⟨0x808008, 32, 1024, 0, 1, .device, [⟨F.TNG_CH_CDHI_cd_hi, .rw, 0, []⟩]⟩,
  ⟨0x80800C, 32, 1024, 0, 1, .device, [⟨F.TNG_CH_OFS_ofs, .rw, 0, []⟩]⟩,
  ⟨0x808010, 32, 1024, 0, 1, .device, [⟨F.TNG_CH_ACT_act_ns, .rw, 0, []⟩]⟩,
  ⟨0x808014, 32, 1024, 0, 1, .device, [⟨F.TNG_CH_WIDTH_width_us, .rw, 1000, [(1, 65535)]⟩]⟩,
  ⟨0x808018, 32, 1024, 0, 1, .device, [⟨F.TNG_CH_COUNT_count, .ro, 0, []⟩]⟩]
/-- Every register of window 0x800000. -/
def regsTongs : List RegInfo :=
  regsTongsPart0
/-- Registers of window 0x900000, part 0. -/
def regsStreamsPart0 : List RegInfo := [
  ⟨0x900000, 256, 8, 0, 1, .device, [⟨F.OST_CFG_source, .rw, 0, [(0, 5)]⟩, ⟨F.OST_CFG_mode, .rw, 0, [(0, 1)]⟩, ⟨F.OST_CFG_order, .rw, 0, [(0, 2)]⟩, ⟨F.OST_CFG_out18, .rw, 0, []⟩, ⟨F.OST_CFG_host_dma, .rw, 0, []⟩, ⟨F.OST_CFG_dma_ring, .rw, 0, []⟩, ⟨F.OST_CFG_start_at_seq, .rw, 0, []⟩, ⟨F.OST_CFG_class_mask, .rw, 32767, []⟩]⟩,
  ⟨0x900004, 256, 8, 0, 1, .device, [⟨F.OST_CROP_cd_first, .rw, 0, []⟩]⟩,
  ⟨0x900008, 256, 8, 0, 1, .device, [⟨F.OST_WIDTH_cd_width, .rw, 4096, [(1, 262144)]⟩]⟩,
  ⟨0x90000C, 256, 8, 0, 1, .device, [⟨F.OST_DEC_dc, .rw, 2, [(1, 64)]⟩, ⟨F.OST_DEC_dm, .rw, 2, [(1, 64)]⟩]⟩,
  ⟨0x900010, 256, 8, 0, 1, .device, [⟨F.OST_PHASE_p_md, .rw, 0, []⟩, ⟨F.OST_PHASE_p_cd, .rw, 0, []⟩]⟩,
  ⟨0x900014, 256, 8, 0, 1, .device, [⟨F.OST_SCALE_out_gain, .rw, 32768, [(1, 65535)]⟩, ⟨F.OST_SCALE_md_shift, .rw, 0, []⟩, ⟨F.OST_SCALE_cd_shift, .rw, 0, []⟩]⟩,
  ⟨0x900018, 256, 8, 0, 1, .device, [⟨F.OST_START_LO_start_lo, .rw, 0, []⟩]⟩,
  ⟨0x90001C, 256, 8, 0, 1, .device, [⟨F.OST_START_HI_start_hi, .rw, 0, []⟩]⟩,
  ⟨0x900020, 256, 8, 0, 1, .device, [⟨F.OST_COUNT_out_count, .rw, 0, []⟩]⟩,
  ⟨0x900024, 256, 8, 0, 1, .device, []⟩,
  ⟨0x900028, 256, 8, 0, 1, .device, [⟨F.OST_RING_stride, .ro, 0, []⟩, ⟨F.OST_RING_ring_log2, .ro, 0, []⟩]⟩,
  ⟨0x90002C, 256, 8, 0, 1, .device, [⟨F.OST_HANDLE_handle, .ro, 0, []⟩]⟩,
  ⟨0x900030, 256, 8, 0, 1, .device, [⟨F.OST_CMD_stop, .wo, 0, []⟩, ⟨F.OST_CMD_apply, .wo, 0, []⟩]⟩,
  ⟨0x900034, 256, 8, 0, 1, .device, [⟨F.OST_STATUS_apply_pending, .ro, 0, []⟩, ⟨F.OST_STATUS_state, .ro, 0, []⟩]⟩,
  ⟨0x900038, 256, 8, 0, 1, .device, [⟨F.OST_SEQ_LO_out_seq_lo, .ro, 0, []⟩]⟩,
  ⟨0x90003C, 256, 8, 0, 1, .device, [⟨F.OST_SEQ_HI_out_seq_hi, .ro, 0, []⟩]⟩,
  ⟨0x900040, 256, 8, 0, 1, .device, [⟨F.OST_FLAGS_done, .w1c, 0, []⟩, ⟨F.OST_FLAGS_skip, .w1c, 0, []⟩, ⟨F.OST_FLAGS_drop, .w1c, 0, []⟩, ⟨F.OST_FLAGS_sat, .w1c, 0, []⟩, ⟨F.OST_FLAGS_apply_refused, .w1c, 0, []⟩, ⟨F.OST_FLAGS_apply_done, .w1c, 0, []⟩]⟩,
  ⟨0x900044, 256, 8, 4, 6, .device, [⟨F.OST_EVCNT_count, .ro, 0, []⟩]⟩,
  ⟨0x90005C, 256, 8, 0, 1, .device, [⟨F.OST_SAT_count, .ro, 0, []⟩]⟩,
  ⟨0x900060, 256, 8, 0, 1, .device, [⟨F.OST_DROP_count, .ro, 0, []⟩]⟩,
  ⟨0x900800, 0, 1, 0, 1, .device, [⟨F.OST_SNAP_HANDLE_handle, .ro, 0, []⟩]⟩]
/-- Every register of window 0x900000. -/
def regsStreams : List RegInfo :=
  regsStreamsPart0
/-- Registers of window 0xA00000, part 0. -/
def regsCompressionPart0 : List RegInfo := [
  ⟨0xA00000, 0, 1, 0, 1, .device, [⟨F.CMP_STATE_HANDLE_handle, .rw, 0, []⟩]⟩,
  ⟨0xA00004, 0, 1, 0, 1, .device, [⟨F.CMP_STATUS_busy, .ro, 0, []⟩, ⟨F.CMP_STATUS_open, .ro, 0, []⟩]⟩,
  ⟨0xA00008, 0, 1, 0, 1, .device, [⟨F.CMP_CMD_abort, .wo, 0, []⟩, ⟨F.CMP_CMD_save_all, .wo, 0, []⟩]⟩,
  ⟨0xA0000C, 0, 1, 0, 1, .device, [⟨F.CMP_FLAGS_save_done, .w1c, 0, []⟩, ⟨F.CMP_FLAGS_aborted, .w1c, 0, []⟩, ⟨F.CMP_FLAGS_tbl_refused, .w1c, 0, []⟩, ⟨F.CMP_FLAGS_badarg, .w1c, 0, []⟩, ⟨F.CMP_FLAGS_fault, .w1c, 0, []⟩, ⟨F.CMP_FLAGS_nospace, .w1c, 0, []⟩]⟩,
  ⟨0xA00010, 4, 6, 0, 1, .device, [⟨F.CMP_EVCNT_count, .ro, 0, []⟩]⟩,
  ⟨0xA00028, 0, 1, 0, 1, .device, [⟨F.CMP_ABANDON_count, .ro, 0, []⟩]⟩,
  ⟨0xA00100, 0, 1, 0, 1, .device, [⟨F.CMP_TBL_ADDR_set, .rw, 0, []⟩, ⟨F.CMP_TBL_ADDR_entry, .rw, 0, [(0, 315)]⟩]⟩,
  ⟨0xA00104, 0, 1, 0, 1, .device, [⟨F.CMP_TBL_DATA_length, .rw, 0, []⟩]⟩,
  ⟨0xA01000, 64, 8, 0, 1, .device, [⟨F.CMP_ENG_CFG_enable, .rw, 0, []⟩, ⟨F.CMP_ENG_CFG_jobq, .rw, 0, []⟩]⟩,
  ⟨0xA01004, 64, 8, 0, 1, .device, [⟨F.CMP_ENG_STATUS_busy, .ro, 0, []⟩, ⟨F.CMP_ENG_STATUS_resident, .ro, 0, []⟩, ⟨F.CMP_ENG_STATUS_stream, .ro, 0, []⟩, ⟨F.CMP_ENG_STATUS_last, .ro, 0, []⟩]⟩,
  ⟨0xA01008, 64, 8, 0, 1, .device, [⟨F.CMP_ENG_IN_kbytes, .ro, 0, []⟩]⟩,
  ⟨0xA0100C, 64, 8, 0, 1, .device, [⟨F.CMP_ENG_OUT_kbytes, .ro, 0, []⟩]⟩,
  ⟨0xA01010, 64, 8, 0, 1, .device, [⟨F.CMP_ENG_JOBS_count, .ro, 0, []⟩]⟩,
  ⟨0xA01014, 64, 8, 0, 1, .device, [⟨F.CMP_ENG_FAIL_count, .ro, 0, []⟩]⟩,
  ⟨0xA01018, 64, 8, 0, 1, .device, [⟨F.CMP_ENG_SWAP_count, .ro, 0, []⟩]⟩]
/-- Every register of window 0xA00000. -/
def regsCompression : List RegInfo :=
  regsCompressionPart0
/-- Registers of window 0xB00000, part 0. -/
def regsHearthPart0 : List RegInfo := [
  ⟨0xB00000, 0, 1, 0, 1, .device, [⟨F.HRT_CAP_cap, .ro, 259139, []⟩]⟩,
  ⟨0xB00004, 0, 1, 0, 1, .device, [⟨F.HRT_FREE_free, .ro, 259139, []⟩]⟩,
  ⟨0xB00008, 0, 1, 0, 1, .device, [⟨F.HRT_RESV_resv, .ro, 0, []⟩]⟩,
  ⟨0xB0000C, 0, 1, 0, 1, .device, [⟨F.HRT_PINNED_pinned, .ro, 0, []⟩]⟩,
  ⟨0xB00010, 0, 1, 0, 1, .device, [⟨F.HRT_PIN_LIMIT_pin_limit, .ro, 258115, []⟩]⟩,
  ⟨0xB00014, 0, 1, 0, 1, .device, [⟨F.HRT_SPARES_spares, .ro, 2621, []⟩]⟩,
  ⟨0xB00018, 0, 1, 0, 1, .device, [⟨F.HRT_HANDLES_live, .ro, 0, []⟩]⟩,
  ⟨0xB0001C, 0, 1, 0, 1, .device, [⟨F.HRT_WM_high_wm, .rw, 16384, []⟩, ⟨F.HRT_WM_low_wm, .rw, 8192, []⟩]⟩,
  ⟨0xB00020, 0, 1, 0, 1, .device, [⟨F.HRT_FREE_LW_low_water, .rc, 259139, []⟩]⟩,
  ⟨0xB00024, 0, 1, 0, 1, .link, [⟨F.HRT_SPILL_LO_addr_lo, .rw, 0, []⟩]⟩,
  ⟨0xB00028, 0, 1, 0, 1, .link, [⟨F.HRT_SPILL_HI_addr_hi, .rw, 0, []⟩]⟩,
  ⟨0xB0002C, 0, 1, 0, 1, .link, [⟨F.HRT_SPILL_FRAMES_spill_frames, .rw, 0, []⟩]⟩,
  ⟨0xB00030, 0, 1, 0, 1, .device, [⟨F.HRT_SPILL_USED_used, .ro, 0, []⟩]⟩,
  ⟨0xB00034, 0, 1, 0, 1, .device, [⟨F.HRT_SCRUB_scrub_min, .rw, 60, []⟩]⟩,
  ⟨0xB00040, 0, 1, 0, 1, .device, [⟨F.HRT_FLAGS_bad_access, .w1c, 0, []⟩, ⟨F.HRT_FLAGS_overcommit, .w1c, 0, []⟩, ⟨F.HRT_FLAGS_spill_error, .w1c, 0, []⟩, ⟨F.HRT_FLAGS_starve, .w1c, 0, []⟩, ⟨F.HRT_FLAGS_poison, .w1c, 0, []⟩, ⟨F.HRT_FLAGS_spares_out, .w1c, 0, []⟩, ⟨F.HRT_FLAGS_retire, .w1c, 0, []⟩, ⟨F.HRT_FLAGS_ecc_retry, .w1c, 0, []⟩, ⟨F.HRT_FLAGS_low_free, .w1c, 0, []⟩]⟩,
  ⟨0xB00044, 4, 9, 0, 1, .device, [⟨F.HRT_EVCNT_count, .ro, 0, []⟩]⟩,
  ⟨0xB00068, 0, 1, 0, 1, .device, [⟨F.HRT_STARVE_classes, .rc, 0, []⟩]⟩,
  ⟨0xB0006C, 0, 1, 0, 1, .device, [⟨F.HRT_ECC_CORR_count, .ro, 0, []⟩]⟩,
  ⟨0xB00070, 0, 1, 0, 1, .device, [⟨F.HRT_ECC_RETRY_count, .ro, 0, []⟩]⟩,
  ⟨0xB00074, 0, 1, 0, 1, .device, [⟨F.HRT_RETIRED_count, .ro, 0, []⟩]⟩,
  ⟨0xB00078, 0, 1, 0, 1, .device, [⟨F.HRT_PAGE_OUT_count, .ro, 0, []⟩]⟩,
  ⟨0xB0007C, 0, 1, 0, 1, .device, [⟨F.HRT_PAGE_IN_count, .ro, 0, []⟩]⟩,
  ⟨0xB00080, 4, 5, 0, 1, .device, [⟨F.HRT_CLASS_KB_kbytes, .ro, 0, []⟩]⟩,
  ⟨0xB00094, 0, 1, 0, 1, .device, [⟨F.HRT_LOST_HANDLE_handle, .ro, 0, []⟩]⟩]
/-- Registers of window 0xB00000, part 1. -/
def regsHearthPart1 : List RegInfo := [
  ⟨0xB00098, 0, 1, 0, 1, .device, [⟨F.HRT_LOST_SLOT_slot, .ro, 0, []⟩]⟩,
  ⟨0xB0009C, 0, 1, 0, 1, .device, [⟨F.HRT_LOST_COUNT_count, .ro, 0, []⟩]⟩,
  ⟨0xB01000, 32, 5, 0, 1, .device, [⟨F.HRT_AP_SIZE_size, .rw, 0, []⟩]⟩,
  ⟨0xB01004, 32, 5, 0, 1, .device, [⟨F.HRT_AP_HANDLE_handle, .rw, 0, []⟩]⟩,
  ⟨0xB01008, 32, 5, 0, 1, .device, [⟨F.HRT_AP_CMD_op, .wo, 0, []⟩]⟩,
  ⟨0xB0100C, 32, 5, 0, 1, .device, [⟨F.HRT_AP_STATUS_busy, .ro, 0, []⟩, ⟨F.HRT_AP_STATUS_result, .ro, 0, []⟩]⟩,
  ⟨0xB01010, 32, 5, 0, 1, .device, [⟨F.HRT_AP_INFO_pinned, .ro, 0, []⟩, ⟨F.HRT_AP_INFO_poisoned, .ro, 0, []⟩, ⟨F.HRT_AP_INFO_kind, .ro, 0, []⟩, ⟨F.HRT_AP_INFO_size, .ro, 0, []⟩]⟩]
/-- Every register of window 0xB00000. -/
def regsHearth : List RegInfo :=
  regsHearthPart0 ++ regsHearthPart1
/-- Registers of window 0xC00000, part 0. -/
def regsEmberPart0 : List RegInfo := [
  ⟨0xC00000, 0, 1, 0, 1, .device, [⟨F.EMB_CFG_report_q, .rw, 0, []⟩, ⟨F.EMB_CFG_restore_hold_ms, .rw, 1000, [(1, 65535)]⟩]⟩,
  ⟨0xC00004, 0, 1, 0, 1, .device, [⟨F.EMB_FLAGS_cb_spare, .w1c, 0, []⟩, ⟨F.EMB_FLAGS_recovered, .w1c, 0, []⟩, ⟨F.EMB_FLAGS_jnl_behind, .w1c, 0, []⟩, ⟨F.EMB_FLAGS_jnl_disabled, .w1c, 0, []⟩, ⟨F.EMB_FLAGS_jnl_retire, .w1c, 0, []⟩, ⟨F.EMB_FLAGS_jnl_remap, .w1c, 0, []⟩, ⟨F.EMB_FLAGS_report_drop, .w1c, 0, []⟩, ⟨F.EMB_FLAGS_lost_line, .w1c, 0, []⟩, ⟨F.EMB_FLAGS_lasting, .w1c, 0, []⟩, ⟨F.EMB_FLAGS_replay, .w1c, 0, []⟩]⟩,
  ⟨0xC00008, 4, 10, 0, 1, .device, [⟨F.EMB_EVCNT_count, .ro, 0, []⟩]⟩,
  ⟨0xC00030, 0, 1, 0, 1, .device, [⟨F.EMB_REPLAYS_count, .ro, 0, []⟩]⟩,
  ⟨0xC00034, 0, 1, 0, 1, .device, [⟨F.EMB_LASTING_count, .ro, 0, []⟩]⟩,
  ⟨0xC00038, 0, 1, 0, 1, .device, [⟨F.EMB_LOST_LINES_count, .ro, 0, []⟩]⟩,
  ⟨0xC0003C, 0, 1, 0, 1, .device, [⟨F.EMB_REWOUND_count, .ro, 0, []⟩]⟩,
  ⟨0xC00040, 0, 1, 0, 1, .device, [⟨F.EMB_FENCE_slices, .ro, 0, []⟩]⟩,
  ⟨0xC00044, 0, 1, 0, 1, .device, [⟨F.EMB_FENCE_CTX_LO_ctx_lo, .ro, 0, []⟩]⟩,
  ⟨0xC00048, 0, 1, 0, 1, .device, [⟨F.EMB_FENCE_CTX_HI_ctx_hi, .ro, 0, []⟩]⟩,
  ⟨0xC0004C, 0, 1, 0, 1, .device, [⟨F.EMB_SUSPECT_stripes, .ro, 0, []⟩]⟩,
  ⟨0xC00060, 0, 1, 0, 1, .device, [⟨F.EMB_JNL_STATUS_enabled, .ro, 0, []⟩, ⟨F.EMB_JNL_STATUS_usable, .ro, 0, []⟩, ⟨F.EMB_JNL_STATUS_spares, .ro, 0, []⟩]⟩,
  ⟨0xC00064, 0, 1, 0, 1, .device, [⟨F.EMB_JNL_WEAR_writes, .ro, 0, []⟩]⟩,
  ⟨0xC00068, 0, 1, 0, 1, .device, [⟨F.EMB_JNL_BACKLOG_bytes, .ro, 0, []⟩]⟩,
  ⟨0xC00070, 0, 1, 0, 1, .device, [⟨F.EMB_REC_STATUS_valid, .ro, 0, []⟩, ⟨F.EMB_REC_STATUS_lost, .ro, 0, []⟩, ⟨F.EMB_REC_STATUS_digest_match, .ro, 0, []⟩, ⟨F.EMB_REC_STATUS_cause, .ro, 0, []⟩]⟩,
  ⟨0xC00074, 0, 1, 0, 1, .device, [⟨F.EMB_REC_MARKS_restored, .ro, 0, []⟩]⟩,
  ⟨0xC00078, 0, 1, 0, 1, .device, [⟨F.EMB_REC_LOST_lost, .ro, 0, []⟩]⟩,
  ⟨0xC0007C, 0, 1, 0, 1, .device, [⟨F.EMB_REC_CMDS_answered, .ro, 0, []⟩]⟩,
  ⟨0xC00080, 0, 1, 0, 1, .device, [⟨F.EMB_ACK_ADDR_queue, .rw, 0, []⟩]⟩,
  ⟨0xC00084, 0, 1, 0, 1, .device, [⟨F.EMB_ACK_DATA_ack, .ro, 0, []⟩]⟩,
  ⟨0xC00088, 0, 1, 0, 1, .device, [⟨F.EMB_REC_BLOOMS_blooms, .ro, 0, []⟩]⟩,
  ⟨0xC0008C, 0, 1, 0, 1, .device, [⟨F.EMB_REC_AREA_area, .ro, 0, []⟩]⟩]
/-- Every register of window 0xC00000. -/
def regsEmber : List RegInfo :=
  regsEmberPart0
/-- Registers of window 0xD00000, part 0. -/
def regsWickPart0 : List RegInfo := [
  ⟨0xD00000, 256, 4, 0, 1, .device, [⟨F.WCK_CORE_STATUS_state, .ro, 0, []⟩, ⟨F.WCK_CORE_STATUS_mode, .ro, 0, []⟩, ⟨F.WCK_CORE_STATUS_ie, .ro, 0, []⟩, ⟨F.WCK_CORE_STATUS_ex, .ro, 0, []⟩, ⟨F.WCK_CORE_STATUS_rp, .ro, 16, []⟩, ⟨F.WCK_CORE_STATUS_halt_cause, .ro, 0, []⟩, ⟨F.WCK_CORE_STATUS_last_cause, .ro, 0, []⟩]⟩,
  ⟨0xD00004, 256, 4, 0, 1, .device, [⟨F.WCK_PC_pc, .ro, 0, []⟩]⟩,
  ⟨0xD00008, 256, 4, 0, 1, .device, [⟨F.WCK_EPC_epc, .ro, 0, []⟩]⟩,
  ⟨0xD0000C, 256, 4, 0, 1, .device, [⟨F.WCK_BADADDR_badaddr, .ro, 0, []⟩]⟩,
  ⟨0xD00010, 256, 4, 0, 1, .device, [⟨F.WCK_WDOG_enable, .rw, 0, []⟩, ⟨F.WCK_WDOG_timeout_us, .rw, 1000, [(1, 1048575)]⟩]⟩,
  ⟨0xD00014, 256, 4, 0, 1, .device, [⟨F.WCK_SWI_swi, .w1s, 0, []⟩]⟩,
  ⟨0xD00018, 256, 4, 0, 1, .device, [⟨F.WCK_SVC_NUM_pending, .ro, 0, []⟩, ⟨F.WCK_SVC_NUM_number, .ro, 0, []⟩]⟩,
  ⟨0xD00020, 256, 4, 4, 8, .device, [⟨F.WCK_SVC_ARG_arg, .ro, 0, []⟩]⟩,
  ⟨0xD00040, 256, 4, 0, 1, .device, [⟨F.WCK_SVC_RET_LO_value_lo, .rw, 0, []⟩]⟩,
  ⟨0xD00044, 256, 4, 0, 1, .device, [⟨F.WCK_SVC_RET_HI_value_hi, .rw, 0, []⟩]⟩,
  ⟨0xD00048, 256, 4, 0, 1, .device, [⟨F.WCK_SVC_DONE_status, .wo, 0, []⟩]⟩,
  ⟨0xD00800, 0, 1, 0, 1, .device, [⟨F.WCK_FLAGS_ecc_retry, .w1c, 0, []⟩, ⟨F.WCK_FLAGS_wdog, .w1c, 0, []⟩, ⟨F.WCK_FLAGS_halted, .w1c, 0, []⟩]⟩,
  ⟨0xD00804, 4, 9, 0, 1, .device, [⟨F.WCK_EVCNT_count, .ro, 0, []⟩]⟩,
  ⟨0xD00828, 0, 1, 0, 1, .device, [⟨F.WCK_ECC_CORR_count, .ro, 0, []⟩]⟩,
  ⟨0xD0082C, 0, 1, 0, 1, .device, [⟨F.WCK_ECC_RETRY_count, .ro, 0, []⟩]⟩]
/-- Every register of window 0xD00000. -/
def regsWick : List RegInfo :=
  regsWickPart0
/-- Registers of window 0xE00000, part 0. -/
def regsHostQPart0 : List RegInfo := [
  ⟨0xE00000, 0, 1, 0, 1, .device, [⟨F.HST_QUENCH_pin, .ro, 0, []⟩, ⟨F.HST_QUENCH_release, .wo, 0, []⟩, ⟨F.HST_QUENCH_quench, .w1s, 0, []⟩]⟩,
  ⟨0xE00004, 0, 1, 0, 1, .link, [⟨F.HST_LINK_width, .ro, 0, []⟩, ⟨F.HST_LINK_flit, .ro, 0, []⟩, ⟨F.HST_LINK_speed, .ro, 0, []⟩]⟩,
  ⟨0xE00008, 0, 1, 0, 1, .device, [⟨F.HST_FLAGS_aer, .w1c, 0, []⟩, ⟨F.HST_FLAGS_q_watermark, .w1c, 0, []⟩, ⟨F.HST_FLAGS_q_fault, .w1c, 0, []⟩, ⟨F.HST_FLAGS_ring_error, .w1c, 0, []⟩, ⟨F.HST_FLAGS_link_degraded, .w1c, 0, []⟩, ⟨F.HST_FLAGS_quench_released, .w1c, 0, []⟩, ⟨F.HST_FLAGS_quench_entered, .w1c, 0, []⟩]⟩,
  ⟨0xE0000C, 4, 7, 0, 1, .device, [⟨F.HST_EVCNT_count, .ro, 0, []⟩]⟩,
  ⟨0xE00030, 0, 1, 0, 1, .device, [⟨F.HST_CMD_STATUS_busy, .ro, 0, []⟩]⟩,
  ⟨0xE00034, 0, 1, 0, 1, .device, [⟨F.HST_CMD_SEQ_LO_seq_lo, .ro, 0, []⟩]⟩,
  ⟨0xE00038, 0, 1, 0, 1, .device, [⟨F.HST_CMD_SEQ_HI_seq_hi, .ro, 0, []⟩]⟩,
  ⟨0xE0003C, 0, 1, 0, 1, .device, [⟨F.HST_CMD_BAD_count, .ro, 0, []⟩]⟩,
  ⟨0xE00040, 0, 1, 0, 1, .device, [⟨F.HST_BP_CFG_stream, .rw, 0, []⟩]⟩,
  ⟨0xE00044, 0, 1, 0, 1, .device, [⟨F.HST_BP_HANDLE_handle, .rw, 0, []⟩]⟩,
  ⟨0xE00048, 0, 1, 0, 1, .device, [⟨F.HST_BP_BASE_LO_base_lo, .rw, 0, []⟩]⟩,
  ⟨0xE0004C, 0, 1, 0, 1, .device, [⟨F.HST_BP_BASE_HI_base_hi, .rw, 0, []⟩]⟩,
  ⟨0xE00050, 0, 1, 0, 1, .device, [⟨F.HST_BP_PTR_LO_ptr_lo, .ro, 0, []⟩]⟩,
  ⟨0xE00054, 0, 1, 0, 1, .device, [⟨F.HST_BP_PTR_HI_ptr_hi, .ro, 0, []⟩]⟩,
  ⟨0xE01000, 64, 64, 0, 1, .device, [⟨F.HST_Q_CFG_enable, .rw, 0, []⟩, ⟨F.HST_Q_CFG_pages, .rw, 2, [(2, 1024)]⟩]⟩,
  ⟨0xE01004, 64, 64, 0, 1, .device, [⟨F.HST_Q_LEVEL_high_water, .rc, 0, []⟩, ⟨F.HST_Q_LEVEL_level, .ro, 0, []⟩]⟩,
  ⟨0xE01008, 64, 64, 0, 1, .device, [⟨F.HST_Q_WM_threshold, .rw, 256, [(1, 16384)]⟩]⟩,
  ⟨0xE0100C, 64, 64, 0, 1, .device, [⟨F.HST_Q_FLAGS_ecc_lasting, .w1c, 0, []⟩, ⟨F.HST_Q_FLAGS_drop, .w1c, 0, []⟩, ⟨F.HST_Q_FLAGS_snuffed, .w1c, 0, []⟩, ⟨F.HST_Q_FLAGS_watermark, .w1c, 0, []⟩]⟩,
  ⟨0xE01010, 64, 64, 0, 1, .device, [⟨F.HST_Q_ECC_count, .ro, 0, []⟩]⟩,
  ⟨0xE01014, 64, 64, 0, 1, .device, [⟨F.HST_Q_DROP_count, .ro, 0, []⟩]⟩,
  ⟨0xE01018, 64, 64, 0, 1, .device, [⟨F.HST_Q_CTRL_snuff_busy, .ro, 0, []⟩, ⟨F.HST_Q_CTRL_snuff, .wo, 0, []⟩]⟩,
  ⟨0xE0101C, 64, 64, 0, 1, .device, [⟨F.HST_Q_ACK_ack, .rw, 0, []⟩]⟩,
  ⟨0xE01020, 64, 64, 4, 4, .device, [⟨F.HST_Q_EVCNT_count, .ro, 0, []⟩]⟩,
  ⟨0xE02000, 64, 64, 0, 1, .link, [⟨F.HST_RING_CFG_enable, .rw, 0, []⟩, ⟨F.HST_RING_CFG_kind, .rw, 0, []⟩, ⟨F.HST_RING_CFG_dense, .rw, 0, []⟩, ⟨F.HST_RING_CFG_notify_en, .rw, 0, []⟩, ⟨F.HST_RING_CFG_notify, .rw, 0, []⟩, ⟨F.HST_RING_CFG_size_log2, .rw, 4, [(4, 20)]⟩, ⟨F.HST_RING_CFG_queue, .rw, 0, []⟩]⟩]
/-- Registers of window 0xE00000, part 1. -/
def regsHostQPart1 : List RegInfo := [
  ⟨0xE02004, 64, 64, 0, 1, .link, [⟨F.HST_RING_BASE_LO_base_lo, .rw, 0, []⟩]⟩,
  ⟨0xE02008, 64, 64, 0, 1, .link, [⟨F.HST_RING_BASE_HI_base_hi, .rw, 0, []⟩]⟩,
  ⟨0xE0200C, 64, 64, 0, 1, .link, [⟨F.HST_RING_WB_LO_wb_lo, .rw, 0, []⟩]⟩,
  ⟨0xE02010, 64, 64, 0, 1, .link, [⟨F.HST_RING_WB_HI_wb_hi, .rw, 0, []⟩]⟩,
  ⟨0xE02014, 64, 64, 0, 1, .link, [⟨F.HST_RING_DEV_dev_ptr, .ro, 0, []⟩]⟩,
  ⟨0xE02018, 64, 64, 0, 1, .link, [⟨F.HST_RING_HOST_host_ptr, .ro, 0, []⟩]⟩,
  ⟨0xE0201C, 64, 64, 0, 1, .link, [⟨F.HST_RING_ERR_code, .ro, 0, []⟩]⟩]
/-- Every register of window 0xE00000. -/
def regsHostQ : List RegInfo :=
  regsHostQPart0 ++ regsHostQPart1
/-- Registers of window 0xF00000, part 0. -/
def regsEventsPart0 : List RegInfo := [
  ⟨0xF00000, 4, 512, 0, 1, .device, [⟨F.EVT_SRC_enable, .rw, 0, []⟩, ⟨F.EVT_SRC_mask, .rw, 0, []⟩, ⟨F.EVT_SRC_pending, .w1c, 0, []⟩, ⟨F.EVT_SRC_released, .ro, 0, []⟩, ⟨F.EVT_SRC_target, .rw, 4, [(0, 4)]⟩, ⟨F.EVT_SRC_priority, .rw, 15, []⟩, ⟨F.EVT_SRC_vector, .rw, 0, []⟩]⟩,
  ⟨0xF01000, 32, 32, 0, 1, .device, [⟨F.EVT_GRP_CFG_timer, .rw, 1, [(1, 65535)]⟩, ⟨F.EVT_GRP_CFG_count, .rw, 1, [(1, 4096)]⟩]⟩,
  ⟨0xF01004, 32, 32, 0, 1, .device, [⟨F.EVT_GRP_HOLD_hold_off, .rw, 0, []⟩]⟩,
  ⟨0xF01008, 32, 32, 0, 1, .device, [⟨F.EVT_GRP_STATUS_timing, .ro, 0, []⟩, ⟨F.EVT_GRP_STATUS_held, .ro, 0, []⟩, ⟨F.EVT_GRP_STATUS_accum, .ro, 0, []⟩]⟩,
  ⟨0xF0100C, 32, 32, 0, 1, .device, [⟨F.EVT_GRP_RAISES_count, .ro, 0, []⟩]⟩,
  ⟨0xF01010, 32, 32, 0, 1, .device, [⟨F.EVT_GRP_OPENS_count, .ro, 0, []⟩]⟩,
  ⟨0xF02000, 4, 12, 0, 1, .device, [⟨F.EVT_HOST_SEEN_seen, .w1c, 0, []⟩]⟩,
  ⟨0xF03000, 0, 1, 0, 1, .device, [⟨F.EVT_LTN_CFG_arm, .rw, 0, []⟩]⟩,
  ⟨0xF03004, 0, 1, 0, 1, .device, [⟨F.EVT_LTN_CAUSE_source, .ro, 0, []⟩]⟩,
  ⟨0xF03100, 4, 32, 0, 1, .device, [⟨F.EVT_LTN_SLOT_valid, .rw, 0, []⟩, ⟨F.EVT_LTN_SLOT_source, .rw, 0, []⟩]⟩,
  ⟨0xF03800, 0, 1, 0, 1, .device, [⟨F.EVT_FLAGS_lantern_wake, .w1c, 0, []⟩]⟩,
  ⟨0xF03804, 0, 1, 0, 1, .device, [⟨F.EVT_EVCNT_0_count, .ro, 0, []⟩]⟩]
/-- Every register of window 0xF00000. -/
def regsEvents : List RegInfo :=
  regsEventsPart0
/-- Registers of window 0x1000000, part 0. -/
def regsTimePart0 : List RegInfo := [
  ⟨0x1000000, 0, 1, 0, 1, .device, [⟨F.TIM_CFG_source, .rw, 0, []⟩, ⟨F.TIM_CFG_tc_en, .rw, 0, []⟩, ⟨F.TIM_CFG_quench_en, .rw, 0, []⟩, ⟨F.TIM_CFG_domain, .rw, 0, []⟩, ⟨F.TIM_CFG_step_thresh, .rw, 1000, [(1, 65535)]⟩]⟩,
  ⟨0x1000004, 0, 1, 0, 1, .device, [⟨F.TIM_SERVO_master_tmo, .rw, 30, [(1, 255)]⟩, ⟨F.TIM_SERVO_kp, .rw, 12, []⟩, ⟨F.TIM_SERVO_ki, .rw, 16, []⟩]⟩,
  ⟨0x1000008, 0, 1, 0, 1, .device, [⟨F.TIM_STATUS_mpd_valid, .ro, 0, []⟩, ⟨F.TIM_STATUS_restep_armed, .ro, 0, []⟩, ⟨F.TIM_STATUS_state, .ro, 0, []⟩]⟩,
  ⟨0x100000C, 0, 1, 0, 1, .por, [⟨F.TIM_NOW_LO_now_lo, .ro, 0, []⟩]⟩,
  ⟨0x1000010, 0, 1, 0, 1, .por, [⟨F.TIM_NOW_MID_now_mid, .ro, 0, []⟩]⟩,
  ⟨0x1000014, 0, 1, 0, 1, .por, [⟨F.TIM_NOW_HI_now_hi, .ro, 0, []⟩]⟩,
  ⟨0x1000018, 0, 1, 0, 1, .device, [⟨F.TIM_RATE_rate, .ro, 0, []⟩]⟩,
  ⟨0x100001C, 0, 1, 0, 1, .device, [⟨F.TIM_OFS_LO_ofs_lo, .ro, 0, []⟩]⟩,
  ⟨0x1000020, 0, 1, 0, 1, .device, [⟨F.TIM_OFS_HI_ofs_hi, .ro, 0, []⟩]⟩,
  ⟨0x1000024, 0, 1, 0, 1, .device, [⟨F.TIM_MPD_mpd, .ro, 0, []⟩]⟩,
  ⟨0x1000028, 0, 1, 0, 1, .device, [⟨F.TIM_HOST_OFS_LO_hofs_lo, .rw, 0, []⟩]⟩,
  ⟨0x100002C, 0, 1, 0, 1, .device, [⟨F.TIM_HOST_OFS_HI_hofs_hi, .rw, 0, []⟩]⟩,
  ⟨0x1000030, 0, 1, 0, 1, .device, [⟨F.TIM_QKEY_qkey, .wo, 0, []⟩]⟩,
  ⟨0x1000034, 0, 1, 0, 1, .device, [⟨F.TIM_FLAGS_rx_discard, .w1c, 0, []⟩, ⟨F.TIM_FLAGS_quench_rx, .w1c, 0, []⟩, ⟨F.TIM_FLAGS_tx_drop, .w1c, 0, []⟩, ⟨F.TIM_FLAGS_link1, .w1c, 0, []⟩, ⟨F.TIM_FLAGS_link0, .w1c, 0, []⟩, ⟨F.TIM_FLAGS_master_lost, .w1c, 0, []⟩, ⟨F.TIM_FLAGS_held, .w1c, 0, []⟩, ⟨F.TIM_FLAGS_holdover, .w1c, 0, []⟩, ⟨F.TIM_FLAGS_step, .w1c, 0, []⟩]⟩,
  ⟨0x1000038, 4, 9, 0, 1, .device, [⟨F.TIM_EVCNT_count, .ro, 0, []⟩]⟩,
  ⟨0x1001000, 256, 2, 0, 1, .device, [⟨F.TIM_PP_CFG_enable, .rw, 0, []⟩, ⟨F.TIM_PP_CFG_speed25, .rw, 1, []⟩, ⟨F.TIM_PP_CFG_jumbo, .rw, 0, []⟩, ⟨F.TIM_PP_CFG_ptp_l2, .rw, 0, []⟩, ⟨F.TIM_PP_CFG_ptp_pcp, .rw, 7, []⟩, ⟨F.TIM_PP_CFG_vlan_en, .rw, 0, []⟩, ⟨F.TIM_PP_CFG_vlan_id, .rw, 1, [(1, 4094)]⟩, ⟨F.TIM_PP_CFG_tx_q, .rw, 0, []⟩]⟩,
  ⟨0x1001004, 256, 2, 0, 1, .device, [⟨F.TIM_PP_MAC_LO_mac_lo, .rw, 0, []⟩]⟩,
  ⟨0x1001008, 256, 2, 0, 1, .device, [⟨F.TIM_PP_MAC_HI_mac_hi, .rw, 0, []⟩]⟩,
  ⟨0x100100C, 256, 2, 0, 1, .device, [⟨F.TIM_PP_IP_ip, .rw, 0, []⟩]⟩,
  ⟨0x1001010, 256, 2, 0, 1, .device, [⟨F.TIM_PP_STATUS_link_up, .ro, 0, []⟩]⟩,
  ⟨0x1001014, 256, 2, 0, 1, .device, [⟨F.TIM_PP_TX_DGRAMS_count, .ro, 0, []⟩]⟩,
  ⟨0x1001018, 256, 2, 0, 1, .device, [⟨F.TIM_PP_TX_DROP_count, .ro, 0, []⟩]⟩,
  ⟨0x100101C, 256, 2, 0, 1, .device, [⟨F.TIM_PP_RX_FRAMES_count, .ro, 0, []⟩]⟩,
  ⟨0x1001020, 256, 2, 0, 1, .device, [⟨F.TIM_PP_RX_DISCARD_count, .ro, 0, []⟩]⟩]
/-- Registers of window 0x1000000, part 1. -/
def regsTimePart1 : List RegInfo := [
  ⟨0x1001024, 256, 2, 0, 1, .device, [⟨F.TIM_PP_TC_FWD_count, .ro, 0, []⟩]⟩,
  ⟨0x1001028, 256, 2, 0, 1, .device, [⟨F.TIM_PP_QUENCH_RX_count, .ro, 0, []⟩]⟩,
  ⟨0x1002000, 16, 16, 0, 1, .device, [⟨F.TIM_DST_MAC_LO_mac_lo, .rw, 0, []⟩]⟩,
  ⟨0x1002004, 16, 16, 0, 1, .device, [⟨F.TIM_DST_MAC_HI_pcp, .rw, 0, []⟩, ⟨F.TIM_DST_MAC_HI_mac_hi, .rw, 0, []⟩]⟩,
  ⟨0x1002008, 16, 16, 0, 1, .device, [⟨F.TIM_DST_IP_ip, .rw, 0, []⟩]⟩,
  ⟨0x100200C, 16, 16, 0, 1, .device, [⟨F.TIM_DST_UDP_udp_dst, .rw, 47010, []⟩, ⟨F.TIM_DST_UDP_udp_src, .rw, 47010, []⟩]⟩,
  ⟨0x1003000, 0, 1, 0, 1, .device, [⟨F.TIM_GPIO_DIR_dir, .rw, 0, []⟩]⟩,
  ⟨0x1003004, 0, 1, 0, 1, .device, [⟨F.TIM_GPIO_OUT_out, .rw, 0, []⟩]⟩,
  ⟨0x1003008, 0, 1, 0, 1, .device, [⟨F.TIM_GPIO_IN_in, .ro, 0, []⟩]⟩]
/-- Every register of window 0x1000000. -/
def regsTime : List RegInfo :=
  regsTimePart0 ++ regsTimePart1
/-- Registers of window 0x1100000, part 0. -/
def regsTemperPart0 : List RegInfo := [
  ⟨0x1100000, 0, 1, 0, 1, .device, [⟨F.TMP_CFG_hbm_en, .rw, 1, []⟩, ⟨F.TMP_CFG_tdc_en, .rw, 1, []⟩, ⟨F.TMP_CFG_hbm_freeze, .rw, 0, []⟩, ⟨F.TMP_CFG_tdc_freeze, .rw, 0, []⟩, ⟨F.TMP_CFG_temp_step, .rw, 4, []⟩, ⟨F.TMP_CFG_hbm_period_ms, .rw, 100, [(10, 65535)]⟩]⟩,
  ⟨0x1100004, 0, 1, 0, 1, .device, [⟨F.TMP_TDC_PERIOD_tdc_period_ms, .rw, 1000, [(100, 65535)]⟩]⟩,
  ⟨0x1100008, 0, 1, 0, 1, .device, [⟨F.TMP_CMD_run_tdc, .wo, 0, []⟩, ⟨F.TMP_CMD_run_hbm, .wo, 0, []⟩]⟩,
  ⟨0x110000C, 0, 1, 0, 1, .device, [⟨F.TMP_STATUS_hbm_busy, .ro, 0, []⟩, ⟨F.TMP_STATUS_hbm_waiting, .ro, 0, []⟩, ⟨F.TMP_STATUS_tdc_busy, .ro, 0, []⟩, ⟨F.TMP_STATUS_since_ms, .ro, 0, []⟩]⟩,
  ⟨0x1100010, 0, 1, 0, 1, .device, [⟨F.TMP_FLAGS_deskew_err, .w1c, 0, []⟩, ⟨F.TMP_FLAGS_tdc_lasting, .w1c, 0, []⟩, ⟨F.TMP_FLAGS_tdc_retry, .w1c, 0, []⟩, ⟨F.TMP_FLAGS_hbm_range, .w1c, 0, []⟩, ⟨F.TMP_FLAGS_hbm_overdue, .w1c, 0, []⟩, ⟨F.TMP_FLAGS_hbm_lasting, .w1c, 0, []⟩, ⟨F.TMP_FLAGS_hbm_retry, .w1c, 0, []⟩]⟩,
  ⟨0x1100014, 4, 7, 0, 1, .device, [⟨F.TMP_EVCNT_count, .ro, 0, []⟩]⟩,
  ⟨0x1100030, 0, 1, 0, 1, .device, [⟨F.TMP_HBM_RUNS_count, .ro, 0, []⟩]⟩,
  ⟨0x1100034, 0, 1, 0, 1, .device, [⟨F.TMP_TDC_RUNS_count, .ro, 0, []⟩]⟩,
  ⟨0x1100038, 0, 1, 0, 1, .device, [⟨F.TMP_HBM_DEFER_count, .ro, 0, []⟩]⟩,
  ⟨0x110003C, 0, 1, 0, 1, .device, [⟨F.TMP_HBM_LAST_min_eye, .ro, 0, []⟩, ⟨F.TMP_HBM_LAST_max_move, .ro, 0, []⟩]⟩,
  ⟨0x1100040, 0, 1, 0, 1, .device, [⟨F.TMP_COEF_SEL_kind, .rw, 0, []⟩, ⟨F.TMP_COEF_SEL_index, .rw, 0, []⟩]⟩,
  ⟨0x1100044, 0, 1, 0, 1, .device, [⟨F.TMP_COEF_DATA_measured, .ro, 0, []⟩, ⟨F.TMP_COEF_DATA_active, .ro, 0, []⟩]⟩]
/-- Every register of window 0x1100000. -/
def regsTemper : List RegInfo :=
  regsTemperPart0
/-- Registers of window 0x1200000, part 0. -/
def regsSecurityPart0 : List RegInfo := [
  ⟨0x1200000, 0, 1, 0, 1, .por, [⟨F.SEC_STATUS_cust_key, .ro, 0, []⟩, ⟨F.SEC_STATUS_debug_disabled, .ro, 0, []⟩, ⟨F.SEC_STATUS_debug_level, .ro, 0, []⟩, ⟨F.SEC_STATUS_slot_dead, .ro, 0, []⟩, ⟨F.SEC_STATUS_fw_svn_min, .ro, 0, []⟩, ⟨F.SEC_STATUS_rcp_svn_min, .ro, 0, []⟩, ⟨F.SEC_STATUS_rom_version, .ro, 0, []⟩]⟩,
  ⟨0x1200004, 0, 1, 0, 1, .device, [⟨F.SEC_FLAGS_prov_fail, .w1c, 0, []⟩, ⟨F.SEC_FLAGS_provisioned, .w1c, 0, []⟩, ⟨F.SEC_FLAGS_debug_unlocked, .w1c, 0, []⟩, ⟨F.SEC_FLAGS_verify_fail, .w1c, 0, []⟩]⟩,
  ⟨0x1200008, 4, 4, 0, 1, .device, [⟨F.SEC_EVCNT_count, .ro, 0, []⟩]⟩,
  ⟨0x1200018, 0, 1, 0, 1, .por, [⟨F.SEC_LAST_FAIL_use, .ro, 0, []⟩, ⟨F.SEC_LAST_FAIL_reason, .ro, 0, []⟩]⟩,
  ⟨0x120001C, 0, 1, 0, 1, .por, [⟨F.SEC_BOOT_FAILS_boot_fails, .ro, 0, []⟩]⟩,
  ⟨0x1200020, 4, 4, 0, 1, .por, [⟨F.SEC_DEVID_id, .ro, 0, []⟩]⟩,
  ⟨0x1200040, 0, 1, 0, 1, .device, [⟨F.SEC_MEAS_SEL_reg, .rw, 0, []⟩, ⟨F.SEC_MEAS_SEL_word, .rw, 0, []⟩]⟩,
  ⟨0x1200044, 0, 1, 0, 1, .device, [⟨F.SEC_MEAS_DATA_data, .ro, 0, []⟩]⟩,
  ⟨0x1200048, 0, 1, 0, 1, .device, [⟨F.SEC_PUBKEY_SEL_key, .rw, 0, [(0, 2)]⟩, ⟨F.SEC_PUBKEY_SEL_word, .rw, 0, []⟩]⟩,
  ⟨0x120004C, 0, 1, 0, 1, .device, [⟨F.SEC_PUBKEY_DATA_data, .ro, 0, []⟩]⟩,
  ⟨0x1200080, 4, 16, 0, 1, .device, [⟨F.SEC_PROV_DATA_data, .wo, 0, []⟩]⟩,
  ⟨0x12000C0, 0, 1, 0, 1, .device, [⟨F.SEC_PROV_CMD_key, .wo, 0, []⟩, ⟨F.SEC_PROV_CMD_op, .wo, 0, []⟩]⟩,
  ⟨0x12000C4, 0, 1, 0, 1, .device, [⟨F.SEC_PROV_STATUS_busy, .ro, 0, []⟩, ⟨F.SEC_PROV_STATUS_result, .ro, 0, []⟩]⟩,
  ⟨0x1200100, 4, 8, 0, 1, .device, [⟨F.SEC_DBG_CHAL_chal, .ro, 0, []⟩]⟩,
  ⟨0x1200120, 0, 1, 0, 1, .device, [⟨F.SEC_DBG_HANDLE_handle, .rw, 0, []⟩]⟩,
  ⟨0x1200124, 0, 1, 0, 1, .device, [⟨F.SEC_DBG_CMD_go, .wo, 0, []⟩, ⟨F.SEC_DBG_CMD_level, .wo, 0, []⟩]⟩]
/-- Every register of window 0x1200000. -/
def regsSecurity : List RegInfo :=
  regsSecurityPart0

/-- The register list of the BAR0 window that a register key lies in (R12). -/
def windowRegs (key : Nat) : List RegInfo :=
  match key / 0x100000 with
  | 0 => regsBellows
  | 1 => regsLane
  | 2 => regsIntake
  | 3 => regsCorrection
  | 4 => regsStitcher
  | 5 => regsAnvil
  | 6 => regsBloom
  | 7 => regsPosition
  | 8 => regsTongs
  | 9 => regsStreams
  | 10 => regsCompression
  | 11 => regsHearth
  | 12 => regsEmber
  | 13 => regsWick
  | 14 => regsHostQ
  | 15 => regsEvents
  | 16 => regsTime
  | 17 => regsTemper
  | 18 => regsSecurity
  | 257 => regsLane
  | _ => []

/-- Does `r` describe the register at `key`? -/
def RegInfo.matches (r : RegInfo) (key : Nat) : Bool :=
  let d := key - r.base
  if key < r.base then false
  else if r.stride = 0 then d == 0
  else if r.stride2 = 0 then d % r.stride == 0 && d / r.stride < r.count
  else if r.stride2 * r.count2 ≤ r.stride then
    d / r.stride < r.count && (d % r.stride) % r.stride2 == 0 && (d % r.stride) / r.stride2 < r.count2
  else false

/-- A one-dimensional array whose single stride is its index stride. -/
def RegInfo.find (rs : List RegInfo) (key : Nat) : Option RegInfo :=
  rs.find? (fun r => r.matches key)

/-- The register at a key, if the map assigns one (R9: an unassigned offset reads zero). -/
def regInfo (key : Nat) : Option RegInfo := RegInfo.find (windowRegs key) key

/-- The reset word of a list of fields. -/
def fieldsReset : List FieldInfo → Nat
  | [] => 0
  | f :: fs => (f.reset % 2 ^ (f.field.hi - f.field.lo + 1)) * 2 ^ f.field.lo + fieldsReset fs

/-- The reset value of the register at a key: the register tables' Reset column. A private event source's target is
the core that owns it (EVT_SRC, R357). (DESIGN CHOICE, unsafe: log 12) -/
def regReset (key : Nat) : BitVec 32 :=
  match regInfo key with
  | none => 0
  | some r =>
    let v := BitVec.ofNat 32 (fieldsReset r.fields)
    if R.EVT_SRC 0 ≤ key ∧ key < R.EVT_SRC 128 then
      (v &&& 0xF8FFFFFF#32) ||| BitVec.ofNat 32 ((key - R.EVT_SRC 0) / 128 * 2 ^ 24)
    else v

end Sys2Proof.Machine
end

