-- ==== Sys2Proof/Machine/Sparse.lean ====
section
/-! DEFINITION. The one sparse store of the model: a list of (key, value) pairs with strictly rising keys and no
entry equal to what an unlisted key reads as. Registers, memories, banks and arrays of units are all such stores,
so that equal contents are equal data. -/
namespace Sys2Proof.Machine

/-- What key `k` holds in the store `m` whose unlisted keys read as `d`. (DESIGN CHOICE, unsafe: log 11) -/
def sget (d : Nat → β) : List (Nat × β) → Nat → β
  | [], k => d k
  | (j, v) :: m, k => if k = j then v else sget d m k

/-- The store without key `k`. -/
def serase : List (Nat × β) → Nat → List (Nat × β)
  | [], _ => []
  | (j, w) :: m, k => if k = j then serase m k else (j, w) :: serase m k

/-- The store with `v` at key `k`, in canonical form: writing what an unlisted key reads as removes the entry. -/
def sput [DecidableEq β] (d : Nat → β) : List (Nat × β) → Nat → β → List (Nat × β)
  | [], k, v => if v = d k then [] else [(k, v)]
  | (j, w) :: m, k, v =>
    if v = d k then serase ((j, w) :: m) k
    else if k < j then (k, v) :: (j, w) :: m
    else if k = j then (k, v) :: m
    else (j, w) :: sput d m k v

/-- The canonical form: every listed key at least `lo`, the keys strictly rising, no entry equal to the default. -/
def swfFrom [DecidableEq β] (d : Nat → β) : Nat → List (Nat × β) → Bool
  | _, [] => true
  | lo, (k, v) :: m => decide (lo ≤ k) && decide (v ≠ d k) && swfFrom d (k + 1) m

/-- The canonical form of a store. -/
def swf [DecidableEq β] (d : Nat → β) (m : List (Nat × β)) : Bool := swfFrom d 0 m

/-- The store keeping only the keys that `p` accepts; every other key reads as the default again. -/
def skeep (p : Nat → Bool) : List (Nat × β) → List (Nat × β)
  | [] => []
  | (k, v) :: m => if p k then (k, v) :: skeep p m else skeep p m

/-- Writing a list of values at successive keys. -/
def sputs [DecidableEq β] (d : Nat → β) : List (Nat × β) → Nat → List β → List (Nat × β)
  | m, _, [] => m
  | m, k, v :: vs => sputs d (sput d m k v) (k + 1) vs

/-- The values of `n` successive keys. -/
def sgets (d : Nat → β) (m : List (Nat × β)) (k : Nat) : Nat → List β
  | 0 => []
  | n + 1 => sget d m k :: sgets d m (k + 1) n

/-- A memory of bytes (Host.Cell pairs) in canonical form, every unlisted byte reading as zero. -/
def Memory.wf (m : List (Nat × BitVec 8)) : Bool := swf (fun _ => (0 : BitVec 8)) m

/-- The byte of a memory at an address. (DESIGN CHOICE, unsafe: log 11) -/
def Memory.read (m : List (Nat × BitVec 8)) (a : Nat) : BitVec 8 := sget (fun _ => 0) m a

/-- A memory with one byte written. -/
def Memory.write (m : List (Nat × BitVec 8)) (a : Nat) (b : BitVec 8) : List (Nat × BitVec 8) :=
  sput (fun _ => 0) m a b

/-- A memory with successive bytes written. -/
def Memory.writes (m : List (Nat × BitVec 8)) : Nat → List (BitVec 8) → List (Nat × BitVec 8)
  | _, [] => m
  | a, b :: bs => Memory.writes (Memory.write m a b) (a + 1) bs

/-- `n` successive bytes of a memory. -/
def Memory.reads (m : List (Nat × BitVec 8)) (a : Nat) : Nat → List (BitVec 8)
  | 0 => []
  | n + 1 => Memory.read m a :: Memory.reads m (a + 1) n

end Sys2Proof.Machine
end

