-- ==== Sys2Proof/Machine/State.lean ====
section
/-! DEFINITION. The state of the ML16 as plain data: the registers, the memories, every unit's own state, the
commands waiting, and the record of what has left the device. -/
namespace Sys2Proof.Machine

/-- The device states of R25. -/
inductive DevState where
  | off | reset | boot | ready | armed | run | hold | banked | fault
deriving DecidableEq, Repr

/-- The grade of the part (BLW_REV.grade, R28). -/
inductive Grade where
  /-- ML16-C -/
  | commercial
  /-- ML16-I -/
  | industrial
deriving DecidableEq, Repr

/-- The classes of upstream DMA (R21, R341), for what leaves on PCI Express. -/
inductive DmaClass where
  | response | records | spill | streams | archive
deriving DecidableEq, Repr

/-- What leaves the device: the model's own record of its outputs, newest first. (DESIGN CHOICE, safe: log 8) -/
inductive Out where
  /-- The completion of a BAR0 or SMBus read. -/
  | readData (v : BitVec 32)
  /-- A BAR access completed with completer abort (R325). -/
  | completerAbort
  /-- A completion of a BAR2 read, of up to 512 bytes; `poisoned` is the EP bit (R274, R327). -/
  | bulkData (bytes : List Byte) (poisoned : Bool)
  /-- An upstream write; `relaxed` is its relaxed-ordering attribute (R324). -/
  | hostWrite (cls : DmaClass) (relaxed : Bool) (addr : Nat) (bytes : List Byte)
  /-- An MSI-X message (R354). -/
  | msix (vector : Nat) (addr : BitVec 64) (data : BitVec 32)
  /-- A CoaXPress control packet on the uplink of a link (R78, R88): `fast` at 41.667 Mbit/s, otherwise at 20.833 Mbit/s (R72). -/
  | controlPacket (port link : Nat) (fast write : Bool) (addr data : BitVec 32)
  /-- A trigger packet on the uplink of a link (R89). -/
  | triggerPacket (port link : Nat) (fast : Bool) (delay : Nat)
  /-- A trigger acknowledgement or other uplink item. -/
  | ltrig (unit : Nat) (level : Bool)
  /-- A marker-link frame: its bytes before coding (R231). -/
  | markerFrame (link : Nat) (bytes : List Byte)
  /-- A marker link begins to send K23.7 (R230). -/
  | markerQuench (link : Nat)
  /-- An Ethernet frame on a plant port: its priority and its bytes without the FCS (R374 to R377). -/
  | plantFrame (port : Nat) (pcp : Nat) (bytes : List Byte)
  /-- A PTP message forwarded by the transparent clock with its corrected correctionField (R373). -/
  | ptpForward (port : Nat) (msg : PtpMsg)
  /-- The ML16's Delay_Req (R366, R372). -/
  | delayReq (port : Nat) (sequenceId : Nat) (stamp : Word)
  /-- An ARP reply or ICMP echo reply of a plant port (R374). -/
  | arpReply (port : Nat)
  | echoReply (port : Nat)
  /-- A word read over SMBus (R437). -/
  | smbusWord (w : BitVec 16)
  /-- Bits shifted out of the TAP (R418). -/
  | tdo (bits : Nat)
deriving DecidableEq, Repr

/-- A BAR access made in BANKED that completes after the wake (R405). -/
inductive BusAccess where
  | read (offset : Nat)
  | write (offset : Nat) (v : BitVec 32)
  | bulkRead (offset : Nat) (length : Nat) (ecc : EccResult)
  | bulkWrite (offset : Nat) (bytes : List Byte)
deriving DecidableEq, Repr

/-- A wake in progress: the tick of its cause and the source recorded in EVT_LTN_CAUSE (R361, R407). -/
structure WakeRun where
  tick : Nat
  cause : Nat
  /-- Step 5 of R407: the cores run and the links restart. -/
  resumed : Bool := false
deriving DecidableEq, Repr

/-- Bellows: the device state and the power, reset, boot and thermal state around it (R25, R390 to R408). -/
structure Bellows where
  state : DevState := .reset
  bankedFrom : DevState := .ready
  porAsserted : Bool := true
  perstAsserted : Bool := true
  bootSel : BitVec 2 := 0
  pushed : Bool := false
  /-- Tick and cause of the entry to FAULT. -/
  faultTick : Option Nat := none
  faultCause : Nat := 0
  /-- The last DEVICE reset was a fault reset (R393). -/
  wasFaultReset : Bool := false
  /-- A fault reset after a thermal trip waits at step 1 of R394. -/
  coolDown : Bool := false
  /-- Tick at which the device left RESET. -/
  bootTick : Nat := 0
  /-- Tick of the response to RESET, 10 µs before the reset (R344). -/
  resetDue : Option Nat := none
  dieOver : Nat := 0
  dieWarned : Bool := false
  hbmWarned : Bool := false
  /-- The firmware runs (BOOT step 3 of R397 done). -/
  firmware : Bool := false
  /-- A host push is being read and verified (R396). -/
  pushing : Bool := false
  /-- Tick at which step 2 of R403 ended, while BANK runs. -/
  banking : Option Nat := none
  wake : Option WakeRun := none
  deferred : List BusAccess := []
deriving DecidableEq, Repr

/-- A group's gate (R350, R351): the configuration in force, the raise that started the timer, the last opening. -/
structure Gate where
  timer : Nat := 1
  count : Nat := 1
  holdOff : Nat := 0
  first : Option Nat := none
  lastOpen : Option Nat := none
deriving DecidableEq, Repr

/-- One entry of the MSI-X table (R325). -/
structure MsixEntry where
  addr : BitVec 64 := 0
  data : BitVec 32 := 0
  masked : Bool := true
deriving DecidableEq, Repr

/-- The event controller and MSI-X (R348 to R361). (DEDUCED, unsafe: log 32) -/
structure EventCtl where
  gates : List (Nat × Gate) := []
  /-- Ticks in which group timers run: they stop in BANKED (R360). -/
  clock : Nat := 0
  msix : List (Nat × MsixEntry) := []
  functionMask : Bool := false
  /-- The MSI-X pending bit array. -/
  pba : BitVec 64 := 0
deriving DecidableEq, Repr

/-- One slot of a queue, in slot order (R330, R331). -/
inductive QSlot where
  /-- A closed packet of a producer: its unread words, the length word first unless it has been popped. -/
  | closed (producer : Nat) (words : List Word)
  /-- A void word standing alone. -/
  | void (w : Word)
  /-- An open packet: its slot is reserved, its words pushed so far. -/
  | opened (producer : Nat) (words : List Word)
deriving DecidableEq, Repr

/-- A queue's slots and the producers that a flush cut (R329 to R335). -/
structure Queue where
  slots : List QSlot := []
  cut : List Nat := []
deriving DecidableEq, Repr

/-- A host command in execution (R343). (DESIGN CHOICE, safe: log 61) -/
structure HostCmd where
  opcode : Nat
  seq : Nat
  args : List Word
  /-- Its status and result value, while the response waits for room in Q1. -/
  result : Option (Nat × Nat) := none
deriving DecidableEq, Repr

/-- An item that a block sends to a receive ring: bytes of a Hearth buffer (R339). -/
structure RecvItem where
  handle : BitVec 32
  offset : Nat
  length : Nat
deriving DecidableEq, Repr

/-- Host interface: queues, the bulk port, the command interpreter, the PCI Express link (R324 to R347). -/
structure HostIf where
  queues : List (Nat × Queue) := []
  /-- Items that wait for a receive ring, oldest first. -/
  items : List (Nat × List RecvItem) := []
  /-- BAR2 accesses that stall and what has arrived for the bulk port since, oldest first (R274, R327, R328). -/
  bulkWait : List BusAccess := []
  bpBase : Nat := 0
  bpPtr : Nat := 0
  cmd : Option HostCmd := none
  /-- Sequence number of the last response (HST_CMD_SEQ). -/
  lastSeq : Nat := 0
  /-- Acknowledgement registers as the last checkpoint of R286 found them, and its tick. -/
  ackSeen : List (Nat × BitVec 32) := []
  ackTick : Nat := 0
  d3hot : Bool := false
  linkUp : Bool := false
  /-- QUENCH_N asserted. -/
  quenchPin : Bool := false
deriving DecidableEq, Repr

/-- One frame of a buffer (R264, R266). -/
inductive FrameState where
  | unbacked
  /-- Resident; `copy`: the spill slot that still holds a valid copy. -/
  | resident (accessed dirty : Bool) (copy : Option Nat)
  /-- In a slot of the spill region. -/
  | spilled (slot : Nat)
deriving DecidableEq, Repr

/-- The kinds of buffer (R261). -/
inductive BufKind where
  | ordinary | ring | crop
deriving DecidableEq, Repr

/-- A live buffer (R261 to R269). -/
structure Buffer where
  size : Nat := 0
  kind : BufKind := .ordinary
  pinned : Bool := false
  poisoned : Bool := false
  /-- Ring buffers: bytes per slot and slots, for R270. -/
  slotBytes : Nat := 0
  slots : Nat := 0
  /-- What an unlisted frame is: resident where the buffer was backed in full. -/
  base : FrameState := .unbacked
  frames : List (Nat × FrameState) := []
  /-- Verification of a recipe holds the handle (R414). -/
  held : Bool := false
deriving DecidableEq, Repr

/-- A handle index: the generation last issued and the live buffer (R261). -/
structure HandleSlot where
  gen : Nat := 0
  buf : Option Buffer := none
deriving DecidableEq, Repr

/-- Hearth (R259 to R277). Contents are bytes at `index * 2^40 + offset`; an unlisted byte reads as zero (R264). (DESIGN CHOICE, unsafe: log 11) -/
structure Hearth where
  slots : List (Nat × HandleSlot) := []
  bytes : List Host.Cell := []
  /-- Poisoned 64-bit units, by `(index * 2^40 + offset) / 8`. -/
  poison : List (Nat × Bool) := []
  /-- Paging out toward high_wm (R266). -/
  pagingOut : Bool := false
  /-- Page-ins requested, oldest first: (handle, frame). -/
  pageIns : List (Nat × Nat) := []
  /-- Frames under retirement: (handle, frame). -/
  retiring : List (Nat × Nat) := []
  /-- Writes held while a frame is retired: (handle, offset, bytes). -/
  heldWrites : List (Nat × Nat × List Byte) := []
  /-- Operations that wait for page-ins or free frames, with their handle: a pin on a port (0 to 4), the pin of a recipe image (5), a
  pinned allocation on a port (8 + port). -/
  pinWait : List (Nat × Nat) := []
  /-- Frames (handle, frame) that have been scrubbed in the present period, and the tick at which the period began (R273). -/
  scrubbed : List (Nat × Nat) := []
  scrubFrom : Nat := 0
  /-- Bytes granted in each class (R275). -/
  traffic : List (Nat × Nat) := []
  /-- The stack is in self-refresh (R276). -/
  selfRefresh : Bool := false
deriving DecidableEq, Repr

/-- A mark's fixed values (R220): its channel, its firing position F, its actuation delay. -/
structure Mark where
  ch : Nat
  pos : BitVec 72
  act : Nat
deriving DecidableEq, Repr

/-- An item of the Ember journal (R286). (DESIGN CHOICE, safe: log 21) -/
inductive JournalItem where
  | mark (id : Nat) (m : Mark)
  | markGone (id : Nat)
  | accepted (opcode seq : Nat)
  | completed (seq : Nat)
  | ack (queue : Nat) (value : BitVec 32)
  | serial (checkpoint : Nat)
  | retired (count : Nat)
  /-- A coefficient set that took effect: the codes of HBM reads and of writes (kind 0), trims (2), lane deskew (3). -/
  | temper (kind : Nat) (a b : List (Nat × Nat))
  | digest (d : BitVec 512)
  | faultRecord (cause blooms area : Nat)
  | fence (slices : Nat) (ctx : Nat)
  /-- A commit-buffer bank mapped to the spare (R283). -/
  | bankFence (bank : Nat)
deriving DecidableEq, Repr

/-- The Ember journal: persistent, cleared by no reset (R286 to R291). (DESIGN CHOICE, unsafe: log 9; DESIGN CHOICE, unsafe: log 10) -/
structure Journal where
  enabled : Bool := true
  usable : Nat := 2048
  spares : Nat := 64
  /-- Block writes made since the usable count last fell, and the writes that each block had taken by then (for EMB_JNL_WEAR). -/
  writes : Nat := 0
  worn : Nat := 0
  /-- Items durable in the journal, newest first. -/
  items : List JournalItem := []
  /-- Items in the write backlog, oldest first; lost at a reset. -/
  backlog : List JournalItem := []
  /-- Items waiting for room in the backlog (R287). -/
  waiting : List JournalItem := []
  /-- Journalled acknowledgement points, by queue. -/
  acks : List (Nat × BitVec 32) := []
deriving DecidableEq, Repr

/-- A Wick core's run state (WCK_CORE_STATUS.state, R320). -/
inductive CoreState where
  | reset | running | waiting | halted
deriving DecidableEq, Repr

/-- A command tag of a Wick core (R308). (DESIGN CHOICE, unsafe: log 9) -/
inductive Tag where
  | free
  /-- In use: the block command named by (target, index) has not ended. -/
  | pending (target index : Nat)
  /-- The block command has ended with a result; its completion is not yet raised. -/
  | ended (result : Nat)
  /-- Completed: waits for an AWT. -/
  | done (result : Nat)
deriving DecidableEq, Repr

/-- One Wick core (R293 to R323). (DESIGN CHOICE, unsafe: log 9) -/
structure WickCore where
  run : CoreState := .reset
  g : List (Nat × Word64) := []
  s : List (Nat × Word) := []
  pc : BitVec 32 := 0
  ex : Bool := false
  ie : Bool := false
  rp : Nat := 16
  epc : BitVec 32 := 0
  cause : BitVec 8 := 0
  badaddr : BitVec 32 := 0
  vbase : BitVec 32 := 0
  ifsp : BitVec 32 := 0
  iflim : BitVec 32 := 0
  cycle : Word64 := 0
  tcmp : Word64 := 0
  /-- tcmp has been written and its match not yet raised (R312). -/
  tcmpArmed : Bool := false
  tags : List (Nat × Tag) := []
  /-- Tick of the last watchdog restart. -/
  kicked : Nat := 0
  haltCause : BitVec 8 := 0
  /-- The opcode and bits [23:0] of the instruction that a waiting core is stalled on; it runs again (R317). -/
  stalled : Option (Nat × BitVec 24) := none
  /-- The source whose entry has been taken and whose handler has not begun (R314, R315). -/
  entry : Option Nat := none
  /-- Halted through the TAP, and allowed one instruction (R418). -/
  debugHalt : Bool := false
  debugStep : Bool := false
  /-- A service call of this core is being served (R321). -/
  inService : Bool := false
  mem : List Host.Cell := []
deriving DecidableEq, Repr

/-- A bulk port move (BMV, R309) that still has words to move: its core, its number (the index of its pending tag), its direction (1: to the handle), the next
word and local slot, the words left, and whether a word was out of range or poisoned so far. -/
structure BulkMove where
  core : Nat
  tag : Nat
  toHandle : Bool
  handle : BitVec 32
  word : Nat
  slot : Nat
  left : Nat
  bad : Bool := false
  poisoned : Bool := false
deriving DecidableEq, Repr

/-- The four Wick cores and their shared memory. (DESIGN CHOICE, unsafe: log 11) -/
structure Wick where
  cores : List (Nat × WickCore) := []
  shared : List Host.Cell := []
  /-- Service calls in the order made. -/
  svc : List (Fin 4) := []
  /-- Bulk moves that wait for a page-in or a retirement, in the order issued. -/
  moves : List BulkMove := []
deriving DecidableEq, Repr

/-- The states of the time base (R365). -/
inductive TimeState where
  | unset | tracking | holdover | held
deriving DecidableEq, Repr

/-- A PTP exchange in progress (R366, R371). -/
structure Exchange where
  seq : Nat
  source : BitVec 80
  /-- Precise origin time, once known (2^-16 ns). -/
  t1 : Option Int
  cS : Int
  t2 : Int
  /-- The unbroken stretch of the counter on which t2 was taken. -/
  stretch : Nat
  t3 : Option (Int × Nat)
deriving DecidableEq, Repr

/-- The time base, PTP and the plant ports (R362 to R380). -/
structure TimeBase where
  /-- The time counter, in 2^-32 ns. -/
  counter : Nat := 0
  state : TimeState := .unset
  /-- The servo's integral term I. -/
  integral : Int := 0
  /-- rate, in 2^-32 ns per tick. -/
  rate : Int := 0
  /-- A step decided and not yet in effect: the offset o (R367). -/
  stepOffset : Option Int := none
  /-- Ticks of HELD that remain. -/
  hold : Nat := 0
  /-- Advances at every step and at every HELD boundary (R371). -/
  stretch : Nat := 0
  offset : Int := 0
  mpd : Option Int := none
  restep : Bool := false
  exchange : Option Exchange := none
  /-- Tick of the last accepted Sync, or of the choice of source. -/
  lastSync : Nat := 0
  lastDelayReq : Option Nat := none
  /-- logMessageInterval of the last Delay_Resp. -/
  logInterval : Int := 0
  delaySeq : Nat := 0
  /-- The selected master: its source port identity and announced data set (R372). -/
  master : Option (BitVec 80 × AnnounceData) := none
  /-- Datagram counts of the ports (R376). -/
  dgramSeq : List (Nat × Nat) := []
  /-- Levels on the GPIO balls as sampled. -/
  gpio : BitVec 32 := 0
deriving DecidableEq, Repr

/-- Temper (R381 to R389). Coefficients by index: HBM read and write codes, interpolator trims, lane deskew. (DESIGN CHOICE, unsafe: log 10) -/
structure Temper where
  hbmRead : List (Nat × Nat) := []
  hbmWrite : List (Nat × Nat) := []
  trims : List (Nat × Nat) := []
  deskew : List (Nat × Nat) := []
  measuredRead : List (Nat × Nat) := []
  measuredWrite : List (Nat × Nat) := []
  measuredTrims : List (Nat × Nat) := []
  measuredDeskew : List (Nat × Nat) := []
  /-- The journalled sets as the last reset found them (R286, R388). -/
  savedRead : List (Nat × Nat) := []
  savedWrite : List (Nat × Nat) := []
  savedTrims : List (Nat × Nat) := []
  /-- Tick at which a retraining became due, and whether hbm_overdue has been set for it. -/
  hbmDue : Option Nat := none
  /-- hbm_overdue has been set for the present wait (R382). -/
  overdue : Bool := false
  /-- A commit interval has opened with no replay reads outstanding while a retraining waits (R382). -/
  boundary : Bool := false
  hbmStart : Option Nat := none
  hbmEnd : Nat := 0
  /-- The last retraining failed its verify (R383). -/
  hbmRetry : Bool := false
  tdcDue : Option Nat := none
  tdcStart : Option Nat := none
  tdcEnd : Nat := 0
  /-- Tick at which a new calibration is due after a failure (R386). -/
  tdcAgain : Option Nat := none
  /-- Interpolators that failed their last calibration (R386). -/
  tdcFailed : List Nat := []
  /-- Die temperature (0.25 °C) at the last retraining. -/
  lastTemp : Int := 0
deriving DecidableEq, Repr

/-- The fuse bank (R409 to R419): permanent. (DESIGN CHOICE, unsafe: log 9; DESIGN CHOICE, unsafe: log 10) -/
structure Fuses where
  custKey : Option (BitVec 512) := none
  slotDead : Bool := false
  debugDisabled : Bool := false
  fwSvnMin : Nat := 0
  rcpSvnMin : Nat := 0
deriving DecidableEq, Repr

/-- A verification or signature in progress or waiting (R420). -/
inductive SecJob where
  | tapUnlock (level : Nat)
  | registerUnlock (level : Nat)
  | attest
  | recipe
deriving DecidableEq, Repr

/-- The JTAG TAP's selected instruction (R418). -/
inductive TapInstr where
  | bypass | idcode | sample | extest | clamp | highz | wickDebug
deriving DecidableEq, Repr

/-- Ialdalis (R409 to R421). (DESIGN CHOICE, unsafe: log 9) -/
structure Security where
  fuses : Fuses := {}
  meas : List (Nat × BitVec 512) := []
  debugLevel : Nat := 0
  jobs : List SecJob := []
  /-- Number of challenges drawn: the challenge is the entropy source's value of this count. -/
  draws : Nat := 0
  bootFails : Nat := 0
  provOp : Option Nat := none
  provData : List (Nat × BitVec 32) := []
  fwSvn : Nat := 0
  rcpSvn : Option Nat := none
  tap : TapInstr := .idcode
  /-- The bypass register. -/
  bypassBit : Bool := false
  /-- Levels preloaded in the boundary cells, and driven on the balls, by ball number. -/
  preload : List (Nat × Bool) := []
  balls : List (Nat × Bool) := []
deriving DecidableEq, Repr


/-! ### The pixel path (R29 to R258) -/

/-- One encoder input (R46 to R58): POR domain. (DESIGN CHOICE, unsafe: log 9; DEDUCED, unsafe: log 107; DEDUCED, unsafe: log 108) -/
structure EncIn where
  a : Bool := false
  b : Bool := false
  z : Bool := false
  /-- Pulse-train mode: the level of B has changed since the last counted edge (R52). -/
  flipped : Bool := false
  count : BitVec 56 := 0
  /-- Time of the last counted edge (0.25 ns of the time counter, R364) and the CLK_CTL sample that counted it; none before the
  first counted edge since the input was enabled. -/
  edge : Option (Nat × Nat) := none
  /-- The same edge in link time, 0.25 ns (R223). -/
  edgeLt : Nat := 0
  /-- The period of the last counted edge in link time, 0.25 ns (R223). -/
  periodLt : Nat := 0
  /-- Direction of the last counted edge since the input was enabled: counting up. -/
  up : Option Bool := none
  /-- Counted edges still needed before the period is valid (R56). -/
  need : Nat := 2
  /-- Tick from which the standstill timeout counts; none once standstill stands (R57). -/
  quiet : Option Nat := none
  /-- A preset is armed for the next reference (R58). -/
  armed : Bool := false
  /-- Bit j: an illegal transition of this input since latch unit j's previous latch (R61). -/
  uncertain : BitVec 16 := 0
deriving DecidableEq, Repr

/-- One trigger compare unit (R62 to R67). (DESIGN CHOICE, unsafe: log 9) -/
structure TrigUnit where
  /-- NEXT in force, and the staged low word (R66). -/
  next : BitVec 72 := 0
  stage : BitVec 32 := 0
  /-- HI of the NEXT in force at a read of LO, for the next read of HI (R69). -/
  snap : Option (BitVec 32) := none
  /-- The period in force, 1/65,536 count (R67). -/
  period : Nat := 0
  /-- NEXT has been compared with the present position since it was last set or held (R64). -/
  checked : Bool := false
  /-- CLK_CTL cycle of the last trigger. -/
  last : Option Nat := none
  /-- The next trigger follows a late point. -/
  late : Bool := false
  /-- CLK_CTL cycle at which the LTRIG pulse in progress ends (R65). -/
  pulseEnd : Option Nat := none
deriving DecidableEq, Repr

/-- A latch of the master at a line trigger as one context holds it (R33, R59, R100). -/
structure Latch where
  /-- Position P of R33 (0 without a master). -/
  pos : BitVec 72
  /-- The line's time, in 2^-32 ns of the time counter. -/
  time : Nat
  /-- t_g in 0.25 ns of the time counter (R364). -/
  tg : Nat
  late : Bool
deriving DecidableEq, Repr

/-- Encoders, latch units and trigger units. -/
structure Position where
  enc : List (Nat × EncIn) := []
  trg : List (Nat × TrigUnit) := []
  /-- latch_seq of each latch unit (R61). -/
  latSeq : List (Nat × Nat) := []
deriving DecidableEq, Repr

/-- The link states of R77. -/
inductive LinkState where
  | down | discover | config | retune | up
deriving DecidableEq, Repr

/-- The control transactions of bring-up, in order (R75, R77 to R79, R82, R83). -/
inductive BringStep where
  /-- DISCOVER, once the master connection is aligned. -/
  | standard
  /-- CONFIG. -/
  | revision
  | deviceConnectionId (lane : Nat)
  | connectionConfigDefault
  | controlPacketSizeMax
  | wimenSig
  | wimenCap
  | streamPacketSizeMax
  /-- RETUNE. -/
  | connectionConfig
  | wimenCtrl
  /-- The acknowledgement is in; the receivers gain lock at the new rate. -/
  | locking
  | verify
  /-- The ConnectionConfig read of a resumed link (R81). -/
  | resumeRead
deriving DecidableEq, Repr

/-- One link of a port (R76 to R83), by master lane. -/
structure Link where
  state : LinkState := .down
  step : BringStep := .standard
  /-- Tick at which the present transaction was sent, and whether it is the second attempt (R80). -/
  sent : Option Nat := none
  second : Bool := false
  /-- Tick of the entry to DISCOVER; of the acknowledgement that started RETUNE. -/
  since : Nat := 0
  /-- Chosen rate code and connection count. -/
  rate : Nat := 0
  conns : Nat := 0
  /-- What CONFIG has read: connections found (bit c), the camera's rate and largest count, the Wimen capability. -/
  found : Nat := 0
  camRates : List Nat := []
  camConns : List Nat := []
  wimenSig : Bool := false
  wimenConns : Nat := 0
  wimenExcluded : Bool := false
  /-- Receivers at the Wimen rate. -/
  switched : Bool := false
  /-- The uplink runs at 41.667 Mbit/s, otherwise at 20.833 Mbit/s (R72). -/
  fast : Bool := false
  /-- UP when BANKED was entered: resumes at wake (R81). -/
  resume : Bool := false
  resuming : Bool := false
deriving DecidableEq, Repr

/-- A stream's image state on one link and stream ID: what the last image header said (R74, R97, R99). -/
structure Stream where
  /-- The stream's pixel format is supported. -/
  supported : Bool := true
  /-- The format code of INT_CTX_CFG; none before the first image header. -/
  format : Option Nat := none
  /-- Lines and width that the image header declared, and lines begun since. -/
  lines : Nat := 0
  width : Nat := 0
  begun : Nat := 0
  /-- A header or marker has come: the next pixel begins a line. -/
  fresh : Bool := false
deriving DecidableEq, Repr

/-- A mailbox transaction of a port (R80, R88): its link, its direction, address and data, the tick at which it was sent. -/
structure Mail where
  link : Nat
  write : Bool
  addr : BitVec 32
  data : BitVec 32
  sent : Option Nat := none
  second : Bool := false
deriving DecidableEq, Repr

/-- Camera lanes: 16 ports, 64 connections (R71 to R93). -/
structure Lanes where
  links : List (Nat × Link) := []
  /-- Lanes with CDR lock and alignment (or block lock). -/
  locked : BitVec 64 := 0
  streams : List (Nat × Stream) := []
  /-- Trigger packets of a link, by master lane (R90): the CLK_CTL sample + 1 of the one that holds the place in transmission, the tick
  + 1 at which it started (0: it has not yet), and the CLK_CTL sample + 1 of the one waiting. -/
  trigNow : List (Nat × Nat) := []
  trigStart : List (Nat × Nat) := []
  trigWait : List (Nat × Nat) := []
  /-- CLK_CTL sample + 1 of the last packet made for a port (R90). -/
  trigMade : List (Nat × Nat) := []
  /-- Mailbox transactions in progress, by port (R80, R88). -/
  mailbox : List (Nat × Option Mail) := []
  /-- Scans running: by lane the tick of start, plus one. -/
  scans : List (Nat × Nat) := []
  /-- Marker block counts by lane (R84). -/
  markers : List (Nat × Nat) := []
deriving DecidableEq, Repr

/-- A corrected or raw camera line with its tag (R39, R96): `n` pixels received, the rest padding. -/
structure Line where
  ctx : Nat
  seq : Nat
  w0 : Word
  w1 : Word
  w2 : Word
  n : Nat
  /-- Bits per sample, 12 or 18. -/
  bits : Nat := 12
  px : List Nat
  /-- Order key of R102: t_g, or the arrival time, in 0.25 ns. -/
  key : Nat := 0
  /-- The gate was closed at its first packet (R103), or the context has no ring (R106). -/
  gated : Bool := false
  dropped : Bool := false
  /-- Exempt from the two-line limit (R102). -/
  exempt : Bool := false
  /-- Its ring write is deferred by a retraining pause (R102). -/
  deferred : Bool := false
  reinjected : Bool := false
  /-- The commit interval that it was taken into (R144). -/
  interval : Option Nat := none
deriving DecidableEq, Repr

/-- A line in assembly (R97 to R101). -/
structure OpenLine where
  /-- INT_CTX_CFG, WIDTH and FILL as they stood at its first pixel. -/
  cfg : BitVec 32
  width : Nat
  fill : Nat
  px : List Nat := []
  excess : Nat := 0
  crc : Bool := false
  latch : Latch
  /-- The list's latch that the line removed, given back on an overrun (R104). -/
  taken : Option Latch := none
  gated : Bool := false
  /-- Tick of the last stream data. -/
  lastData : Nat := 0
deriving DecidableEq, Repr

/-- A context's assembly state (R94 to R101). -/
structure Ctx where
  line : Option OpenLine := none
  /-- Latches, oldest first. -/
  latches : List Latch := []
  /-- An image header or line marker has come and the next pixel begins a line. -/
  ready : Bool := false
  seq : Nat := 0
deriving DecidableEq, Repr

/-- A re-injection in progress (R108): per context the next sequence and the lines still to read. -/
structure Reinjection where
  todo : List (Nat × Nat × Nat) := []
  /-- Contexts whose temporal state has been emptied at their first re-injected line. -/
  fresh : List Nat := []
  abort : Bool := false
deriving DecidableEq, Repr

/-- The six registers of a correction parameter set (R124). -/
structure CorSet where
  nr : BitVec 32
  tnr : BitVec 32
  dark : BitVec 32
  gain : BitVec 32
  dfct : BitVec 32
  lin : BitVec 32
deriving DecidableEq, Repr

/-- A line on its pixel lane: the set and interval fixed at its first pixel, and whether it is held (R126). -/
structure OnLane where
  line : Line
  set : CorSet
  /-- It is the interval-start line of its interval. -/
  start : Bool := false
  /-- The context took no line into the interval before (R126). -/
  gap : Bool := false
  held : Bool := false
  /-- The replay feeder supplied it, so that it takes no room in the intake buffer (R280). -/
  fed : Bool := false
deriving DecidableEq, Repr

/-- Intake (R94 to R110). -/
structure Intake where
  ctx : List (Nat × Ctx) := []
  /-- Lines whose ring write has not completed, oldest first. -/
  ringWrites : List Line := []
  /-- Eligible lines (R102). -/
  eligible : List Line := []
  /-- The line on each pixel lane. -/
  lanes : List (Nat × Option OnLane) := []
  reinj : Option Reinjection := none
  /-- Per lane, the lines (context, sequence) that end the hold by back-pressure once sent (R102). -/
  backlog : List (Nat × List (Nat × Nat)) := []
deriving DecidableEq, Repr

/-- A context's correction state (R114, R124 to R128). (DEDUCED, unsafe: log 125) -/
structure CorCtx where
  active : Option CorSet := none
  pending : Option CorSet := none
  empty : Bool := true
  emptyA : Bool := true
  emptyB : Bool := true
  /-- Interval of the last line that updated the temporal state. -/
  updated : Option Nat := none
  /-- Interval of the last line taken. -/
  last : Option Nat := none
  fence2 : Bool := false
  fence35 : Bool := false
  fence6 : Bool := false
deriving DecidableEq, Repr

/-- A coefficient capture (R122). -/
structure Capture where
  ctx : Nat
  tap : Nat
  lines : Nat
  handle : BitVec 32
  sums : List Nat := []
  /-- Sequences summed. -/
  seqs : List Nat := []
deriving DecidableEq, Repr

/-- A load from a Hearth handle into on-chip stores (R121, R165). -/
structure StoreLoad where
  start : Nat
  count : Nat
  handle : BitVec 32
  target : Nat := 0
deriving DecidableEq, Repr

/-- The correction pipeline (R111 to R129). (DESIGN CHOICE, unsafe: log 11) -/
structure Correction where
  ctx : List (Nat × CorCtx) := []
  bank : List (Nat × BitVec 16) := []
  snapA : List (Nat × BitVec 16) := []
  snapB : List (Nat × BitVec 16) := []
  coef : List (Nat × BitVec 16) := []
  /-- Tables by 4,096 × table + entry. -/
  lut : List (Nat × BitVec 18) := []
  /-- Lines between lane and stitcher, oldest first. -/
  out : List Line := []
  capture : Option Capture := none
  load : Option StoreLoad := none
deriving DecidableEq, Repr

/-- A segment's placement registers (R130, R151). -/
structure SegSet where
  cfg : BitVec 32
  first : BitVec 32
  last : BitVec 32
  u0 : BitVec 32
  step : BitVec 32
  md : BitVec 32
  level : BitVec 32
  ramp : BitVec 32
  knots : List (Nat × BitVec 16)
deriving DecidableEq, Repr

/-- How a segment serves a stitched line (R137, R139, R146): sequences of A and B with f, or the blank. -/
inductive Serve where
  | single (a : Nat)
  | pair (a b f : Nat)
  | blank
deriving DecidableEq, Repr

/-- A founded stitched line on its way to being formed. -/
structure Founded where
  k : Nat
  /-- Its reference line. -/
  ref : Nat
  w0 : Word
  g : Word
  w2 : Word
  tick : Nat
  serves : List (Nat × Serve) := []
  /-- Stripes of segments blanked because their line was lost (R281). -/
  lost : BitVec 16 := 0
deriving DecidableEq, Repr

/-- A stitched line (R43, R135). -/
structure StLine where
  k : Nat
  w0 : Word
  w1 : Word
  w2 : Word
  px : List Nat
  excl : List Bool
  /-- Stripes that carry suspect. -/
  stripes : BitVec 16 := 0
deriving DecidableEq, Repr

/-- One seam's sums over an interval (R147): SAD(d) by d + search, the window sums, the lines that qualified. -/
structure SeamSum where
  sad : List Nat := []
  sumA : Nat := 0
  sumB : Nat := 0
  lines : Nat := 0
deriving DecidableEq, Repr

/-- A kernel set (R165). -/
structure KSet where
  entry : Nat := 0
  first : Nat := 0
  last : Nat := 0
  maxBundles : Nat := 16
  lutUse : Nat := 0
  params : List (Nat × Word) := []
deriving DecidableEq, Repr

/-- An uncommitted commit interval (R144 to R148, R167, R279 to R285). -/
structure Ival where
  num : Nat
  /-- Correction sets of the contexts that took a line into it (R125), and whether the context took no line into the interval
  before (R126). -/
  cor : List (Nat × CorSet × Bool) := []
  /-- Lines (context, sequence) taken into it, in order. -/
  taken : List (Nat × Nat) := []
  /-- The lines among them at which the context's temporal state was made empty for a re-injection (R108, R127). -/
  emptied : List (Nat × Nat) := []
  segs : List (Nat × SegSet) := []
  timing : BitVec 32 := 0
  gap : BitVec 32 := 0
  corr : BitVec 32 := 0
  shifts : List (Nat × Int) := []
  kset : KSet := {}
  /-- Decisions of its stitched lines (R146), complete or not. -/
  founded : List Founded := []
  seams : List (Nat × SeamSum) := []
  /-- The replay is its second attempt; its lines carry replayed. -/
  second : Bool := false
  replayed : Bool := false
  /-- First attempt: slices not clean, commit-buffer banks that failed, correction entries (context, bank, entry). -/
  slices1 : BitVec 16 := 0
  banks1 : List Nat := []
  cor1 : List (Nat × Nat × Nat) := []
  /-- This attempt's uncorrectable correction entries. -/
  corNow : List (Nat × Nat × Nat) := []
  detect : Nat := 0
  lost : Nat := 0
  /-- Its replay found a line lost: all its lines are suspect; the stripes of the contexts of such lines (R281, R285). -/
  suspectAll : Bool := false
  lostStripes : BitVec 16 := 0
  /-- Class lines of it already committed as a partial interval. -/
  committed : Nat := 0
  /-- Arrivals at the array, in CLK_PIX cycles: first, last, count (R158). -/
  arriveFirst : Nat := 0
  arriveLast : Nat := 0
  arrivals : Nat := 0
  /-- Per slice: words ended, the sum of their cycle counts, and the CRC-32C over its class words (R169). -/
  words : List (Nat × Nat) := []
  cycles : List (Nat × Nat) := []
  crcs : List (Nat × BitVec 32) := []
deriving DecidableEq, Repr

/-- The stitcher (R130 to R152). (DESIGN CHOICE, unsafe: log 11) -/
structure Stitcher where
  /-- Active set, by segment; the pending set; the shadow knots by 65 × segment + knot. -/
  segs : List (Nat × SegSet) := []
  pending : Option (List (Nat × SegSet)) := none
  knots : List (Nat × BitVec 16) := []
  shifts : List (Nat × Int) := []
  /-- Correlation updates that wait for the next interval (R148, R149): seam, segment moved, new shift. -/
  shiftNext : List (Nat × Nat × Int) := []
  /-- STI_TIMING, STI_GAP and STI_CORR_CFG in force (R151). -/
  timing : BitVec 32 := 0x00024E20
  gap : BitVec 32 := 0
  corr : BitVec 32 := 0x00048010
  /-- Alignment store: per segment its lines in arrival order, the cursor's A first (R137, R140). -/
  store : List (Nat × List Line) := []
  formed : List StLine := []
  /-- Stitched sequence of the next line founded, and the number of the newest open interval. -/
  nextK : Nat := 0
  /-- Stitched sequence of the next line to be formed. -/
  nextForm : Nat := 0
  newest : Nat := 0
  /-- Uncommitted intervals, oldest first. -/
  ivals : List Ival := []
  /-- Per segment, the cursor that the committed intervals left (R137): the A of their last decision; of the reference segment, the last
  founding line. -/
  cursor : List (Nat × Nat) := []
  /-- Tick at which a reference line last left correction, or from which the loss is judged. -/
  lastRef : Nat := 0
deriving DecidableEq, Repr

/-- An instruction slot given to an engine for the bundle it assembles: slot 0 to 2 and its 40 bits. -/
structure SlotInstr where
  slot : Nat
  bits : BitVec 40
deriving DecidableEq, Repr

/-- A result pending in an engine (R180, R181): register or predicate, the cycle from which it can be read, and the view
of a MAC issued in the bundle just before. -/
structure PendWrite where
  pred : Bool
  reg : Nat
  ready : Nat
  mac : Option Nat := none
  /-- The bundle that wrote it, counted from the word's start. -/
  bundle : Nat := 0
deriving DecidableEq, Repr

/-- A word engine (R153, R157, R179 to R182). -/
structure Engine where
  k : Nat
  w : Nat
  v : List (Nat × Word) := []
  p : List (Nat × BitVec 6) := []
  pc : Nat := 0
  cycles : Nat := 0
  bundles : Nat := 0
  pend : List PendWrite := []
  slots : List SlotInstr := []
  cls : Option Word := none
  img : List (Nat × Word) := []
deriving DecidableEq, Repr

/-- A stitched line's outputs as the slices release them: by slice, the class words and the words of each channel. -/
structure ClassLine where
  line : StLine
  /-- By 4,096 × slice + word: the class word; by 65,536 × channel + 4,096 × slice + word: the channel word. -/
  cls : List (Nat × Word) := []
  img : List (Nat × Word) := []
  /-- By slice, the output words dispatched and ended. -/
  sent : List (Nat × Nat) := []
  ended : List (Nat × Nat) := []
  released : Bool := false
deriving DecidableEq, Repr

/-- The Anvil array (R153 to R173). (DESIGN CHOICE, unsafe: log 11) -/
structure Anvil where
  active : Option KSet := none
  pending : Option KSet := none
  shadow : List (Nat × Word) := []
  store : List (Nat × BitVec 128) := []
  lut : List (Nat × BitVec 18) := []
  /-- Stitched lines accepted that windows may still read, oldest first. -/
  lines : List StLine := []
  /-- Lines whose output words are not all released, and released lines that wait for the commit buffer. -/
  work : List ClassLine := []
  engines : List (Nat × Option Engine) := []
  /-- Fenced slices and the interval from which the fence holds (R170). -/
  fences : List (Nat × Nat) := []
  /-- C of R158 as the pair (cycles, line periods). -/
  rate : Option (Nat × Nat) := none
  /-- CLK_PIX cycle of the last stitched line's arrival. -/
  lastLine : Nat := 0
  /-- Stitched lines after which the end of the flow was declared (R159). -/
  flowEnds : List Nat := []
  /-- While the stitcher is stalled (R160): the CLK_PIX cycle up to which its stalled cycles are counted, and the active slices that had no
  free slot then. -/
  stallFrom : Option Nat := none
  stallSlices : List Nat := []
  load : Option StoreLoad := none
deriving DecidableEq, Repr

/-- A class line in the commit buffer (R196). -/
structure CommitLine where
  line : StLine
  cls : List Nat
deriving DecidableEq, Repr

/-- An open bloom (R201 to R207). -/
structure OpenBloom where
  /-- The stripe of an overflow bloom. -/
  ovf : Option Nat := none
  /-- Its origin. -/
  oseq : Nat
  ocol : Nat
  firstW1 : Word
  firstW2 : Word
  lastSeq : Nat
  lastW1 : Word
  /-- Count of lines processed before its first line. -/
  index : Nat
  area : Nat := 0
  sum : Nat := 0
  min : Nat := 255
  max : Nat := 0
  cdMin : Nat
  cdMax : Nat
  /-- Sums of x and of W1 over its pixels. -/
  sumX : Nat := 0
  sumW1 : Int := 0
  /-- Pixels by class. -/
  hist : List (Nat × Nat) := []
  merges : Nat := 0
  edge : Bool := false
  overflow : Bool := false
  forced : Bool := false
  continued : Bool := false
  /-- Bits [21:16] of its lines' W0. -/
  flags : Nat := 0
  perim : Nat := 0
  /-- Its runs on the line processed last, and on the line in process. -/
  frontier : List (Nat × Nat) := []
  fresh : List (Nat × Nat) := []
deriving DecidableEq, Repr

/-- A crop still to be cut: first and last stitched line (as integers: a margin may reach below 0), first and last
column, words per crop line, handle (R212, R213). -/
structure Crop where
  first : Int
  last : Int
  cd0 : Nat
  cd1 : Nat
  cw : Nat
  /-- Its image channel. -/
  ch : Nat
  handle : BitVec 32
  /-- A partial interval has been processed since the crop was requested. -/
  due : Bool := false
  /-- The cut has begun. -/
  cutting : Bool := false
deriving DecidableEq, Repr

/-- A formed record: its eight words, and its crop until that is settled (R209 to R214). -/
structure Record where
  serial : Nat
  words : List Word
  crop : Option Crop := none
  /-- The crop's handle, 0 without one: pinned until the record is pushed (R261). -/
  handle : BitVec 32 := 0
deriving DecidableEq, Repr

/-- What waits for Bloom: a committed line with its interval and whether it is the first of a committed (partial)
interval, or the forced closure of every open bloom (R198, R204). -/
inductive BloomItem where
  | line (l : CommitLine) (interval : Nat) (first : Bool)
  | closeAll (partialDone : Bool)
deriving DecidableEq, Repr

/-- The commit buffer and the Bloom engine (R196 to R219). -/
structure BloomEngine where
  buffer : List CommitLine := []
  /-- Committed lines that Bloom has not read. -/
  committed : List BloomItem := []
  /-- Tick of the last line entered. -/
  lastEnter : Nat := 0
  /-- The last interval committed whole. -/
  lastCommit : Option Nat := none
  blooms : List OpenBloom := []
  /-- Runs of force-closed blooms on the line processed last (R204). -/
  cut : List (Nat × Nat) := []
  prevExcl : List Bool := []
  /-- Lines processed. -/
  lines : Nat := 0
  lastSeq : Nat := 0
  serial : Nat := 0
  fifo : List Record := []
  /-- Records of closed blooms that wait for a place in the full FIFO. -/
  stalled : List Record := []
  /-- Settings in force by register key (R218). -/
  cfg : List (Nat × BitVec 32) := []
  /-- Commit-buffer bank mapped to the spare (R283). -/
  spare : Option Nat := none
deriving DecidableEq, Repr

/-- The states of a mark (R224). -/
inductive MarkState where
  | waiting
  /-- FIRE queued or sent, with t_fire in 0.25 ns of link time. -/
  | sent (t : Nat)
  | late
deriving DecidableEq, Repr

/-- A marker-link frame that is due: FIRE or CANCEL of a channel for an instant (0.25 ns). -/
structure DueFrame where
  cancel : Bool
  ch : Nat
  t : Nat
  mark : Nat
deriving DecidableEq, Repr

/-- A marker link (R230 to R234). -/
structure MarkLink where
  due : List DueFrame := []
  /-- Ticks since which a SYNC is due; the number of the last one. -/
  sync : Option Nat := none
  syncs : Nat := 0
  config : List Nat := []
deriving DecidableEq, Repr

/-- Tongs (R220 to R235). -/
structure TongsUnit where
  marks : List (Nat × Mark × MarkState) := []
  nextId : Nat := 0
  /-- Held marks are not evaluated (R230). -/
  frozen : Bool := false
  /-- The HOLD state that stands was entered by Quench, not by a hold command (R222). -/
  byQuench : Bool := false
  links : List (Nat × MarkLink) := []
deriving DecidableEq, Repr

/-- The shadow registers of an output stream set (R240). -/
structure OstSet where
  cfg : BitVec 32
  crop : BitVec 32
  width : BitVec 32
  dec : BitVec 32
  phase : BitVec 32
  scale : BitVec 32
  startLo : BitVec 32
  startHi : BitVec 32
  count : BitVec 32
deriving DecidableEq, Repr

/-- The states of R241. -/
inductive OstState where
  | idle | wait | run | done
deriving DecidableEq, Repr

/-- What a unit keeps while it runs, and what a snapshot saves of it (R237, R244): the reduced lines since s0 that
windows may still reach (newest first: stitched sequence, b, tag words), s0, the output lines since s0, out_seq. -/
structure OstRun where
  state : OstState := .idle
  s0 : Nat := 0
  /-- Source lines taken since s0. -/
  t : Nat := 0
  lines : List (Nat × List Nat × Word × Word × Word) := []
  n : Nat := 0
  outSeq : Nat := 0
  /-- Blocks (output line numbers) that hold a skipped line (R239). -/
  skipped : List Nat := []
deriving DecidableEq, Repr

/-- An output stream unit (R236 to R245). -/
structure OstUnit where
  active : Option OstSet := none
  pending : Option OstSet := none
  run : OstRun := {}
  /-- In WAIT without start_at_seq: the first stitched line of the boundary, s0. -/
  start : Option Nat := none
  /-- A stop has been written and waits for the next source line boundary. -/
  stop : Bool := false
  /-- By interval parity: the interval's number and the unit as its first line found it (R244). -/
  snap : List (Nat × Nat × OstRun) := []
  /-- Start and end (CLK_PIX cycles) of the accepted lines still in work in integrate-and-dump (R239). -/
  work : List (Nat × Nat) := []
deriving DecidableEq, Repr

/-- A compression job (R247) and its state in its engine. -/
structure CmpJob where
  w0 : Word
  w1 : Word
  w2 : Word
  w3 : Word
deriving DecidableEq, Repr

/-- An open stream (R250 to R256). -/
structure CmpStream where
  wrap : Nat
  history : List Byte := []
  adler : Nat := 1
  crc : Nat := 0
  count : Nat := 0
deriving DecidableEq, Repr

/-- A compression engine (R246 to R257). -/
structure CmpEngine where
  job : Option CmpJob := none
  resident : Option Nat := none
  /-- A job taken that waits for its stream to become resident (R255). -/
  waits : Option CmpJob := none
  /-- A completion packet that waits for its queue. -/
  completion : Option (Nat × List Word) := none
  /-- It has still to save its resident stream, for save_all or BANK. -/
  saving : Bool := false
  /-- Bytes in and out of the jobs ended OK (CMP_ENG_IN, CMP_ENG_OUT). -/
  inBytes : Nat := 0
  outBytes : Nat := 0
deriving DecidableEq, Repr

/-- The compression engines. (DESIGN CHOICE, unsafe: log 11) -/
structure Compression where
  streams : List (Nat × CmpStream) := []
  engines : List (Nat × CmpEngine) := []
  /-- Code lengths by 512 × set + entry. -/
  tables : List (Nat × BitVec 4) := []
  saveAll : Bool := false
  /-- The engines with a job that waits, in the order in which they took it. -/
  waiting : List Nat := []
deriving DecidableEq, Repr

/-- A load or unload in progress (R319, R344). -/
structure LoadRun where
  unload : Bool := false
  handle : BitVec 32 := 0
  /-- The buffer was pinned before the load. -/
  wasPinned : Bool := true
  /-- The step of R319 that the load is in: 1, 3 or 6. -/
  step : Nat := 1
  tick : Nat := 0
  /-- The key and version state latched at the start of the verification (R417). -/
  keys : Bool × Bool × Nat := (false, false, 0)
  svn : Nat := 0
  digest : BitVec 512 := 0
  /-- Cores 1 to 3 as step 2 halted them. -/
  cores : List (Nat × WickCore) := []
  ports : BitVec 16 := 0
  linkWait : Nat := 0
  /-- Cores with a start section: entry pc, vbase, ifsp, iflim. -/
  starts : List (Nat × List Nat) := []
deriving DecidableEq, Repr

/-- The recipe in force: its digest and the ring buffers that its load has reserved; the load in progress. -/
structure Recipe where
  loaded : Bool := false
  digest : BitVec 512 := 0
  rings : List (BitVec 32) := []
  run : Option LoadRun := none
deriving DecidableEq, Repr

/-- The replay feeder (R279 to R281): lines (context, sequence, recorded interval) still to supply. -/
structure Feeder where
  todo : List (Nat × Nat × Option Nat) := []
  running : Bool := false
deriving DecidableEq, Repr


/-- Recovery after a fault reset (R290, R291): the restore list with the journal's numbers of the marks, the tick from which
restore_hold_ms runs, the journalled digest; the commands still to be answered with FAULT; the Bloom serial of the next load;
the marks that were lost in the backlog at the reset. -/
structure Recovery where
  marks : List (Nat × Mark) := []
  since : Option Nat := none
  digest : BitVec 512 := 0
  answers : List (Nat × Nat) := []
  serial : Option Nat := none
  backlogLost : Nat := 0
deriving DecidableEq, Repr


/-- Why the machine stops with a fault. No command of the spec stops the model so: every error the spec describes is an
effect on the state (a status, a flag, the FAULT state). -/
inductive Fault where
  /-- Raised by no meaning. Safe. -/
  | none
deriving DecidableEq, Repr

/-- Why a command has no answer. -/
inductive Refusal where
  /-- The command has no meaning in the model yet. Safe: no statement can be proved through it. -/
  | notModelled (mnemonic : String)
deriving DecidableEq, Repr

/-- The state of the ML16. -/
structure State where
  /-- The commands that wait, first in first out. -/
  pending : List Instr := []
  /-- What has left the device, newest first (the model's own record). -/
  out : List Out := []
  /-- CLK_TIME ticks (8 ns) since the state after reset: link time (the model's clock, R223). -/
  ticks : Nat := 0
  /-- Counts the open values taken so far; Config.freeValue is applied to it (the model's own field). -/
  free : Nat := 0
  grade : Grade := .commercial
  /-- Every BAR0 register whose value differs from its reset value, by register key (RegMap). -/
  regs : List (Nat × BitVec 32) := []
  blw : Bellows := {}
  evt : EventCtl := {}
  hst : HostIf := {}
  hrt : Hearth := {}
  jnl : Journal := {}
  wck : Wick := {}
  tim : TimeBase := {}
  tmp : Temper := {}
  sec : Security := {}
  pos : Position := {}
  lan : Lanes := {}
  int : Intake := {}
  cor : Correction := {}
  sti : Stitcher := {}
  anv : Anvil := {}
  blm : BloomEngine := {}
  tng : TongsUnit := {}
  ost : List (Nat × OstUnit) := []
  /-- The output stream units as BANK found them, for a BANK that ends BUSY (R403). -/
  heldOst : List (Nat × OstUnit) := []
  cmp : Compression := {}
  rcp : Recipe := {}
  fed : Feeder := {}
  rcv : Recovery := {}
deriving DecidableEq, Repr

/-- The machine right after reset: POR_N asserted, in RESET (R25, R393), every register at its reset value. (DESIGN CHOICE, unsafe: log 9; DESIGN CHOICE, unsafe: log 11) -/
def State.reset : State := {}


end Sys2Proof.Machine
end

