-- ==== Sys2Proof/Machine/Ops.lean ====
section
/-! DEFINITION. The named operations over registers, flags, counters, sources and time that every meaning uses. -/
namespace Sys2Proof.Machine

/-- The field of a register value. -/
def getField (v : BitVec 32) (f : Field) : Nat := bitsOf v.toNat f.hi f.lo

/-- A register value with one field replaced. -/
def putField (v : BitVec 32) (f : Field) (n : Nat) : BitVec 32 :=
  BitVec.ofNat 32 (v.toNat - getField v f * 2 ^ f.lo + n % 2 ^ (f.hi + 1 - f.lo) * 2 ^ f.lo)

/-- A register's value (R6): the stored word, or its reset value. -/
def State.rd (s : State) (k : Nat) : BitVec 32 := sget regReset s.regs k

/-- The state with a register holding a value. -/
def State.wr (s : State) (k : Nat) (v : BitVec 32) : State := { s with regs := sput regReset s.regs k v }

/-- A register field, unsigned. -/
def State.fld (s : State) (k : Nat) (f : Field) : Nat := getField (s.rd k) f

/-- A register field, two's complement. -/
def State.sfld (s : State) (k : Nat) (f : Field) : Int := signed (f.hi + 1 - f.lo) (s.fld k f)

/-- Is a one-bit field set? -/
def State.bit (s : State) (k : Nat) (f : Field) : Bool := s.fld k f == 1

/-- The state with a register field replaced. -/
def State.setFld (s : State) (k : Nat) (f : Field) (n : Nat) : State := s.wr k (putField (s.rd k) f n)

/-- Is a value a legal encoding of a field (R10)? An empty list: every encoding is legal. -/
def FieldInfo.legalValue (f : FieldInfo) (x : Nat) : Bool :=
  f.legal.isEmpty || f.legal.any fun r => decide (r.1 ≤ x) && decide (x ≤ r.2)

/-- Does a register value hold no reserved encoding? (DEDUCED, unsafe: log 27) -/
def legalReg (k : Nat) (v : BitVec 32) : Bool :=
  match regInfo k with
  | none => true
  | some r => r.fields.all fun f => f.legalValue (getField v f.field)

/-- A register value after a software write of one of its fields under its access code (R6, R8 to R10). `locked`: the
lock bit of an RWL field as it stood before the write. (DEDUCED, unsafe: log 27) -/
def FieldInfo.written (f : FieldInfo) (locked : Bool) (old v cur : BitVec 32) : BitVec 32 :=
  let x := getField v f.field
  let o := getField old f.field
  match f.access with
  | .rw => if f.legalValue x then putField cur f.field x else cur
  | .rwl => if !locked && f.legalValue x then putField cur f.field x else cur
  | .w1c => putField cur f.field (o - (o &&& x))
  | .w1s => putField cur f.field (o ||| x)
  | .ro => cur
  | .rc => cur
  | .wo => cur

/-- The value that a software write leaves in a register without an effect of its own (R6 to R10): reserved bits and
unassigned offsets ignore it. -/
def plainValue (k : Nat) (locked : Bool) (old v : BitVec 32) : BitVec 32 :=
  match regInfo k with
  | none => old
  | some r => r.fields.foldl (fun cur f => f.written locked old v cur) old

/-- A software write of a register under its access codes. (DEDUCED, unsafe: log 27) -/
def State.plainWrite (s : State) (k : Nat) (v : BitVec 32) : State := s.wr k (plainValue k false (s.rd k) v)

/-- A counter register advanced by `n`, wrapping at 2^32. -/
def State.bumpBy (s : State) (k n : Nat) : State := s.wr k (s.rd k + BitVec.ofNat 32 n)

/-- A counter register advanced by one. -/
def State.bump (s : State) (k : Nat) : State := s.bumpBy k 1

/-- A field raised to at least `n`: a high-water mark. -/
def State.highWater (s : State) (k : Nat) (f : Field) (n : Nat) : State :=
  if s.fld k f < n then s.setFld k f n else s

/-- What leaves the device. (DESIGN CHOICE, safe: log 8) -/
def State.emit (s : State) (o : Out) : State := { s with out := o :: s.out }

/-- A fresh open value and the state that has taken it. (DESIGN CHOICE, safe: log 4) -/
def State.fresh (s : State) : Nat × State := (Config.freeValue s.free, { s with free := s.free + 1 })

/-- A value, or an open one where it is not stated. (DESIGN CHOICE, safe: log 4) -/
def State.orFresh (s : State) : Option Nat → Nat × State
  | some v => (v, s)
  | none => s.fresh

/-- Link time in nanoseconds: 8 ns per CLK_TIME tick (R223). (DESIGN CHOICE, unsafe: log 2) -/
def State.nowNs (s : State) : Nat := 8 * s.ticks

/-- At least `us` microseconds have passed since a tick. (DESIGN CHOICE, unsafe: log 2) -/
def State.passedUs (s : State) (since us : Nat) : Bool := decide (us * 125 ≤ s.ticks - since)

/-- The bytes of a journal item (R286, R287). (DESIGN CHOICE, safe: log 95) -/
def journalItemBytes : Nat := Config.journalEntryBytes.val + 1

/-- Is the device in one of the states? -/
def State.inStates (s : State) (l : List DevState) : Bool := l.contains s.blw.state

/-- Do the Wick cores stand still: unpowered, in reset, or banked before step 5 of a wake (R320, R407)? -/
def State.coresStopped (s : State) : Bool :=
  s.inStates [.off, .reset] || (s.inStates [.banked] && !(s.blw.wake.any fun w => w.resumed))

/-- Does the DEGRADED condition hold (R27): after a lasting fault in the pixel path, in ARMED, RUN and HOLD? (DEDUCED, unsafe: log 179) -/
def State.degradedNow (s : State) : Bool := s.bit R.BLW_STATE F.BLW_STATE_degraded && s.inStates [.armed, .run, .hold]

/-- Does the HOLDOVER condition hold (R27): from READY to HOLD and in BANKED? -/
def State.holdoverNow (s : State) : Bool := s.tim.state == .holdover && s.inStates [.ready, .armed, .run, .hold, .banked]

/-- The state code of R25. -/
def devCode : DevState → Nat
  | .off => 0 | .reset => 1 | .boot => 2 | .ready => 3 | .armed => 4 | .run => 5 | .hold => 6 | .banked => 7 | .fault => 8

/-- The device enters a state (BLW_STATE.state reads its code). -/
def State.enter (s : State) (d : DevState) : State :=
  { s with blw := { s.blw with state := d } }.setFld (R.BLW_STATE) F.BLW_STATE_state (devCode d)

/-! ### Event sources (R348, R349, R358 to R361) -/

/-- A group's gate. -/
def State.gate (s : State) (g : Nat) : Gate := sget (fun _ => ({} : Gate)) s.evt.gates g

/-- The state with a group's gate replaced. -/
def State.setGate (s : State) (g : Nat) (x : Gate) : State :=
  { s with evt := { s.evt with gates := sput (fun _ => ({} : Gate)) s.evt.gates g x } }

/-- Some valid Lantern slot names the source (R358). -/
def State.lanternWatches (s : State) (src : Nat) : Bool :=
  (List.range 32).any fun i =>
    s.bit (R.EVT_LTN_SLOT i) F.EVT_LTN_SLOT_valid && s.fld (R.EVT_LTN_SLOT i) F.EVT_LTN_SLOT_source == src

/-- A wake begins (R360, R388, R407): only the first cause in BANKED counts; CLK_HBM runs again (R28), the stack leaves self-refresh and
one retraining runs. (DEDUCED, safe: log 82) -/
def State.startWake (s : State) (cause : Nat) : State :=
  if s.blw.state = .banked ∧ s.blw.wake = none then
    let s : State := { s with blw := { s.blw with wake := some ⟨s.ticks, cause, false⟩ }, hrt := { s.hrt with selfRefresh := false },
                              tmp := { s.tmp with hbmStart := some s.ticks } }
    (s.setFld R.TMP_STATUS F.TMP_STATUS_hbm_busy 1).setFld R.BLW_CLK_STATUS F.BLW_CLK_STATUS_hbm_pll_lock 1
  else s

/-- A raise of an enabled source in BANKED wakes the device under R358 or R359. -/
def State.wakeOn (s : State) (src : Nat) : State :=
  if s.bit R.EVT_LTN_CFG F.EVT_LTN_CFG_arm then
    (if s.lanternWatches src then s.startWake src else s)
  else s.startWake src

/-- A block raises a source (R349): an enabled source becomes pending and its group counts the raise. (DESIGN CHOICE, safe: log 31) -/
def State.raise (s : State) (src : Nat) : State :=
  if s.bit (R.EVT_SRC src) F.EVT_SRC_enable then
    let g := src / 16
    let s := s.setFld (R.EVT_SRC src) F.EVT_SRC_pending 1
    let s := s.bump (R.EVT_GRP_RAISES g)
    let s := s.setFld (R.EVT_GRP_STATUS g) F.EVT_GRP_STATUS_accum
      (min 8191 (s.fld (R.EVT_GRP_STATUS g) F.EVT_GRP_STATUS_accum + 1))
    let s := s.setFld (R.EVT_GRP_STATUS g) F.EVT_GRP_STATUS_timing 1
    let x := s.gate g
    let s := s.setGate g { x with first := some (x.first.getD s.evt.clock) }
    s.wakeOn src
  else s

/-- A hardware set of a W1C flag (R7): the flag bit, the event counter beside it. -/
def State.setFlag (s : State) (flags bit counter : Nat) : State :=
  (s.wr flags (s.rd flags ||| BitVec.ofNat 32 (2 ^ bit))).bump counter

/-- A hardware set of a W1C flag that also raises a source. -/
def State.flagRaise (s : State) (flags bit counter src : Nat) : State :=
  (s.setFlag flags bit counter).raise src

/-! ### The flag registers of the blocks, with the sources their event tables name -/

/-- BLW_FLAGS and sources 504 to 507 (R408). -/
def State.blwFlag (s : State) (b : Nat) : State := s.flagRaise R.BLW_FLAGS b (R.BLW_EVCNT b) (504 + b)

/-- HST_FLAGS and sources 480 to 486 (R347). -/
def State.hstFlag (s : State) (b : Nat) : State := s.flagRaise R.HST_FLAGS b (R.HST_EVCNT b) (480 + b)

/-- HRT_FLAGS and sources 448 to 453 (R277). -/
def State.hrtFlag (s : State) (b : Nat) : State :=
  let s := s.setFlag R.HRT_FLAGS b (R.HRT_EVCNT b)
  match b with
  | 0 => s.raise 448
  | 2 => s.raise 449
  | 3 => s.raise 450
  | 4 => s.raise 449
  | 5 => s.raise 451
  | 6 => s.raise 452
  | 7 => s.raise 453
  | _ => s

/-- EMB_FLAGS and sources 460 to 467 (R292). -/
def State.embFlag (s : State) (b : Nat) : State :=
  let s := s.setFlag R.EMB_FLAGS b (R.EMB_EVCNT b)
  match b with
  | 0 => s.raise 460
  | 1 => s.raise 461
  | 2 => s.raise 462
  | 3 => s.raise 463
  | 4 => s.raise 464
  | 5 => s.raise 464
  | 6 => s.raise 465
  | 7 => s.raise 466
  | 8 => s.raise 467
  | 9 => s.raise 461
  | _ => s

/-- TIM_FLAGS and sources 492 to 498 (R380). -/
def State.timFlag (s : State) (b : Nat) : State :=
  let s := s.setFlag R.TIM_FLAGS b (R.TIM_EVCNT b)
  match b with
  | 0 => s.raise 492
  | 1 => s.raise 493
  | 2 => s.raise 492
  | 3 => s.raise 494
  | 4 => s.raise 495
  | 5 => s.raise 495
  | 6 => s.raise 496
  | 7 => s.raise 497
  | 8 => s.raise 498
  | _ => s

/-- TMP_FLAGS and sources 502, 503: the lasting flags raise 503, the others 502 (R383, R386, R387, R389). -/
def State.tmpFlag (s : State) (b : Nat) : State :=
  s.flagRaise R.TMP_FLAGS b (R.TMP_EVCNT b) (if b = 1 ∨ b = 5 then 503 else 502)

/-- SEC_FLAGS and sources 508 to 510 (R421). -/
def State.secFlag (s : State) (b : Nat) : State :=
  s.flagRaise R.SEC_FLAGS b (R.SEC_EVCNT b) (508 + min b 2)

/-- The halted or wdog flag of a core and source 472 + n (R311, R323). -/
def State.wckFlag (s : State) (b : Nat) : State :=
  s.flagRaise R.WCK_FLAGS b (R.WCK_EVCNT b) (if b = 8 then 476 else 472 + b % 4)

/-! ### Host accesses (R324, R405) -/

/-- The BAR0 windows served in BANKED: global and Bellows, and events (R405). -/
def servedBanked (off : Nat) : Bool := off / 0x100000 == 0 || off / 0x100000 == 15

/-- A BAR0 access by host software: none in OFF, in RESET or with the BARs disabled in D3hot; in BANKED an access to
another window is a wake cause and completes after the wake; otherwise served by `f`. (DEDUCED, safe: log 23) -/
def State.hostAccess (s : State) (off : Nat) (a : BusAccess) (f : State → State) : State :=
  if s.inStates [.off, .reset] || s.hst.d3hot then s
  else if s.blw.state = .banked ∧ servedBanked off = false then
    let s := s.startWake 0x3FF
    { s with blw := { s.blw with deferred := s.blw.deferred ++ [a] } }
  else f s

/-- A BAR0 write by host software. -/
def State.hostWrite (s : State) (off : Nat) (v : BitVec 32) (f : State → State) : State :=
  s.hostAccess off (.write off v) f

/-! ### Time (R39, R362, R364) -/

/-- The W2 layout of a counter value in 2^-32 ns: seconds [71:32], nanoseconds [31:2], quarters [1:0]. -/
def timeWord (c : Nat) : Word :=
  let ns := c / 2 ^ 32
  BitVec.ofNat 72 (ns / 1000000000 % 2 ^ 40 * 2 ^ 32 + ns % 1000000000 * 4 + c / 2 ^ 30 % 4)

/-- The counter value of an edge `tap` quarters of a nanosecond into the present tick, truncated to 250 ps (R364): the
frozen value in HELD; during interpolator calibration the CLK_CTL sample in which the edge was seen. -/
def State.edgeCounter (s : State) (tap : Nat) : Nat :=
  let add := if s.tim.state = .held then 0
    else if s.tmp.tdcStart.isSome then cdiv (tap * 250) 1600 * 1600 * 2 ^ 32 / 1000
    else tap * 2 ^ 30
  (s.tim.counter + add) / 2 ^ 30 * 2 ^ 30

/-- The W2 time of an edge. -/
def State.edgeTime (s : State) (tap : Nat) : Word := timeWord (s.edgeCounter tap)

/-- A W2 time in quarter nanoseconds. -/
def quarters (w : Word) : Nat :=
  (bitsOf w.toNat 71 32 * 1000000000 + bitsOf w.toNat 31 2) * 4 + bitsOf w.toNat 1 0

/-! ### Wick cores -/

/-- A Wick core. -/
def State.core (s : State) (n : Nat) : WickCore := sget (fun _ => ({} : WickCore)) s.wck.cores n

/-- The state with a Wick core replaced. -/
def State.setCore (s : State) (n : Nat) (c : WickCore) : State :=
  { s with wck := { s.wck with cores := sput (fun _ => ({} : WickCore)) s.wck.cores n c } }

/-- A core's tag. -/
def WickCore.tag (c : WickCore) (t : Nat) : Tag := sget (fun _ => Tag.free) c.tags t

/-- A core with a tag replaced. -/
def WickCore.setTag (c : WickCore) (t : Nat) (x : Tag) : WickCore :=
  { c with tags := sput (fun _ => Tag.free) c.tags t x }

/-- The general register of a core: g0 reads as zero, writes to it are discarded (R297). -/
def WickCore.getG (c : WickCore) (r : Nat) : Word64 := if r = 0 then 0 else sget (fun _ => 0) c.g r
def WickCore.setG (c : WickCore) (r : Nat) (v : Word64) : WickCore :=
  if r = 0 then c else { c with g := sput (fun _ => 0) c.g r v }

/-- A stream register of a core (R297). -/
def WickCore.getS (c : WickCore) (r : Nat) : Word := sget (fun _ => 0) c.s r
def WickCore.setS (c : WickCore) (r : Nat) (v : Word) : WickCore := { c with s := sput (fun _ => 0) c.s r v }

/-- A block command has ended: every tag of the four cores that waits on it holds its result (R307, R308). -/
def State.blockDone (s : State) (target index result : Nat) : State :=
  upTo 4 (fun n s =>
    upTo 16 (fun t s =>
      if (s.core n).tag t = .pending target index then s.setCore n ((s.core n).setTag t (.ended result)) else s) s) s

end Sys2Proof.Machine
end

