-- ==== Sys2Proof/Machine/AnvilIsa.lean ====
section
/-! DEFINITION. The Anvil kernel instruction set: slots, views, predicates, checks, results and hazards of one bundle
(R174 to R195). -/
namespace Sys2Proof.Machine

/-! ### Slots (R174, R175, R183) -/

/-- The forms of R175; WIN and BR have layouts of their own. -/
inductive SlotForm where
  | none | reg | imm | win | br
deriving DecidableEq, Repr

/-- What R175 to R194 say of an opcode: its slots (bit 0 A, 1 B, 2 C), its form, the mod bits and fields that it uses, the
views that it accepts, its latency, and what kind of destination it has. -/
structure OpInfo where
  slots : Nat
  form : SlotForm
  mods : Nat
  useD : Bool
  useA : Bool
  useB : Bool
  useC : Bool
  views : List Nat
  latency : Nat
  vdst : Bool
  pdst : Bool

/-- Every view of R176. -/
def anyView : List Nat := [0, 1, 2, 3, 4]

/-- An ALU instruction of register form with two sources. -/
def alu2 (mods : Nat) : OpInfo := ⟨3, .reg, mods, true, true, true, false, anyView, 1, true, false⟩
/-- A compare of register form, and of immediate form. -/
def cmp2 (mods : Nat) : OpInfo := ⟨3, .reg, mods, true, true, true, false, anyView, 1, false, true⟩
def cmpI (mods : Nat) : OpInfo := ⟨3, .imm, mods, true, true, false, false, anyView, 1, false, true⟩
/-- An ALU instruction of immediate form. -/
def aluI (mods : Nat) (a : Bool) : OpInfo := ⟨3, .imm, mods, true, a, false, false, anyView, 1, true, false⟩
/-- A predicate instruction of register form. -/
def pred2 : OpInfo := ⟨4, .reg, 0, true, true, true, false, [0], 1, false, true⟩

/-- The opcodes (R183); none: reserved. -/
def opInfo : Nat → Option OpInfo
  | 0x00 => some ⟨7, .none, 0, false, false, false, false, [0], 0, false, false⟩
  | 0x01 => some (alu2 6)
  | 0x02 => some (alu2 6)
  | 0x03 => some (alu2 5)
  | 0x04 => some (alu2 4)
  | 0x05 => some (alu2 4)
  | 0x06 => some (alu2 4)
  | 0x07 => some (alu2 0)
  | 0x08 => some (alu2 0)
  | 0x09 => some (alu2 0)
  | 0x0A => some (alu2 2)
  | 0x0B => some (alu2 5)
  | 0x0C => some { alu2 0 with useC := true }
  | 0x0D => some { alu2 0 with useB := false }
  | 0x0E => some { alu2 0 with views := [0] }
  | 0x0F => some { alu2 5 with useC := true, views := [1] }
  | 0x10 => some (cmp2 0)
  | 0x11 => some (cmp2 4)
  | 0x12 => some (cmp2 4)
  | 0x18 => some (aluI 6 true)
  | 0x19 => some (aluI 2 true)
  | 0x1A => some (aluI 5 true)
  | 0x1B => some (aluI 4 false)
  | 0x1C => some (cmpI 4)
  | 0x1D => some (cmpI 4)
  | 0x20 => some ⟨2, .reg, 7, true, true, true, true, anyView, 2, true, false⟩
  | 0x21 => some ⟨2, .reg, 7, true, true, true, true, anyView, 2, true, false⟩
  | 0x22 => some ⟨2, .reg, 0, true, true, false, true, [0, 1], 3, true, false⟩
  | 0x23 => some ⟨2, .reg, 4, true, true, false, false, anyView, 2, true, false⟩
  | 0x30 => some ⟨4, .win, 0, true, false, false, false, [0, 1], 2, true, false⟩
  | 0x31 => some ⟨4, .imm, 0, true, false, false, false, [4], 2, true, false⟩
  | 0x32 => some ⟨4, .reg, 0, false, true, false, false, [0], 0, false, false⟩
  | 0x33 => some ⟨4, .imm, 0, false, true, false, false, [0], 0, false, false⟩
  | 0x34 => some ⟨4, .br, 0, false, false, false, false, [0], 0, false, false⟩
  | 0x38 => some pred2
  | 0x39 => some pred2
  | 0x3A => some pred2
  | 0x3B => some pred2
  | 0x3C => some ⟨4, .imm, 0, true, false, false, false, [0], 1, false, true⟩
  | _ => none

/-- The fields of a 40-bit slot. -/
def sOp (x : Nat) : Nat := bitsOf x 39 34
def sPr (x : Nat) : Nat := bitsOf x 33 31
def sPn (x : Nat) : Bool := bitsOf x 30 30 == 1
def sView (x : Nat) : Nat := bitsOf x 29 27
def sD (x : Nat) : Nat := bitsOf x 26 21
def sA (x : Nat) : Nat := bitsOf x 20 15
def sB (x : Nat) : Nat := bitsOf x 14 9
def sC (x : Nat) : Nat := bitsOf x 8 3
def sImm (x : Nat) : Nat := bitsOf x 11 0
/-- The mod bits under a form. -/
def sMod (f : SlotForm) (x : Nat) : Nat :=
  match f with | .reg => bitsOf x 2 0 | .imm => bitsOf x 14 12 | _ => 0

/-- The fields of WIN's and BR's own layouts (R190, R193). -/
def winDl (x : Nat) : Int := signed 4 (bitsOf x 14 11)
def winDc (x : Nat) : Int := signed 5 (bitsOf x 10 6)
def winXp (x : Nat) : Nat := bitsOf x 5 3
def winXw (x : Nat) : Bool := bitsOf x 2 2 == 1
/-- DEDUCED, unsafe: log 136. -/
def brAll (x : Nat) : Bool := bitsOf x 14 14 == 1

/-- Do the fields and mod bits that an instruction does not use hold zero (R175 and the rules of each instruction)? -/
def fieldsOk (op : Nat) (i : OpInfo) (x : Nat) : Bool :=
  let unusedD := i.useD || sD x == 0
  let unusedA := i.useA || sA x == 0
  let pd := !i.pdst || decide (0 < sD x ∧ sD x < 8)
  let form := match i.form with
    | .none => x == 0
    | .reg => (i.useB || sB x == 0) && (i.useC || sC x == 0) && (sMod .reg x &&& (7 - i.mods)) == 0
    | .imm => (sMod .imm x &&& (7 - i.mods)) == 0
    | .win => bitsOf x 1 0 == 0 && (winXw x == (winXp x != 0))
    | .br => bitsOf x 13 12 == 0
  let own := match op with
    | 0x0C => decide (sC x < 8)
    | 0x19 => decide (sImm x < 64)
    | 0x1A => decide (sImm x < 64)
    | 0x22 => decide (sC x < 4)
    | 0x31 => decide (sImm x < 64)
    | 0x33 => decide (sImm x < 4)
    | 0x38 => decide (sA x < 8 ∧ sB x < 8)
    | 0x39 => decide (sA x < 8 ∧ sB x < 8)
    | 0x3A => decide (sA x < 8 ∧ sB x < 8)
    | 0x3B => decide (sA x < 8 ∧ sB x < 8)
    | 0x3C => decide (sImm x < 64)
    | _ => true
  unusedD && unusedA && pd && form && own

/-- Is a slot legal at its place (0 A, 1 B, 2 C)? -/
def slotLegal (place x : Nat) : Bool :=
  match opInfo (sOp x) with
  | none => false
  | some i => i.slots.testBit place && i.views.contains (sView x) && fieldsOk (sOp x) i x

/-! ### Views, lanes and predicates (R176 to R178) -/

/-- Lane width and lane count of a view. -/
def viewWidth : Nat → Nat
  | 0 => 12 | 1 => 18 | 2 => 24 | 3 => 36 | _ => 72
def viewLanes : Nat → Nat
  | 0 => 6 | 1 => 4 | 2 => 3 | 3 => 2 | _ => 1

/-- Lane `j` of a register in lanes of `w` bits, and a register from lane values. -/
def lane (w j : Nat) (r : Word) : Nat := bitsOf r.toNat (w * j + w - 1) (w * j)
def fromLanes (w : Nat) (l : List Nat) : Word :=
  BitVec.ofNat 72 (l.foldr (fun x a => x % 2 ^ w + 2 ^ w * a) 0)

/-- A lane's value. -/
def laneVal (sg : Bool) (w x : Nat) : Int := if sg then signed w x else x

/-- An exact result in a lane: clamped to the lane range under sat, wrapped otherwise (R177). -/
def fit (sg sat : Bool) (w : Nat) (v : Int) : Nat :=
  wrapTo w (if sat then (if sg then clampInt (-(2 : Int) ^ (w - 1)) ((2 : Int) ^ (w - 1) - 1) v
    else clampInt 0 ((2 : Int) ^ w - 1) v) else v)

/-- A right shift with the rounding of R177. -/
def shiftRight (rnd : Bool) (v : Int) (n : Nat) : Int := sar (if rnd ∧ 0 < n then v + (2 : Int) ^ (n - 1) else v) n

/-- The exact lane result of an ALU instruction (R184); `x`, `y`: lane values under s; `yu`: y read unsigned. -/
def aluLane (op : Nat) (rnd : Bool) (w : Nat) (x y : Int) (yu : Nat) : Int :=
  match op with
  | 0x01 => x + y
  | 0x02 => x - y
  | 0x03 => sar (x + y + rnd.toNat) 1
  | 0x04 => ((x - y).natAbs : Nat)
  | 0x05 => if x < y then x else y
  | 0x06 => if x < y then y else x
  | 0x07 => ((x.toNat &&& yu : Nat) : Int)
  | 0x08 => ((x.toNat ||| yu : Nat) : Int)
  | 0x09 => ((x.toNat ^^^ yu : Nat) : Int)
  | 0x0A => x * (2 : Int) ^ min yu w
  | 0x0B => shiftRight rnd x (min yu w)
  | 0x18 => x + y
  | 0x19 => x * (2 : Int) ^ min yu w
  | 0x1A => shiftRight rnd x (min yu w)
  | _ => x

/-- The condition of a compare (R185). -/
def cmpLane (op : Nat) (x y : Int) : Bool :=
  match op with
  | 0x10 => x == y
  | 0x11 => decide (x < y)
  | 0x12 => decide (x ≤ y)
  | 0x1C => decide (x < y)
  | _ => decide (y ≤ x)

/-! ### Engine registers (R157) -/

/-- What a word sees besides its engine: look-ahead, sample size, window, tables, the kernel set and the enabled channels. (DEDUCED, unsafe: log 136) -/
structure WordEnv where
  h : Nat
  b18 : Bool
  /-- The sample and exclude bit at a line offset and a stripe column. -/
  pixel : Int → Int → Nat × Bool
  lut : Nat → Nat → Nat
  param : Nat → Word
  lutUse : Nat
  first : Nat
  last : Nat
  channel : Nat → Bool

/-- A vector register as a bundle reads it: v56 to v63 are parameter words 0 to 7. -/
def Engine.vreg (e : Engine) (env : WordEnv) (r : Nat) : Word :=
  if 56 ≤ r then env.param (r - 56) else sget (fun _ => (0 : Word)) e.v r

/-- A predicate register: p0 reads as all ones. -/
def Engine.preg (e : Engine) (r : Nat) : BitVec 6 := if r = 0 then BitVec.allOnes 6 else sget (fun _ => (0 : BitVec 6)) e.p r

/-- The guard of a slot (R178). -/
def Engine.guard (e : Engine) (x : Nat) : BitVec 6 := if sPn x then ~~~ e.preg (sPr x) else e.preg (sPr x)

/-! ### What one slot does (R184 to R194) -/

/-- A slot's effect: registers and predicates read, the destinations with their new values, and what leaves the engine. -/
structure SlotEffect where
  reads : List Nat := []
  preads : List Nat := []
  vdst : Option (Nat × Word) := none
  pdst : Option (Nat × BitVec 6) := none
  latency : Nat := 0
  /-- The view of a MAC. -/
  mac : Option Nat := none
  cls : Option Word := none
  img : Option (Nat × Word) := none
  /-- The target of a taken branch. -/
  branch : Option Nat := none
  /-- Fault codes that its checks find. -/
  faults : List Nat := []
deriving DecidableEq, Repr

/-- Lane results under a guard over the destination's previous lanes. -/
def mergeLanes (w n : Nat) (g : BitVec 6) (old : Word) (f : Nat → Nat) : Word :=
  fromLanes w ((List.range n).map fun j => if g.getLsbD j then f j else lane w j old)

/-- Predicate bits under a guard: bits at or above `n` are cleared. -/
def mergePred (n : Nat) (g old : BitVec 6) (f : Nat → Bool) : BitVec 6 :=
  BitVec.ofNat 6 (((List.range n).map fun j => if (if g.getLsbD j then f j else old.getLsbD j) then 2 ^ j else 0).foldl (· + ·) 0)

/-- The immediate of an instruction of immediate form as R184 and R185 extend it. -/
def immVal (op : Nat) (sg : Bool) (x : Nat) : Int := if op = 0x18 ∨ sg then signed 12 (sImm x) else sImm x

/-- An ALU, CLS or PK6 result (R184, R189). -/
def aluResult (op : Nat) (e : Engine) (env : WordEnv) (x : Nat) : Word :=
  let i := (opInfo op).getD (alu2 0)
  let m := sMod i.form x
  let sg := m.testBit 2
  let sat := m.testBit 1
  let rnd := m.testBit 0
  let v := sView x
  let w := viewWidth v
  let g := e.guard x
  let a := e.vreg env (sA x)
  let b := e.vreg env (sB x)
  let old := e.vreg env (sD x)
  match op with
  | 0x0C => mergeLanes w (viewLanes v) g old fun j => if (e.preg (sC x)).getLsbD j then lane w j a else lane w j b
  | 0x0D => mergeLanes w (viewLanes v) g old fun j => lane w j a
  | 0x0E => mergeLanes 12 6 g old fun j => min (lane 12 j a) 15 * 256 + min (lane 12 j b) 255
  | 0x0F =>
    let n := min (sC x) 18
    mergeLanes 12 6 g old fun j =>
      let y := shiftRight rnd (laneVal sg 18 (if j < 4 then lane 18 j a else lane 18 (j - 4) b)) n
      wrapTo 12 (if sg then clampInt (-2048) 2047 y else clampInt 0 4095 y)
  | 0x1B => mergeLanes w (viewLanes v) g old fun _ => wrapTo w (immVal op sg x)
  | _ =>
    let logic := op == 0x07 || op == 0x08 || op == 0x09 || op == 0x0A || op == 0x19
    mergeLanes w (viewLanes v) g old fun j =>
      let xa := laneVal (sg && !logic) w (lane w j a)
      let isImm := i.form == .imm
      let yu := if isImm then sImm x % 64 else lane w j b
      let y : Int := if isImm then immVal op sg x else laneVal (sg && !logic) w (lane w j b)
      fit (sg && !logic && op != 0x04) sat w (aluLane op rnd w xa y yu)

/-- A MUL or MAC result (R186). -/
def mulResult (op : Nat) (e : Engine) (env : WordEnv) (x : Nat) : Word :=
  let m := sMod .reg x
  let sg := m.testBit 2
  let w := viewWidth (sView x)
  let a := e.vreg env (sA x)
  let b := e.vreg env (sB x)
  let old := e.vreg env (sD x)
  mergeLanes w (viewLanes (sView x)) (e.guard x) old fun j =>
    let t := shiftRight (m.testBit 0) (laneVal sg w (lane w j a) * laneVal sg w (lane w j b)) (sC x)
    fit sg (m.testBit 1) w (if op = 0x21 then laneVal sg w (lane w j old) + t else t)

/-- The sample of WIN in a view's width (R190). (DEDUCED, unsafe: log 145) -/
def winSample (b18 : Bool) (view v : Nat) : Nat :=
  match b18, view with
  | false, 1 => v * 64
  | true, 0 => min ((v + 32) / 64) 4095
  | _, _ => v

/-- The effect of a legal slot. -/
def slotEffect (e : Engine) (env : WordEnv) (x : Nat) : SlotEffect :=
  let op := sOp x
  match opInfo op with
  | none => {}
  | some i =>
    let g := e.guard x
    let any := g != 0
    let v := sView x
    let w := viewWidth v
    let n := viewLanes v
    let rd := (if i.useA then [sA x] else []) ++ (if i.useB then [sB x] else [])
    let base : SlotEffect := { reads := rd, preads := if op = 0 then [] else [sPr x], latency := i.latency }
    if op = 0x00 then {}
    else if op = 0x20 ∨ op = 0x21 then
      { base with vdst := some (sD x, mulResult op e env x), mac := if op = 0x21 then some v else none,
                  reads := if op = 0x21 then sD x :: rd else rd }
    else if op = 0x22 then
      let a := e.vreg env (sA x)
      { base with
        vdst := some (sD x, mergeLanes w n g (e.vreg env (sD x)) fun j =>
          if v = 0 then min (env.lut (sC x) (lane 12 j a)) 4095 else env.lut (sC x) (lane 18 j a / 64)),
        faults := if env.lutUse.testBit (sC x) then [] else [6] }
    else if op = 0x23 then
      let sg := (sMod .reg x).testBit 2
      let a := e.vreg env (sA x)
      let sum := ((List.range n).map fun j => laneVal sg w (lane w j a)).foldl (· + ·) 0
      { base with vdst := some (sD x, if g.getLsbD 0 then BitVec.ofNat 72 (wrapTo 72 sum) else e.vreg env (sD x)) }
    else if op = 0x30 then
      let dc := winDc x
      let px (j : Nat) := env.pixel (winDl x) (dc + j)
      { base with
        vdst := some (sD x, mergeLanes w n g (e.vreg env (sD x)) fun j => winSample env.b18 v (px j).1),
        pdst := if winXw x then some (winXp x, mergePred n g (e.preg (winXp x)) fun j => (px j).2) else none,
        faults := if (winDl x).natAbs ≤ env.h ∧ -8 ≤ dc ∧ dc ≤ (if v = 0 then 8 else 10) then [] else [9] }
    else if op = 0x31 then
      { base with vdst := some (sD x, if g.getLsbD 0 then env.param (sImm x % 64) else e.vreg env (sD x)) }
    else if op = 0x32 then
      { base with cls := if any then some (e.vreg env (sA x)) else none, faults := if any ∧ e.cls.isSome then [7] else [] }
    else if op = 0x33 then
      let c := sImm x % 4
      { base with
        img := if any then some (c, e.vreg env (sA x)) else none,
        faults := if any ∧ (env.channel c = false ∨ (e.img.lookup c).isSome) then [8] else [] }
    else if op = 0x34 then
      let t := sImm x
      let taken := if brAll x then g == BitVec.allOnes 6 else any
      { base with branch := if taken then some t else none, faults := if env.first ≤ t ∧ t ≤ env.last then [] else [5] }
    else if op = 0x3C then
      let im := sImm x
      { base with pdst := some (sD x % 8, mergePred 6 g (e.preg (sD x % 8)) fun j => im.testBit j) }
    else if 0x38 ≤ op then
      let a := e.preg (sA x % 8)
      let b := e.preg (sB x % 8)
      let r := match op with | 0x38 => a &&& b | 0x39 => a ||| b | 0x3A => a ^^^ b | _ => a &&& ~~~ b
      { base with reads := [], preads := [sPr x, sA x % 8, sB x % 8],
                  pdst := some (sD x % 8, mergePred 6 g (e.preg (sD x % 8)) fun j => r.getLsbD j) }
    else if i.pdst then
      let sg := (sMod i.form x).testBit 2
      let a := e.vreg env (sA x)
      let b := e.vreg env (sB x)
      { base with
        pdst := some (sD x % 8, mergePred n g (e.preg (sD x % 8)) fun j =>
          cmpLane op (laneVal sg w (lane w j a)) (if i.form = .imm then immVal op sg x else laneVal sg w (lane w j b))) }
    else
      { base with vdst := some (sD x, aluResult op e env x), preads := if op = 0x0C then [sPr x, sC x % 8] else [sPr x] }

/-! ### A bundle (R179 to R182, R195) -/

/-- A slot as it stands in a bundle: illegal slots keep what R181 needs of them. -/
def slotAt (e : Engine) (env : WordEnv) (place x : Nat) : SlotEffect :=
  let f := slotEffect e env x
  let f := if slotLegal place x then f else { f with faults := 3 :: f.faults }
  match f.vdst with
  | some (d, _) => if 56 ≤ d then { f with faults := 4 :: f.faults } else f
  | none => f

/-- Two slots of one bundle with one destination (R179). -/
def sameDst (f g : SlotEffect) : Bool :=
  (match f.vdst, g.vdst with | some a, some b => a.1 == b.1 | _, _ => false) ||
    (match f.pdst, g.pdst with | some a, some b => a.1 == b.1 | _, _ => false)

/-- The lowest fault code of a bundle (R195). (DEDUCED, unsafe: log 136) -/
def bundleFault (a b c : SlotEffect) (reserved : Bool) : Option Nat :=
  let l := a.faults ++ b.faults ++ c.faults ++
    (if reserved || sameDst a b || sameDst a c || sameDst b c then [3] else [])
  l.foldl (fun m x => match m with
    | none => some x
    | some y => some (min x y)) none

/-- The cycle from which a slot can issue, given the pending writes (R180, R181): its sources, its guard and its
destinations; a MAC's accumulator is forwarded from a MAC of the preceding bundle in the same view. -/
def slotReady (e : Engine) (f : SlotEffect) : Nat :=
  let vr := f.reads ++ (match f.vdst with | some (d, _) => [d] | none => [])
  let pr := f.preads ++ (match f.pdst with | some (d, _) => [d] | none => [])
  e.pend.foldl (fun m q =>
    let forwarded := match f.mac, q.mac, f.vdst with
      | some v, some u, some (d, _) => v == u && d == q.reg && q.bundle + 1 == e.bundles && !(f.reads.drop 1).contains d
      | _, _, _ => false
    if (if q.pred then pr.contains q.reg else vr.contains q.reg && !forwarded) then max m q.ready else m) 0

/-- The writes of a slot that issues in cycle `c`. -/
def slotPend (e : Engine) (f : SlotEffect) (c : Nat) : List PendWrite :=
  (match f.vdst with
    | some (d, _) => [{ pred := false, reg := d, ready := c + f.latency, mac := f.mac, bundle := e.bundles }]
    | none => []) ++
  (match f.pdst with
    | some (d, _) => [{ pred := true, reg := d, ready := c + f.latency, bundle := e.bundles }]
    | none => [])

/-- The register and predicate writes of a slot. -/
def Engine.write (e : Engine) (f : SlotEffect) : Engine :=
  let e := match f.vdst with
    | some (d, v) => { e with v := sput (fun _ => (0 : Word)) e.v d v }
    | none => e
  let e := match f.pdst with
    | some (d, v) => { e with p := sput (fun _ => (0 : BitVec 6)) e.p d v }
    | none => e
  let e := match f.cls with
    | some w => { e with cls := some w }
    | none => e
  match f.img with
  | some q => { e with img := e.img ++ [q] }
  | none => e

/-- How a word stands after a bundle. -/
inductive WordState where
  /-- It goes on. -/
  | running (e : Engine)
  /-- Its count has reached max_bundles: it ends with fault 0x01 (R182). -/
  | full (e : Engine)
  /-- It ends: with its outputs, or with a fault. -/
  | ended (e : Engine) (fault : Option Nat)

/-- A bundle issues in an engine (R179 to R182, R193 to R195): held while a write that it needs is pending, then checked,
then in effect as a whole. `header`: bits [127:120]. (DESIGN CHOICE, unsafe: log 135) -/
def Engine.bundle (e : Engine) (env : WordEnv) (limit header xa xb xc : Nat) : WordState :=
  let a := slotAt e env 0 xa
  let b := slotAt e env 1 xb
  let c := slotAt e env 2 xc
  let t := max e.cycles (max (slotReady e a) (max (slotReady e b) (slotReady e c)))
  if limit ≤ t then .full { e with cycles := limit, slots := [] }
  else match bundleFault a b c (header % 128 != 0) with
    | some code => .ended { e with cycles := t + 1, slots := [] } (some code)
    | none =>
      let e' := ((e.write a).write b).write c
      let e' := { e' with
        cycles := t + 1, bundles := e.bundles + 1, slots := [],
        pend := e.pend.filter (fun q => decide (t < q.ready)) ++ slotPend e a t ++ slotPend e b t ++ slotPend e c t }
      if header.testBit 7 then .ended e' (if e'.cls.isNone then some 2 else none)
      else if limit ≤ t + 1 then .full e'
      else match c.branch with
        | some p => .running { e' with pc := p }
        | none => if env.last ≤ e.pc then .ended e' (some 5) else .running { e' with pc := e.pc + 1 }

end Sys2Proof.Machine
end

