-- ==== Sys2Proof/Machine/Hearth.lean ====
section
/-! DEFINITION. Hearth: handles, allocation ports, frames, paging, retirement and the bulk port's view of a handle
(R259 to R277, R327, R328). -/
namespace Sys2Proof.Machine

/-- The index and the generation of a handle (R261). (DEDUCED, unsafe: log 88) -/
def handleIndex (h : BitVec 32) : Nat := bitsOf h.toNat 19 0
/-- DEDUCED, unsafe: log 88. -/
def handleGen (h : BitVec 32) : Nat := bitsOf h.toNat 31 20

/-- The handle of an index and a generation. -/
def mkHandle (idx gen : Nat) : BitVec 32 := BitVec.ofNat 32 (gen * 2 ^ 20 + idx)

/-- An index of the handle table. -/
def State.hslot (s : State) (i : Nat) : HandleSlot := sget (fun _ => ({} : HandleSlot)) s.hrt.slots i

/-- The state with an index of the handle table replaced. -/
def State.setHslot (s : State) (i : Nat) (x : HandleSlot) : State :=
  { s with hrt := { s.hrt with slots := sput (fun _ => ({} : HandleSlot)) s.hrt.slots i x } }

/-- The live buffer that a handle names; none for a stale handle (R261). -/
def State.buffer (s : State) (h : BitVec 32) : Option Buffer :=
  let x := s.hslot (handleIndex h)
  if x.gen = handleGen h then x.buf else none

/-- The state with a live buffer replaced. -/
def State.setBuffer (s : State) (h : BitVec 32) (b : Buffer) : State :=
  s.setHslot (handleIndex h) { s.hslot (handleIndex h) with buf := some b }

/-- A frame of a buffer. -/
def Buffer.frame (b : Buffer) (i : Nat) : FrameState := sget (fun _ => b.base) b.frames i

/-- A buffer with one frame replaced. -/
def Buffer.setFrame (b : Buffer) (i : Nat) (f : FrameState) : Buffer :=
  { b with frames := sput (fun _ => b.base) b.frames i f }

/-- Does a frame take a pool frame? -/
def FrameState.isResident : FrameState → Bool
  | .resident _ _ _ => true
  | _ => false

/-- Is a frame in the spill region? -/
def FrameState.isSpilled : FrameState → Bool
  | .spilled _ => true
  | _ => false

/-- The pool frames that a buffer takes: all of a pinned buffer's. -/
def Buffer.residentCount (b : Buffer) : Nat :=
  if b.pinned then b.size
  else if b.base.isResident then b.size - (b.frames.filter fun p => !p.2.isResident).length
  else (b.frames.filter fun p => p.2.isResident).length

/-- The spilled frames of a buffer. -/
def Buffer.spilledCount (b : Buffer) : Nat := (b.frames.filter fun p => p.2.isSpilled).length

/-- Every live buffer. -/
def State.buffers (s : State) : List Buffer := s.hrt.slots.filterMap fun p => p.2.buf

/-- A sum over the live buffers. -/
def State.sumBuffers (s : State) (f : Buffer → Nat) : Nat := (s.buffers.map f).foldl (· + ·) 0

/-- Is the stack being retrained or in self-refresh, so that Hearth grants nothing (R275, R276)? -/
def State.hbmBusy (s : State) : Bool := s.tmp.hbmStart.isSome || s.hrt.selfRefresh

/-- Pinned buffers have been given more frames than the pool has free: what was given waits for paging (R264). (DEDUCED, unsafe: log 90) -/
def State.framesOwed (s : State) : Bool := decide (s.fld R.HRT_CAP F.HRT_CAP_cap < s.sumBuffers Buffer.residentCount)

/-- Paging out goes on until high_wm, whatever started it (R264, R266). -/
def State.pageOutMore (s : State) : State := { s with hrt := { s.hrt with pagingOut := true } }

/-- The pool registers follow the buffers: free, resv, pinned, pin_limit, live handles and used spill slots; the low
water mark of free; low_free where free falls below low_wm, which starts paging out toward high_wm (R263, R266). (DEDUCED, unsafe: log 93) -/
def State.hearthSync (s : State) : State :=
  let cap := s.fld R.HRT_CAP F.HRT_CAP_cap
  let old := s.fld R.HRT_FREE F.HRT_FREE_free
  let free := cap - s.sumBuffers Buffer.residentCount
  let low := s.fld R.HRT_WM F.HRT_WM_low_wm
  let s := s.setFld R.HRT_FREE F.HRT_FREE_free free
  let s := s.setFld R.HRT_RESV F.HRT_RESV_resv (s.sumBuffers Buffer.size)
  let s := s.setFld R.HRT_PINNED F.HRT_PINNED_pinned (s.sumBuffers fun b => if b.pinned then b.size else 0)
  let s := s.setFld R.HRT_PIN_LIMIT F.HRT_PIN_LIMIT_pin_limit (cap - 1024)
  let s := s.setFld R.HRT_HANDLES F.HRT_HANDLES_live s.buffers.length
  let s := s.setFld R.HRT_SPILL_USED F.HRT_SPILL_USED_used (s.sumBuffers Buffer.spilledCount)
  let s := if free < s.fld R.HRT_FREE_LW F.HRT_FREE_LW_low_water
    then s.setFld R.HRT_FREE_LW F.HRT_FREE_LW_low_water free else s
  let s := if s.fld R.HRT_WM F.HRT_WM_high_wm ≤ free then { s with hrt := { s.hrt with pagingOut := false } } else s
  if low ≤ old ∧ free < low then
    ({ s with hrt := { s.hrt with pagingOut := true } } : State).hrtFlag 0
  else s

/-- The reservation bounds of R263 after adding `resv` and `pinned` frames. (DEDUCED, unsafe: log 93) -/
def State.hearthBounds (s : State) (resv pinned : Nat) : Bool :=
  let cap := s.fld R.HRT_CAP F.HRT_CAP_cap
  decide (s.sumBuffers Buffer.size + resv ≤ cap + s.fld R.HRT_SPILL_FRAMES F.HRT_SPILL_FRAMES_spill_frames) &&
  decide (s.sumBuffers (fun b => if b.pinned then b.size else 0) + pinned ≤ cap - 1024)

/-- Are all indices live (R262)? -/
def State.indicesOut (s : State) : Bool := decide (1048576 ≤ s.buffers.length)

/-- Frames that a pinned allocation needs are free now. -/
def State.framesFree (s : State) (n : Nat) : Bool := decide (n ≤ s.fld R.HRT_FREE F.HRT_FREE_free)

/-- The lowest index that is not live. (DEDUCED, unsafe: log 88) -/
def State.lowestIndex (s : State) : Nat :=
  (firstBit (fun i => (s.hslot i).buf.isNone) 0 (s.hrt.slots.length + 1)).getD 0

/-- A buffer issued at the lowest free index, the index's generation advanced (R261). (DEDUCED, unsafe: log 88) -/
def State.issue (s : State) (b : Buffer) : BitVec 32 × State :=
  let i := s.lowestIndex
  let g := if (s.hslot i).gen = 4095 then 1 else (s.hslot i).gen + 1
  (mkHandle i g, (s.setHslot i ⟨g, some b⟩).hearthSync)

/-- A frame as a full backing leaves it. -/
def backedFrame : FrameState := .resident false true none

/-- An allocation (R262 ops 0x1 and 0x2, R263): its status, its handle and the state after. (DEDUCED, unsafe: log 90) -/
def State.hearthAlloc (s : State) (size : Nat) (pinned : Bool) : Nat × BitVec 32 × State :=
  if size = 0 ∨ s.fld R.HRT_CAP F.HRT_CAP_cap < size then (2, 0, s)
  else if s.indicesOut ∨ s.hearthBounds size (if pinned then size else 0) = false then (5, 0, s)
  else
    let (h, s) := s.issue { size := size, pinned := pinned, base := if pinned then backedFrame else .unbacked }
    (0, h, s)

/-- A buffer that the device takes for itself, pinned (rings, crops): none where R263 refuses it or every index is live. -/
def State.hearthTake (s : State) (size : Nat) (kind : BufKind) (slotBytes slots : Nat) : Option (BitVec 32 × State) :=
  if size = 0 ∨ s.indicesOut ∨ s.hearthBounds size size = false then none
  else
    let (h, t) := s.issue
      { size := size, kind := kind, pinned := true, base := backedFrame, slotBytes := slotBytes, slots := slots }
    some (h, if t.framesOwed then t.pageOutMore else t)

/-- A handle freed for the device's own sake, or by a free (R265): stale at once, its contents and poison gone; a retirement under way
goes on (R269). -/
def State.hearthDrop (s : State) (h : BitVec 32) : State :=
  let i := handleIndex h
  let s := s.setHslot i { s.hslot i with buf := none }
  let outside (k : Nat) : Bool := decide (k / 2 ^ 40 ≠ i)
  let s : State := { s with hrt := { s.hrt with
    bytes := skeep outside s.hrt.bytes
    poison := skeep (fun u => outside (8 * u)) s.hrt.poison
    pageIns := s.hrt.pageIns.filter fun p => p.1 ≠ h.toNat
    scrubbed := s.hrt.scrubbed.filter fun p => p.1 ≠ h.toNat
    heldWrites := s.hrt.heldWrites.filter fun p => p.1 ≠ h.toNat } }
  s.hearthSync

/-- A free (R262 op 0x3, R265, R414). -/
def State.hearthFree (s : State) (h : BitVec 32) : Nat × State :=
  match s.buffer h with
  | none => (2, s)
  | some b =>
    if b.kind = .ring ∨ (b.kind = .crop ∧ b.pinned) ∨ b.held then (4, s) else (0, s.hearthDrop h)

/-- A buffer with every frame backed. (DEDUCED, unsafe: log 90) -/
def Buffer.backAll (b : Buffer) : Buffer :=
  { b with pinned := true, base := backedFrame, frames := b.frames.filter fun p => p.2 ≠ .unbacked ∧ p.2 ≠ backedFrame }

/-- An operation with its handle that waits for page-ins or free frames (R262, R264). -/
def State.waitPin (s : State) (op : Nat) (h : BitVec 32) : State :=
  let s := if s.framesOwed then s.pageOutMore else s
  { s with hrt := { s.hrt with pinWait := s.hrt.pinWait ++ [(op, h.toNat)] } }

/-- Page-ins requested for frames not yet requested (R267). (DESIGN CHOICE, unsafe: log 89) -/
def State.requestPageIns (s : State) (h : BitVec 32) (fs : List Nat) : State :=
  let new := (fs.map fun i => (h.toNat, i)).filter fun p => !s.hrt.pageIns.contains p
  { s with hrt := { s.hrt with pageIns := s.hrt.pageIns ++ new } }

/-- A pin (R262 op 0x4): `none` while spilled frames page in first, or frames are not free. (DEDUCED, unsafe: log 90) -/
def State.hearthPin (s : State) (port : Nat) (h : BitVec 32) : Option Nat × State :=
  match s.buffer h with
  | none => (some 2, s)
  | some b =>
    if b.pinned then (some 0, s)
    else if s.hearthBounds 0 b.size = false then (some 5, s)
    else
      let s := (s.setBuffer h b.backAll).hearthSync
      let sp := b.frames.filter fun p => p.2.isSpilled
      if sp.isEmpty && !s.framesOwed then (some 0, s)
      else (none, (s.requestPageIns h (sp.map fun p => p.1)).waitPin port h)

/-- An unpin (R262 op 0x5, R414). -/
def State.hearthUnpin (s : State) (h : BitVec 32) : Nat × State :=
  match s.buffer h with
  | none => (2, s)
  | some b =>
    if b.kind = .ring ∨ (b.kind = .crop ∧ b.pinned) ∨ b.held then (4, s)
    else (0, (s.setBuffer h { b with pinned := false }).hearthSync)

/-- The HRT_AP_INFO value of a buffer (R262 op 0x6). -/
def Buffer.info (b : Buffer) : BitVec 32 :=
  let k := match b.kind with | .ordinary => 0 | .ring => 1 | .crop => 2
  BitVec.ofNat 32 ((if b.pinned then 2 ^ 31 else 0) + (if b.poisoned then 2 ^ 30 else 0) + k * 2 ^ 28 + b.size)

/-- A port's operation ends with a status (R262). -/
def State.apEnd (s : State) (port status : Nat) : State :=
  let s := s.setFld (R.HRT_AP_STATUS port) F.HRT_AP_STATUS_busy 0
  (s.setFld (R.HRT_AP_STATUS port) F.HRT_AP_STATUS_result status).blockDone 9 port status

/-- A port's operation waits. -/
def State.apBusy (s : State) (port : Nat) : State := s.setFld (R.HRT_AP_STATUS port) F.HRT_AP_STATUS_busy 1

/-- Allocation on a port (ops 0x1, 0x2): a pinned allocation waits while its frames are not free. (DEDUCED, unsafe: log 90) -/
def State.apAlloc (s : State) (port : Nat) (pinned : Bool) : State :=
  let (st, h, t) := s.hearthAlloc (s.fld (R.HRT_AP_SIZE port) F.HRT_AP_SIZE_size) pinned
  if st = 0 ∧ pinned ∧ t.framesOwed then (t.waitPin (8 + port) h).apBusy port
  else if st = 0 then (t.wr (R.HRT_AP_HANDLE port) h).apEnd port 0 else s.apEnd port st

/-- The handle register of a port. -/
def State.apHandle (s : State) (port : Nat) : BitVec 32 := s.rd (R.HRT_AP_HANDLE port)

/-- Pin on a port (op 0x4): busy while spilled frames page in or frames are not free. -/
def State.apPin (s : State) (port : Nat) : State :=
  match s.hearthPin port (s.apHandle port) with
  | (some st, t) => t.apEnd port st
  | (none, t) => t.apBusy port

/-- Query on a port (op 0x6). -/
def State.apQuery (s : State) (port : Nat) : State :=
  match s.buffer (s.apHandle port) with
  | none => s.apEnd port 2
  | some b => (s.wr (R.HRT_AP_INFO port) b.info).apEnd port 0

/-- Are allocation operations accepted (R262, R276)? -/
def State.apOpen (s : State) : Bool := s.inStates [.ready, .armed, .run, .hold]

/-- A write of HRT_AP_CMD_n (R262): ignored while busy; STATE outside READY to HOLD; reserved operations BADARG. -/
def State.writeApCmd (s : State) (port op : Nat) : State :=
  if s.bit (R.HRT_AP_STATUS port) F.HRT_AP_STATUS_busy then s
  else if s.apOpen = false then s.apEnd port 3
  else match op with
    | 1 => s.apAlloc port false
    | 2 => s.apAlloc port true
    | 3 => let (st, t) := s.hearthFree (s.apHandle port); t.apEnd port st
    | 4 => s.apPin port
    | 5 => let (st, t) := s.hearthUnpin (s.apHandle port); t.apEnd port st
    | 6 => s.apQuery port
    | _ => s.apEnd port 2

/-- A write of HRT_AP_CMD_n by the agent that the port belongs to: host software for port 0, core n − 1 for port n. -/
def State.agentApCmd (s : State) (port : Fin 5) (op : Nat) : State :=
  if port.val = 0 then s.hostWrite (R.HRT_AP_CMD 0) (BitVec.ofNat 32 op) fun s => s.writeApCmd 0 op
  else s.writeApCmd port op

/-- AP_ALLOCATE (R262 op 0x1). -/
def execApAllocate (port : Fin 5) (s : State) : Host.Outcome State Fault Refusal := .next (s.agentApCmd port 1)
/-- AP_ALLOCATE_PINNED (R262 op 0x2). -/
def execApAllocatePinned (port : Fin 5) (s : State) : Host.Outcome State Fault Refusal := .next (s.agentApCmd port 2)
/-- AP_FREE (R262 op 0x3). -/
def execApFree (port : Fin 5) (s : State) : Host.Outcome State Fault Refusal := .next (s.agentApCmd port 3)
/-- AP_PIN (R262 op 0x4). -/
def execApPin (port : Fin 5) (s : State) : Host.Outcome State Fault Refusal := .next (s.agentApCmd port 4)
/-- AP_UNPIN (R262 op 0x5). -/
def execApUnpin (port : Fin 5) (s : State) : Host.Outcome State Fault Refusal := .next (s.agentApCmd port 5)
/-- AP_QUERY (R262 op 0x6). -/
def execApQuery (port : Fin 5) (s : State) : Host.Outcome State Fault Refusal := .next (s.agentApCmd port 6)

/-! ### Contents -/

/-- The key of a byte of a buffer. -/
def byteKey (h : BitVec 32) (off : Nat) : Nat := handleIndex h * 2 ^ 40 + off

/-- Is the unit that holds a byte poisoned (R269)? (DEDUCED, unsafe: log 91) -/
def State.unitPoisoned (s : State) (key : Nat) : Bool := sget (fun _ => false) s.hrt.poison (key / 8)

/-- Bytes granted in a class, and the KB register of the class (R275). -/
def State.hearthTraffic (s : State) (cls n : Nat) : State :=
  let t := sget (fun _ => 0) s.hrt.traffic cls + n
  ({ s with hrt := { s.hrt with traffic := sput (fun _ => 0) s.hrt.traffic cls t } } : State).wr
    (R.HRT_CLASS_KB (cls - 1)) (BitVec.ofNat 32 (t / 1024))

/-- The frames that `n` bytes from `off` touch. -/
def framesOf (off n : Nat) : List Nat :=
  if n = 0 then [] else (List.range ((off + n - 1) / 65536 - off / 65536 + 1)).map fun i => off / 65536 + i

/-- Bytes read from a live buffer by a block: every unlisted byte zero; the flag says that a poisoned unit was read. (DEDUCED, unsafe: log 91) -/
def State.readBuffer (s : State) (h : BitVec 32) (off n : Nat) : List Byte × Bool :=
  (Memory.reads s.hrt.bytes (byteKey h off) n,
    (List.range n).any fun i => s.unitPoisoned (byteKey h (off + i)))

/-- The poison after a write of `n` bytes at `key`: a unit written whole is clean again (R269). -/
def clearPoison (m : List (Nat × Bool)) (key n : Nat) : List (Nat × Bool) :=
  upTo (n / 8 + 1) (fun i m =>
    let u := (key + 7) / 8 + i
    if 8 * u + 8 ≤ key + n then sput (fun _ => false) m u false else m) m

/-- A frame as a write leaves it: a spilled one stays so until it is paged in. -/
def Buffer.written (b : Buffer) (i : Nat) : Buffer :=
  if (b.frame i).isSpilled then b else b.setFrame i (if b.pinned then backedFrame else .resident true true none)

/-- Bytes stored in a live buffer, backing its frames (R264, R269). -/
def State.putBytes (s : State) (h : BitVec 32) (off : Nat) (bs : List Byte) : State :=
  match s.buffer h with
  | none => s
  | some b =>
    let s := s.setBuffer h ((framesOf off bs.length).foldl Buffer.written b)
    let s : State := { s with hrt := { s.hrt with
      bytes := Memory.writes s.hrt.bytes (byteKey h off) bs
      poison := clearPoison s.hrt.poison (byteKey h off) bs.length } }
    s.hearthSync

/-- The part of a write that falls into frame `i`: held while the frame is retired (R269). -/
def State.writeFrame (h : BitVec 32) (off : Nat) (bs : List Byte) (s : State) (i : Nat) : State :=
  let lo := max off (65536 * i)
  let part := (bs.drop (lo - off)).take (65536 * (i + 1) - lo)
  if s.hrt.retiring.contains (h.toNat, i) && (s.buffer h).isSome then
    { s with hrt := { s.hrt with heldWrites := s.hrt.heldWrites ++ [(h.toNat, lo, part)] } }
  else s.putBytes h lo part

/-- Bytes written to a live buffer, frame by frame (R264, R269). -/
def State.writeBuffer (s : State) (h : BitVec 32) (off : Nat) (bs : List Byte) : State :=
  (framesOf off bs.length).foldl (State.writeFrame h off bs) s

/-- bad_access (R265, R274). (DEDUCED, unsafe: log 91) -/
def State.badAccess (s : State) : State := s.hrtFlag 8

/-- The frames of an access that are in the spill region. -/
def Buffer.spilledOf (b : Buffer) (fs : List Nat) : List Nat := fs.filter fun i => (b.frame i).isSpilled

/-- What the ECC checks of an HBM read find (R260, R269): a lasting fault starts the frame's retirement. -/
def State.hearthEcc (s : State) (h : BitVec 32) (frame : Nat) (ecc : EccResult) : State :=
  match ecc with
  | .clean => s
  | .corrected n => s.bumpBy R.HRT_ECC_CORR n
  | .transient => (s.bump R.HRT_ECC_RETRY).hrtFlag 1
  | .lasting => if s.hrt.retiring.contains (h.toNat, frame) then s
    else { s with hrt := { s.hrt with retiring := s.hrt.retiring ++ [(h.toNat, frame)] } }

/-- A block's read of bytes of a live buffer as Hearth grants it (R260, R269, R275): the ECC checks of its first frame; `false` while the
stack is retrained or a frame of it is retired. -/
def State.blockEcc (s : State) (h : BitVec 32) (off n : Nat) (ecc : EccResult) : Bool × State :=
  if s.hbmBusy ∨ ((framesOf off n).any fun i => s.hrt.retiring.contains (h.toNat, i)) = true then (false, s)
  else (decide (ecc ≠ .lasting), if 0 < n then s.hearthEcc h (off / 65536) ecc else s)

/-- The frames of an access marked accessed (R266). -/
def Buffer.touch (b : Buffer) (fs : List Nat) : Buffer :=
  fs.foldl (fun b i => match b.frame i with
    | .resident _ d c => if b.pinned then b else b.setFrame i (.resident true d c)
    | _ => b) b

/-- A bulk port read of `n` bytes (R274): `none` while it stalls for a page-in, a retirement or a retraining (R275); otherwise the bytes, a
flag for a poisoned unit and a flag for a stale handle or a byte out of range. -/
def State.bulkRead (s : State) (h : BitVec 32) (off n : Nat) (ecc : EccResult) :
    Option (List Byte × Bool × Bool) × State :=
  match s.buffer h with
  | none => (some (List.replicate n 0xFF, false, true), s.badAccess)
  | some b =>
    let lim := b.size * 65536
    let inN := min n (lim - off)
    let fs := framesOf off inN
    let sp := b.spilledOf fs
    if s.hbmBusy && decide (0 < inN) then (none, s)
    else if !sp.isEmpty then (none, s.requestPageIns h sp)
    else if fs.any fun i => s.hrt.retiring.contains (h.toNat, i) then (none, s)
    else if ecc = .lasting ∧ 0 < inN then (none, s.hearthEcc h (off / 65536) ecc)
    else
      let s := if 0 < inN then s.hearthEcc h (off / 65536) ecc else s
      let s := s.setBuffer h (b.touch fs)
      let bytes := (List.range inN).map fun i =>
        let k := byteKey h (off + i)
        if s.unitPoisoned k then (0xFF : Byte) else Memory.read s.hrt.bytes k
      let pois := (List.range inN).any fun i => s.unitPoisoned (byteKey h (off + i))
      let bad := decide (inN < n)
      (some (bytes ++ List.replicate (n - inN) 0xFF, pois, bad), if bad then s.badAccess else s)

/-- A bulk port write (R274, R414): `false` while it stalls. Bytes beyond the buffer are discarded; writes to a frame
under retirement are held (R269), and held as well until a retraining ends (R275). -/
def State.bulkWrite (s : State) (h : BitVec 32) (off : Nat) (bs : List Byte) : Bool × State :=
  match s.buffer h with
  | none => (true, s.badAccess)
  | some b =>
    if b.held then (true, s.badAccess)
    else
      let inBs := bs.take (b.size * 65536 - off)
      let fs := framesOf off inBs.length
      let sp := b.spilledOf fs
      if s.hbmBusy && !inBs.isEmpty then (false, s)
      else if !sp.isEmpty then (false, s.requestPageIns h sp)
      else
        let need := (fs.filter fun i => !(b.frame i).isResident).length
        if s.framesFree need = false ∧ b.pinned = false then (false, s.pageOutMore)
        else
          let s := s.writeBuffer h off inBs
          (true, if inBs.length < bs.length then s.badAccess else s)

/-- What a block's read of a handle gives: it waits for Hearth, ends with FAULT (a poisoned or a stale handle, R265,
R269), or bytes. -/
inductive BlockRead where
  | stall
  | fault
  | ok (bytes : List Byte)
deriving DecidableEq, Repr

/-- A block's read of `n` bytes of a handle. (DESIGN CHOICE, unsafe: log 89) -/
def State.blockRead (s : State) (h : BitVec 32) (off n : Nat) (ecc : EccResult) : BlockRead × State :=
  match s.buffer h with
  | none => (.fault, s.badAccess)
  | some b =>
    if b.poisoned then (.fault, s)
    else match s.bulkRead h off n ecc with
      | (none, t) => (.stall, t)
      | (some (bytes, _, _), t) => (.ok bytes, t)

/-- A block's write to a handle: `none` while it waits, `some false` at a stale handle. (DESIGN CHOICE, unsafe: log 89) -/
def State.blockWrite (s : State) (h : BitVec 32) (off : Nat) (bs : List Byte) : Option Bool × State :=
  match s.buffer h with
  | none => (some false, s.badAccess)
  | some _ => match s.bulkWrite h off bs with
    | (false, t) => (none, t)
    | (true, t) => (some true, t)

/-- The 72-bit words that dense bytes hold, nine bytes each (R5, R106). -/
def denseWords (n : Nat) (bs : List Byte) : List Word :=
  (List.range n).map fun i => BitVec.ofNat 72 (ofBytes ((bs.drop (9 * i)).take 9))

/-- The byte offset that a BAR2 access reaches (R327). -/
def State.bulkOffset (s : State) (x : Nat) : Nat :=
  if s.bit R.HST_BP_CFG F.HST_BP_CFG_stream then s.hst.bpPtr else s.hst.bpBase + x

/-- The stream pointer after an access of `n` bytes (R327). -/
def State.advanceStream (s : State) (n : Nat) : State :=
  if s.bit R.HST_BP_CFG F.HST_BP_CFG_stream then { s with hst := { s.hst with bpPtr := (s.hst.bpPtr + n) % 2 ^ 40 } } else s

/-- Completions of up to 512 bytes each (R327): EP is set in those with a byte that `poisoned` says. (DESIGN CHOICE, safe: log 181) -/
def State.sendCompletions (s : State) (bytes : List Byte) (poisoned : Nat → Bool) : State :=
  upTo (cdiv bytes.length 512) (fun i s =>
    let part := (bytes.drop (512 * i)).take 512
    s.emit (.bulkData part ((List.range part.length).any fun j => poisoned (512 * i + j)))) s

/-- The completions of a BAR2 read of a buffer (R327, R274). -/
def State.completions (s : State) (h : BitVec 32) (off : Nat) (bytes : List Byte) : State :=
  s.sendCompletions bytes fun j =>
    (s.buffer h).any fun b => decide (off + j < b.size * 65536) && s.unitPoisoned (byteKey h (off + j))

/-- A BAR2 read served (R327, R274): a poisoned unit answers with EP set and is reported through AER. `false` while it stalls. -/
def State.serveRead (s : State) (x n : Nat) (ecc : EccResult) : Bool × State :=
  let h := s.rd R.HST_BP_HANDLE
  let off := s.bulkOffset x
  match s.bulkRead h off n ecc with
  | (none, t) => (false, t)
  | (some (bytes, pois, _), t) =>
    let t := (t.completions h off bytes).advanceStream n
    (true, if pois then t.hstFlag 6 else t)

/-- A BAR2 write served (R327, R274). `false` while it stalls. -/
def State.serveWrite (s : State) (x : Nat) (bs : List Byte) : Bool × State :=
  match s.bulkWrite (s.rd R.HST_BP_HANDLE) (s.bulkOffset x) bs with
  | (false, t) => (false, t)
  | (true, t) => (true, t.advanceStream bs.length)

/-- A BAR2 access, or a bulk port register write, joins those that wait (R327, R328). -/
def State.bulkLater (s : State) (a : BusAccess) : State :=
  { s with hst := { s.hst with bulkWait := s.hst.bulkWait ++ [a] } }

/-- A write of HST_BP_BASE_HI commits the byte base and sets the stream pointer to it (R327). -/
def State.commitBulkBase (s : State) (v : BitVec 32) : State :=
  let s := s.setFld R.HST_BP_BASE_HI F.HST_BP_BASE_HI_base_hi (getField v F.HST_BP_BASE_HI_base_hi)
  let base := s.fld R.HST_BP_BASE_HI F.HST_BP_BASE_HI_base_hi * 2 ^ 32 + (s.rd R.HST_BP_BASE_LO).toNat
  { s with hst := { s.hst with bpBase := base, bpPtr := base } }

/-- A bulk port register takes a written value: a write of HST_BP_BASE_HI commits. -/
def State.setBulkReg (s : State) (k : Nat) (v : BitVec 32) : State :=
  if k = R.HST_BP_BASE_HI then s.commitBulkBase v else s.plainWrite k v

/-- A write of HST_BP_CFG, HST_BP_HANDLE or HST_BP_BASE_HI (R328): it takes effect after every BAR2 access that arrived before it. -/
def State.writeBulkReg (s : State) (k : Nat) (v : BitVec 32) : State :=
  if s.hst.bulkWait.isEmpty then s.setBulkReg k v else s.bulkLater (.write k v)

/-- One access to the bulk port served; `false` while it stalls. -/
def State.serveBulk (s : State) (a : BusAccess) : Bool × State :=
  match a with
  | .bulkRead x n ecc => s.serveRead x n ecc
  | .bulkWrite x bs => s.serveWrite x bs
  | .write k v => (true, s.setBulkReg k v)
  | .read _ => (true, s)

/-- What waits for the bulk port is served in its order of arrival, as far as nothing stalls again (R327). -/
def State.drainBulk : Nat → State → State
  | 0, s => s
  | n + 1, s =>
    match s.hst.bulkWait with
    | [] => s
    | a :: rest => match s.serveBulk a with
      | (true, t) => State.drainBulk n { t with hst := { t.hst with bulkWait := rest } }
      | (false, t) => t

/-- A BAR2 read (R327): one that stalls waits, and everything for the bulk port behind it. (DESIGN CHOICE, safe: log 181) -/
def State.bar2Read (s : State) (x n : Nat) (ecc : EccResult) : State :=
  if s.hst.bulkWait.isEmpty then
    let (ok, t) := s.serveRead x n ecc
    if ok then t else t.bulkLater (.bulkRead x n (if ecc = .lasting then .clean else ecc))
  else s.bulkLater (.bulkRead x n ecc)

/-- A BAR2 write (R327): one that stalls waits, and everything for the bulk port behind it. (DESIGN CHOICE, safe: log 181) -/
def State.bar2Write (s : State) (x : Nat) (bs : List Byte) : State :=
  if s.hst.bulkWait.isEmpty then
    let (ok, t) := s.serveWrite x bs
    if ok then t else t.bulkLater (.bulkWrite x bs)
  else s.bulkLater (.bulkWrite x bs)

/-- BAR2_WRITE (R327). -/
def execBar2Write (offset : BitVec 24) (bytes : List Byte) (s : State) : Host.Outcome State Fault Refusal :=
  .next (s.hostAccess 0xE00000 (.bulkWrite offset.toNat bytes) fun s => s.bar2Write offset.toNat bytes)

/-- BULK_PORT_BASE_COMMIT (R327, R328). -/
def execBulkPortBaseCommit (v : Reg32) (s : State) : Host.Outcome State Fault Refusal :=
  .next (s.hostWrite R.HST_BP_BASE_HI v fun s => s.writeBulkReg R.HST_BP_BASE_HI v)

/-! ### Paging (R266 to R268) -/

/-- The spill slots in use: by spilled frames and by valid copies. -/
def State.slotsUsed (s : State) : List Nat :=
  s.buffers.flatMap fun b => b.frames.filterMap fun p => match p.2 with
    | .spilled n => some n
    | .resident _ _ c => c
    | _ => none

/-- The lowest free spill slot. -/
def State.freeSlot (s : State) : Option Nat :=
  firstBit (fun i => !s.slotsUsed.contains i) 0 (s.fld R.HRT_SPILL_FRAMES F.HRT_SPILL_FRAMES_spill_frames)

/-- The bus address of a spill slot (R268). -/
def State.spillAddr (s : State) (slot : Nat) : Nat :=
  (s.rd R.HRT_SPILL_HI).toNat * 2 ^ 32 + s.fld R.HRT_SPILL_LO F.HRT_SPILL_LO_addr_lo * 2 ^ 16 + slot * 65536

/-- The CRC-32C of a frame's bytes, which its frame map entry carries while it is spilled (R169, R267): nothing writes the bytes of a
spilled frame, so the entry is a view of them. -/
def State.spillCrc (s : State) (h : BitVec 32) (frame : Nat) : BitVec 32 :=
  ~~~crcBytes polyC 0xFFFFFFFF (s.readBuffer h (65536 * frame) 65536).1

/-- May paging move frames out now: page-ins come first while the pool has a frame for them (R267), nothing moves in self-refresh or
during a retraining (R275, R276)? -/
def State.mayPageOut (s : State) : Bool :=
  s.hrt.pagingOut && !s.hbmBusy && (s.hrt.pageIns.isEmpty || !s.framesFree 1)

/-- PAGE_OUT_DONE (R266): the sweep clears the accessed bits it passed and moves out the first frame whose bit is clear, passing over
pinned frames and frames under retirement; a frame with a valid copy is released without being copied. -/
def State.pageOut (s : State) (h : BitVec 32) (frame : Nat) (passed : List (BitVec 32 × Nat)) : State :=
  let s := if s.mayPageOut then passed.foldl (fun s p => match s.buffer p.1 with
    | some b => match b.frame p.2 with
      | .resident _ d c => if b.pinned then s else s.setBuffer p.1 (b.setFrame p.2 (.resident false d c))
      | _ => s
    | none => s) s else s
  match s.buffer h with
  | none => s
  | some b =>
    if b.pinned ∨ s.mayPageOut = false ∨ s.hrt.retiring.contains (h.toNat, frame) then s
    else match b.frame frame with
      | .resident false _ (some slot) =>
        ((s.setBuffer h (b.setFrame frame (.spilled slot))).bump R.HRT_PAGE_OUT).hearthSync
      | .resident false _ none =>
        match s.freeSlot with
        | none => s
        | some slot =>
          let s := s.emit (.hostWrite .spill false (s.spillAddr slot) (s.readBuffer h (65536 * frame) 65536).1)
          let s := (s.setBuffer h (b.setFrame frame (.spilled slot))).bump R.HRT_PAGE_OUT
          (s.hearthTraffic 5 65536).hearthSync
      | _ => s

/-- PAGE_OUT_DONE: see `State.pageOut`. -/
def execPageOutDone (h : BitVec 32) (frame : Nat) (passed : List (BitVec 32 × Nat)) (s : State) :
    Host.Outcome State Fault Refusal := .next (s.pageOut h frame passed)

/-- A buffer poisoned, with a range of its bytes filled with 0xFF as poisoned units (R267, R269). -/
def State.poisonRange (s : State) (h : BitVec 32) (off n : Nat) : State :=
  match s.buffer h with
  | none => s
  | some b =>
    let s := s.setBuffer h { b with poisoned := true }
    { s with hrt := { s.hrt with
      bytes := Memory.writes s.hrt.bytes (byteKey h off) (List.replicate n 0xFF)
      poison := sputs (fun _ => false) s.hrt.poison (byteKey h off / 8) (List.replicate (n / 8) true) } }

/-- The operations whose spilled frames are all back and whose frames the pool has given end with OK (5: the pin of a recipe image,
not on a port); an allocation returns its handle. -/
def State.endPins (s : State) : State :=
  let done := if s.framesOwed then [] else s.hrt.pinWait.filter fun p => !(s.hrt.pageIns.any fun q => q.1 = p.2)
  let s : State := { s with hrt := { s.hrt with pinWait := s.hrt.pinWait.filter fun p => !done.contains p } }
  done.foldl (fun s p => if p.1 < 5 then s.apEnd p.1 0
    else if 8 ≤ p.1 then (s.wr (R.HRT_AP_HANDLE (p.1 - 8)) (BitVec.ofNat 32 p.2)).apEnd (p.1 - 8) 0 else s) s

/-- PAGE_IN_DONE (R267): a requested page-in among the first 16 ends once the pool has a frame for it; a CRC that fails twice fills the
frame with 0xFF and poisons the handle. None ends in self-refresh or during a retraining (R275, R276). -/
def State.pageIn (s : State) (h : BitVec 32) (frame : Nat) (crc : EccResult) : State :=
  if (s.hrt.pageIns.take 16).contains (h.toNat, frame) && !s.hbmBusy then
    match s.buffer h with
    | none => s
    | some b =>
      match b.frame frame with
      | .spilled slot =>
        if b.pinned = false ∧ s.framesFree 1 = false then s.pageOutMore else
        let b := b.setFrame frame (.resident true false (if crc = .lasting then none else some slot))
        let b := if b.pinned then { b with frames := b.frames.filter fun p => p.1 ≠ frame } else b
        let s := s.setBuffer h b
        let s : State := { s with hrt := { s.hrt with pageIns := s.hrt.pageIns.filter fun p => p ≠ (h.toNat, frame) } }
        let s := (s.bump R.HRT_PAGE_IN).hearthTraffic 5 65536
        let s := if crc = .lasting then ((s.poisonRange h (65536 * frame) 65536).hrtFlag 6).hrtFlag 4 else s
        s.hearthSync.endPins
      | _ => s
  else s

/-- PAGE_IN_DONE: see `State.pageIn`. (DESIGN CHOICE, safe: log 1) -/
def execPageInDone (h : BitVec 32) (frame : Nat) (crc : EccResult) (s : State) : Host.Outcome State Fault Refusal :=
  .next (s.pageIn h frame crc)

/-- The effect of a LINK reset on the spill region (R268): every spilled frame is lost and its handle poisoned. -/
def State.loseSpilled (s : State) : State :=
  s.hrt.slots.foldl (fun s p => match p.2.buf with
    | none => s
    | some b =>
      let h := mkHandle p.1 p.2.gen
      let lost := b.frames.filter fun q => q.2.isSpilled
      if lost.isEmpty then s
      else
        let b := lost.foldl (fun b q => b.setFrame q.1 (.resident false true none)) b
        let s := s.setBuffer h b
        let s := lost.foldl (fun s q => s.poisonRange h (65536 * q.1) 65536) s
        s.hrtFlag 4) s

/-! ### Retirement and scrubbing (R269 to R273) -/

/-- The spare (R269), or once the spares are used up a frame of the pool (R271), that replaces a failed frame. (DESIGN CHOICE, unsafe: log 92) -/
def State.takeSpare (s : State) : State :=
  let n := s.fld R.HRT_SPARES F.HRT_SPARES_spares
  if 0 < n then
    let s := s.setFld R.HRT_SPARES F.HRT_SPARES_spares (n - 1)
    if n = 1 then s.hrtFlag 3 else s
  else
    let s := (s.setFld R.HRT_CAP F.HRT_CAP_cap (s.fld R.HRT_CAP F.HRT_CAP_cap - 1)).hearthSync
    if s.hearthBounds 0 0 then s else s.hrtFlag 7

/-- The slots of a ring buffer that overlap a frame: first and count (R270). (DESIGN CHOICE, unsafe: log 92) -/
def ringSlots (slotBytes slots frame : Nat) : Nat × Nat :=
  if slotBytes = 0 then (0, 0)
  else
    let first := frame * 65536 / slotBytes
    let last := min ((frame * 65536 + 65535) / slotBytes) (slots - 1)
    (first, last + 1 - first)

/-- A retirement that ends at a handle freed meanwhile (R265): the frame is replaced and counted, no handle is poisoned. -/
def State.retireFreed (s : State) (h : BitVec 32) (frame : Nat) : State :=
  let s : State := { s with hrt := { s.hrt with retiring := s.hrt.retiring.erase (h.toNat, frame) } }
  let s := s.takeSpare
  (s.setFld R.HRT_RETIRED F.HRT_RETIRED_count (s.fld R.HRT_RETIRED F.HRT_RETIRED_count + 1)).hrtFlag 2

/-- The end of a retirement (R269, R270): unreadable units filled and poisoned, or for a ring the whole frame filled and
the overlapped slots' first words set to all ones; held writes applied after the fill. Without a spare and without a free frame
Hearth pages one out first (R271). (DESIGN CHOICE, unsafe: log 92) -/
def State.retireFrame (s : State) (h : BitVec 32) (frame : Nat) (unreadable : List Nat) : State :=
  if s.hrt.retiring.contains (h.toNat, frame) = false ∨ s.hbmBusy then s
  else if s.fld R.HRT_SPARES F.HRT_SPARES_spares = 0 ∧ s.framesFree 1 = false then s.pageOutMore
  else
    match s.buffer h with
    | none => s.retireFreed h frame
    | some b =>
      let s : State := { s with hrt := { s.hrt with retiring := s.hrt.retiring.erase (h.toNat, frame) } }
      let s := s.takeSpare
      let s := s.setFld R.HRT_RETIRED F.HRT_RETIRED_count (s.fld R.HRT_RETIRED F.HRT_RETIRED_count + 1)
      let s := if b.kind = .ring then
          let (first, n) := ringSlots b.slotBytes b.slots frame
          let s : State := { s with hrt := { s.hrt with
            bytes := Memory.writes s.hrt.bytes (byteKey h (65536 * frame)) (List.replicate 65536 0xFF) } }
          let s := upTo n (fun i s => { s with hrt := { s.hrt with
            bytes := Memory.writes s.hrt.bytes (byteKey h ((first + i) * b.slotBytes)) (List.replicate 9 0xFF) } }) s
          let s := s.wr R.HRT_LOST_HANDLE h
          let s := s.setFld R.HRT_LOST_SLOT F.HRT_LOST_SLOT_slot first
          s.setFld R.HRT_LOST_COUNT F.HRT_LOST_COUNT_count n
        else
          let s := unreadable.foldl (fun s u => s.poisonRange h (65536 * frame + 8 * (u % 8192)) 8) s
          let s := match s.buffer h with
            | some b => s.setBuffer h { b with poisoned := true }
            | none => s
          s.hrtFlag 4
      let s := s.hrtFlag 2
      let mine := s.hrt.heldWrites.filter fun p => p.1 = h.toNat ∧ p.2.1 / 65536 = frame
      let s : State := { s with hrt := { s.hrt with heldWrites := s.hrt.heldWrites.filter fun p => !mine.contains p } }
      mine.foldl (fun s p => s.writeBuffer h p.2.1 p.2.2) s

/-- Does scrubbing run (R273, R275, R276)? -/
def State.scrubs (s : State) : Bool :=
  decide (s.fld R.HRT_SCRUB F.HRT_SCRUB_scrub_min ≠ 0) && !s.hbmBusy

/-- A scrub read of a backed frame (R273), once in a period: class 5 traffic and the ECC outcome. (DESIGN CHOICE, unsafe: log 182) -/
def State.scrub (s : State) (h : BitVec 32) (frame : Nat) (ecc : EccResult) : State :=
  if s.scrubs = false ∨ s.hrt.scrubbed.contains (h.toNat, frame) ∨ s.hrt.retiring.contains (h.toNat, frame) then s
  else match s.buffer h with
    | some b =>
      if frame < b.size ∧ (b.frame frame).isResident then
        let s : State := { s with hrt := { s.hrt with scrubbed := (h.toNat, frame) :: s.hrt.scrubbed } }
        (s.hearthTraffic 5 65536).hearthEcc h frame ecc
      else s
    | none => s

/-- The end of a scrub period of scrub_min minutes (R273): the backed frames of which no SCRUB_READ has told are read clean, and the next
period begins. (DESIGN CHOICE, unsafe: log 182) -/
def State.scrubPeriod (s : State) : State :=
  if s.scrubs ∧ s.fld R.HRT_SCRUB F.HRT_SCRUB_scrub_min * 7500000000 ≤ s.ticks - s.hrt.scrubFrom then
    let s := s.hearthTraffic 5 (65536 * (s.sumBuffers Buffer.residentCount - s.hrt.scrubbed.length))
    { s with hrt := { s.hrt with scrubbed := [], scrubFrom := s.ticks } }
  else s

/-- SCRUB_READ (R273). -/
def execScrubRead (h : BitVec 32) (frame : Nat) (ecc : EccResult) (s : State) : Host.Outcome State Fault Refusal :=
  .next (s.scrub h frame ecc)

/-- STARVATION (R275): a class has waited more than 1 ms for a grant. -/
def execStarvation (cls : Fin 5) (s : State) : Host.Outcome State Fault Refusal :=
  .next ((s.wr R.HRT_STARVE (s.rd R.HRT_STARVE ||| BitVec.ofNat 32 (2 ^ cls.val))).hrtFlag 5)

end Sys2Proof.Machine
end

