-- ==== Sys2Proof/Machine/Queues.lean ====
section
/-! DEFINITION. The 64 queues: packets in slot order, visibility, levels, flushes and ECC (R329 to R337). -/
namespace Sys2Proof.Machine

/-- A queue. -/
def State.queue (s : State) (q : Nat) : Queue := sget (fun _ => ({} : Queue)) s.hst.queues q

/-- The words that a slot stores; a reserved length slot takes one. -/
def QSlot.size : QSlot → Nat
  | .closed _ ws => ws.length
  | .void _ => 1
  | .opened _ ws => ws.length + 1

/-- The stored words of a queue. -/
def slotsLevel (l : List QSlot) : Nat := (l.map QSlot.size).foldl (· + ·) 0

/-- The visible words: every slot before the first open packet (R331). -/
def slotsVisible : List QSlot → List Word
  | .closed _ ws :: l => ws ++ slotsVisible l
  | .void w :: l => w :: slotsVisible l
  | _ => []

/-- Is a queue enabled? -/
def State.queueOn (s : State) (q : Nat) : Bool := s.bit (R.HST_Q_CFG q) F.HST_Q_CFG_enable

/-- A queue's depth in words (R329). -/
def State.queueDepth (s : State) (q : Nat) : Nat := 16 * s.fld (R.HST_Q_CFG q) F.HST_Q_CFG_pages

/-- A flag of a queue with its counter, and the summary flag of HST_FLAGS (drop and ecc_lasting: q_fault; watermark:
q_watermark). -/
def State.queueFlag (s : State) (q b : Nat) : State :=
  let s := s.setFlag (R.HST_Q_FLAGS q) b (R.HST_Q_EVCNT q b)
  match b with
  | 0 => s.hstFlag 5
  | 2 => s.hstFlag 4
  | 3 => s.hstFlag 4
  | _ => s

/-- The state with a queue replaced: its level and high-water mark follow, and a level that rises through the
threshold sets watermark (R336). -/
def State.setQueue (s : State) (q : Nat) (x : Queue) : State :=
  let old := s.fld (R.HST_Q_LEVEL q) F.HST_Q_LEVEL_level
  let new := slotsLevel x.slots
  let thr := s.fld (R.HST_Q_WM q) F.HST_Q_WM_threshold
  let s : State := { s with hst := { s.hst with queues := sput (fun _ => ({} : Queue)) s.hst.queues q x } }
  let s := (s.setFld (R.HST_Q_LEVEL q) F.HST_Q_LEVEL_level new).highWater (R.HST_Q_LEVEL q) F.HST_Q_LEVEL_high_water new
  if old < thr ∧ thr ≤ new then s.queueFlag q 0 else s

/-- Words dropped at a queue (R333, R334). -/
def State.queueDrop (s : State) (q n : Nat) : State := (s.bumpBy (R.HST_Q_DROP q) n).queueFlag q 2

/-- A length word (R330). -/
def lengthWord (producer ltag n : Nat) : Word :=
  BitVec.ofNat 72 ((0x80 + ltag % 64) * 2 ^ 64 + producer % 256 * 2 ^ 56 + n % 2 ^ 16)

/-- A void word (R330). -/
def voidWord (producer reason n : Nat) : Word :=
  BitVec.ofNat 72 (0x7F * 2 ^ 64 + producer % 256 * 2 ^ 56 + reason % 256 * 2 ^ 48 + n % 2 ^ 16)

/-- The idle item (R330). -/
def idleWord : Word := BitVec.ofNat 72 (0xFF * 2 ^ 64)

/-- Is a word a length word? -/
def isLength (w : Word) : Bool := 0x80 ≤ bitsOf w.toNat 71 64 && bitsOf w.toNat 71 64 ≤ 0xBF

/-- Room for `n` more stored words. -/
def State.queueRoom (s : State) (q n : Nat) : Bool :=
  decide (slotsLevel (s.queue q).slots + n ≤ s.queueDepth q)

/-- A packet pushed whole by a hardware producer or queue-in ring (R332, R333): discarded and counted at a disabled
queue. The caller has found room. (DEDUCED, unsafe: log 46) -/
def State.pushPacket (s : State) (q producer : Nat) (words : List Word) : State :=
  if s.queueOn q then
    let x := s.queue q
    s.setQueue q { x with slots := x.slots ++ [.closed producer (lengthWord producer 0 words.length :: words)] }
  else s.queueDrop q (words.length + 1)

/-- Can a packet of `n` words be pushed now (a disabled queue takes it and discards it)? -/
def State.canPush (s : State) (q n : Nat) : Bool := !s.queueOn q || s.queueRoom q (n + 1)

/-- The flush of a list of slots (R334): what remains, the words discarded, the producers cut. -/
def flushSlots (reason : Nat) : List QSlot → List QSlot × Nat × List Nat
  | [] => ([], 0, [])
  | .closed _ ws :: l => let (r, n, c) := flushSlots reason l; (r, n + ws.length, c)
  | .void _ :: l => let (r, n, c) := flushSlots reason l; (r, n + 1, c)
  | .opened p ws :: l =>
    let (r, n, c) := flushSlots reason l; (.void (voidWord p reason ws.length) :: r, n + ws.length, p :: c)

/-- A flush of a queue with a reason (R334, R335): the words discarded and the state after. (DEDUCED, unsafe: log 65) -/
def State.flushQueue (s : State) (q reason : Nat) : Nat × State :=
  let x := s.queue q
  let (r, n, c) := flushSlots reason x.slots
  (n, s.setQueue q ⟨r, c ++ x.cut⟩)

/-- SNUFF of a queue (R334): flushed with reason 0x01, snuffed set, snuff_busy clear. (DEDUCED, unsafe: log 65) -/
def State.snuffQueue (s : State) (q : Nat) : Nat × State :=
  let (n, s) := s.flushQueue q 0x01
  (n, s.queueFlag q 1)

/-- The first visible slot withdrawn as a whole after a lasting ECC fault of a packet word, or the queue flushed after
one of a length word (R335). (DEDUCED, unsafe: log 65) -/
def State.eccLasting (s : State) (q : Nat) (isLen : Bool) : State :=
  let x := s.queue q
  let s := if isLen then (s.flushQueue q 0x02).2
    else match x.slots with
      | .closed p ws :: l =>
        let n := (ws.filter fun w => !isLength w).length
        s.setQueue q { x with slots := .void (voidWord p 0x02 n) :: l }
      | _ => s
  s.queueFlag q 3

/-- A pop of the next visible word, with what its ECC check finds (R331, R335). `none`: no visible word. -/
def State.popWord (s : State) (q : Nat) (ecc : EccResult) : Option Word × State :=
  let x := s.queue q
  match x.slots with
  | .closed p (w :: ws) :: l =>
    match ecc with
    | .lasting =>
      let s := s.eccLasting q (isLength w)
      match (s.queue q).slots with
      | .void v :: l => (some v, s.setQueue q { s.queue q with slots := l })
      | _ => (none, s)
    | _ =>
      let s := if ecc = .clean then s else s.bump (R.HST_Q_ECC q)
      let rest := if ws.isEmpty then l else .closed p ws :: l
      (some w, s.setQueue q { x with slots := rest })
  | .closed _ [] :: l => (none, s.setQueue q { x with slots := l })
  | .void w :: l =>
    let s := if ecc = .clean then s else s.bump (R.HST_Q_ECC q)
    (some w, s.setQueue q { x with slots := l })
  | _ => (none, s)

/-- The pages taken by enabled queues other than `q` (R329). -/
def State.pagesUsed (s : State) (q : Nat) : Nat :=
  upTo 64 (fun i n => if i ≠ q ∧ s.queueOn i then n + s.fld (R.HST_Q_CFG i) F.HST_Q_CFG_pages else n) 0

/-- A write of HST_Q_CFG (R329, R337): the depth changes only while the queue is disabled; enable is taken only when
the free pages cover the depth, and sets the acknowledgement to 0; clearing enable discards the words. -/
def State.writeQueueCfg (s : State) (q : Nat) (v : BitVec 32) : State :=
  let on := s.queueOn q
  let en := getField v F.HST_Q_CFG_enable == 1
  let pg := getField v F.HST_Q_CFG_pages
  let s := if on || pg < 2 || 1024 < pg then s else s.setFld (R.HST_Q_CFG q) F.HST_Q_CFG_pages pg
  if on && !en then
    (s.setFld (R.HST_Q_CFG q) F.HST_Q_CFG_enable 0).setQueue q {}
  else if !on && en && decide (s.pagesUsed q + s.fld (R.HST_Q_CFG q) F.HST_Q_CFG_pages ≤ 1024) then
    ((s.setFld (R.HST_Q_CFG q) F.HST_Q_CFG_enable 1).setQueue q {}).wr (R.HST_Q_ACK q) 0
  else s

/-- A BAR0 write of HST_Q_CFG: ignored for Q0 and Q1 (R329). -/
def State.hostQueueCfg (s : State) (q : Nat) (v : BitVec 32) : State :=
  if q < 2 then s else s.writeQueueCfg q v

/-- QUEUE_ENABLE (R329): a write of HST_Q_CFG that sets enable. -/
def execQueueEnable (q : Fin 64) (v : Reg32) (s : State) : Host.Outcome State Fault Refusal :=
  .next (s.hostWrite (R.HST_Q_CFG q) v fun s =>
    if getField v F.HST_Q_CFG_enable = 1 then s.hostQueueCfg q v else s)

/-- QUEUE_DISABLE (R329): a write of HST_Q_CFG that clears enable; its words are discarded. -/
def execQueueDisable (q : Fin 64) (v : Reg32) (s : State) : Host.Outcome State Fault Refusal :=
  .next (s.hostWrite (R.HST_Q_CFG q) v fun s =>
    if getField v F.HST_Q_CFG_enable = 0 then s.hostQueueCfg q v else s)

/-- A write of HST_Q_CTRL (R334): snuff flushes the queue. -/
def State.writeQueueCtrl (s : State) (q : Nat) (v : BitVec 32) : State :=
  if getField v F.HST_Q_CTRL_snuff = 1 then (s.snuffQueue q).2 else s

/-- QUEUE_SNUFF (R334): a write of HST_Q_CTRL. -/
def execQueueSnuff (q : Fin 64) (v : Reg32) (s : State) : Host.Outcome State Fault Refusal :=
  .next (s.hostWrite (R.HST_Q_CTRL q) v fun s => s.writeQueueCtrl q v)

end Sys2Proof.Machine
end

