-- ==== Sys2Proof/Machine/EncPos.lean ====
section
/-! DEFINITION. Encoder inputs and the position at an instant (R29 to R33, R46, R59, R364). Edges and triggers take
their times from the time counter (R364); link time, which no step of the time base moves (R223), is kept for Tongs. -/
namespace Sys2Proof.Machine

/-- An encoder input. -/
def State.enc (s : State) (n : Nat) : EncIn := sget (fun _ => ({} : EncIn)) s.pos.enc n

/-- The state with an encoder input replaced; its count is what ENC_COUNT_LO and HI show. -/
def State.setEnc (s : State) (n : Nat) (e : EncIn) : State :=
  { s with pos := { s.pos with enc := sput (fun _ => ({} : EncIn)) s.pos.enc n e } }

/-- The number of CLK_CTL sample `i` of the present tick (R62). (DEDUCED, unsafe: log 103) -/
def State.sampleNo (s : State) (i : Nat) : Nat := 5 * s.ticks + i
/-- An edge `tap` quarters of a nanosecond into the tick: its link time, from its CLK_CTL sample during interpolator
calibration (R364, R385), and the sample that sees it. (DEDUCED, unsafe: log 107) -/
def State.edgeLt (s : State) (tap : Nat) : Nat :=
  32 * s.ticks + (if s.tmp.tdcStart.isSome then cdiv (tap * 250) 1600 * 1600 / 250 else tap)
/-- DEDUCED, unsafe: log 103. -/
def State.edgeSample (s : State) (tap : Nat) : Nat := 5 * s.ticks + cdiv (tap * 250) 1600

/-- The time counter at CLK_CTL sample `i` of the tick, 1.6 ns apart, truncated to 250 ps (R62, R362, R367). -/
def State.sampleCounter (s : State) (i : Nat) : Nat :=
  (s.tim.counter + (if s.tim.state = .held then 0 else i * 2 ^ 35 / 5)) / 2 ^ 30 * 2 ^ 30

/-- Times in 0.25 ns of the time counter, truncated (R62, R364): of an edge, and of a CLK_CTL sample. (DESIGN CHOICE, safe: log 106) -/
def State.edgeTq (s : State) (tap : Nat) : Nat := s.edgeCounter tap / 2 ^ 30
def State.sampleTq (s : State) (i : Nat) : Nat := s.sampleCounter i / 2 ^ 30

/-- Is the period of an input valid, and its value T in 0.25 ns (R55, R56)? -/
def State.periodValid (s : State) (n : Nat) : Bool := s.bit (R.ENC_PERIOD n) F.ENC_PERIOD_valid
def State.period (s : State) (n : Nat) : Nat := s.fld (R.ENC_PERIOD n) F.ENC_PERIOD_period

/-- The position of an input at an instant (R31, R32), in 1/65,536 count. (DESIGN CHOICE, safe: log 106) -/
def State.posAt (s : State) (n tq sample : Nat) : BitVec 72 :=
  let e := s.enc n
  let base := BitVec.ofInt 72 (e.count.toInt * 65536)
  match e.edge with
  | none => base
  | some (te, smp) =>
    if s.periodValid n && decide (smp < sample) then
      let f := min 65535 (if s.period n = 0 then Config.zeroPeriodFraction (tq - te) else (tq - te) * 65536 / s.period n)
      if e.up = some false then base - BitVec.ofNat 72 f else base + BitVec.ofNat 72 f
    else base

/-- The active master encoder (R30). -/
def State.master (s : State) : Option Nat :=
  if s.bit R.ENC_COORD F.ENC_COORD_valid then some (s.fld R.ENC_COORD F.ENC_COORD_master) else none

/-- The offset term of R33 for an exposure offset of `d` ns. (DESIGN CHOICE, safe: log 106) -/
def State.offsetTerm (s : State) (n : Nat) (d : Int) : BitVec 72 :=
  if s.periodValid n then
    let x := BitVec.ofInt 72 (if s.period n = 0 then Config.zeroPeriodOffset d else d * 262144 / (s.period n : Int))
    if (s.enc n).up = some false then -x else x
  else 0

/-- The latch of a context at an instant (R33 to R35, R59): position and time with the context's exposure offset. (DEDUCED, unsafe: log 110) -/
def State.makeLatch (s : State) (ctx tq sample counter : Nat) (late : Bool) : Latch :=
  let d := s.sfld (R.ENC_EXPOFS ctx) F.ENC_EXPOFS_offset_ns
  let p : BitVec 72 := match s.master with
    | some m => s.posAt m tq sample + s.offsetTerm m d
    | none => 0
  ⟨p, (((counter : Int) + d * 2 ^ 32) % (2 ^ 40 * 1000000000 * 2 ^ 32)).toNat, tq, late⟩

end Sys2Proof.Machine
end

