-- ==== Sys2Proof/Machine/TrigPacket.lean ====
section
/-! DEFINITION. Trigger packets on the uplinks (R87, R89, R90) and the links of a port (R76). -/
namespace Sys2Proof.Machine

/-- LANE_PORT_FLAGS with sources 208 + p (link state) and 224 + p (lane error) (R93). -/
def State.portFlag (s : State) (p b : Nat) : State :=
  s.flagRaise (R.LANE_PORT_FLAGS p) b (R.LANE_PORT_EVCNT p b) ((if b < 3 then 208 else 224) + p)

/-- The links of a layout with the lanes of their slots (R76): (link, lanes). (DEDUCED, unsafe: log 111) -/
def layoutLinks (layout : Nat) : List (Nat × Nat) :=
  match layout with
  | 0 => [(0, 4)]
  | 1 => [(0, 2), (2, 2)]
  | 2 => [(0, 1), (1, 1), (2, 1), (3, 1)]
  | _ => [(0, 2), (2, 1), (3, 1)]

/-- The layout of a port. -/
def State.layout (s : State) (p : Nat) : Nat := s.fld (R.LANE_PORT_CFG p) F.LANE_PORT_CFG_layout

/-- A link by its master lane, and the state with it replaced. -/
def State.camLink (s : State) (l : Nat) : Link := sget (fun _ => ({} : Link)) s.lan.links l
def State.setCamLink (s : State) (l : Nat) (x : Link) : State :=
  { s with lan := { s.lan with links := sput (fun _ => ({} : Link)) s.lan.links l x } }

/-- Ticks that a character takes on a link's uplink: 240 ns at 41.667 Mbit/s, 480 ns at 20.833 Mbit/s (R72, R89). -/
def Link.charTicks (x : Link) : Nat := if x.fast then 30 else 60

/-- The places of a link's trigger packets replaced (R90): in transmission, the start of that packet, waiting. -/
def State.setTrigPlaces (s : State) (l now start wait : Nat) : State :=
  { s with lan := { s.lan with trigNow := sput (fun _ => 0) s.lan.trigNow l now, trigStart := sput (fun _ => 0) s.lan.trigStart l start,
                               trigWait := sput (fun _ => 0) s.lan.trigWait l wait } }

/-- The packet in transmission has ended: the waiting one, if any, takes its place (R90). (DEDUCED, unsafe: log 111) -/
def State.trigShift (s : State) (l : Nat) : State :=
  let start := sget (fun _ => 0) s.lan.trigStart l
  if start ≠ 0 ∧ start - 1 + Config.triggerPacketCharacters * (s.camLink l).charTicks ≤ s.ticks then
    s.setTrigPlaces l (sget (fun _ => 0) s.lan.trigWait l) 0 0
  else s

/-- One trigger packet for a link (R90): it takes the place in transmission, else the waiting place, else it is dropped with trig_drop.
(DEDUCED, unsafe: log 111) -/
def State.linkTrigger (s : State) (p l sample : Nat) : State :=
  let s := s.trigShift l
  let now := sget (fun _ => 0) s.lan.trigNow l
  if now = 0 then s.setTrigPlaces l (sample + 1) 0 0
  else if sget (fun _ => 0) s.lan.trigWait l = 0 then s.setTrigPlaces l now (sget (fun _ => 0) s.lan.trigStart l) (sample + 1)
  else s.portFlag p 6

/-- A firing for a port (R89, R90): one packet per CLK_CTL cycle, on every UP link of the port (link 0 under layout
0b00); none for a link that is not UP (R87). (DEDUCED, unsafe: log 111) -/
def State.portTrigger (s : State) (p sample : Nat) : State :=
  if (sget (fun _ => 0) s.lan.trigMade p) = sample + 1 then s
  else
    let s : State := { s with lan := { s.lan with trigMade := sput (fun _ => 0) s.lan.trigMade p (sample + 1) } }
    (layoutLinks (s.layout p)).foldl (fun s l =>
      if (s.camLink (4 * p + l.1)).state = .up then s.linkTrigger p (4 * p + l.1) sample else s) s

/-- TRIGGER_PACKET_START (R89): at a character boundary at least 12 CLK_CTL cycles after the matching sample, the packet that
holds the place in transmission starts; `ended`: with its start the one before it has ended. The delay field's unit is CoaXPress's: the interval from the matching sample to the start is what
leaves. -/
def execTriggerPacketStart (l : Fin 64) (ended : Bool) (s : State) : Host.Outcome State Fault Refusal :=
  .next (
    let s := if ended then s.trigShift l else s
    let w := sget (fun _ => 0) s.lan.trigNow l
    if w ≠ 0 ∧ sget (fun _ => 0) s.lan.trigStart l = 0 ∧ (s.camLink l).state = .up ∧ w + 11 ≤ 5 * s.ticks then
      let s := s.setTrigPlaces l w (s.ticks + 1) (sget (fun _ => 0) s.lan.trigWait l)
      (s.emit (.triggerPacket (l / 4) (l % 4) (s.camLink l).fast (5 * s.ticks - (w - 1)))).bump (R.LANE_TRG_SENT (l / 4))
    else s)

end Sys2Proof.Machine
end

