-- ==== Sys2Proof/Machine/Trigger.lean ====
section
/-! DEFINITION. Latch units and trigger compare units (R59 to R68, R100). -/
namespace Sys2Proof.Machine

/-! ### Latch units -/

/-- A capture by latch unit `j` (R60, R61): one three-word packet to its queue, or a drop counted. A capture whose packet is dropped
takes its latch_seq and clears the unit's uncertain bits (DESIGN CHOICE, unsafe: log 170); W1 follows R31 with no active master too
(DEDUCED, unsafe: log 171). (DEDUCED, unsafe: log 110) -/
def State.capture (s : State) (j code tq sample counter : Nat) : State :=
  let n := s.fld (R.ENC_LAT_CFG j) F.ENC_LAT_CFG_encoder
  let q := s.fld (R.ENC_LAT_CFG j) F.ENC_LAT_CFG_queue
  let seq := sget (fun _ => 0) s.pos.latSeq j
  let e := s.enc n
  let one (b : Bool) (k : Nat) : Nat := if b then 2 ^ k else 0
  let w0 := seq * 2 ^ 40 + j * 2 ^ 36 + n * 2 ^ 34 + code % 256 * 2 ^ 26 + one (s.periodValid n) 25 +
    one (e.uncertain.getLsbD j) 24 + one (s.bit (R.ENC_STATUS n) F.ENC_STATUS_moving) 23 +
    one (s.bit (R.ENC_STATUS n) F.ENC_STATUS_dir_up) 22
  let w1 := s.posAt n tq sample
  let s := upTo 4 (fun m s => s.setEnc m { s.enc m with uncertain := (s.enc m).uncertain &&& ~~~ BitVec.ofNat 16 (2 ^ j) }) s
  let s : State := { s with pos := { s.pos with latSeq := sput (fun _ => 0) s.pos.latSeq j ((seq + 1) % 2 ^ 32) } }
  if s.canPush q 3 then s.pushPacket q 0x81 [BitVec.ofNat 72 w0, w1, timeWord counter]
  else s.bump (R.ENC_LAT_DROP j)

/-- Every enabled latch unit that selects a source captures (R60). (DEDUCED, unsafe: log 110) -/
def State.latchSource (s : State) (code tq sample counter : Nat) : State :=
  upTo 16 (fun j s =>
    if s.bit (R.ENC_LAT_CFG j) F.ENC_LAT_CFG_enable && s.fld (R.ENC_LAT_CFG j) F.ENC_LAT_CFG_source == code then
      s.capture j code tq sample counter
    else s) s

/-- The position feedback unit's GPIO inputs and latch units work: not in OFF or RESET. -/
def State.posRuns (s : State) : Bool := !s.inStates [.off, .reset]

/-- GPIO_EDGE (R60, R364, R379): a level change of an input ball. (DEDUCED, unsafe: log 29) -/
def execGpioEdge (m : Fin 32) (level : Bool) (tap : Fin 32) (s : State) : Host.Outcome State Fault Refusal :=
  .next (
    if s.posRuns && s.tim.gpio.getLsbD m != level && !(s.rd R.TIM_GPIO_DIR).getLsbD m then
      let s := ({ s with tim := { s.tim with gpio := s.tim.gpio ^^^ BitVec.ofNat 32 (2 ^ m.val) } } : State)
      s.latchSource (if level then m else 0x20 + m) (s.edgeTq tap) (s.edgeSample tap) (s.edgeCounter tap)
    else s)

/-- A write of ENC_LAT_CMD (R60, R68): latch_now on an enabled unit captures with source 0xFF. -/
def State.writeLatCmd (s : State) (j : Nat) (v : BitVec 32) : State :=
  if v.getLsbD 0 && s.bit (R.ENC_LAT_CFG j) F.ENC_LAT_CFG_enable then
    s.capture j 0xFF (s.sampleTq 0) (s.sampleNo 0) (s.sampleCounter 0)
  else s

/-- LATCH_NOW: see `State.writeLatCmd`. -/
def execLatchNow (j : Fin 16) (v : Reg32) (s : State) : Host.Outcome State Fault Refusal :=
  .next (s.hostWrite (R.ENC_LAT_CMD j) v fun s => s.writeLatCmd j v)

/-- A write of ENC_LAT_CFG (R68): while enabled only a write that clears enable acts, and on enable alone. -/
def State.writeLatCfg (s : State) (j : Nat) (v : BitVec 32) : State :=
  if s.bit (R.ENC_LAT_CFG j) F.ENC_LAT_CFG_enable then
    (if v.getLsbD 31 then s else s.setFld (R.ENC_LAT_CFG j) F.ENC_LAT_CFG_enable 0)
  else s.plainWrite (R.ENC_LAT_CFG j) v

/-- LATCH_CFG_WRITE: see `State.writeLatCfg`. -/
def execLatchCfgWrite (j : Fin 16) (v : Reg32) (s : State) : Host.Outcome State Fault Refusal :=
  .next (s.hostWrite (R.ENC_LAT_CFG j) v fun s => s.writeLatCfg j v)

/-! ### Trigger units -/

/-- A trigger unit, and the state with it replaced. -/
def State.trig (s : State) (k : Nat) : TrigUnit := sget (fun _ => ({} : TrigUnit)) s.pos.trg k
def State.setTrig (s : State) (k : Nat) (u : TrigUnit) : State :=
  { s with pos := { s.pos with trg := sput (fun _ => ({} : TrigUnit)) s.pos.trg k u } }

/-- Does a unit compare (R66, R67; from step 2 of R403 it holds)? -/
def State.trigRuns (s : State) (k : Nat) : Bool :=
  s.bit (R.ENC_TRG_CFG k) F.ENC_TRG_CFG_enable && s.inStates [.armed, .run, .hold] && s.blw.banking.isNone &&
    decide (0 < (s.trig k).period)

/-- The encoder that a unit compares. -/
def State.trigEnc (s : State) (k : Nat) : Nat := s.fld (R.ENC_TRG_CFG k) F.ENC_TRG_CFG_encoder

/-- The direction of motion (R63): of the last counted edge, or the unit's forward direction before the first. -/
def State.trigUp (s : State) (k : Nat) : Bool :=
  (s.enc (s.trigEnc k)).up.getD (!s.bit (R.ENC_TRG_CFG k) F.ENC_TRG_CFG_fwd_negative)

/-- May the unit fire in the present direction (R63)? -/
def State.trigAllowed (s : State) (k : Nat) : Bool :=
  s.bit (R.ENC_TRG_CFG k) F.ENC_TRG_CFG_bidir || s.trigUp k != s.bit (R.ENC_TRG_CFG k) F.ENC_TRG_CFG_fwd_negative

/-- How far NEXT lies behind a position, in the direction of motion (negative: ahead). (DEDUCED, unsafe: log 109) -/
def State.trigBehindAt (s : State) (k : Nat) (p : BitVec 72) : Int :=
  let d := (p - (s.trig k).next).toInt
  if s.trigUp k then d else -d

/-- How far NEXT lies behind the position at an instant. -/
def State.trigBehind (s : State) (k tq sample : Nat) : Int := s.trigBehindAt k (s.posAt (s.trigEnc k) tq sample)

/-- NEXT moved by a distance in the direction of motion. -/
def State.trigMove (s : State) (k dist : Nat) : State :=
  let u := s.trig k
  s.setTrig k { u with next := if s.trigUp k then u.next + BitVec.ofNat 72 dist else u.next - BitVec.ofNat 72 dist }

/-- A late point (R64): NEXT skips to the first point ahead; late, late_events, late_points, source 192 + k. -/
def State.trigSkip (s : State) (k behind : Nat) : State :=
  let n := behind / (s.trig k).period + 1
  let s := s.trigMove k (n * (s.trig k).period)
  let s := s.setTrig k { s.trig k with late := true, checked := true }
  ((s.setFlag (R.ENC_TRG_STATUS k) 0 (R.ENC_TRG_LATE_EVT k)).bumpBy (R.ENC_TRG_LATE_PTS k) n).raise (192 + k)

/-- The first comparison since NEXT was set or held, with a position: a point strictly behind it is late (R64, R66). (DEDUCED, unsafe: log 109) -/
def State.trigCheckAt (s : State) (k : Nat) (p : BitVec 72) : State :=
  if s.trigRuns k && !(s.trig k).checked && s.trigAllowed k then
    let b := s.trigBehindAt k p
    if 0 < b then s.trigSkip k b.toNat else s.setTrig k { s.trig k with checked := true }
  else s

/-- The first comparison at an instant. -/
def State.trigCheck (s : State) (k tq sample : Nat) : State := s.trigCheckAt k (s.posAt (s.trigEnc k) tq sample)

/-- The units that compare an encoder, at an edge that it counted (R63, R64): at a reversal a bidirectional unit first
moves NEXT back by one period; a unit that has not compared its NEXT does so with the position `before` the edge, so that a single
point passed by the edge fires; motion past more than one point makes the points late. `first`: the first counted edge since the input
was enabled. (DEDUCED, unsafe: log 109) -/
def State.trigAtEdge (s : State) (n : Nat) (reversal first : Bool) (before : BitVec 72) (tq sample : Nat) : State :=
  upTo 16 (fun k s =>
    if s.trigRuns k && s.trigEnc k == n then
      let bidir := s.bit (R.ENC_TRG_CFG k) F.ENC_TRG_CFG_bidir
      let s := if reversal && bidir then s.trigMove k (s.trig k).period else s
      let s := if first && bidir then s.setTrig k { s.trig k with checked := false } else s
      let s := s.trigCheckAt k before
      if s.trigAllowed k then
        let b := s.trigBehind k tq sample
        if ((s.trig k).period : Int) ≤ b then s.trigSkip k b.toNat else s
      else s
    else s) s

/-- Units in a state in which they do not fire compare afresh when they run again (R66). (DEDUCED, unsafe: log 109) -/
def State.trigTick (s : State) : State :=
  upTo 16 (fun k s =>
    if s.trigRuns k then s.trigCheck k (s.sampleTq 0) (s.sampleNo 0)
    else if (s.trig k).checked then s.setTrig k { s.trig k with checked := false } else s) s

/-- A firing's latch in the latch list of a context (R100). -/
def State.pushLatch (s : State) (c : Nat) (l : Latch) : State :=
  let x := sget (fun _ => ({} : Ctx)) s.int.ctx c
  let full := decide (16 ≤ x.latches.length)
  let x' : Ctx := { x with latches := (if full then x.latches.drop 1 else x.latches) ++ [l] }
  let s : State := { s with int := { s.int with ctx := sput (fun _ => ({} : Ctx)) s.int.ctx c x' } }
  if full then
    s.flagRaise (R.INT_CTX_FLAGS c) 5 (R.INT_CTX_EVCNT c 5) (256 + s.fld (R.INT_CTX_CFG c) F.INT_CTX_CFG_pixel_lane)
  else s

/-- The latches of a firing (R59, R100): one for every enabled context paired with the unit. -/
def State.fireLatches (s : State) (k tq sample counter : Nat) (late : Bool) : State :=
  upTo 64 (fun c s =>
    if s.bit (R.INT_CTX_CFG c) F.INT_CTX_CFG_enable && !s.bit (R.INT_CTX_CFG c) F.INT_CTX_CFG_free_run &&
        s.fld (R.INT_CTX_CFG c) F.INT_CTX_CFG_trig_unit == k then
      s.pushLatch c (s.makeLatch c tq sample counter late)
    else s) s

/-- A firing (R62, R65, R67, R100): the new period if one was written, NEXT moved, outputs and latches. A firing while the LTRIG pulse
of the one before is in progress lengthens that pulse to its own end. (DESIGN CHOICE, unsafe: log 172) -/
def State.trigFire (s : State) (k tq sample counter : Nat) : State :=
  let late := (s.trig k).late
  let s := s.setTrig k { s.trig k with period := (s.rd (R.ENC_TRG_PERIOD k)).toNat, last := some sample, late := false }
  let s := (s.trigMove k (s.trig k).period).bump (R.ENC_TRG_FIRED k)
  let s := if s.bit (R.ENC_TRG_CFG k) F.ENC_TRG_CFG_ltrig_en then
      (s.setTrig k { s.trig k with pulseEnd := some (sample + 4 + 5 * s.fld (R.ENC_TRG_CFG k) F.ENC_TRG_CFG_pulse_width) }).emit
        (.ltrig k true)
    else s
  let ports := s.fld (R.ENC_TRG_CFG k) F.ENC_TRG_CFG_cxp_ports
  let s := if s.bit (R.ENC_TRG_CFG k) F.ENC_TRG_CFG_cxp_en then
      upTo 16 (fun p s => if ports.testBit p then s.portTrigger p sample else s) s
    else s
  (s.fireLatches k tq sample counter late).latchSource (0x50 + k) tq sample counter

/-- TRIGGER_FIRE (R62 to R64): in a CLK_CTL sample of the tick the position has reached NEXT. A point reached too soon
after the previous trigger, or passed with another one, is late. (DEDUCED, unsafe: log 109) -/
def execTriggerFire (k : Fin 16) (i : Fin 5) (s : State) : Host.Outcome State Fault Refusal :=
  .next (
    let tq := s.sampleTq i
    let smp := s.sampleNo i
    if s.trigRuns k && (s.trig k).checked && s.trigAllowed k then
      let b := s.trigBehind k tq smp
      if b < 0 then s
      else
        let soon : Bool := match (s.trig k).last with
          | some t => decide (smp - t < s.fld (R.ENC_TRG_MININT k) F.ENC_TRG_MININT_min_interval)
          | none => false
        if soon ∨ ((s.trig k).period : Int) ≤ b then s.trigSkip k b.toNat
        else s.trigFire k tq smp (s.sampleCounter i)
    else s.trigCheck k tq smp)

/-- LTRIG_PULSE_END (R65). -/
def execLtrigPulseEnd (k : Fin 16) (s : State) : Host.Outcome State Fault Refusal :=
  .next (match (s.trig k).pulseEnd with
    | some t => if t ≤ 5 * s.ticks then (s.setTrig k { s.trig k with pulseEnd := none }).emit (.ltrig k false) else s
    | none => s)

/-- A write of ENC_TRG_NEXT_HI (R66): commits the staged LO value and HI; the new NEXT is then checked. -/
def State.writeTrgNextHi (s : State) (k : Nat) (v : BitVec 32) : State :=
  let u := s.trig k
  let s := s.setTrig k { u with next := BitVec.ofInt 72 (signed 64 (v.toNat * 2 ^ 32 + u.stage.toNat)), snap := none, checked := false }
  s.trigCheck k (s.sampleTq 0) (s.sampleNo 0)

/-- TRIGGER_NEXT_WRITE: see `State.writeTrgNextHi`. -/
def execTriggerNextWrite (k : Fin 16) (v : Reg32) (s : State) : Host.Outcome State Fault Refusal :=
  .next (s.hostWrite (R.ENC_TRG_NEXT_HI k) v fun s => s.writeTrgNextHi k v)

/-- A write of ENC_TRG_NEXT_LO (R66): staged. -/
def State.writeTrgNextLo (s : State) (k : Nat) (v : BitVec 32) : State := s.setTrig k { s.trig k with stage := v }

/-- A read of ENC_TRG_NEXT_LO (R66, R69): NEXT in force, its HI kept for the read of HI that follows. (DEDUCED, unsafe: log 178) -/
def State.readNextLo (s : State) (k : Nat) : BitVec 32 × State :=
  let n := (s.trig k).next.toNat
  (BitVec.ofNat 32 n, s.setTrig k { s.trig k with snap := some (BitVec.ofNat 32 (n / 2 ^ 32)) })

/-- HI of NEXT as a read of ENC_TRG_NEXT_HI returns it: of the last read of LO, or in force where none has come since. -/
def State.nextHi (s : State) (k : Nat) : BitVec 32 := (s.trig k).snap.getD (BitVec.ofNat 32 ((s.trig k).next.toNat / 2 ^ 32))
/-- See `State.nextHi`. (DEDUCED, unsafe: log 178) -/
def State.readNextHi (s : State) (k : Nat) : BitVec 32 × State := (s.nextHi k, s.setTrig k { s.trig k with snap := none })

/-- A write of ENC_TRG_CFG (R67). -/
def State.writeTrgCfg (s : State) (k : Nat) (v : BitVec 32) : State :=
  if s.bit (R.ENC_TRG_CFG k) F.ENC_TRG_CFG_enable then
    (if v.getLsbD 31 then s else s.setFld (R.ENC_TRG_CFG k) F.ENC_TRG_CFG_enable 0)
  else
    let s := s.plainWrite (R.ENC_TRG_CFG k) v
    let s := if (s.trig k).period = 0 then s.setFld (R.ENC_TRG_CFG k) F.ENC_TRG_CFG_enable 0 else s
    (s.setTrig k { s.trig k with checked := false }).trigCheck k (s.sampleTq 0) (s.sampleNo 0)

/-- TRIGGER_CFG_WRITE: see `State.writeTrgCfg`. -/
def execTriggerCfgWrite (k : Fin 16) (v : Reg32) (s : State) : Host.Outcome State Fault Refusal :=
  .next (s.hostWrite (R.ENC_TRG_CFG k) v fun s => s.writeTrgCfg k v)

/-- A write of ENC_TRG_PERIOD (R67): 0 is ignored; in force at once, or at the next firing while enabled. -/
def State.writeTrgPeriod (s : State) (k : Nat) (v : BitVec 32) : State :=
  if v = 0 then s
  else
    let s := s.wr (R.ENC_TRG_PERIOD k) v
    if s.bit (R.ENC_TRG_CFG k) F.ENC_TRG_CFG_enable then s else s.setTrig k { s.trig k with period := v.toNat }

/-- TRIGGER_PERIOD_WRITE: see `State.writeTrgPeriod`. -/
def execTriggerPeriodWrite (k : Fin 16) (v : Reg32) (s : State) : Host.Outcome State Fault Refusal :=
  .next (s.hostWrite (R.ENC_TRG_PERIOD k) v fun s => s.writeTrgPeriod k v)

/-- A write of ENC_TRG_MININT (R67): ignored while enabled. -/
def State.writeTrgMinint (s : State) (k : Nat) (v : BitVec 32) : State :=
  if s.bit (R.ENC_TRG_CFG k) F.ENC_TRG_CFG_enable then s else s.plainWrite (R.ENC_TRG_MININT k) v

end Sys2Proof.Machine
end

