-- ==== Sys2Proof/Machine/Intake.lean ====
section
/-! DEFINITION. Line intake: assembly, pairing, tags, buffers, the raw ring, pixel lanes (R94 to R110). -/
namespace Sys2Proof.Machine

/-! ### Samples and words (R96) -/

/-- Samples per word and bits per sample of a context's format. -/
def samplesPerWord (fmt : Nat) : Nat := if fmt ≤ 2 then 6 else 4
def sampleBits (fmt : Nat) : Nat := if fmt ≤ 2 then 12 else 18

/-- The word that `spw` samples of `b` bits make, the first in the lowest bits. -/
def packWord (b : Nat) : List Nat → Nat
  | [] => 0
  | x :: xs => x % 2 ^ b + 2 ^ b * packWord b xs

/-- Samples packed into words; slots beyond the last sample read as zero. -/
def packPixels (b : Nat) (px : List Nat) : List Word :=
  (List.range (cdiv px.length (72 / b))).map fun i =>
    BitVec.ofNat 72 (packWord b ((px.drop (i * (72 / b))).take (72 / b)))

/-- The samples of a word, slot 0 first. -/
def unpackWord (b : Nat) (w : Word) : List Nat := (List.range (72 / b)).map fun j => bitsOf w.toNat (b * j + b - 1) (b * j)

/-- The first `n` samples of a list of words. -/
def unpackPixels (b n : Nat) (ws : List Word) : List Nat := (ws.flatMap (unpackWord b)).take n

/-- The words of a line of `n` pixels with its three tag words. -/
def lineWords (n spw : Nat) : Nat := 3 + cdiv n spw

/-- The slot stride of R106. -/
def slotStride (width spw : Nat) : Nat := cdiv (lineWords width spw) 8 * 8

/-- The pixel lane that a line's tag names, and its words. -/
def Line.lane (l : Line) : Nat := bitsOf l.w0.toNat 25 22
def Line.words (l : Line) : Nat := lineWords l.px.length (72 / l.bits)

/-! ### Contexts -/

/-- A context, and the state with it replaced. -/
def State.ictx (s : State) (c : Nat) : Ctx := sget (fun _ => ({} : Ctx)) s.int.ctx c
def State.setIctx (s : State) (c : Nat) (x : Ctx) : State :=
  { s with int := { s.int with ctx := sput (fun _ => ({} : Ctx)) s.int.ctx c x } }

/-- The state with a changed intake. -/
def State.setInt (s : State) (i : Intake) : State := { s with int := i }

/-- Is a context enabled; its width, format and pixel lane. -/
def State.ctxOn (s : State) (c : Nat) : Bool := s.bit (R.INT_CTX_CFG c) F.INT_CTX_CFG_enable
def State.ctxWidth (s : State) (c : Nat) : Nat := s.fld (R.INT_CTX_WIDTH c) F.INT_CTX_WIDTH_width
def State.ctxFmt (s : State) (c : Nat) : Nat := s.fld (R.INT_CTX_CFG c) F.INT_CTX_CFG_format
def State.ctxLane (s : State) (c : Nat) : Nat := s.fld (R.INT_CTX_CFG c) F.INT_CTX_CFG_pixel_lane

/-- ring_log2 of a context: 0 without a ring. -/
def State.ringLog2 (s : State) (c : Nat) : Nat := s.fld (R.INT_CTX_RING c) F.INT_CTX_RING_ring_log2

/-- INT_CTX_FLAGS with sources 240 + L and 256 + L; crc_error raises none (R110). -/
def State.intFlag (s : State) (c b : Nat) : State :=
  let s := s.setFlag (R.INT_CTX_FLAGS c) b (R.INT_CTX_EVCNT c b)
  if b = 2 then s else s.raise ((if b < 2 then 240 else 256) + s.ctxLane c)

/-- The line on a pixel lane. -/
def State.onLane (s : State) (L : Nat) : Option OnLane := sget (fun _ => none) s.int.lanes L

/-- The state with a pixel lane's line replaced. -/
def State.setOnLane (s : State) (L : Nat) (x : Option OnLane) : State :=
  s.setInt { s.int with lanes := sput (fun _ => none) s.int.lanes L x }

/-- Every line in a pixel lane's buffer whose assembly has ended: a line that the replay feeder reads from the ring is none (R280). -/
def State.laneLines (s : State) (L : Nat) : List Line :=
  (s.int.ringWrites ++ s.int.eligible ++
    (match s.onLane L with | some o => if o.fed then [] else [o.line] | none => [])).filter fun l => l.lane == L

/-- The pixel lane of a line in assembly, and the words it takes. -/
def OpenLine.lane (o : OpenLine) : Nat := getField o.cfg F.INT_CTX_CFG_pixel_lane
def OpenLine.fmt (o : OpenLine) : Nat := getField o.cfg F.INT_CTX_CFG_format
/-- DEDUCED, unsafe: log 119. -/
def OpenLine.words (o : OpenLine) : Nat := lineWords o.px.length (samplesPerWord o.fmt)

/-- The occupancy of a pixel lane's intake buffer in words (R104, R105): a line from its first word until it has left. (DEDUCED, unsafe: log 119) -/
def State.laneOccupancy (s : State) (L : Nat) : Nat :=
  ((s.laneLines L).map Line.words).foldl (· + ·) 0 +
    (s.int.ctx.map fun p => match p.2.line with
      | some o => if o.lane = L then o.words else 0
      | none => 0).foldl (· + ·) 0

/-- INT_LANE_LEVEL follows the buffer; a rise through the threshold sets watermark (R105). (DEDUCED, unsafe: log 119) -/
def State.syncLane (s : State) (L : Nat) : State :=
  let old := s.fld (R.INT_LANE_LEVEL L) F.INT_LANE_LEVEL_occupancy
  let new := min 16383 (s.laneOccupancy L)
  let thr := s.fld (R.INT_LANE_WM L) F.INT_LANE_WM_threshold
  let s := (s.setFld (R.INT_LANE_LEVEL L) F.INT_LANE_LEVEL_occupancy new).highWater
    (R.INT_LANE_LEVEL L) F.INT_LANE_LEVEL_high_water new
  if old < thr ∧ thr ≤ new then s.flagRaise (R.INT_LANE_FLAGS L) 0 (R.INT_LANE_WM_CROSS L) (272 + L) else s

/-! ### Intervals and correction sets at the lane (R124, R125, R144) -/

/-- An uncommitted interval, and the state with it replaced. -/
def State.ival (s : State) (j : Nat) : Option Ival := s.sti.ivals.find? fun v => v.num == j
def State.mapIval (s : State) (j : Nat) (f : Ival → Ival) : State :=
  { s with sti := { s.sti with ivals := s.sti.ivals.map fun v => if v.num = j then f v else v } }

/-- A context's correction state, and the state with it replaced. -/
def State.corCtx (s : State) (c : Nat) : CorCtx := sget (fun _ => ({} : CorCtx)) s.cor.ctx c
def State.setCorCtx (s : State) (c : Nat) (x : CorCtx) : State :=
  { s with cor := { s.cor with ctx := sput (fun _ => ({} : CorCtx)) s.cor.ctx c x } }

/-- COR_FLAGS with sources 304 to 309 (R129). -/
def State.corFlag (s : State) (b : Nat) : State := s.flagRaise R.COR_FLAGS b (R.COR_EVCNT b) (304 + b)

/-- The set that is active before any apply: every stage off. -/
def corOff : CorSet := ⟨0x3FFFF, 0x10000000, 0, 0, 0, 0⟩

/-- A context's active parameter set. -/
def CorCtx.set (x : CorCtx) : CorSet := x.active.getD corOff

/-- Is temporal noise reduction on in a set? -/
def CorSet.tnrEn (p : CorSet) : Bool := getField p.tnr F.COR_CTX_TNR_tnr_en == 1

/-- A pending set becomes active (R124): apply_done, apply_pending clear; a state is empty after tnr_en is set (R114). (DEDUCED, unsafe: log 124) -/
def State.activateCor (s : State) (c : Nat) : State :=
  let x := s.corCtx c
  match x.pending with
  | none => s
  | some p =>
    let s := s.setCorCtx c { x with active := some p, pending := none, empty := x.empty || (p.tnrEn && !x.set.tnrEn) }
    let s := s.setFld (R.COR_CTX_STATUS c) F.COR_CTX_STATUS_apply_pending 0
    (s.setFld (R.COR_CTX_STATUS c) F.COR_CTX_STATUS_active_base (getField p.gain F.COR_CTX_GAIN_coef_base)).corFlag 0
      |>.blockDone 4 c 0

/-- Does reference loss hold (R143)? -/
def State.refLost (s : State) : Bool := s.bit R.STI_REF F.STI_REF_ref_lost

/-- Is a line one at which its context's temporal state starts from its recipe-load state: the first re-injected one (R108), or its
replay (R127)? (DEDUCED, unsafe: log 120) -/
def State.emptiesAt (s : State) (l : Line) : Bool :=
  match l.interval with
  | some j => (s.ival j).any fun v => v.emptied.contains (l.ctx, l.seq)
  | none => l.reinjected && s.int.reinj.any fun r => !r.fresh.contains l.ctx

/-- The marks of such a line: the state is empty, and the re-injection and the interval remember the line. (DEDUCED, unsafe: log 120) -/
def State.emptyAt (s : State) (j : Nat) (l : Line) : State :=
  if s.emptiesAt l then
    let s := s.setCorCtx l.ctx { s.corCtx l.ctx with empty := true }
    let s := s.setInt { s.int with reinj := s.int.reinj.map fun r =>
      if l.reinjected then { r with fresh := l.ctx :: r.fresh } else r }
    s.mapIval j fun v => if l.interval.isNone then { v with emptied := v.emptied ++ [(l.ctx, l.seq)] } else v
  else s

/-- A line's first pixel enters its lane (R102, R124 to R126, R144), `fed` by the replay feeder or from intake: it is taken into its
interval under the context's set, which stays pending under reference loss (R143); a line that the interval waits for is held. -/
def State.takeLine (s : State) (L : Nat) (l : Line) (fed : Bool) : State :=
  let c := l.ctx
  let j := l.interval.getD s.sti.newest
  let known := (s.ival j).bind fun v => v.cor.lookup c
  let start : Bool := match l.interval with
    | none => known.isNone
    | some _ => ((s.ival j).bind fun v => v.taken.find? fun p => p.1 == c) == some (c, l.seq)
  let s := if known.isNone && !s.refLost then s.activateCor c else s
  let s := s.emptyAt j l
  let x := s.corCtx c
  let (p, gap) := known.getD (x.set, decide (x.last ≠ some (j - 1)))
  let held := p.tnrEn && start && s.sti.ivals.any fun v => decide (v.num + 2 ≤ j)
  let s := s.setCorCtx c { x with last := some j }
  let s := s.mapIval j fun v =>
    { v with cor := if known.isNone then v.cor ++ [(c, p, gap)] else v.cor,
             taken := if l.interval.isNone then v.taken ++ [(c, l.seq)] else v.taken }
  let s := s.setOnLane L (some ⟨{ l with interval := some j }, p, start, gap, held, fed⟩)
  if held then s.corFlag 5 else s

/-- Does the re-injection stop at the next line boundary: by an abort, or outside ARMED (R108)? -/
def State.reinjStops (s : State) : Bool := s.blw.state != .armed || s.int.reinj.any fun r => r.abort

/-- The earliest eligible line of a pixel lane (R102): equal times go to the lower context number; re-injected lines are sent while the
re-injection goes on. (DEDUCED, unsafe: log 121) -/
def State.nextLine (s : State) (L : Nat) : Option Line :=
  (s.int.eligible.filter fun l => l.lane == L && !(l.reinjected && s.reinjStops)).foldl (fun best l => match best with
    | none => some l
    | some b => if l.key < b.key ∨ (l.key = b.key ∧ l.ctx < b.ctx) then some l else best) none

/-- Does the replay feeder still have a line of a pixel lane to read (R280)? -/
def State.fedLane (s : State) (L : Nat) : Bool := s.fed.running && s.fed.todo.any fun q => s.ctxLane q.1 == L

/-- A free pixel lane takes its next line; on a lane that the replay feeder serves intake sends none (R280). -/
def State.takeNext (s : State) (L : Nat) : State :=
  if (s.onLane L).isSome || s.fedLane L then s
  else match s.nextLine L with
    | none => s
    | some l => ((s.setInt { s.int with eligible := s.int.eligible.erase l }).takeLine L l false).syncLane L

/-! ### Pairing, line begin and line end (R97 to R101) -/

/-- Is the intake gate closed (R103)? -/
def State.gateClosed (s : State) : Bool := s.blw.state != .run || s.bit R.HST_QUENCH F.HST_QUENCH_quench

/-- Latches older than max_age_ns discarded as missed (R100). -/
def State.ageLatches (s : State) (c tq : Nat) : State :=
  let x := s.ictx c
  let old := fun l : Latch => decide (4 * s.fld (R.INT_CTX_PAIR c) F.INT_CTX_PAIR_max_age_ns < tq - l.tg)
  let n := (x.latches.filter old).length
  upTo n (fun _ s => s.intFlag c 5) (s.setIctx c { x with latches := x.latches.filter fun l => !old l })

/-- A line begins with its first pixel (R97, R100): paired with the oldest latch, or formed from its arrival. (DEDUCED, unsafe: log 119) -/
def State.beginLine (s : State) (c tap : Nat) : State :=
  let cfg := s.rd (R.INT_CTX_CFG c)
  let tq := s.edgeTq tap
  let free := getField cfg F.INT_CTX_CFG_free_run == 1
  let s := if free then s else s.ageLatches c tq
  let x := s.ictx c
  let own := s.makeLatch c tq (s.edgeSample tap) (s.edgeCounter tap) false
  let (l, taken, rest) := match free, x.latches with
    | false, l :: rest => (l, some l, rest)
    | _, ls => (own, none, ls)
  let o : OpenLine := { cfg := cfg, width := s.ctxWidth c, fill := s.fld (R.INT_CTX_FILL c) F.INT_CTX_FILL_fill_value,
                        latch := l, taken := taken, gated := s.gateClosed, lastData := s.ticks }
  let s := s.setIctx c { x with line := some o, latches := rest, ready := false }
  if !free && taken.isNone then s.intFlag c 6 else s

/-- Is Hearth deferring ring writes (R102)? (DEDUCED, unsafe: log 121) -/
def State.deferring (s : State) : Bool := s.tmp.hbmStart.isSome || s.int.ringWrites.any fun l => l.deferred

/-- Is a pixel lane held by back-pressure from the stitcher (R102, R160): while the stall lasts, and until the lines that were eligible at
its end have left? (DEDUCED, unsafe: log 121) -/
def State.backPressed (s : State) (L : Nat) : Bool :=
  s.anv.stallFrom.isSome || (sget (fun _ => []) s.int.backlog L).any fun q =>
    (s.int.eligible ++ (match s.onLane L with | some o => [o.line] | none => [])).any fun l => (l.ctx, l.seq) == q

/-- The lines that a context holds towards its limit of two (R102). (DEDUCED, unsafe: log 121) -/
def State.heldLines (s : State) (c : Nat) : Nat :=
  ((s.int.eligible ++ s.int.lanes.filterMap fun p => p.2.map fun o => o.line).filter fun l => l.ctx == c && !l.exempt).length

/-- The tag of a line (R39, R40). -/
def OpenLine.tag0 (o : OpenLine) (c seq : Nat) : Word :=
  let one (b : Bool) (k : Nat) : Nat := if b then 2 ^ k else 0
  let short := decide (o.px.length < o.width)
  let count := if short then min 65535 (o.width - o.px.length) else min 65535 o.excess
  BitVec.ofNat 72 (seq * 2 ^ 32 + c * 2 ^ 26 + o.lane * 2 ^ 22 + one short 21 + one (decide (0 < o.excess)) 20 +
    one o.crc 19 + one o.latch.late 17 + count)

/-- A line ends (R97, R98, R101 to R103, R106): padded, tagged, numbered; dropped where its context holds two; its ring
write begins, or without a ring it is discarded. The words of its padding meet no check for a full buffer. (DESIGN CHOICE, unsafe: log 185) -/
def State.endLine (s : State) (c : Nat) : State :=
  let x := s.ictx c
  match x.line with
  | none => s
  | some o =>
    let b := sampleBits o.fmt
    let L := o.lane
    let px := o.px ++ List.replicate (o.width - o.px.length) (o.fill % 2 ^ b)
    let ring := decide (0 < s.ringLog2 c)
    let exempt := s.deferring || s.backPressed L
    let drop := ring && !o.gated && !exempt && decide (2 ≤ s.heldLines c)
    let l : Line := { ctx := c, seq := x.seq, w0 := o.tag0 c x.seq, w1 := o.latch.pos, w2 := timeWord o.latch.time,
                      n := o.px.length, bits := b, px := px, key := o.latch.tg, gated := o.gated, dropped := drop,
                      exempt := exempt, deferred := s.tmp.hbmStart.isSome }
    let s := s.setIctx c { x with line := none, ready := false, seq := (x.seq + 1) % 2 ^ 40 }
    let s := if o.px.length < o.width then s.intFlag c 0 else s
    let s := if 0 < o.excess then s.intFlag c 1 else s
    let s := if o.crc then s.intFlag c 2 else s
    let s := if o.gated || !ring then s.bump (R.INT_CTX_GATED c) else s
    let s := if drop then s.intFlag c 3 else s
    (if ring then s.setInt { s.int with ringWrites := s.int.ringWrites ++ [l] } else s).syncLane L

/-- Pixels of a context's open line arrive (R98, R104): excess is counted, an overrun loses the line and removes no latch: a full list
would have discarded that oldest latch as missed (R100). -/
def State.addPixels (s : State) (c : Nat) (bad : Bool) (v : List Nat) : State :=
  let x := s.ictx c
  match x.line with
  | none => s
  | some o =>
    let room := o.width - o.px.length
    let o' := { o with px := o.px ++ v.take room, excess := o.excess + (v.length - room), crc := o.crc || bad }
    if 14563 < s.laneOccupancy o.lane + o'.words - o.words then
      let full := o.taken.isSome && decide (16 ≤ x.latches.length)
      let ls := match o.taken with
        | some l => if full then x.latches else l :: x.latches
        | none => x.latches
      let s := (s.setIctx c { x with line := none, ready := false, latches := ls }).intFlag c 4
      (if full then s.intFlag c 5 else s).syncLane o.lane
    else (s.setIctx c { x with line := some o' }).syncLane o.lane

/-! ### Stream data (R94, R97, R99) -/

/-- A stream, by its link's master lane and stream ID, and the state with it replaced. -/
def State.stream (s : State) (k : Nat) : Stream := sget (fun _ => ({} : Stream)) s.lan.streams k
def State.setStream (s : State) (k : Nat) (x : Stream) : State :=
  { s with lan := { s.lan with streams := sput (fun _ => ({} : Stream)) s.lan.streams k x } }

/-- The format codes of INT_CTX_CFG, and their bits per pixel on the link. -/
def formatCode : PixelFormat → Option Nat
  | .mono8 => some 0 | .mono10 => some 1 | .mono12 => some 2 | .mono14 => some 3 | .mono16 => some 4 | .unsupported => none
def formatBits : Nat → Nat
  | 0 => 8 | 1 => 10 | 2 => 12 | 3 => 14 | _ => 16

/-- The stream that a configuration names. -/
def cfgStream (cfg : BitVec 32) : Nat :=
  (4 * getField cfg F.INT_CTX_CFG_port + getField cfg F.INT_CTX_CFG_link) * 256 + getField cfg F.INT_CTX_CFG_stream_id

/-- Is a context enabled and bound to a stream (R94)? -/
def State.boundOn (s : State) (k c : Nat) : Bool := s.ctxOn c && cfgStream (s.rd (R.INT_CTX_CFG c)) == k

/-- Has a context an open line of a stream? -/
def State.openOn (s : State) (k c : Nat) : Bool := (s.ictx c).line.any fun o => cfgStream o.cfg == k

/-- The contexts that receive a stream's data (R94, R109): the enabled one bound to it, and those that complete a line of it. -/
def State.receivers (s : State) (k : Nat) : List Nat := (List.range 64).filter fun c => s.boundOn k c || s.openOn k c

/-- May a line of a context begin on a stream: supported data in the context's format (R97, R99)? -/
def State.assembles (s : State) (k c : Nat) : Bool := (s.stream k).supported && (s.stream k).format == some (s.ctxFmt c)

/-- After an image header or a line marker: the context's line of the stream ends, and its next one may begin at the next pixel. -/
def State.boundary (k : Nat) (s : State) (c : Nat) : State :=
  let s := if s.openOn k c then s.endLine c else s
  if s.boundOn k c then s.setIctx c { s.ictx c with ready := s.assembles k c } else s

/-- format_mismatch at an image header of another supported format than the context's (R99). -/
def State.headerFormat (k code : Nat) (s : State) (c : Nat) : State :=
  if s.boundOn k c && code != s.ctxFmt c then s.intFlag c 7 else s

/-- Pixels of a stream for a context: the first after a header or a marker begins its line, and ends one still open on another stream. (DESIGN CHOICE, unsafe: log 183) -/
def State.pixelsFor (k : Nat) (bad : Bool) (tap : Nat) (v : List Nat) (s : State) (c : Nat) : State :=
  let s := if s.boundOn k c && (s.ictx c).ready then (s.endLine c).beginLine c tap else s
  if s.openOn k c then s.addPixels c bad v else s

/-- One item of a stream data packet, with the bytes of the 8,192 left (R75): what follows the limit is cut. A line of the stream is
begun by the first pixel after a header or a marker (R97). (DEDUCED, unsafe: log 118) -/
def State.streamItem (k : Nat) (cs : List Nat) (bad : Bool) (tap : Nat) (a : State × Nat) (it : StreamItem) :
    State × Nat :=
  let s := a.1
  let left := a.2
  match it with
  | .imageHeader n f lines width =>
    if left < n then (s, 0)
    else
      let s := s.setStream k ⟨(formatCode f).isSome, formatCode f, lines, width, 0, true⟩
      let s := if (formatCode f).isNone then s.portFlag (k / 1024) 5 else s
      let s := match formatCode f with
        | some code => cs.foldl (State.headerFormat k code) s
        | none => s
      (cs.foldl (State.boundary k) s, left - n)
  | .lineMarker n =>
    if left < n then (s, 0)
    else (cs.foldl (State.boundary k) (s.setStream k { s.stream k with fresh := true }), left - n)
  | .pixels n v =>
    let t := s.stream k
    let v := (v.take (min n left * 8 / formatBits (t.format.getD 0))).map fun x => x.toNat
    if v.isEmpty then (s, left - n)
    else
      let s := if t.fresh then s.setStream k { t with begun := t.begun + 1, fresh := false } else s
      (cs.foldl (State.pixelsFor k bad tap v) s, left - n)

/-- The end of a packet for a context (R97): its line ends where the packet completes the declared number of lines, counted against the
configured width. (DEDUCED, unsafe: log 118) -/
def State.packetEnd (k : Nat) (s : State) (c : Nat) : State :=
  let x := s.ictx c
  match x.line with
  | none => s
  | some o =>
    let t := s.stream k
    if cfgStream o.cfg ≠ k then s
    else if 0 < t.lines ∧ t.begun = t.lines ∧ o.width ≤ o.px.length + o.excess then s.endLine c
    else s.setIctx c { x with line := some { o with lastData := s.ticks } }

/-- The payload of a stream data packet (R75, R94). (DEDUCED, unsafe: log 118) -/
def State.streamData (s : State) (port link : Nat) (p : StreamPacket) (bad : Bool) : State :=
  let k := (4 * port + link) * 256 + p.streamId.toNat
  let cs := s.receivers k
  let s := if cs.isEmpty then s.bump R.INT_UNBOUND else s
  cs.foldl (State.packetEnd k) (p.items.foldl (State.streamItem k cs bad p.tap) (s, 8192)).1

/-- A link is lost (R87, R97): its streams end and their open lines are completed. -/
def State.endStreams (s : State) (port link : Nat) : State :=
  let s : State := { s with lan := { s.lan with streams := skeep (fun k => k / 256 != 4 * port + link) s.lan.streams } }
  upTo 64 (fun c s =>
    let s := if (s.ictx c).line.any fun o => cfgStream o.cfg / 256 == 4 * port + link then s.endLine c else s
    if cfgStream (s.rd (R.INT_CTX_CFG c)) / 256 = 4 * port + link then s.setIctx c { s.ictx c with ready := false } else s) s

/-- LINE_TIMEOUT (R97): line_timeout_us have passed without stream data for the context. -/
def execLineTimeout (c : Fin 64) (s : State) : Host.Outcome State Fault Refusal :=
  .next (match (s.ictx c).line with
    | some o =>
      if s.passedUs o.lastData (s.fld R.INT_GLOBAL_CFG F.INT_GLOBAL_CFG_line_timeout_us) then s.endLine c else s
    | none => s)

/-! ### The raw ring (R106, R107) -/

/-- The handle of a context's ring and the byte offset of a sequence's slot: the stride of the load stands, also for a context that has
been disabled since and enabled again with another width or format. (DESIGN CHOICE, unsafe: log 186) -/
def State.ringHandle (s : State) (c : Nat) : BitVec 32 := s.rd (R.INT_CTX_RING_HANDLE c)
def State.slotOffset (s : State) (c seq : Nat) : Nat :=
  seq % 2 ^ s.ringLog2 c * s.fld (R.INT_CTX_RING c) F.INT_CTX_RING_stride * 9

/-- The words of a line's slot. -/
def Line.slot (l : Line) : List Word := l.w0 :: l.w1 :: l.w2 :: packPixels l.bits l.px

/-- RING_WRITE_DONE (R102, R107): the oldest ring write of a context completes; the line becomes eligible, or leaves the
buffer. -/
def State.ringWritten (s : State) (c : Nat) : State :=
  if s.hbmBusy then s
  else match s.int.ringWrites.find? fun l => l.ctx == c with
    | none => s
    | some l =>
      let bytes := packDense l.slot
      let s := (s.writeBuffer (s.ringHandle c) (s.slotOffset c l.seq) bytes).hearthTraffic (if l.deferred then 2 else 1) bytes.length
      let s := s.setInt { s.int with ringWrites := s.int.ringWrites.erase l }
      let s := if l.gated || l.dropped then s
        else if s.fedLane l.lane then { s with fed := { s.fed with todo := s.fed.todo ++ [(c, l.seq, none)] } }
        else s.setInt { s.int with eligible := s.int.eligible ++ [{ l with deferred := false }] }
      (s.takeNext l.lane).syncLane l.lane

/-- RING_WRITE_DONE: see `State.ringWritten`. -/
def execRingWriteDone (c : Fin 64) (s : State) : Host.Outcome State Fault Refusal := .next (s.ringWritten c)

/-- A retained line read from its slot (R107): none where the slot holds another sequence or context, or was lost. -/
def State.readSlot (s : State) (c seq : Nat) : Option Line :=
  if s.ringLog2 c = 0 then none
  else
    let b := sampleBits (s.ctxFmt c)
    let width := s.ctxWidth c
    let n := cdiv width (72 / b)
    let bytes := (s.readBuffer (s.ringHandle c) (s.slotOffset c seq) (9 * (3 + n))).1
    let word (i : Nat) : Word := BitVec.ofNat 72 (ofBytes ((bytes.drop (9 * i)).take 9))
    let w0 := word 0
    if w0 ≠ BitVec.allOnes 72 ∧ bitsOf w0.toNat 71 32 = seq ∧ bitsOf w0.toNat 31 26 = c then
      some { ctx := c, seq := seq, w0 := w0, w1 := word 1, w2 := word 2, bits := b,
             n := if w0.getLsbD 21 then width - bitsOf w0.toNat 15 0 else width,
             px := unpackPixels b width ((List.range n).map fun i => word (3 + i)), key := quarters (word 2) }
    else none

/-! ### Context configuration (R95, R109) -/

/-- The checks of R95 on a context and a configuration that would enable it. -/
def State.enableOk (s : State) (c : Nat) (v : BitVec 32) : Bool :=
  let others := (List.range 64).filter fun d => d != c && s.ctxOn d
  let lane := getField v F.INT_CTX_CFG_pixel_lane
  let mates := others.filter fun d => s.ctxLane d == lane
  let stride (d : Nat) := slotStride (s.ctxWidth d) (samplesPerWord (s.ctxFmt d))
  let sum := (mates.map fun d => 2 * stride d).foldl (· + ·) 0 +
    2 * slotStride (s.ctxWidth c) (samplesPerWord (getField v F.INT_CTX_CFG_format))
  decide (getField v F.INT_CTX_CFG_format ≤ 4) && decide (mates.length < 4) && decide (sum ≤ 14563) &&
    others.all fun d => bitsOf (s.rd (R.INT_CTX_CFG d)).toNat 21 8 != bitsOf v.toNat 21 8

/-- A write of INT_CTX_CFG (R95, R109): the write that clears enable is taken whole; any other is ignored while the context is enabled. -/
def State.writeCtxCfg (s : State) (c : Nat) (v : BitVec 32) : State :=
  if s.ctxOn c then
    if v.getLsbD 31 then s
    else (s.plainWrite (R.INT_CTX_CFG c) v).setIctx c { s.ictx c with latches := [], ready := false }
  else
    let s := s.plainWrite (R.INT_CTX_CFG c) (v &&& 0x7FFFFFFF#32)
    if v.getLsbD 31 && s.enableOk c v then
      (s.setFld (R.INT_CTX_CFG c) F.INT_CTX_CFG_enable 1).setIctx c { s.ictx c with latches := [], ready := false }
    else s

/-- CONTEXT_ENABLE (R95): a write with enable set. -/
def execContextEnable (c : Fin 64) (v : Reg32) (s : State) : Host.Outcome State Fault Refusal :=
  .next (s.hostWrite (R.INT_CTX_CFG c) v fun s => if v.getLsbD 31 then s.writeCtxCfg c v else s)

/-- CONTEXT_DISABLE (R109): a write with enable clear. -/
def execContextDisable (c : Fin 64) (v : Reg32) (s : State) : Host.Outcome State Fault Refusal :=
  .next (s.hostWrite (R.INT_CTX_CFG c) v fun s => if v.getLsbD 31 then s else s.writeCtxCfg c v)

/-- A write of INT_CTX_WIDTH, FILL or PAIR: ignored while the context is enabled (R109). -/
def State.writeCtxReg (s : State) (c key : Nat) (v : BitVec 32) : State := if s.ctxOn c then s else s.plainWrite key v

/-! ### Re-injection (R108) -/

/-- The masked contexts of a re-injection. (DEDUCED, unsafe: log 120) -/
def State.reinjMask (s : State) : List Nat :=
  (List.range 64).filter fun c => (s.rd (if c < 32 then R.INT_REINJ_MASK_LO else R.INT_REINJ_MASK_HI)).getLsbD (c % 32)

/-- A re-injection ends with a result. (DEDUCED, unsafe: log 120) -/
def State.reinjEnd (s : State) (result : Nat) : State :=
  ((s.setInt { s.int with reinj := none }).wr R.INT_REINJ_STATUS (BitVec.ofNat 32 result)).raise 288 |>.blockDone 1 0 result

/-- A write of INT_REINJ_CMD with go (R108). (DEDUCED, unsafe: log 120) -/
def State.reinjGo (s : State) : State :=
  let m := s.reinjMask
  let n := s.fld R.INT_REINJ_COUNT F.INT_REINJ_COUNT_count
  let first := s.fld R.INT_REINJ_SEQ_HI F.INT_REINJ_SEQ_HI_first_seq_hi * 2 ^ 32 + (s.rd R.INT_REINJ_SEQ_LO).toNat
  if s.int.reinj.isSome then s
  else if s.blw.state ≠ .armed then s.wr R.INT_REINJ_STATUS 3
  else if m.isEmpty || n == 0 || m.any fun c => !s.ctxOn c || decide (2 ^ s.ringLog2 c < n) then s.wr R.INT_REINJ_STATUS 2
  else
    let s := s.setInt { s.int with reinj := some { todo := m.map fun c => (c, first, n) } }
    ((s.wr R.INT_REINJ_STATUS 0x80000000).wr R.INT_REINJ_DONE 0).wr R.INT_REINJ_SKIP 0

/-- A write of INT_REINJ_CMD with abort: the re-injection stops at the next line boundary. -/
def State.reinjAbort (s : State) : State :=
  match s.int.reinj with
  | some r => s.setInt { s.int with reinj := some { r with todo := [], abort := true } }
  | none => s

/-- A write of INT_REINJ_CMD: with go and abort both set, the abort alone. (DESIGN CHOICE, unsafe: log 187) -/
def State.writeReinjCmd (s : State) (v : BitVec 32) : State :=
  let s := if v.getLsbD 1 then s.reinjAbort else s
  if v.getLsbD 0 && !v.getLsbD 1 then s.reinjGo else s

/-- REINJECT_GO (R108). -/
def execReinjectGo (v : Reg32) (s : State) : Host.Outcome State Fault Refusal :=
  .next (s.hostWrite R.INT_REINJ_CMD v fun s => if v.getLsbD 0 then s.writeReinjCmd v else s)

/-- REINJECT_ABORT (R108). -/
def execReinjectAbort (v : Reg32) (s : State) : Host.Outcome State Fault Refusal :=
  .next (s.hostWrite R.INT_REINJ_CMD v fun s => if v.getLsbD 1 then s.writeReinjCmd v else s)

/-- REINJECT_LINE (R108): the next retained line of a masked context is read, and passed to its lane or skipped; it waits in the lane's
buffer, without a check for room. (DEDUCED, unsafe: log 120; DESIGN CHOICE, unsafe: log 184) -/
def State.reinjectLine (s : State) (c : Nat) (ecc : EccResult) : State :=
  match s.int.reinj with
  | none => s
  | some r =>
    if s.blw.state ≠ .armed then s
    else match r.todo.find? fun t => t.1 == c with
      | none => s
      | some (_, seq, n) =>
        let bytes := 9 * lineWords (s.ctxWidth c) (samplesPerWord (s.ctxFmt c))
        let (served, s) := s.blockEcc (s.ringHandle c) (s.slotOffset c seq) bytes ecc
        if served = false then s
        else
          let todo := if n ≤ 1 then r.todo.filter fun t => t.1 != c
            else r.todo.map fun t => if t.1 = c then (c, (seq + 1) % 2 ^ 40, n - 1) else t
          let s := s.hearthTraffic 4 bytes
          match s.readSlot c seq with
          | none => (s.setInt { s.int with reinj := some { r with todo := todo } }).bump R.INT_REINJ_SKIP
          | some l =>
            let s := s.setInt { s.int with reinj := some { r with todo := todo },
                                           eligible := s.int.eligible ++ [{ l with reinjected := true }] }
            (s.takeNext l.lane).syncLane l.lane

/-- REINJECT_LINE: see `State.reinjectLine`. -/
def execReinjectLine (c : Fin 64) (s : State) (ecc : EccResult := .clean) : Host.Outcome State Fault Refusal := .next (s.reinjectLine c ecc)

/-- REINJECT_DONE (R108): every line has been sent, or the re-injection stops at a line boundary: by an abort with OK, by
leaving ARMED with STATE. -/
def execReinjectDone (s : State) : Host.Outcome State Fault Refusal :=
  .next (match s.int.reinj with
    | none => s
    | some r =>
      let sending := s.int.lanes.any fun p => match p.2 with
        | some o => o.line.reinjected
        | none => false
      let stop := s.reinjStops
      let waits := r.todo.any (fun _ => true) || s.int.eligible.any (·.reinjected)
      if sending || (waits && !stop) then s
      else
        let s := s.setInt { s.int with eligible := s.int.eligible.filter fun l => !l.reinjected }
        (upTo 16 (fun L s => s.syncLane L) s).reinjEnd (if s.blw.state = .armed then 0 else 3))

end Sys2Proof.Machine
end

