-- ==== Sys2Proof/Machine/Journal.lean ====
section
/-! DEFINITION. The Ember journal: items, backlog, block writes, wear and acknowledgement checkpoints (R286 to R289). -/
namespace Sys2Proof.Machine

/-- The state with a changed journal. -/
def State.setJnl (s : State) (j : Journal) : State := { s with jnl := j }

/-- Is there room in the 65,536-byte backlog for one more item (R287)? (DESIGN CHOICE, safe: log 95) -/
def Journal.room (j : Journal) : Bool := decide ((j.backlog.length + 1) * journalItemBytes ≤ 65536)

/-- The pending-mark capacity (R289). -/
def Journal.markCapacity (j : Journal) : Nat := if j.enabled then min 65536 (64 * (j.usable - 512)) else 65536

/-- An item is journalled (R286, R287): into the backlog, or waiting for room with jnl_behind set. -/
def State.journal (s : State) (it : JournalItem) : State :=
  let j := s.jnl
  if j.enabled = false then s
  else if j.waiting.isEmpty && j.room then s.setJnl { j with backlog := j.backlog ++ [it] }
  else (s.setJnl { j with waiting := j.waiting ++ [it] }).embFlag 7

/-- A journalled acknowledgement point (R286). -/
def Journal.settle (j : Journal) : JournalItem → Journal
  | .ack q v => { j with acks := sput (fun _ => 0) j.acks q v }
  | it => { j with items := it :: j.items }

/-- `n` items of the backlog become durable, oldest first. -/
def Journal.flush (j : Journal) : Nat → Journal
  | 0 => j
  | n + 1 => match j.backlog with
    | [] => j
    | it :: rest => (({ j with backlog := rest } : Journal).settle it).flush n

/-- Waiting items enter the backlog as room frees. (DESIGN CHOICE, safe: log 95) -/
def Journal.refill (j : Journal) : Nat → Journal
  | 0 => j
  | n + 1 => match j.waiting with
    | [] => j
    | it :: rest => if j.room then ({ j with backlog := j.backlog ++ [it], waiting := rest } : Journal).refill n else j

/-- The capacity register of Tongs follows the journal (R289). -/
def State.syncCapacity (s : State) : State := s.setFld R.TNG_CAP F.TNG_CAP_capacity s.jnl.markCapacity

/-- JOURNAL_WRITE (R287 to R289): a block write of the backlog's next items completes and is verified; a worn block is
remapped to a spare, or retired; below 1,024 usable blocks the journal is disabled for the life of the part. -/
def State.journalWrite (s : State) (n : Nat) (r : BlockWrite) : State :=
  let j := s.jnl
  if j.enabled = false ∨ j.backlog.isEmpty ∨ s.inStates [.off, .reset] then s
  else
    let j := ((j.flush n).refill j.waiting.length)
    match r with
    | .verified => s.setJnl { j with writes := j.writes + 1 }
    | .rewritten => s.setJnl { j with writes := j.writes + 2 }
    | .worn =>
      if 0 < j.spares then (s.setJnl { j with writes := j.writes + 3, spares := j.spares - 1 }).embFlag 4
      else
        let u := j.usable - 1
        let s := (s.setJnl { j with writes := 0, worn := j.worn + cdiv (j.writes + 3) (max 1 j.usable), usable := u }).embFlag 5
        if u < 1024 then
          ((s.setJnl { s.jnl with enabled := false, backlog := [], waiting := [] }).embFlag 6).syncCapacity
        else s.syncCapacity

/-- JOURNAL_WRITE: see `State.journalWrite`. -/
def execJournalWrite (n : Nat) (r : BlockWrite) (s : State) : Host.Outcome State Fault Refusal := .next (s.journalWrite n r)

/-- A queue's acknowledgement register as the last checkpoint found it: its reset value after a reset. (DEDUCED, unsafe: log 96) -/
def State.ackSeen (s : State) (q : Nat) : BitVec 32 := sget (fun _ => 0) s.hst.ackSeen q

/-- A queue's acknowledgement register is journalled if it has changed (R286). (DEDUCED, unsafe: log 96) -/
def State.checkpoint (s : State) (q : Nat) : State :=
  let v := s.rd (R.HST_Q_ACK q)
  if s.ackSeen q = v then s
  else ({ s with hst := { s.hst with ackSeen := sput (fun _ => 0) s.hst.ackSeen q v } } : State).journal (.ack q v)

/-- Is a checkpoint of the acknowledgement points due: 1 ms after the one before, once the firmware runs (R286, R290)? -/
def State.checkpointDue (s : State) : Bool := s.passedUs s.hst.ackTick 1000 && !s.inStates [.off, .reset, .boot, .banked]

/-- ACK_CHECKPOINT (R286): every 1 ms, each acknowledgement register that has changed is journalled. (DEDUCED, unsafe: log 96) -/
def execAckCheckpoint (s : State) : Host.Outcome State Fault Refusal :=
  .next (if s.checkpointDue then
      upTo 64 (fun q s => s.checkpoint q) { s with hst := { s.hst with ackTick := s.ticks } }
    else s)

/-- EMB_JNL_STATUS (R289). -/
def Journal.status (j : Journal) : BitVec 32 :=
  BitVec.ofNat 32 ((if j.enabled then 2 ^ 31 else 0) + j.usable % 4096 * 2 ^ 16 + j.spares % 128)

/-- EMB_JNL_WEAR: writes to the most-worn block in units of 65,536; the blocks share the writes (R288). -/
def Journal.wear (j : Journal) : BitVec 32 := BitVec.ofNat 32 ((j.worn + cdiv j.writes (max 1 j.usable)) / 65536)

/-! ### What the journal holds at a reset and in BOOT (R286, R287, R290) -/

/-- The durable items, oldest first. -/
def Journal.log (j : Journal) : List JournalItem := j.items.reverse

/-- The newest durable coefficient set of a kind. -/
def Journal.lastSet (j : Journal) (kind : Nat) : Option (List (Nat × Nat) × List (Nat × Nat)) :=
  j.log.foldl (fun d it => match it with | .temper k a b => if k = kind then some (a, b) else d | _ => d) none

/-- The marks that a reset loses in the write backlog: created there and not gone (R287). -/
def Journal.backlogMarks (j : Journal) : Nat :=
  ((j.backlog ++ j.waiting).foldl (fun l it => match it with
    | .mark id _ => id :: l
    | .markGone id => l.filter fun i => i != id
    | _ => l) ([] : List Nat)).length

/-- A journal as a reset leaves it: what is still in the backlog is lost (R287). (DEDUCED, safe: log 19) -/
def Journal.afterReset (j : Journal) : Journal := { j with backlog := [], waiting := [] }

/-- Temper as a reset leaves it: the coefficient sets that are durable in the journal (R286, R388). -/
def Journal.savedTemper (j : Journal) (t : Temper) : Temper :=
  let hbm := (j.lastSet 0).getD (t.savedRead, t.savedWrite)
  { savedRead := hbm.1, savedWrite := hbm.2, savedTrims := ((j.lastSet 2).getD (t.savedTrims, [])).1 }

/-- The count of retired frames that is durable in the journal (R272). -/
def Journal.lastRetired (j : Journal) : Nat :=
  j.log.foldl (fun d it => match it with | .retired n => max d n | _ => d) 0

end Sys2Proof.Machine
end

