-- ==== Sys2Proof/Machine/Correction.lean ====
section
/-! DEFINITION. The pixel correction pipeline (R111 to R129): stage arithmetic, banks, sets, snapshots, capture. -/
namespace Sys2Proof.Machine

/-! ### Stage arithmetic -/

/-- The largest sample of `b` bits. -/
def sampleMax (b : Nat) : Nat := 2 ^ b - 1

/-- The taps of a spatial kernel (R112): offset and weight; and its shift. -/
def kernelTaps (k : Nat) : List (Int × Int) :=
  if k = 1 then [(-1, 1), (0, 2), (1, 1)] else [(-2, 1), (-1, 4), (0, 6), (1, 4), (2, 1)]
def kernelShift (k : Nat) : Nat := if k = 1 then 2 else 4

/-- An index mirrored at the ends of `n` pixels and clamped (R112). -/
def mirror (n : Nat) (q : Int) : Nat :=
  let q := if q < 0 then -q else q
  let q := if (n : Int) - 1 < q then 2 * ((n : Int) - 1) - q else q
  (clampInt 0 ((n : Int) - 1) q).toNat

/-- Pixel `i` of spatial noise reduction (R112). -/
def spatialPixel (k thresh : Nat) (defective : Nat → Bool) (x : List Nat) (i : Nat) : Nat :=
  let n := x.length
  let own : Int := (x.getD i 0 : Nat)
  let sum := (kernelTaps k).foldl (fun a (jw : Int × Int) =>
    let q := mirror n ((i : Int) + jw.1)
    let v : Int := (x.getD q 0 : Nat)
    a + jw.2 * (if jw.1 ≠ 0 ∧ (defective q || decide (thresh < (v - own).natAbs)) then own else v)) 0
  (sar (sum + 2 ^ (kernelShift k - 1)) (kernelShift k)).toNat

/-- The weight of R113 for a difference. -/
def tnrWeight (kMin lo hi d : Nat) : Nat :=
  if hi ≤ d then 16
  else if d ≤ lo then kMin
  else kMin + (16 - kMin) * (d - lo) / (hi - lo)

/-- Temporal noise reduction of one pixel (R113, R114): the new state and the output. -/
def tnrPixel (b kMin lo hi : Nat) (empty : Bool) (y m : Nat) : Nat × Nat :=
  let u : Int := if b = 12 then (y : Int) * 16 else sar y 2
  let d := ((u - (m : Int)).natAbs) / (if b = 12 then 16 else 1)
  let m' : Int := if empty then u else (m : Int) + sar ((tnrWeight kMin lo hi d : Int) * (u - (m : Int))) 4
  (wrapTo 16 m', if b = 12 then (sar (m' + 8) 4).toNat else (m' * 4).toNat)

/-- Stages 3 and 4 of one pixel (R115): the clamped value, and whether the clamp changed it. -/
def gainPixel (p : CorSet) (b : Nat) (coef : Nat) (y : Nat) : Nat × Bool :=
  let z : Int := if getField p.dark F.COR_CTX_DARK_dark_en = 1 then
      (y : Int) - (signed 18 (getField p.dark F.COR_CTX_DARK_offset_base) +
        signed 5 (coef % 32) * 2 ^ getField p.dark F.COR_CTX_DARK_offset_step)
    else y
  let w : Int := if getField p.gain F.COR_CTX_GAIN_gain_en = 1 then
      sar (z * (coef / 32 : Nat) * 2 ^ getField p.gain F.COR_CTX_GAIN_gain_shift + 512) 10
    else z
  let c := clampInt 0 (sampleMax b) w
  (c.toNat, decide (c ≠ w))

/-- The nearest candidate of R117 on one side, among distances 1 to 4. -/
def nearest (n : Nat) (defective : Nat → Bool) (w : List Nat) (i : Nat) (left : Bool) : Option Nat :=
  ([1, 2, 3, 4].find? fun d => if left then decide (d ≤ i) && !defective (i - d) else decide (i + d < n) && !defective (i + d)).map
    fun d => w.getD (if left then i - d else i + d) 0

/-- The replacement of a defective pixel (R117). -/
def replacePixel (mode repl n : Nat) (defective : Nat → Bool) (w : List Nat) (i : Nat) : Nat :=
  let a := nearest n defective w i true
  let b := nearest n defective w i false
  match mode, a, b with
  | 0, some a, some b => (a + b + 1) / 2
  | 0, some a, none => a
  | 0, none, some b => b
  | 1, some a, _ => a
  | 1, none, some b => b
  | _, _, _ => repl

/-- Linearisation of one pixel through a table (R118). -/
def linPixel (b : Nat) (t : Nat → Nat) (w : Nat) : Nat :=
  if b = 12 then min (t w) 4095
  else
    let i := w / 64
    let f := w % 64
    let x : Int := (t i : Nat)
    let y : Int := (t (min (i + 1) 4095) : Nat)
    (clampInt 0 262143 (x + sar ((y - x) * f + 32) 6)).toNat

/-- What a line's pass through correction gives: the three tap points and the new temporal states of its received pixels,
and the clipped pixels. -/
structure Corrected where
  noise : List Nat
  gain : List Nat
  out : List Nat
  state : List Nat
  clipped : Nat
deriving DecidableEq, Repr

/-- The six stages over the received pixels of a line (R111 to R119). `coef i`, `m` and `t`: coefficient words, states and
the selected table; the stages of fenced banks pass their input (R128). (DEDUCED, unsafe: log 125) -/
def correctLine (p : CorSet) (x : CorCtx) (b : Nat) (coef : Nat → Nat) (m : List Nat) (t : Nat → Nat) (px : List Nat) :
    Corrected :=
  let n := px.length
  let defEn := getField p.dfct F.COR_CTX_DEF_def_en == 1
  let defective (i : Nat) : Bool := defEn && coef i / 32 == 0
  let k := getField p.nr F.COR_CTX_NR_sp_kernel
  let y := if k = 0 then px
    else (List.range n).map (spatialPixel k (getField p.nr F.COR_CTX_NR_sp_thresh) defective px)
  let tnr := p.tnrEn && !x.fence2
  let pairs := (y.zip m).map fun ym => tnrPixel b (getField p.tnr F.COR_CTX_TNR_k_min) (getField p.tnr F.COR_CTX_TNR_motion_lo)
    (getField p.tnr F.COR_CTX_TNR_motion_hi) x.empty ym.1 ym.2
  let y := if tnr then pairs.map Prod.snd else y
  let g := if x.fence35 then y.map fun v => (v, false)
    else (List.range n).map fun i => gainPixel p b (coef i) (y.getD i 0)
  let w := g.map Prod.fst
  let r := if defEn && !x.fence35 then
      (List.range n).map fun i => if defective i then
          replacePixel (getField p.dfct F.COR_CTX_DEF_def_mode) (min (getField p.dfct F.COR_CTX_DEF_repl_value) (sampleMax b)) n
            defective w i
        else w.getD i 0
    else w
  let o := if getField p.lin F.COR_CTX_LIN_lin_en = 1 ∧ x.fence6 = false then r.map (linPixel b t) else r
  ⟨y, w, o, if tnr then pairs.map Prod.fst else m, (g.filter Prod.snd).length⟩

/-! ### Banks, sets and their use (R120, R121, R124) -/

/-- Does a set read the coefficient bank through dark, gain or def? -/
def CorSet.usesCoef (p : CorSet) : Bool :=
  getField p.dark F.COR_CTX_DARK_dark_en == 1 || getField p.gain F.COR_CTX_GAIN_gain_en == 1 ||
    getField p.dfct F.COR_CTX_DEF_def_en == 1

/-- A set's coefficient base. -/
def CorSet.base (p : CorSet) : Nat := getField p.gain F.COR_CTX_GAIN_coef_base

/-- The active sets and the sets of the uncommitted intervals, with their contexts. (DEDUCED, unsafe: log 125) -/
def State.setsInForce (s : State) : List (Nat × CorSet) :=
  (s.cor.ctx.filterMap fun p => p.2.active.map fun a => (p.1, a)) ++
    s.sti.ivals.flatMap fun v => v.cor.map fun q => (q.1, q.2.1)

/-- Is a coefficient entry in use (R121)? -/
def State.coefInUse (s : State) (e : Nat) : Bool :=
  s.setsInForce.any fun q => q.2.usesCoef && decide (q.2.base ≤ e) && decide (e < q.2.base + s.ctxWidth q.1)

/-- Is a lookup table in use (R121)? -/
def State.lutInUse (s : State) (t : Nat) : Bool :=
  s.setsInForce.any fun q => getField q.2.lin F.COR_CTX_LIN_lin_en == 1 && getField q.2.lin F.COR_CTX_LIN_lut_sel == t

/-- The state with a changed correction pipeline. -/
def State.setCor (s : State) (c : Correction) : State := { s with cor := c }

/-- A coefficient entry stored, or refused while in use (R121). -/
def State.storeCoef (s : State) (e : Nat) (v : BitVec 16) : State :=
  if s.coefInUse e then s.corFlag 2 else s.setCor { s.cor with coef := sput (fun _ => 0) s.cor.coef e v }

/-- A coefficient entry. -/
def State.coefAt (s : State) (e : Nat) : BitVec 16 := sget (fun _ => 0) s.cor.coef e

/-- The address register of the store, bit 0 ignored, advanced by 2. -/
def State.storeAddr (s : State) : Nat := s.fld R.COR_STORE_ADDR F.COR_STORE_ADDR_addr / 2 * 2
def State.advanceStore (s : State) : State := s.setFld R.COR_STORE_ADDR F.COR_STORE_ADDR_addr ((s.storeAddr + 2) % 524288)

/-- A write of COR_STORE_DATA (R121): two entries, each judged on its own. -/
def State.writeStoreData (s : State) (v : BitVec 32) : State :=
  let a := s.storeAddr
  ((s.storeCoef a (v.setWidth 16)).storeCoef (a + 1) ((v >>> 16).setWidth 16)).advanceStore

/-- A read of COR_STORE_DATA: the two entries; the address advances. -/
def State.readStoreData (s : State) : BitVec 32 × State :=
  let a := s.storeAddr
  (BitVec.ofNat 32 ((s.coefAt (a + 1)).toNat * 65536 + (s.coefAt a).toNat), s.advanceStore)

/-- COEF_STORE_ACCESS (R121): a BAR0 access to COR_STORE_DATA; `none` reads. -/
def execCoefStoreAccess (v : Option Reg32) (s : State) : Host.Outcome State Fault Refusal :=
  .next (match v with
    | some v => s.hostWrite R.COR_STORE_DATA v fun s => s.writeStoreData v
    | none => s.hostAccess R.COR_STORE_DATA (.read R.COR_STORE_DATA) fun s =>
        let (v, t) := s.readStoreData; t.emit (.readData v))

/-- The address of the lookup tables: 4,096 × table + entry; the entry advances, wrapping within the table. -/
def State.lutAddr (s : State) : Nat := s.fld R.COR_LUT_ADDR F.COR_LUT_ADDR_addr
def State.advanceLut (s : State) : State :=
  s.setFld R.COR_LUT_ADDR F.COR_LUT_ADDR_addr (s.lutAddr / 4096 * 4096 + (s.lutAddr + 1) % 4096)

/-- A write of COR_LUT_DATA (R121). -/
def State.writeLutData (s : State) (v : BitVec 32) : State :=
  (if s.lutInUse (s.lutAddr / 4096) then s.corFlag 2
   else s.setCor { s.cor with lut := sput (fun _ => 0) s.cor.lut s.lutAddr (v.setWidth 18) }).advanceLut

/-- A read of COR_LUT_DATA. -/
def State.readLutData (s : State) : BitVec 32 × State :=
  ((sget (fun _ => (0 : BitVec 18)) s.cor.lut s.lutAddr).setWidth 32, s.advanceLut)

/-- CORRECTION_LUT_ACCESS (R121): a BAR0 access to COR_LUT_DATA; `none` reads. -/
def execCorrectionLutAccess (v : Option Reg32) (s : State) : Host.Outcome State Fault Refusal :=
  .next (match v with
    | some v => s.hostWrite R.COR_LUT_DATA v fun s => s.writeLutData v
    | none => s.hostAccess R.COR_LUT_DATA (.read R.COR_LUT_DATA) fun s =>
        let (v, t) := s.readLutData; t.emit (.readData v))

/-- The shadow set of a context. -/
def State.corShadow (s : State) (c : Nat) : CorSet :=
  ⟨s.rd (R.COR_CTX_NR c), s.rd (R.COR_CTX_TNR c), s.rd (R.COR_CTX_DARK c), s.rd (R.COR_CTX_GAIN c), s.rd (R.COR_CTX_DEF c),
    s.rd (R.COR_CTX_LIN c)⟩

/-- Is a line of a context in the pipeline or in an uncommitted interval (R124)? (DEDUCED, unsafe: log 124) -/
def State.ctxInPipeline (s : State) (c : Nat) : Bool :=
  s.sti.ivals.any (fun v => v.taken.any fun p => p.1 == c) || s.cor.out.any (fun l => l.ctx == c) ||
    s.int.lanes.any fun p => match p.2 with | some o => o.line.ctx == c | none => false

/-- A pending set with nothing of its context in the pipeline becomes active at once (R124); under reference loss it stays pending (R143). (DEDUCED, unsafe: log 124) -/
def State.settleCor (s : State) (c : Nat) : State := if s.ctxInPipeline c || s.refLost then s else s.activateCor c

/-- Does an apply of a context fail its checks (R124)? -/
def State.corRefused (s : State) (c : Nat) : Bool :=
  let p := s.corShadow c
  (p.usesCoef && decide (524288 < p.base + s.ctxWidth c)) || (p.tnrEn && !s.bit (R.COR_CTX_TNR_BASE c) F.COR_CTX_TNR_BASE_region)

/-- A write of COR_CTX_CMD with apply (R124). (DEDUCED, unsafe: log 124) -/
def State.applyCor (s : State) (c : Nat) : State :=
  let p := s.corShadow c
  if s.corRefused c then s.corFlag 1
  else
    let s := s.setCorCtx c { s.corCtx c with pending := some p }
    (s.setFld (R.COR_CTX_STATUS c) F.COR_CTX_STATUS_apply_pending 1).settleCor c

/-- CORRECTION_APPLY: a BAR0 write of COR_CTX_CMD. -/
def execCorrectionApply (c : Fin 64) (v : Reg32) (s : State) : Host.Outcome State Fault Refusal :=
  .next (s.hostWrite (R.COR_CTX_CMD c) v fun s => if v.getLsbD 0 then s.applyCor c else s)

/-- old_busy (COR_CTX_STATUS): an uncommitted interval still uses a previous coefficient region. -/
def State.oldBusy (s : State) (c : Nat) : Bool :=
  s.sti.ivals.any fun v => v.cor.any fun q => q.1 == c && q.2.1.usesCoef && q.2.1.base != (s.corCtx c).set.base

/-! ### The load engine (R121) -/

/-- The state with COR_LOAD_STATUS showing a result. -/
def State.endCoefLoad (s : State) (result : Nat) : State :=
  ((s.setCor { s.cor with load := none }).wr R.COR_LOAD_STATUS (BitVec.ofNat 32 result)).blockDone 2 0 result

/-- A write of COR_LOAD_CMD with go. -/
def State.coefLoadGo (s : State) : State :=
  if s.cor.load.isSome then s
  else
    let n := s.fld R.COR_LOAD_COUNT F.COR_LOAD_COUNT_count
    let a := s.fld R.COR_STORE_ADDR F.COR_STORE_ADDR_addr / 2 * 2
    if n = 0 ∨ n % 4 ≠ 0 ∨ 524288 < n ∨ 524288 < a + n then s.endCoefLoad 2
    else (s.setCor { s.cor with load := some ⟨a, n, s.rd R.COR_LOAD_HANDLE, 0⟩ }).wr R.COR_LOAD_STATUS 0x80000000

/-- COEF_LOAD_GO: a BAR0 write of COR_LOAD_CMD. -/
def execCoefLoadGo (v : Reg32) (s : State) : Host.Outcome State Fault Refusal :=
  .next (s.hostWrite R.COR_LOAD_CMD v fun s => if v.getLsbD 0 then s.coefLoadGo else s)

/-- Words of a load before the first that touches a poisoned unit, of `n`. (DESIGN CHOICE, safe: log 123) -/
def State.cleanWords (s : State) (h : BitVec 32) (n : Nat) : Nat :=
  (firstBit (fun i => (List.range 9).any fun j => s.unitPoisoned (byteKey h (9 * i + j))) 0 n).getD n

/-- The words that a load reads before it ends, whether it ends with FAULT, and the state after the reads; none while Hearth does not grant
them. `failed`: the word whose HBM read failed twice; `ecc`: what the ECC finds besides. -/
def State.loadWords (s : State) (h : BitVec 32) (n : Nat) (failed : Option Nat) (ecc : EccResult) :
    Option (List Word × Bool) × State :=
  match s.buffer h with
  | none => (some ([], true), s.badAccess)
  | some b =>
    let sp := b.spilledOf (framesOf 0 (9 * n))
    if s.hbmBusy then (none, s)
    else if !sp.isEmpty then (none, s.requestPageIns h sp)
    else match (s.setBuffer h (b.touch (framesOf 0 (9 * n)))).blockEcc h 0 (9 * n) ecc with
    | (false, t) => (none, t)
    | (true, s) =>
      let k := min (failed.getD n) (if b.poisoned then s.cleanWords h n else n)
      let bad := b.poisoned || failed.isSome
      let s := (match failed with
        | some i => s.hearthEcc h (9 * i / 65536) .lasting
        | none => s).hearthTraffic 4 (9 * n)
      (some (denseWords k (s.readBuffer h 0 (9 * k)).1, bad), s)

/-- COEF_LOAD_DONE (R121): the words before a failing one are stored entry by entry. -/
def execCoefLoadDone (failed : Option Nat) (s : State) (ecc : EccResult := .clean) : Host.Outcome State Fault Refusal :=
  .next (match s.cor.load with
    | none => s
    | some d =>
      match s.loadWords d.handle (d.count / 4) failed ecc with
      | (none, t) => t
      | (some (ws, bad), t) =>
        let t := ((List.range ws.length).zip ws).foldl (fun t p =>
          upTo 4 (fun j t => t.storeCoef (d.start + 4 * p.1 + j) (BitVec.ofNat 16 (p.2.toNat / 2 ^ (16 * j)))) t) t
        t.endCoefLoad (if bad then 6 else 0))

/-! ### Capture (R122) -/

/-- A capture ends with a result; capture_done. (DEDUCED, unsafe: log 122) -/
def State.endCapture (s : State) (result : Nat) : State :=
  let s := s.setCor { s.cor with capture := none }
  ((s.setFld R.COR_CAP_STATUS F.COR_CAP_STATUS_busy 0).setFld R.COR_CAP_STATUS F.COR_CAP_STATUS_result result).corFlag 4
    |>.blockDone 3 0 result

/-- A write of COR_CAP_CMD: abort, or go while no capture runs; with both set, the abort alone. (DEDUCED, unsafe: log 122; DESIGN CHOICE, unsafe: log 188) -/
def State.writeCapCmd (s : State) (v : BitVec 32) : State :=
  if v.getLsbD 1 then (if s.cor.capture.isSome then s.endCapture 0 else s)
  else if v.getLsbD 0 && s.cor.capture.isNone then
    let k : Capture := { ctx := s.fld R.COR_CAP_CFG F.COR_CAP_CFG_ctx, tap := s.fld R.COR_CAP_CFG F.COR_CAP_CFG_tap,
                         lines := s.fld R.COR_CAP_LINES F.COR_CAP_LINES_lines, handle := s.rd R.COR_CAP_HANDLE }
    (s.setCor { s.cor with capture := some k }).wr R.COR_CAP_STATUS 0x80000000
  else s

/-- CAPTURE_GO: a BAR0 write of COR_CAP_CMD with go. -/
def execCaptureGo (v : Reg32) (s : State) : Host.Outcome State Fault Refusal :=
  .next (s.hostWrite R.COR_CAP_CMD v fun s => if v.getLsbD 0 then s.writeCapCmd v else s)
/-- CAPTURE_ABORT: a BAR0 write of COR_CAP_CMD with abort. -/
def execCaptureAbort (v : Reg32) (s : State) : Host.Outcome State Fault Refusal :=
  .next (s.hostWrite R.COR_CAP_CMD v fun s => if v.getLsbD 1 then s.writeCapCmd v else s)

/-- Sums of two lists, the longer one's tail kept. -/
def addSums : List Nat → List Nat → List Nat
  | a :: as, b :: bs => (a + b) % 2 ^ 36 :: addSums as bs
  | [], bs => bs
  | as, [] => as

/-- A line passes correction while a capture runs (R122). (DEDUCED, unsafe: log 122) -/
def State.captureLine (s : State) (l : Line) (r : Corrected) : State :=
  match s.cor.capture with
  | none => s
  | some k =>
    if k.ctx ≠ l.ctx then s
    else if k.seqs.contains l.seq ∧ l.w0.getLsbD 18 then s.endCapture 6
    else if k.lines ≤ k.seqs.length then s
    else if l.w0.getLsbD 21 ∨ l.w0.getLsbD 20 ∨ l.w0.getLsbD 19 then s
    else
      let v := match k.tap with | 0 => r.noise | 1 => r.gain | _ => r.out
      let s := s.setCor { s.cor with capture := some { k with sums := addSums k.sums v, seqs := l.seq :: k.seqs } }
      s.setFld R.COR_CAP_STATUS F.COR_CAP_STATUS_done_lines (k.seqs.length + 1)

/-- The words of the sums: pixel 2i at [35:0], pixel 2i + 1 at [71:36]. -/
def sumWords : List Nat → List Word
  | a :: b :: l => BitVec.ofNat 72 (a + 2 ^ 36 * b) :: sumWords l
  | [a] => [BitVec.ofNat 72 a]
  | [] => []

/-- CAPTURE_DONE (R122): every line summed; the sums are written to the handle. -/
def execCaptureDone (s : State) : Host.Outcome State Fault Refusal :=
  .next (match s.cor.capture with
    | none => s
    | some k =>
      if k.seqs.length < k.lines then s
      else match s.blockWrite k.handle 0 (packDense (sumWords k.sums)) with
        | (none, t) => t
        | (some ok, t) => t.endCapture (if ok then 0 else 6))

/-! ### A line through correction (R125, R126, R128) -/

/-- The stripes that the segments of a context overlap (R284). -/
def State.ctxStripes (s : State) (c : Nat) : BitVec 16 :=
  let w := s.fld R.STI_STRIPE_CFG F.STI_STRIPE_CFG_stripe_width
  s.sti.segs.foldl (fun m q =>
    let g := q.2
    if w = 0 ∨ getField g.cfg F.STI_SEG_CFG_ctx ≠ c ∨ getField g.cfg F.STI_SEG_CFG_enable = 0 then m
    else upTo 16 (fun n m =>
      if n * w ≤ getField g.last F.STI_SEG_LAST_cd_last ∧ getField g.first F.STI_SEG_FIRST_cd_first < (n + 1) * w then
        m ||| BitVec.ofNat 16 (2 ^ n) else m) m) 0

/-- The stripes of the contexts with a fenced stage, by the segments in force (R284). -/
def State.fencedCtxStripes (s : State) : BitVec 32 :=
  upTo 64 (fun c m => if s.bit (R.COR_CTX_STATUS c) F.COR_CTX_STATUS_fenced then m ||| (s.ctxStripes c).setWidth 32 else m) 0

/-- DEGRADED (R27): from the first lasting fault until the next RESET. (DEDUCED, unsafe: log 127) -/
def State.degrade (s : State) : State := s.setFld R.BLW_STATE F.BLW_STATE_degraded 1

/-- The stages of a context that read a failing bank are fenced (R128, R284). (DEDUCED, unsafe: log 167) -/
def State.fenceCor (s : State) (c bank : Nat) : State :=
  let x := s.corCtx c
  let s := s.setCorCtx c (if bank ≤ 2 then { x with fence2 := true } else if bank = 3 then { x with fence35 := true }
    else { x with fence6 := true })
  let s := s.setFld (R.COR_CTX_STATUS c) F.COR_CTX_STATUS_fenced 1
  let k := if c < 32 then R.EMB_FENCE_CTX_LO else R.EMB_FENCE_CTX_HI
  let s := s.wr k (s.rd k ||| BitVec.ofNat 32 (2 ^ (c % 32)))
  (s.journal (.fence 0 c)).degrade

/-- The state region of a context as stored. -/
def State.tnrBase (s : State) (c : Nat) : Nat := s.fld (R.COR_CTX_TNR_BASE c) F.COR_CTX_TNR_BASE_tnr_base

/-- An entry that its check bits cannot correct reads as an open value and marks the line's interval (R128). (DESIGN CHOICE, safe: log 123) -/
def State.misread (c j : Nat) (s : State) (q : Fin 5 × Fin 524288) : State :=
  let (v, s) := s.fresh
  let e := q.2.val
  let s := s.setCor (if q.1.val ≤ 2 then { s.cor with bank := sput (fun _ => 0) s.cor.bank e (BitVec.ofNat 16 v) }
    else if q.1.val = 3 then { s.cor with coef := sput (fun _ => 0) s.cor.coef e (BitVec.ofNat 16 v) }
    else { s.cor with lut := sput (fun _ => 0) s.cor.lut (e % 65536) (BitVec.ofNat 18 v) })
  s.mapIval j fun iv => { iv with corNow := (c, q.1.val, e) :: iv.corNow, detect := iv.detect ||| 1 }

/-- Did an entry fail in the interval's first attempt too (R128)? -/
def State.failsAgain (s : State) (c j : Nat) (q : Fin 5 × Fin 524288) : Bool :=
  (s.ival j).any fun iv => iv.second && iv.cor1.contains (c, q.1.val, q.2.val)

/-- The banks' entries as they are stored, after a line that misread some (R128): what the line's own update wrote stands. (DESIGN CHOICE, safe: log 123) -/
def State.restoreEntries (t s : State) (o : OnLane) (ecc : CorEcc) : State :=
  let b := t.tnrBase o.line.ctx
  let mine (e : Nat) : Bool := o.set.tnrEn && !(s.corCtx o.line.ctx).fence2 && decide (b ≤ e) &&
    decide (e < b + min o.line.n o.line.px.length)
  t.setCor { t.cor with coef := s.cor.coef, lut := s.cor.lut, bank := ecc.failed.foldl (fun m q =>
    if q.1.val ≤ 2 && !mine q.2.val then sput (fun _ => 0) m q.2.val (sget (fun _ => 0) s.cor.bank q.2.val) else m) t.cor.bank }

/-- The snapshot of a context's state region and empty mark into the bank of a parity (R126). (DEDUCED, unsafe: log 127) -/
def State.snapshot (s : State) (c parity : Nat) : State :=
  let b := s.tnrBase c
  let w := s.ctxWidth c
  let x := s.corCtx c
  let vals := sgets (fun _ => 0) s.cor.bank b w
  if parity % 2 = 0 then
    (s.setCor { s.cor with snapA := sputs (fun _ => 0) s.cor.snapA b vals }).setCorCtx c { x with emptyA := x.empty }
  else
    (s.setCor { s.cor with snapB := sputs (fun _ => 0) s.cor.snapB b vals }).setCorCtx c { x with emptyB := x.empty }

/-- The snapshots that an interval-start line makes. (DEDUCED, unsafe: log 127) -/
def State.startSnapshots (s : State) (o : OnLane) (j : Nat) : State :=
  if o.start && o.set.tnrEn then
    let s := s.snapshot o.line.ctx j
    if o.gap && decide (0 < j) then s.snapshot o.line.ctx (j - 1) else s
  else s

/-- A line passes the six stages. (DESIGN CHOICE, safe: log 123) -/
def State.correct (s : State) (o : OnLane) : State :=
  let l := o.line
  let c := l.ctx
  let p := o.set
  let x := s.corCtx c
  let n := min l.n l.px.length
  let b := s.tnrBase c
  let m := (sgets (fun _ => (0 : BitVec 16)) s.cor.bank b n).map (·.toNat)
  let t (i : Nat) : Nat := (sget (fun _ => (0 : BitVec 18)) s.cor.lut (4096 * getField p.lin F.COR_CTX_LIN_lut_sel + i)).toNat
  let r := correctLine p x l.bits (fun i => (s.coefAt (p.base + i)).toNat) m t (l.px.take n)
  let tnr := p.tnrEn && !x.fence2
  let s := if tnr then
      (s.setCor { s.cor with bank := sputs (fun _ => 0) s.cor.bank b (r.state.map (BitVec.ofNat 16)) }).setCorCtx c
        { x with empty := false, updated := l.interval }
    else s
  let s := s.bumpBy (R.COR_CTX_CLIP c) r.clipped
  let s := if s.fld (R.COR_CTX_CLIP_LIMIT c) F.COR_CTX_CLIP_LIMIT_clip_limit < r.clipped then s.corFlag 3 else s
  let s := s.captureLine l r
  let w0 := if x.fence2 || x.fence35 || x.fence6 then l.w0 ||| BitVec.ofNat 72 (2 ^ 16) else l.w0
  s.setCor { s.cor with out := s.cor.out ++ [{ l with w0 := w0, px := r.out ++ l.px.drop n }] }

/-- LINE_SENT (R102, R111 to R128): a line's last word has left its pixel lane; a held line waits, and while the stitcher
is stalled correction accepts no word. -/
def State.lineSent (s : State) (L : Nat) (ecc : CorEcc) : State :=
  match s.onLane L with
  | none => s
  | some o =>
    if o.held || s.anv.stallFrom.isSome then s
    else
      let j := o.line.interval.getD 0
      let again := ecc.failed.filter (s.failsAgain o.line.ctx j)
      let s := (s.bumpBy R.COR_ECC_CORR ecc.corrected).startSnapshots o j
      let s := ((ecc.failed.foldl (State.misread o.line.ctx j) s).correct o).restoreEntries s o ecc
      let s := again.foldl (fun s q => s.fenceCor o.line.ctx q.1.val) s
      let s := if o.line.reinjected then s.bump R.INT_REINJ_DONE else s
      let left := (sget (fun _ => []) s.int.backlog L).erase (o.line.ctx, o.line.seq)
      let s := s.setInt { s.int with backlog := sput (fun _ => []) s.int.backlog L left }
      ((s.setOnLane L none).takeNext L).syncLane L

/-- LINE_SENT: see `State.lineSent`. (DESIGN CHOICE, safe: log 7) -/
def execLineSent (lane : Fin 16) (ecc : CorEcc) (s : State) : Host.Outcome State Fault Refusal := .next (s.lineSent lane ecc)

/-- Is a held line's wait over: interval j − 2 has committed or been discarded (R126)? -/
def State.releaseHeld (s : State) (L : Nat) : State :=
  match s.onLane L with
  | some o =>
    if o.held && !(s.sti.ivals.any fun v => decide (v.num + 2 ≤ o.line.interval.getD 0)) then
      s.setOnLane L (some { o with held := false })
    else s
  | none => s

/-- SNAPSHOT_WAIT_END (R126). -/
def execSnapshotWaitEnd (lane : Fin 16) (s : State) : Host.Outcome State Fault Refusal := .next (s.releaseHeld lane)

end Sys2Proof.Machine
end

