-- ==== Sys2Proof/Machine/OutStream.lean ====
section
/-! DEFINITION. The output stream units: decimation, starting and stopping, destinations, replay (R236 to R245). -/
namespace Sys2Proof.Machine

/-! ### Sets and arithmetic (R237) -/

/-- The fields of a set. -/
def OstSet.source (p : OstSet) : Nat := getField p.cfg F.OST_CFG_source
def OstSet.cic (p : OstSet) : Bool := getField p.cfg F.OST_CFG_mode == 0
/-- N: the order, 1 in integrate-and-dump. -/
def OstSet.order (p : OstSet) : Nat := if p.cic then 3 + getField p.cfg F.OST_CFG_order else 1
def OstSet.dc (p : OstSet) : Nat := getField p.dec F.OST_DEC_dc
def OstSet.dm (p : OstSet) : Nat := getField p.dec F.OST_DEC_dm
def OstSet.pmd (p : OstSet) : Nat := getField p.phase F.OST_PHASE_p_md
def OstSet.pcd (p : OstSet) : Nat := getField p.phase F.OST_PHASE_p_cd
def OstSet.width' (p : OstSet) : Nat := getField p.width F.OST_WIDTH_cd_width
/-- M: the samples of an output line. -/
def OstSet.samples (p : OstSet) : Nat := cdiv p.width' p.dc
/-- Bits of an output sample. -/
def OstSet.bits (p : OstSet) : Nat := if getField p.cfg F.OST_CFG_out18 = 1 then 18 else 12
def OstSet.startSeq (p : OstSet) : Nat := getField p.startHi F.OST_START_HI_start_hi * 2 ^ 32 + p.startLo.toNat

/-- The convolution of a list of weights with `d` ones. -/
def convOnes (d : Nat) (a : List Nat) : List Nat :=
  (List.range (a.length + d - 1)).map fun j =>
    ((List.range d).map fun i => if i ≤ j then a.getD (j - i) 0 else 0).foldl (· + ·) 0

/-- h of R237: the `n`-fold convolution of `d` ones. -/
def cicKernel (d : Nat) : Nat → List Nat
  | 0 => [1]
  | n + 1 => convOnes d (cicKernel d n)

/-- r of R237. -/
def roundHalf (k : Nat) : Nat := if k = 0 then 0 else 2 ^ (k - 1)

/-- A source line as it reaches a unit: its stitched sequence counted without wrapping, its tag, its samples and the words
that it takes on the way to the unit. -/
structure SrcLine where
  k : Nat
  w0 : Word
  w1 : Word
  w2 : Word
  px : List Nat
  spw : Nat := 6

/-- A source sample; columns outside the line read as its ends. -/
def SrcLine.at (l : SrcLine) (c : Int) : Nat := l.px.getD (clampInt 0 ((l.px.length : Int) - 1) c).toNat 0

/-- a(t, m) of R237. -/
def OstSet.cdSum (p : OstSet) (l : SrcLine) (m : Nat) : Nat :=
  let c : Int := (getField p.crop F.OST_CROP_cd_first + m * p.dc + p.pcd : Nat)
  if p.cic then
    let h := cicKernel p.dc p.order
    ((List.range h.length).map fun j => h.getD j 0 * l.at (c - j)).foldl (· + ·) 0
  else ((List.range p.dc).map fun (i : Nat) => l.at (c + i)).foldl (· + ·) 0

/-- b(t, ·) of R237 with the number of samples that its minimum limited. -/
def OstSet.cdStage (p : OstSet) (l : SrcLine) : List Nat × Nat :=
  let sh := getField p.scale F.OST_SCALE_cd_shift
  let raw := (List.range p.samples).map fun m => (p.cdSum l m + roundHalf sh) / 2 ^ sh
  (raw.map fun v => min v (2 ^ 24 - 1), (raw.filter fun v => decide (2 ^ 24 - 1 < v)).length)

/-- The offsets, counted in lines back from the emitting line, that an output line weighs, with their weights. -/
def OstSet.mdTaps (p : OstSet) : List Nat := if p.cic then cicKernel p.dm p.order else List.replicate p.dm 1

/-- The output samples of R237 from the window's reduced lines (the emitting line first), and how many the minimum
limited. -/
def OstSet.mdStage (p : OstSet) (window : List (List Nat)) : List Nat × Nat :=
  let sh := getField p.scale F.OST_SCALE_md_shift
  let gain := getField p.scale F.OST_SCALE_out_gain
  let top := 2 ^ p.bits - 1
  let raw := (List.range p.samples).map fun m =>
    let c := (p.mdTaps.zip window).foldl (fun a q => a + q.1 * q.2.getD m 0) 0
    ((c + roundHalf sh) / 2 ^ sh * gain + 2 ^ 14) / 2 ^ 15
  (raw.map fun v => min v top, (raw.filter fun v => decide (top < v)).length)

/-! ### Units -/

/-- A unit, and the state with it replaced: OST_STATUS.state follows. -/
def State.ostUnit (s : State) (u : Nat) : OstUnit := sget (fun _ => ({} : OstUnit)) s.ost u
def ostCode : OstState → Nat
  | .idle => 0 | .wait => 1 | .run => 2 | .done => 3
def State.setOst (s : State) (u : Nat) (x : OstUnit) : State :=
  ({ s with ost := sput (fun _ => ({} : OstUnit)) s.ost u x } : State).setFld (R.OST_STATUS u) F.OST_STATUS_state
    (ostCode x.run.state)

/-- OST_FLAGS_u with the sources of R245. -/
def State.ostFlag (s : State) (u b : Nat) : State :=
  let s := s.setFlag (R.OST_FLAGS u) b (R.OST_EVCNT u b)
  match b with
  | 5 => s.raise (400 + u)
  | 4 => s.raise (408 + u)
  | 3 => s.raise (408 + u)
  | 2 => s.raise 416
  | 1 => s.raise 417
  | _ => s

/-- `n` samples saturated (R237). (DEDUCED, unsafe: log 159) -/
def State.ostSat (s : State) (u n : Nat) : State := upTo n (fun _ s => (s.bump (R.OST_SAT u)).ostFlag u 2) s

/-- An output line not emitted or not written (R239, R243). -/
def State.ostDrop (s : State) (u : Nat) : State := (s.bump (R.OST_DROP u)).ostFlag u 3

/-- A unit's shadow set. -/
def State.ostShadow (s : State) (u : Nat) : OstSet :=
  ⟨s.rd (R.OST_CFG u), s.rd (R.OST_CROP u), s.rd (R.OST_WIDTH u), s.rd (R.OST_DEC u), s.rd (R.OST_PHASE u),
    s.rd (R.OST_SCALE u), s.rd (R.OST_START_LO u), s.rd (R.OST_START_HI u), s.rd (R.OST_COUNT u)⟩

/-- The entries of the shared MD state store that a unit takes (R240): M × N while in RUN or WAIT. (DEDUCED, unsafe: log 157) -/
def OstUnit.entries (x : OstUnit) : Nat :=
  match x.run.state, x.active with
  | .run, some p => p.samples * p.order
  | .wait, some p => p.samples * p.order
  | _, _ => 0

/-- The checks of R240 on a set for a unit. -/
def State.ostSetOk (s : State) (u : Nat) (p : OstSet) : Bool :=
  let legal := decide (p.source ≤ 5) && decide (getField p.cfg F.OST_CFG_mode ≤ 1) &&
    (!p.cic || decide (getField p.cfg F.OST_CFG_order ≤ 2)) && decide (1 ≤ p.width') && decide (p.width' ≤ 262144) &&
    decide (1 ≤ p.dc) && decide (p.dc ≤ 64) && decide (1 ≤ p.dm) && decide (p.dm ≤ 64) &&
    decide (1 ≤ getField p.scale F.OST_SCALE_out_gain)
  let img := s.rd (R.ANV_IMG (p.source - 1))
  let channel := decide (p.source = 0) || decide (p.source = 5) ||
    (getField img F.ANV_IMG_enable == 1 && getField img F.ANV_IMG_to_hearth == 0)
  let others := ((List.range 8).filter fun i => i != u).foldl (fun n i => n + (s.ostUnit i).entries) 0
  legal && channel &&
    decide (getField p.crop F.OST_CROP_cd_first + p.width' ≤ s.fld R.STI_LINE_CFG F.STI_LINE_CFG_line_width) &&
    decide (4 + cdiv p.samples (72 / p.bits) ≤ s.fld (R.OST_RING u) F.OST_RING_stride) &&
    decide (others + p.samples * p.order ≤ 16384)

/-- A write of OST_CMD with apply (R240). -/
def State.ostApply (s : State) (u : Nat) : State :=
  let p := s.ostShadow u
  if s.ostSetOk u p then
    (s.setOst u { s.ostUnit u with pending := some p }).setFld (R.OST_STATUS u) F.OST_STATUS_apply_pending 1
  else s.ostFlag u 1

/-- A write of OST_CMD with stop (R241): it takes effect at the next source line boundary. (DEDUCED, unsafe: log 161) -/
def State.ostStop (s : State) (u : Nat) : State :=
  let x := s.ostUnit u
  if x.run.state = .idle then s else s.setOst u { x with stop := true }

/-- A write of OST_CMD. -/
def State.writeOstCmd (s : State) (u : Nat) (v : BitVec 32) : State :=
  let s := if v.getLsbD 1 then s.ostStop u else s
  if v.getLsbD 0 then s.ostApply u else s

/-- STREAM_APPLY (R240): a BAR0 write of OST_CMD with apply. -/
def execStreamApply (u : Fin 8) (v : Reg32) (s : State) : Host.Outcome State Fault Refusal :=
  .next (s.hostWrite (R.OST_CMD u) v fun s => if v.getLsbD 0 then s.writeOstCmd u v else s)

/-- STREAM_STOP (R241): a BAR0 write of OST_CMD with stop. -/
def execStreamStop (u : Fin 8) (v : Reg32) (s : State) : Host.Outcome State Fault Refusal :=
  .next (s.hostWrite (R.OST_CMD u) v fun s => if v.getLsbD 1 then s.writeOstCmd u v else s)

/-- A pending set becomes active at a boundary whose first line is `k` (R240): the unit waits for s0; a stop written before it still takes
effect at the next source line (R241). (DEDUCED, unsafe: log 157) -/
def State.ostActivate (s : State) (u k : Nat) : State :=
  let x := s.ostUnit u
  match x.pending with
  | none => s
  | some p =>
    let at' := getField p.cfg F.OST_CFG_start_at_seq == 1
    let s := s.setOst u { active := some p, run := { state := .wait, outSeq := x.run.outSeq },
                          start := if at' then none else some k, stop := x.stop }
    (s.setFld (R.OST_STATUS u) F.OST_STATUS_apply_pending 0).ostFlag u 0 |>.blockDone 8 u 0

/-- The boundary of a kind of source: the pending sets that name such a source become active (R240). (DEDUCED, unsafe: log 157) -/
def State.ostBoundary (s : State) (cls : Bool) (k : Nat) : State :=
  upTo 8 (fun u s => match (s.ostUnit u).pending with
    | some p => if (p.source == 5) == cls then s.ostActivate u k else s
    | none => s) s

/-- A unit leaves for IDLE; its active set is kept (R241). (DEDUCED, unsafe: log 161) -/
def State.ostIdle (s : State) (u : Nat) : State :=
  let x := s.ostUnit u
  s.setOst u { x with run := { outSeq := x.run.outSeq }, start := none, stop := false, snap := [], work := [] }

/-- Every unit leaves for IDLE: entry to BANKED, FAULT or RESET (R241). (DEDUCED, unsafe: log 161) -/
def State.ostAllIdle (s : State) : State := upTo 8 (fun u s => s.ostIdle u) s

/-! ### Output lines (R242, R243) -/

/-- The byte offset of an output sequence's slot. -/
def State.ostSlot (s : State) (u seq : Nat) : Nat :=
  seq % 2 ^ s.fld (R.OST_RING u) F.OST_RING_ring_log2 * s.fld (R.OST_RING u) F.OST_RING_stride * 9

/-- Is the copy of a slot still to be completed (R243)? -/
def State.ostCopying (s : State) (u seq : Nat) : Bool :=
  s.hst.items.any fun q => q.2.any fun it => it.handle == s.rd (R.OST_HANDLE u) && it.offset == s.ostSlot u seq

/-- A written slot is handed to the host descriptor ring. -/
def State.ostCopy (s : State) (ring : Nat) (it : RecvItem) : State :=
  { s with hst := { s.hst with items := sput (fun _ => []) s.hst.items ring (sget (fun _ => []) s.hst.items ring ++ [it]) } }

/-- An output line is written to its slot, or dropped (R242, R243). -/
def State.ostWrite (s : State) (u : Nat) (p : OstSet) (seq : Nat) (words : List Word) : State :=
  let dma := getField p.cfg F.OST_CFG_host_dma == 1
  if dma && s.ostCopying u seq then s.ostDrop u
  else
    let bytes := packDense words
    let h := s.rd (R.OST_HANDLE u)
    let s := (s.writeBuffer h (s.ostSlot u seq) bytes).hearthTraffic 3 bytes.length
    if dma then s.ostCopy (getField p.cfg F.OST_CFG_dma_ring) ⟨h, s.ostSlot u seq, bytes.length⟩ else s

/-- The OR of the flag bits [21:16] of tags. -/
def tagFlags (l : List Word) : Nat := (l.foldl (fun a w => a ||| w.toNat) 0) / 2 ^ 16 % 64 * 2 ^ 16

/-- The words of output line `n` of a run whose newest reduced line is the emitting one. -/
def OstRun.outLine (x : OstRun) (p : OstSet) (u n : Nat) (samples : List Nat) : List Word :=
  let back := if p.cic then p.order * (p.dm - 1) else p.dm - 1
  let first := x.lines.getLastD (0, [], 0, 0, 0)
  let line (i : Nat) := x.lines.getD i first
  let window := (List.range (back + 1)).map line
  let c := line (if p.cic then cdiv (p.order * (p.dm - 1)) 2 else (p.dm - 1) - (p.dm - 1) / 2)
  let w0 := BitVec.ofNat 72 (c.2.2.1.toNat - tagFlags [c.2.2.1] + tagFlags (window.map fun q => q.2.2.1))
  let settling := p.cic && decide (n * p.dm + p.pmd < back)
  let w3 := BitVec.ofNat 72 (u * 2 ^ 69 + settling.toNat * 2 ^ 68 + x.outSeq % 2 ^ 40 * 2 ^ 24 + p.samples)
  w0 :: c.2.2.2.1 :: c.2.2.2.2 :: w3 :: packPixels p.bits samples

/-- The output line that source line `t` since s0 emits, if any (R242). -/
def OstSet.emits (p : OstSet) (t : Nat) : Option Nat :=
  let top := if p.cic then p.pmd else p.pmd + p.dm - 1
  if top ≤ t ∧ (t - top) % p.dm = 0 then some ((t - top) / p.dm) else none

/-- The number of reduced lines that a unit keeps. -/
def OstSet.keep (p : OstSet) : Nat := if p.cic then p.order * (p.dm - 1) + 1 else p.dm

/-- The emitting line of output line `n` has arrived (R239, R242): the line is formed and written unless its block holds a
skipped line; the output sequence advances; DONE after the out_count-th. (DEDUCED, unsafe: log 159) -/
def State.ostEmit (s : State) (u : Nat) (p : OstSet) (n : Nat) : State :=
  let x := s.ostUnit u
  let r := x.run
  let s := if r.skipped.contains n then s.ostDrop u
    else
      let back := r.lines.length
      let first := r.lines.getLastD (0, [], 0, 0, 0)
      let window := (List.range p.mdTaps.length).map fun i => (if i < back then r.lines.getD i first else first).2.1
      let (out, sat) := p.mdStage window
      (s.ostWrite u p r.outSeq (r.outLine p u n out)).ostSat u sat
  let x := s.ostUnit u
  let r := { x.run with outSeq := (x.run.outSeq + 1) % 2 ^ 40, n := x.run.n + 1,
                        skipped := x.run.skipped.filter fun b => b != n }
  let done := decide (p.count.toNat ≠ 0) && decide (r.n = p.count.toNat)
  let s := s.setOst u { x with run := { r with state := if done then .done else r.state } }
  if done then s.ostFlag u 5 else s

/-! ### Source lines (R239, R241, R244) -/

/-- A source line is skipped where two earlier lines still wait in integrate-and-dump (R239). -/
def OstUnit.skips (x : OstUnit) (p : OstSet) (cycle : Nat) : Bool :=
  !p.cic && decide (2 ≤ (x.work.filter fun w => decide (cycle < w.1)).length)

/-- An accepted line's time in the integrate-and-dump stage: 8 words per CLK_PIX cycle. (DESIGN CHOICE, unsafe: log 158) -/
def OstUnit.accept (x : OstUnit) (p : OstSet) (cycle spw : Nat) : OstUnit :=
  if p.cic then x
  else
    let free := x.work.foldl (fun a w => max a w.2) cycle
    { x with work := (x.work.filter fun w => decide (cycle < w.2)) ++ [(free, free + cdiv (cdiv p.width' spw) 8)] }

/-- A line reaches a unit in RUN; in integrate-and-dump the lines before s0 + p_md are ignored (R239). (DESIGN CHOICE, unsafe: log 158) -/
def State.ostTake (s : State) (u : Nat) (p : OstSet) (l : SrcLine) (cycle : Nat) : State :=
  let x := s.ostUnit u
  let r := x.run
  let t := r.t
  if p.cic = false ∧ t < p.pmd then s.setOst u { x with run := { r with t := t + 1 } }
  else if x.skips p cycle then
    let s := (s.setOst u { x with run := { r with t := t + 1, skipped := (t - p.pmd) / p.dm :: r.skipped } }).ostFlag u 4
    match p.emits t with
    | some n => s.ostEmit u p n
    | none => s
  else
    let (b, sat) := p.cdStage l
    let x := x.accept p cycle l.spw
    let s := s.setOst u { x with run := { r with t := t + 1, lines := ((l.k, b, l.w0, l.w1, l.w2) :: r.lines).take p.keep } }
    let s := s.ostSat u sat
    match p.emits t with
    | some n => s.ostEmit u p n
    | none => s

/-- The Hearth traffic of a snapshot's write or read (R244, R275). -/
def State.ostSnapTraffic (s : State) (u : Nat) : State := s.hearthTraffic 3 (9 * (s.ostUnit u).entries)

/-- The snapshot of a unit's MD state entries into its half of the snapshot buffer (R244): what an entry holds is internal,
so the words are open values. (DESIGN CHOICE, safe: log 160) -/
def State.ostSnapWords (s : State) (u parity : Nat) : State :=
  let s := s.ostSnapTraffic u
  let before := (List.range u).foldl (fun n i => n + (s.ostUnit i).entries) 0
  upTo (s.ostUnit u).entries (fun i s =>
    let (v, s) := s.fresh
    s.writeBuffer (s.rd R.OST_SNAP_HANDLE) (9 * (parity % 2 * 16384 + before + i)) (toBytes 9 v)) s

/-- The save of a unit's state as the first line of interval `j` finds it (R244). (DESIGN CHOICE, safe: log 160) -/
def State.ostSave (s : State) (u j : Nat) : State :=
  let s := if (s.ostUnit u).run.state = .run then s.ostSnapWords u j else s
  let x := s.ostUnit u
  s.setOst u { x with snap := (j % 2, j, x.run) :: x.snap.filter fun q => q.1 != j % 2 }

/-- The first line of interval `j` of a pre-commit source reaches a unit (R244): the unit's state is restored when the
interval is replayed, and saved otherwise. (DEDUCED, unsafe: log 157) -/
def State.ostInterval (s : State) (u j : Nat) (replayed : Bool) : State :=
  let x := s.ostUnit u
  match x.snap.lookup (j % 2) with
  | some (i, r) =>
    if replayed && i == j then
      let s := s.setOst u { x with run := r, work := [] }
      if r.state = .run then s.ostSnapTraffic u else s
    else s.ostSave u j
  | none => s.ostSave u j

/-- A source line reaches a unit that reads its source (R236, R240, R241, R244). (DESIGN CHOICE, unsafe: log 158) -/
def State.ostLine (s : State) (u : Nat) (p : OstSet) (l : SrcLine) (cycle : Nat) : State :=
  if (s.ostUnit u).stop then s.ostIdle u
  else
    let s := if l.k % 16 = 0 ∧ p.source ≠ 5 then s.ostInterval u (l.k / 16) (l.w0.getLsbD 18) else s
    let x := s.ostUnit u
    let begins := x.run.state == .wait &&
      (match x.start with | some k => decide (k ≤ l.k) | none => decide (l.k % 2 ^ 40 = p.startSeq))
    let s := if begins then s.setOst u { x with run := { state := .run, s0 := l.k, outSeq := x.run.outSeq } } else s
    if (s.ostUnit u).run.state = .run then s.ostTake u p l cycle else s

/-- A line of a source reaches the units: in ARMED, RUN and HOLD (R241). (DESIGN CHOICE, unsafe: log 158) -/
def State.ostSource (s : State) (source : Nat) (l : SrcLine) (cycle : Nat) : State :=
  if s.inStates [.armed, .run, .hold] then
    upTo 8 (fun u s => match (s.ostUnit u).active with
      | some p => if p.source = source ∧ (s.ostUnit u).run.state ≠ .idle then s.ostLine u p l cycle else s
      | none => s) s
  else s

end Sys2Proof.Machine
end

