-- ==== Sys2Proof/Machine/StitchMap.lean ====
section
/-! DEFINITION. The stitch map: placement of a camera in CD, levels, seams and the overlap correlation (R130 to R138, R147),
as arithmetic over lines. -/
namespace Sys2Proof.Machine

/-- The first and last column of a segment; its context; whether it is enabled. -/
def SegSet.lo (g : SegSet) : Nat := getField g.first F.STI_SEG_FIRST_cd_first
def SegSet.hi (g : SegSet) : Nat := getField g.last F.STI_SEG_LAST_cd_last
def SegSet.ctx (g : SegSet) : Nat := getField g.cfg F.STI_SEG_CFG_ctx
def SegSet.on (g : SegSet) : Bool := getField g.cfg F.STI_SEG_CFG_enable == 1

/-- The enabled segments of a set, in index order. -/
def enabledSegs (m : List (Nat × SegSet)) : List (Nat × SegSet) := m.filter fun p => p.2.on

/-- Knot `k` of a segment. -/
def SegSet.knot (g : SegSet) (k : Nat) : Int := signed 16 (sget (fun _ => (0 : BitVec 16)) g.knots k).toNat

/-- The camera coordinate of a column in 1/64 camera px (R132). -/
def SegSet.coord (g : SegSet) (shift : Int) (x : Nat) : Int :=
  let dx := x - g.lo
  let ks := getField g.cfg F.STI_SEG_CFG_knot_shift
  let k := dx / 2 ^ ks
  let r := dx % 2 ^ ks
  let kk := if 64 ≤ k then g.knot 64 else g.knot k + sar ((g.knot (min (k + 1) 64) - g.knot k) * r) ks
  let u := signed 24 (getField g.u0 F.STI_SEG_U0_u0) * 1024 +
    sar (((dx : Int) * 64 + shift) * (getField g.step F.STI_SEG_STEP_step : Nat)) 6 + kk * 1024
  sar (u + 512) 10

/-- Two samples interpolated with weight `f` of 64; the second is not read at weight 0. -/
def lerp64 (a b : Option Nat) (f : Nat) : Option Nat :=
  if f = 0 then a
  else match a, b with
    | some a, some b => some (((64 - f) * a + f * b + 32) / 64)
    | _, _ => none

/-- A camera pixel of a line (R134): none outside the line and in its padding. -/
def Line.pixel (l : Line) (i : Nat) : Option Nat := if i < l.n then l.px[i]? else none

/-- The aligned camera line of a serving line or pair (R138). -/
def alignedPixel (a : Line) (b : Option Line) (f i : Nat) : Option Nat :=
  match b with
  | some b => lerp64 (a.pixel i) (b.pixel i) f
  | none => a.pixel i

/-- The largest stitched sample. -/
def stitchMax (b18 : Bool) : Nat := if b18 then 262143 else 4095

/-- Conversion to the stitched sample size and level matching (R133). -/
def matchLevel (g : SegSet) (b18 : Bool) (lineBits v : Nat) : Nat :=
  let v := if lineBits = 12 then (if b18 then v * 64 else v) else if b18 then v else min ((v + 32) / 64) 4095
  let gain := getField g.level F.STI_SEG_LEVEL_seg_gain
  let off := signed 16 (getField g.level F.STI_SEG_LEVEL_seg_offset)
  (clampInt 0 (stitchMax b18) (((v * gain + 2048) / 4096 : Nat) + off)).toNat

/-- A segment's stitched sample at a column (R132 to R134); none where it is invalid. -/
def segSample (g : SegSet) (shift : Int) (b18 : Bool) (a : Line) (b : Option Line) (f x : Nat) : Option Nat :=
  let u := g.coord shift x
  let i := sar u 6
  if i < 0 then none
  else
    (lerp64 (alignedPixel a b f i.toNat) (alignedPixel a b f (i.toNat + 1)) (u % 64).toNat).map (matchLevel g b18 a.bits)

/-- The weight of the next segment in an overlap (R135). -/
def rampWeight (g : SegSet) (x : Nat) : Nat :=
  let st := getField g.ramp F.STI_SEG_RAMP_ramp_start
  let len := getField g.ramp F.STI_SEG_RAMP_ramp_len
  if x < st then 0
  else if len = 0 ∨ st + len ≤ x then 64
  else ((x - st) * 64 + 32) / len

/-- The samples of two segments at a column of their overlap, blended (R135); none: excluded. -/
def blend (g : SegSet) (x : Nat) (a b : Option Nat) : Option Nat :=
  match a, b with
  | some a, some b => some (((64 - rampWeight g x) * a + rampWeight g x * b + 32) / 64)
  | some a, none => some a
  | none, b => b

/-- A stitched column from the segments that cover it, given with their samples (R130, R135). -/
def stitchColumn (x : Nat) : List (SegSet × Option Nat) → Option Nat
  | [] => none
  | [p] => p.2
  | p :: q :: _ => blend p.1 x p.2 q.2

/-! ### Overlap correlation (R147) -/

/-- |a − b|. -/
def absDiff (a b : Nat) : Nat := ((a : Int) - b).natAbs

/-- One stitched line's contribution to a seam's sums; none where a sample of the window ± search is invalid. `a`, `b`:
the matched samples of the seam's segments at a column. -/
def seamLine (lo hi search : Nat) (a b : Nat → Option Nat) : Option (List Nat × Nat × Nat) :=
  let cols := (List.range (hi + 1 - (lo + 2 * search))).map fun i => lo + search + i
  let whole := (List.range (hi + 1 - lo)).map fun i => lo + i
  if whole.isEmpty || whole.any fun x => (a x).isNone || (b x).isNone then none
  else
    let av (x : Nat) : Nat := (a x).getD 0
    let bv (x : Nat) : Nat := (b x).getD 0
    some ((List.range (2 * search + 1)).map fun d =>
        (cols.map fun x => absDiff (av x) (bv (x + d - search))).foldl (· + ·) 0,
      (cols.map av).foldl (· + ·) 0, (cols.map bv).foldl (· + ·) 0)

/-- A seam's sums with one more line. -/
def SeamSum.add (m : SeamSum) (r : List Nat × Nat × Nat) : SeamSum :=
  ⟨if m.sad.isEmpty then r.1 else List.zipWith (· + ·) m.sad r.1, m.sumA + r.2.1, m.sumB + r.2.2, m.lines + 1⟩

/-- The displacement with the least SAD: the smaller |d| and then the negative d on ties. (DEDUCED, safe: log 132) -/
def bestShift (search : Nat) (sad : List Nat) : Int :=
  let order : List Int := (List.range (search + 1)).flatMap fun (n : Nat) => [-Int.ofNat n, Int.ofNat n]
  order.foldl (fun (best d : Int) =>
    if sad.getD (d + search).toNat 0 < sad.getD (best + search).toNat 0 then d else best) 0

/-- The measured shift in 1/64 stitched px and whether it is valid (R147). `cols`: the window's width. None where R147
states no shift: no neighbour of d* in the search range, or den = 0. (DEDUCED, safe: log 132) -/
def SeamSum.measure (m : SeamSum) (search conf cols : Nat) : Option Int × Bool :=
  let d := bestShift search m.sad
  let sad (e : Int) : Int := (m.sad.getD (e + search).toNat 0 : Nat)
  let den := sad (d - 1) - 2 * sad d + sad (d + 1)
  let inner := decide (d.natAbs < search)
  let top : Nat := m.sad.foldl max 0
  (if inner ∧ 0 < den then some (64 * d + clampInt (-32) 32 ((64 * (sad (d - 1) - sad (d + 1)) + den) / (2 * den))) else none,
    decide (8 ≤ cols) && decide (0 < m.lines) && inner && decide (0 < den) && decide (16 * sad d ≤ (conf * top : Nat)))

/-- The floor of the mean of a sum over the window and the lines that qualified; none without them. (DEDUCED, safe: log 132) -/
def SeamSum.mean (m : SeamSum) (cols sum : Nat) : Option Nat := if cols * m.lines = 0 then none else some (sum / (cols * m.lines))

end Sys2Proof.Machine
end

