-- ==== Sys2Proof/Machine/Stitcher.lean ====
section
/-! DEFINITION. The stitcher: parameter sets, commit intervals, MD alignment, forming of stitched lines (R130 to R152). -/
namespace Sys2Proof.Machine

/-- The state with a changed stitcher. -/
def State.setSti (s : State) (x : Stitcher) : State := { s with sti := x }

/-- STI_FLAGS with sources 320 to 326 (R152). -/
def State.stiFlag (s : State) (b : Nat) : State := s.flagRaise R.STI_FLAGS b (R.STI_EVCNT b) (320 + b)

/-- The reference segment, the sample size and the line width that the recipe fixes (R131). -/
def State.refSeg (s : State) : Nat := s.fld R.STI_LINE_CFG F.STI_LINE_CFG_ref_seg
def State.bits18 (s : State) : Bool := s.bit R.STI_LINE_CFG F.STI_LINE_CFG_bits18
def State.lineWidth (s : State) : Nat := s.fld R.STI_LINE_CFG F.STI_LINE_CFG_line_width
def State.stripeWidth (s : State) : Nat := s.fld R.STI_STRIPE_CFG F.STI_STRIPE_CFG_stripe_width
def State.stripes (s : State) : Nat := s.fld R.STI_STRIPE_CFG F.STI_STRIPE_CFG_stripes

/-- A setting of Bloom in force (R218). (DEDUCED, unsafe: log 151) -/
def State.blmCfg (s : State) (k : Nat) (f : Field) : Nat := getField (sget regReset s.blm.cfg k) f

/-! ### Parameter sets (R151) -/

/-- The shadow set. -/
def State.stiShadow (s : State) : List (Nat × SegSet) :=
  (List.range 16).map fun i =>
    (i, ⟨s.rd (R.STI_SEG_CFG i), s.rd (R.STI_SEG_FIRST i), s.rd (R.STI_SEG_LAST i), s.rd (R.STI_SEG_U0 i),
      s.rd (R.STI_SEG_STEP i), s.rd (R.STI_SEG_MD i), s.rd (R.STI_SEG_LEVEL i), s.rd (R.STI_SEG_RAMP i),
      (s.sti.knots.filter fun q => decide (q.1 / 65 = i)).map fun q => (q.1 % 65, q.2)⟩)

/-- The order of R130 over the enabled segments. -/
def mapOrdered : List (Nat × SegSet) → Bool
  | a :: b :: c :: l => decide (a.2.lo < b.2.lo) && decide (a.2.hi < b.2.hi) && decide (a.2.hi < c.2.lo) && mapOrdered (b :: c :: l)
  | [a, b] => decide (a.2.lo < b.2.lo) && decide (a.2.hi < b.2.hi)
  | _ => true

/-- Every ramp of a seam with shared columns lies inside its overlap (R151). -/
def rampsInside : List (Nat × SegSet) → Bool
  | a :: b :: l =>
    let st := getField a.2.ramp F.STI_SEG_RAMP_ramp_start
    let len := getField a.2.ramp F.STI_SEG_RAMP_ramp_len
    (decide (a.2.hi < b.2.lo) || (decide (b.2.lo ≤ st) && decide (st + len ≤ a.2.hi + 1))) && rampsInside (b :: l)
  | _ => true

/-- The reference context of a set. -/
def refCtx (ref : Nat) (m : List (Nat × SegSet)) : Option Nat :=
  ((enabledSegs m).lookup ref).map fun g => g.ctx

/-- The registers of a segment hold no reserved encoding. -/
def SegSet.legal (i : Nat) (g : SegSet) : Bool :=
  legalReg (R.STI_SEG_CFG i) g.cfg && legalReg (R.STI_SEG_STEP i) g.step && legalReg (R.STI_SEG_RAMP i) g.ramp

/-- The checks of R151. -/
def State.stiSetOk (s : State) (m : List (Nat × SegSet)) : Bool :=
  let on := enabledSegs m
  let ctxs := on.map fun p => p.2.ctx
  mapOrdered on && rampsInside on && ctxs.all s.ctxOn && decide (ctxs.eraseDups.length = ctxs.length) &&
    m.all (fun p => decide (p.2.hi < s.lineWidth)) && on.all (fun p => decide (p.2.lo ≤ p.2.hi)) &&
    (refCtx s.refSeg m).isSome && (s.sti.segs.isEmpty || refCtx s.refSeg m == refCtx s.refSeg s.sti.segs) &&
    m.all fun p => p.2.legal p.1

/-- A write of STI_CMD with apply. -/
def State.stiApply (s : State) : State :=
  if s.stiSetOk s.stiShadow then
    (s.setSti { s.sti with pending := some s.stiShadow }).setFld R.STI_STATUS F.STI_STATUS_apply_pending 1
  else s.stiFlag 1

/-- STITCH_APPLY (R151): a BAR0 write of STI_CMD. -/
def execStitchApply (v : Reg32) (s : State) : Host.Outcome State Fault Refusal :=
  .next (s.hostWrite R.STI_CMD v fun s => if v.getLsbD 0 then s.stiApply else s)

/-- The key of the addressed shadow knot, and its advance from 64 to 0. -/
def State.knotKey (s : State) : Nat :=
  65 * s.fld R.STI_KNOT_ADDR F.STI_KNOT_ADDR_segment + s.fld R.STI_KNOT_ADDR F.STI_KNOT_ADDR_knot
def State.advanceKnot (s : State) : State :=
  let k := s.fld R.STI_KNOT_ADDR F.STI_KNOT_ADDR_knot
  s.setFld R.STI_KNOT_ADDR F.STI_KNOT_ADDR_knot (if 64 ≤ k then 0 else k + 1)

/-- A write and a read of STI_KNOT_DATA. -/
def State.writeKnot (s : State) (v : BitVec 32) : State :=
  (s.setSti { s.sti with knots := sput (fun _ => 0) s.sti.knots s.knotKey (v.setWidth 16) }).advanceKnot
def State.readKnot (s : State) : BitVec 32 × State :=
  ((sget (fun _ => (0 : BitVec 16)) s.sti.knots s.knotKey).setWidth 32, s.advanceKnot)

/-- KNOT_ACCESS (R151): a BAR0 access to STI_KNOT_DATA; `none` reads. -/
def execKnotAccess (v : Option Reg32) (s : State) : Host.Outcome State Fault Refusal :=
  .next (match v with
    | some v => s.hostWrite R.STI_KNOT_DATA v fun s => s.writeKnot v
    | none => s.hostAccess R.STI_KNOT_DATA (.read R.STI_KNOT_DATA) fun s =>
        let (v, t) := s.readKnot; t.emit (.readData v))

/-! ### Shifts (R148, R149) -/

/-- A segment's applied shift. -/
def State.shift (s : State) (i : Nat) : Int := sget (fun _ => (0 : Int)) s.sti.shifts i
def State.setShift (s : State) (i : Nat) (v : Int) : State :=
  (s.setSti { s.sti with shifts := sput (fun _ => (0 : Int)) s.sti.shifts i v }).setFld (R.STI_SEG_SHIFT i) F.STI_SEG_SHIFT_shift
    (wrapTo 16 v)

/-- Does a new set change what R149 names of a segment? -/
def SegSet.moved (a b : SegSet) : Bool :=
  a.u0 != b.u0 || a.step != b.step || a.first != b.first || a.knots != b.knots

/-- The segment after a seam's lower one among the enabled. -/
def nextSeg (m : List (Nat × SegSet)) (i : Nat) : Option Nat := ((enabledSegs m).find? fun p => decide (i < p.1)).map Prod.fst

/-- A pending set becomes active (R149, R151). (DEDUCED, unsafe: log 133) -/
def State.stiActivate (s : State) : State :=
  match s.sti.pending with
  | none => s
  | some m =>
    let changed := (m.filter fun p => match s.sti.segs.lookup p.1 with
      | some g => g.moved p.2
      | none => false).map Prod.fst
    let old := s.sti.segs
    let keep := s.sti.shiftNext.filter fun q =>
      !(changed.contains q.1 || (match nextSeg old q.1 with | some t => changed.contains t | none => false))
    let s := s.setSti { s.sti with segs := m, pending := none, shiftNext := keep }
    let s := changed.foldl (fun s i => s.setShift i 0) s
    (s.setFld R.STI_STATUS F.STI_STATUS_apply_pending 0).stiFlag 0 |>.blockDone 5 0 0

/-- The correlation updates that wait for the next interval take effect. (DEDUCED, unsafe: log 133) -/
def State.takeShifts (s : State) : State :=
  (s.sti.shiftNext.foldl (fun s q => s.setShift q.2.1 q.2.2) s).setSti
    { (s.sti.shiftNext.foldl (fun s q => s.setShift q.2.1 q.2.2) s).sti with shiftNext := [] }

/-! ### Opening an interval (R144) -/

/-- ANV_FLAGS with sources 352 to 357 (R173). -/
def State.anvFlag (s : State) (b : Nat) : State := s.flagRaise R.ANV_FLAGS b (R.ANV_EVCNT b) (352 + b)

/-- The state with a changed Anvil array. -/
def State.setAnv (s : State) (x : Anvil) : State := { s with anv := x }

/-- Anvil's pending kernel set becomes active (R166). (DEDUCED, unsafe: log 133) -/
def State.anvActivate (s : State) : State :=
  match s.anv.pending with
  | none => s
  | some p =>
    let s := s.setAnv { s.anv with active := some p, pending := none }
    let s := s.setFld R.ANV_STATUS F.ANV_STATUS_apply_pending 0
    (s.setFld R.ANV_STATUS F.ANV_STATUS_active_entry p.entry).anvFlag 0 |>.blockDone 7 0 0

/-- A waiting retraining may start at this boundary, or is deferred while replay reads are outstanding (R18, R382). (DEDUCED, unsafe: log 104) -/
def State.hbmBoundary (s : State) : State :=
  if s.tmp.hbmDue.isSome then
    if s.fed.running then s.bump R.TMP_HBM_DEFER else { s with tmp := { s.tmp with boundary := true } }
  else s

/-- Interval `j` opens: pending sets and waiting shifts take effect, of a context without a line
in the pipeline its correction set too (R143), the registers without shadow are taken, and the interval's record begins (R144, R146, R151, R166, R167, R240). (DEDUCED, unsafe: log 133) -/
def State.openInterval (s : State) (j : Nat) : State :=
  let s := s.stiActivate.takeShifts
  let s := s.setSti { s.sti with timing := s.rd R.STI_TIMING, gap := s.rd R.STI_GAP, corr := s.rd R.STI_CORR_CFG }
  let s := (s.anvActivate.ostBoundary false (16 * j)).hbmBoundary
  let s := upTo 64 (fun c s => s.settleCor c) s
  let v : Ival := { num := j, segs := s.sti.segs, timing := s.sti.timing, gap := s.sti.gap, corr := s.sti.corr,
                    shifts := s.sti.shifts, kset := s.anv.active.getD {} }
  s.setSti { s.sti with ivals := s.sti.ivals ++ [v], newest := j }

/-! ### The alignment store (R140) -/

/-- A segment's lines in arrival order, and the state with them replaced. -/
def State.segStore (s : State) (i : Nat) : List Line := sget (fun _ => []) s.sti.store i
def State.setSegStore (s : State) (i : Nat) (l : List Line) : State :=
  s.setSti { s.sti with store := sput (fun _ => []) s.sti.store i l }

/-- The store words of a line. -/
def Line.storeWords (l : Line) : Nat := cdiv l.px.length (72 / l.bits)

/-- STI_STORE_USED and its high-water mark follow the store. -/
def State.syncStore (s : State) : State :=
  let n := (s.sti.store.map fun p => (p.2.map Line.storeWords).foldl (· + ·) 0).foldl (· + ·) 0
  (s.setFld R.STI_STORE_USED F.STI_STORE_USED_used n).highWater R.STI_STORE_HW F.STI_STORE_HW_high_water n

/-- The A of a decision. -/
def Serve.first : Serve → Option Nat
  | .single a => some a
  | .pair a _ _ => some a
  | .blank => none

/-- Does a replayed line lie before the cursor that the committed intervals left (R137, R146): in the order of arrival, which the
intervals' records keep? (DEDUCED, unsafe: log 189) -/
def State.passedCursor (s : State) (i c q : Nat) : Bool :=
  match s.sti.cursor.lookup i with
  | some a =>
    let order := (s.sti.ivals.flatMap fun v => v.taken).filterMap fun p => if p.1 = c then some p.2 else none
    order.contains a && q != a && !(order.takeWhile fun x => x != q).contains a
  | none => false

/-- The cursor of each segment after an interval's lines (R137). (DEDUCED, unsafe: log 189) -/
def State.keepCursor (s : State) (v : Ival) (ref : Nat) : State :=
  let of (f : Founded) : List (Nat × Nat) :=
    (ref, f.ref) :: f.serves.filterMap fun q => if q.1 = ref then none else q.2.first.map fun a => (q.1, a)
  s.setSti { s.sti with cursor := (v.founded.flatMap of).foldl (fun m q => q :: m.filter fun p => p.1 != q.1) s.sti.cursor }

/-- Does a decision use a line? (DEDUCED, unsafe: log 131) -/
def Serve.uses : Serve → Nat → Bool
  | .single a, q => a == q
  | .pair a b _, q => a == q || b == q
  | .blank, _ => false

/-- The decisions on a segment that rest on an overwritten line are taken back. (DEDUCED, unsafe: log 131) -/
def Founded.unserve (f : Founded) (i q : Nat) : Founded :=
  { f with serves := f.serves.filter fun p => !(p.1 == i && p.2.uses q) }

/-- A line arrives in its segment's slots; with all of them taken it overwrites the oldest (R140). (DEDUCED, unsafe: log 131) -/
def State.storeLine (s : State) (i : Nat) (l : Line) : State :=
  let ls := s.segStore i
  let n := s.fld (R.STI_SEG_SLOTS i) F.STI_SEG_SLOTS_slots
  if ls.length < n then (s.setSegStore i (ls ++ [l])).syncStore
  else match ls with
    | [] => s.stiFlag 5
    | o :: rest =>
      let s := (s.setSegStore i (rest ++ [l])).stiFlag 5
      (s.setSti { s.sti with ivals := s.sti.ivals.map fun v =>
        { v with founded := v.founded.map fun f => if f.k = s.sti.nextForm then f.unserve i o.seq else f } }).syncStore

/-- Lines of a segment before its A are released (R137). (DEDUCED, unsafe: log 131) -/
def State.releaseBefore (s : State) (i a : Nat) : State :=
  (s.setSegStore i ((s.segStore i).dropWhile fun l => l.seq != a)).syncStore

/-! ### The search (R136 to R139, R145) -/

/-- The position of a line. (DEDUCED, unsafe: log 128) -/
def Line.at (l : Line) : Int := signed 72 l.w1.toNat

/-- The first line or pair that serves a target (R137), with the lines. (DEDUCED, unsafe: log 128) -/
def findPair (t : Int) : List Line → Option (Line × Option Line × Nat)
  | [] => none
  | [a] => if a.at = t then some (a, none, 0) else none
  | a :: b :: l =>
    if a.at = t then some (a, none, 0)
    else if (a.at < t ∧ t < b.at) ∨ (b.at < t ∧ t < a.at) then
      some (a, some b, (t - a.at).natAbs * 64 / (b.at - a.at).natAbs)
    else findPair t (b :: l)

/-- A line taken into an interval before that of stitched line `k` (R145). (DEDUCED, unsafe: log 128; DEDUCED, unsafe: log 130) -/
def Line.early (l : Line) (k : Nat) : Bool := decide (l.interval.getD 0 < k / 16)

/-- A founded line with a decision recorded. -/
def Founded.serve (f : Founded) (i : Nat) (d : Serve) : Founded := { f with serves := f.serves ++ [(i, d)] }

/-- The founded line `k` of its interval. -/
def State.founded (s : State) (k : Nat) : Option Founded :=
  (s.ival (k / 16)).bind fun v => v.founded.find? fun f => f.k == k

/-- The state with the record of stitched line `k` changed. -/
def State.mapFounded (s : State) (k : Nat) (g : Founded → Founded) : State :=
  s.mapIval (k / 16) fun v => { v with founded := v.founded.map fun f => if f.k = k then g f else f }

/-- A segment is blanked for a stitched line (R139). -/
def State.blankSeg (s : State) (k i : Nat) : State :=
  ((s.mapFounded k fun f => f.serve i .blank).bump (R.STI_SEG_BLANK i)).stiFlag 2

/-- Early lines are counted (R145). (DEDUCED, unsafe: log 130) -/
def State.earlySeg (s : State) (i n : Nat) : State := upTo n (fun _ s => (s.bump (R.STI_SEG_EARLY i)).stiFlag 3) s

/-- The line of a segment's store with a sequence. -/
def State.storedLine (s : State) (i q : Nat) : Option Line := (s.segStore i).find? fun l => l.seq == q

/-- The search of one segment for stitched line `k` (R136 to R138, R145). (DEDUCED, unsafe: log 129) -/
def State.searchSeg (s : State) (k i : Nat) (g : SegSet) : State :=
  match s.founded k, s.ival (k / 16) with
  | some f, some v =>
    match f.serves.lookup i with
    | some d => match d.first with
      | some a => if (s.storedLine i a).isSome then s.releaseBefore i a else s
      | none => s
    | none =>
      let isRef := i == s.refSeg
      let t : Int := signed 72 f.g.toNat + (if isRef then 0 else signed 32 g.md.toNat)
      let found := if isRef then ((s.segStore i).find? fun l => l.seq == f.ref).map fun l => (l, none, 0)
        else findPair t (s.segStore i)
      match found with
      | none => s
      | some (a, b, w) =>
        let s := s.releaseBefore i a.seq
        let gap := match b with
          | some b => decide (getField v.timing F.STI_TIMING_max_gap < (b.seq + 2 ^ 40 - a.seq) % 2 ^ 40)
          | none => false
        let users := a :: (match b with | some b => if 0 < w then [b] else [] | none => [])
        let e := (users.filter fun l => l.early k).length
        if gap then s.blankSeg k i
        else if 0 < e then (s.earlySeg i e).blankSeg k i
        else s.mapFounded k fun f => f.serve i (match b with | some b => .pair a.seq b.seq w | none => .single a.seq)
  | _, _ => s

/-! ### Forming a stitched line (R43, R132 to R135, R138, R150) -/

/-- A segment with its lines for a stitched line. -/
structure Served where
  idx : Nat
  seg : SegSet
  shift : Int
  a : Line
  b : Option Line
  f : Nat

/-- A segment's lines under its decision: `some none` for a blanked one, none while a line is missing. (DEDUCED, unsafe: log 130) -/
def State.servedBy (s : State) (v : Ival) (i : Nat) (g : SegSet) : Serve → Option (Option Served)
  | .blank => some none
  | .single a => (s.storedLine i a).map fun l => some ⟨i, g, sget (fun _ => (0 : Int)) v.shifts i, l, none, 0⟩
  | .pair a b w => match s.storedLine i a, s.storedLine i b with
    | some la, some lb => some (some ⟨i, g, sget (fun _ => (0 : Int)) v.shifts i, la, some lb, w⟩)
    | _, _ => none

/-- All decisions of a stitched line with their lines; none while one is open (R139). -/
def State.servedAll (s : State) (v : Ival) (f : Founded) : List (Nat × SegSet) → Option (List Served)
  | [] => some []
  | (i, g) :: l => match (f.serves.lookup i).bind (s.servedBy v i g), s.servedAll v f l with
    | some (some x), some r => some (x :: r)
    | some none, some r => some r
    | _, _ => none

/-- The lines that contribute (R142). -/
def Served.lines (x : Served) : List Line :=
  x.a :: (match x.b with | some b => if 0 < x.f then [b] else [] | none => [])

/-- A segment's stitched sample at a column. -/
def Served.sample (x : Served) (b18 : Bool) (c : Nat) : Option Nat := segSample x.seg x.shift b18 x.a x.b x.f c

/-- The pixel at a column and its exclude bit (R130, R135): segments that cover it contribute, blanked ones nothing. -/
def stitchPixel (on : List (Nat × SegSet)) (served : List Served) (b18 : Bool) (gap c : Nat) : Nat × Bool :=
  let here := (on.filter fun p => decide (p.2.lo ≤ c) && decide (c ≤ p.2.hi)).map fun p =>
    (p.2, (served.find? fun x => x.idx == p.1).bind fun x => x.sample b18 c)
  match stitchColumn c here with
  | some v => (v, false)
  | none => (min gap (stitchMax b18), true)

/-- The stripes that a segment overlaps (R284). (DEDUCED, unsafe: log 134) -/
def segStripes (w : Nat) (g : SegSet) : BitVec 16 :=
  if w = 0 then 0
  else upTo 16 (fun n m => if n * w ≤ g.hi ∧ g.lo < (n + 1) * w then m ||| BitVec.ofNat 16 (2 ^ n) else m) 0

/-- The stripes of a line that pass a slice fenced for an interval (R170). (DEDUCED, unsafe: log 134) -/
def State.fencedStripes (s : State) (j : Nat) : BitVec 16 :=
  s.anv.fences.foldl (fun m q => if q.1 < s.stripes ∧ q.2 ≤ j then m ||| BitVec.ofNat 16 (2 ^ q.1) else m) 0

/-- The W0 of a stitched line (R43). (DEDUCED, unsafe: log 134) -/
def stitchTag (k : Nat) (ref : Word) (lines : List Line) (replayed suspect : Bool) : Word :=
  let or (b : Nat) : Nat := if lines.any fun l => l.w0.getLsbD b then 2 ^ b else 0
  let pads := (lines.map fun l => if l.w0.getLsbD 21 then bitsOf l.w0.toNat 15 0 else 0).foldl (· + ·) 0
  BitVec.ofNat 72 (k % 2 ^ 40 * 2 ^ 32 + bitsOf ref.toNat 31 22 * 2 ^ 22 + or 21 + or 20 + or 19 + replayed.toNat * 2 ^ 18 +
    or 17 + suspect.toNat * 2 ^ 16 + min pads 65535)

/-- The seam sums of an interval with one stitched line more (R147). -/
def Ival.correlate (v : Ival) (b18 : Bool) (served : List Served) : List (Nat × SegSet) → Ival
  | p :: q :: l =>
    let r := match served.find? fun x => x.idx == p.1, served.find? fun x => x.idx == q.1 with
      | some x, some y => seamLine q.2.lo (p.2.hi) (getField v.corr F.STI_CORR_CFG_search) (x.sample b18) (y.sample b18)
      | _, _ => none
    let m := sget (fun _ => ({} : SeamSum)) v.seams p.1
    let v := match r with
      | some r => { v with seams := sput (fun _ => ({} : SeamSum)) v.seams p.1 (m.add r) }
      | none => v
    v.correlate b18 served (q :: l)
  | _ => v

/-- A stitched line is formed and waits for the array (R43, R135, R150). -/
def State.formLine (s : State) (v : Ival) (f : Founded) (served : List Served) : State :=
  let on := enabledSegs v.segs
  let b18 := s.bits18
  let gap := getField v.gap F.STI_GAP_gap_value
  let px := (List.range s.lineWidth).map (stitchPixel on served b18 gap)
  let lines := served.flatMap Served.lines
  let cam := served.foldl (fun m x => if x.lines.any fun l => l.w0.getLsbD 16 then m ||| segStripes s.stripeWidth x.seg else m)
    (0 : BitVec 16)
  let stripes := cam ||| s.fencedStripes v.num ||| f.lost ||| v.lostStripes
  let l : StLine := { k := f.k, w0 := stitchTag f.k f.w0 lines v.replayed (stripes != 0 || v.suspectAll), w1 := f.g, w2 := f.w2,
                      px := px.map Prod.fst, excl := px.map Prod.snd, stripes := stripes }
  let s := s.mapIval v.num fun v => v.correlate b18 served on
  s.setSti { s.sti with formed := s.sti.formed ++ [l], nextForm := f.k + 1 }

/-- The oldest unformed line: every segment searched, and the line formed once all have a serving line or pair or are
blanked (R139). `none`: it waits. (DEDUCED, unsafe: log 129) -/
def State.tryForm (s : State) : Option State × State :=
  let k := s.sti.nextForm
  match s.founded k, s.ival (k / 16) with
  | some _, some v =>
    let on := enabledSegs v.segs
    let s := on.foldl (fun s p => s.searchSeg k p.1 p.2) s
    match s.founded k, s.ival (k / 16) with
    | some f, some v => match s.servedAll v f on with
      | some l => (some (s.formLine v f l), s)
      | none => (none, s)
    | _, _ => (none, s)
  | _, _ => (none, s)

/-- Stitched lines formed in order, as many as can be. (DEDUCED, unsafe: log 129) -/
def State.advance : Nat → State → State
  | 0, s => s
  | n + 1, s => match s.tryForm with
    | (some t, _) => State.advance n t
    | (none, t) => t

/-- The number of founded lines. -/
def State.foundedCount (s : State) : Nat := (s.sti.ivals.map fun v => v.founded.length).foldl (· + ·) 0

/-- Every line that can be formed is formed. (DEDUCED, unsafe: log 129) -/
def State.formAll (s : State) : State := State.advance (s.foundedCount + 1) s

/-! ### Commands (R130, R137, R139, R143, R144) -/

/-- A reference line founds the next stitched line, or is the founding line of one that is formed again (R143, R144). (DEDUCED, unsafe: log 128; DEDUCED, unsafe: log 129) -/
def State.foundLine (s : State) (l : Line) : State :=
  let s := s.setSti { s.sti with lastRef := s.ticks }
  let s := s.setFld R.STI_REF F.STI_REF_ref_lost 0
  match (s.sti.ivals.flatMap fun v => v.founded).find? fun f => f.ref == l.seq && l.w0.getLsbD 18 with
  | some f => s.mapFounded f.k fun f => { f with tick := s.ticks }
  | none =>
    let k := s.sti.nextK
    let s := s.setSti { s.sti with nextK := k + 1 }
    let s := if k % 16 = 0 then s.openInterval (k / 16 + 1) else s
    let f : Founded := { k := k, ref := l.seq, w0 := l.w0, g := l.w1, w2 := l.w2, tick := s.ticks }
    s.mapIval (k / 16) fun v => { v with founded := v.founded ++ [f] }

/-- The segments in force for a line. -/
def State.lineSegs (s : State) (l : Line) : List (Nat × SegSet) :=
  match s.ival (l.interval.getD 0) with
  | some v => v.segs
  | none => s.sti.segs

/-- How many recorded decisions use a line of a segment. -/
def State.usesOf (s : State) (i q : Nat) : Nat :=
  ((s.sti.ivals.flatMap fun v => v.founded).filter fun f => f.serves.any fun p => p.1 == i && p.2.uses q).length

/-- A replayed line that only committed intervals used is released as it arrives (R137, R146); one of the reference context has left
correction (R143). (DEDUCED, unsafe: log 189) -/
def State.servedBefore (s : State) (i : Nat) : State :=
  if i = s.refSeg then s.setSti { s.sti with lastRef := s.ticks } else s

/-- LINE_LEAVES_CORRECTION (R130, R137, R143, R144): the oldest corrected line of a context reaches the stitcher; while
the array stalls the stitcher, it waits (R160). -/
def State.lineLeaves (s : State) (c : Nat) : State :=
  if s.anv.stallFrom.isSome then s
  else match s.cor.out.find? fun l => l.ctx == c with
    | none => s
    | some l =>
      let s := s.setCor { s.cor with out := s.cor.out.erase l }
      match (enabledSegs (s.lineSegs l)).find? fun p => p.2.ctx == c with
      | none => s.bump R.STI_UNMAPPED
      | some (i, _) =>
        if l.w0.getLsbD 18 && (s.passedCursor i c l.seq || (i == s.refSeg && s.sti.cursor.lookup i == some l.seq)) then
          s.servedBefore i
        else if i = s.refSeg then ((s.foundLine l).storeLine i l).formAll
        else if s.refLost && s.usesOf i l.seq == 0 then s.bump R.STI_REF_ORPHAN
        else (s.storeLine i l).formAll

/-- LINE_LEAVES_CORRECTION: see `State.lineLeaves`. -/
def execLineLeavesCorrection (ctx : Fin 64) (s : State) : Host.Outcome State Fault Refusal := .next (s.lineLeaves ctx)

/-- SEGMENT_WAIT_TIMEOUT (R139): wait_ns have passed since the founding line left correction and the segment has found
nothing for the oldest unformed stitched line. -/
def State.waitTimeout (s : State) (i : Nat) : State :=
  let k := s.sti.nextForm
  match s.founded k, s.ival (k / 16) with
  | some f, some v =>
    if ((enabledSegs v.segs).lookup i).isSome && (f.serves.lookup i).isNone &&
        decide (getField v.timing F.STI_TIMING_wait_ns ≤ 8 * (s.ticks - f.tick)) then
      (s.blankSeg k i).formAll
    else s
  | _, _ => s

/-- SEGMENT_WAIT_TIMEOUT: see `State.waitTimeout`. -/
def execSegmentWaitTimeout (segment : Fin 16) (s : State) : Host.Outcome State Fault Refusal := .next (s.waitTimeout segment)

/-- REFERENCE_LOSS (R143): a recipe is loaded, the device is in ARMED, RUN or HOLD, and no reference line has left
correction for ref_timeout_us. -/
def State.referenceLoss (s : State) : State :=
  if s.rcp.loaded && s.inStates [.armed, .run, .hold] && !s.refLost &&
      s.passedUs s.sti.lastRef (s.fld R.STI_REF F.STI_REF_ref_timeout_us) then
    ((s.setFld R.STI_REF F.STI_REF_ref_lost 1).bump R.STI_REF_EVCNT).raise 327
  else s

/-- REFERENCE_LOSS: see `State.referenceLoss`. -/
def execReferenceLoss (s : State) : Host.Outcome State Fault Refusal := .next s.referenceLoss

/-! ### Measurements at the commit of an interval (R147, R148) -/

/-- The shift of a segment that the next interval takes: the one that waits, or the applied one. -/
def State.shiftDue (s : State) (i : Nat) : Int :=
  match s.sti.shiftNext.find? fun q => q.2.1 == i with
  | some q => q.2.2
  | none => s.shift i

/-- A valid measurement of the seam of `i` and `t` moves one segment from the next interval on (R148). -/
def State.moveSeam (s : State) (i t : Nat) (m : Int) : State :=
  let anchor := getField s.sti.corr F.STI_CORR_CFG_anchor
  if getField s.sti.corr F.STI_CORR_CFG_auto_en = 1 ∧ ((enabledSegs s.sti.segs).lookup anchor).isSome then
    let moved := if anchor < t then t else i
    let want := if anchor < t then m else -m
    let step : Int := (getField s.sti.corr F.STI_CORR_CFG_step_max : Nat)
    let limit : Int := match s.sti.segs.lookup moved with
      | some g => (getField g.cfg F.STI_SEG_CFG_shift_limit : Nat)
      | none => 0
    let base := s.shiftDue moved
    let d := clampInt (-step) step want
    let r := clampInt (-limit) limit (base + d)
    let s := if d ≠ want ∨ r ≠ base + d then s.stiFlag 4 else s
    s.setSti { s.sti with shiftNext := s.sti.shiftNext.filter (fun q => !(q.2.1 == moved)) ++ [(i, moved, r)] }
  else s

/-- The registers of a seam and its measurement's effect (R147, R148). -/
def State.commitSeam (s : State) (v : Ival) (i t : Nat) (gi gt : SegSet) : State :=
  let m := sget (fun _ => ({} : SeamSum)) v.seams i
  let search := getField v.corr F.STI_CORR_CFG_search
  let cols := gi.hi + 1 - (gt.lo + 2 * search)
  let (shift, valid) := m.measure search (getField v.corr F.STI_CORR_CFG_conf) cols
  let (x, s) := s.orFresh (shift.map (wrapTo 16))
  let (ml, s) := s.orFresh (m.mean cols m.sumA)
  let (mr, s) := s.orFresh (m.mean cols m.sumB)
  let s := s.wr (R.STI_SEAM_MEAS i) (BitVec.ofNat 32 (valid.toNat * 2 ^ 31 + v.num % 256 * 2 ^ 16 + x % 2 ^ 16))
  let s := (s.setFld (R.STI_SEAM_MEANL i) F.STI_SEAM_MEANL_mean ml).setFld (R.STI_SEAM_MEANR i) F.STI_SEAM_MEANR_mean mr
  match valid, shift with
  | true, some m => s.moveSeam i t m
  | _, _ => s

/-- Every seam of a committed interval. -/
def State.commitSeams (s : State) (v : Ival) : List (Nat × SegSet) → State
  | p :: q :: l => (s.commitSeam v p.1 q.1 p.2 q.2).commitSeams v (q :: l)
  | _ => s

/-- The measurements of a committed interval are written: corr_ready (R148). (DEDUCED, safe: log 132) -/
def State.commitMeasure (s : State) (v : Ival) : State :=
  let on := enabledSegs v.segs
  if 2 ≤ on.length then (s.commitSeams v on).stiFlag 6 else s

end Sys2Proof.Machine
end

