-- ==== Sys2Proof/Machine/Anvil.lean ====
section
/-! DEFINITION. The Anvil array: acceptance, dispatch, words, release of lines, kernel sets, stores and the load engine
(R153 to R173). -/
namespace Sys2Proof.Machine

/-! ### Geometry (R153 to R156) -/

/-- Output words of a stripe line, and the look-ahead. (DEDUCED, unsafe: log 145) -/
def State.stripeWords (s : State) : Nat := cdiv s.stripeWidth 6
/-- DEDUCED, unsafe: log 139. -/
def State.lookAhead (s : State) : Nat := (s.fld R.ANV_CFG F.ANV_CFG_window_lines - 1) / 2

/-- Samples per stitched word, and the line-store slots of a slice (R154). -/
def State.stitchSpw (s : State) : Nat := if s.bits18 then 4 else 6
/-- DEDUCED, unsafe: log 139. -/
def State.lineSlots (s : State) : Nat := 45056 / cdiv (s.stripeWidth + 16) s.stitchSpw

/-- The present CLK_PIX cycle: ten to a tick. (DESIGN CHOICE, unsafe: log 140) -/
def State.pixCycle (s : State) (cyc : Nat) : Nat := 10 * s.ticks + cyc

/-- Is a slice fenced for a stitched line (R170)? -/
def State.sliceFenced (s : State) (n k : Nat) : Bool := s.anv.fences.any fun q => q.1 == n && decide (q.2 ≤ k / 16)

/-- The kernel set of a stitched line (R167). -/
def State.lineSet (s : State) (k : Nat) : KSet :=
  match s.ival (k / 16) with
  | some v => v.kset
  | none => s.anv.active.getD {}

/-- Words of a line that a slice has dispatched and ended; whether it has done the line. -/
def ClassLine.sentBy (x : ClassLine) (n : Nat) : Nat := sget (fun _ => (0 : Nat)) x.sent n
def ClassLine.endedBy (x : ClassLine) (n : Nat) : Nat := sget (fun _ => (0 : Nat)) x.ended n
def State.sliceDone (s : State) (x : ClassLine) (n : Nat) : Bool :=
  s.sliceFenced n x.line.k || decide (s.stripeWords ≤ x.endedBy n)

/-- Has every active slice done a line? (DEDUCED, unsafe: log 141) -/
def State.lineDone (s : State) (x : ClassLine) : Bool := (List.range s.stripes).all fun n => s.sliceDone x n

/-- The stitched line after the last one that has arrived. -/
def State.nextArrival (s : State) : Nat := match s.anv.lines.getLast? with | some l => l.k + 1 | none => 0

/-- The first line that a slice has not done. (DEDUCED, unsafe: log 139) -/
def State.sliceAt (s : State) (n : Nat) : Nat :=
  match s.anv.work.find? fun x => !s.sliceDone x n with
  | some x => x.line.k
  | none => s.nextArrival

/-- The slots that a slice holds: lines its windows can still read, and lines that wait for the commit buffer (R154, R196). (DEDUCED, unsafe: log 139) -/
def State.sliceSlots (s : State) (n : Nat) : Nat :=
  (s.anv.lines.filter fun l => decide (s.sliceAt n ≤ l.k + s.lookAhead) ||
    s.anv.work.any fun x => x.line.k == l.k && x.released).length

/-- Has a slice a free slot? (DEDUCED, unsafe: log 139) -/
def State.sliceFree (s : State) (n : Nat) : Bool := decide (s.sliceSlots n < s.lineSlots)

/-! ### Acceptance and stalls (R158, R160) -/

/-- A stall ends: the lines that waited behind it are exempt from the two-line limit until they are sent (R102). (DESIGN CHOICE, unsafe: log 140) -/
def State.endStall (s : State) : State :=
  if s.anv.stallFrom.isNone then s
  else
    let s := s.setAnv { s.anv with stallFrom := none, stallSlices := [] }
    upTo 16 (fun L s =>
      let on := match s.onLane L with | some o => [(o.line.ctx, o.line.seq)] | none => []
      let l := on ++ (s.int.eligible.filter fun l => l.lane == L).map fun l => (l.ctx, l.seq)
      s.setInt { s.int with backlog := sput (fun _ => []) s.int.backlog L l }) s

/-- An arrival at the array's input as its interval records it (R158): a replayed interval is not measured. -/
def Ival.arrive (v : Ival) (cycle : Nat) : Ival :=
  { v with arriveFirst := if v.arrivals = 0 then cycle else v.arriveFirst, arriveLast := cycle, arrivals := v.arrivals + 1 }

/-- The active slices without a free slot. -/
def State.fullSlices (s : State) : List Nat := (List.range s.stripes).filter fun n => !s.sliceFree n

/-- The stalled cycles up to cycle `now`, counted by every active slice that had no free slot (R160). (DESIGN CHOICE, unsafe: log 140) -/
def State.countStall (s : State) (now : Nat) : State :=
  match s.anv.stallFrom with
  | none => s
  | some c =>
    let s := s.anv.stallSlices.foldl (fun s n => s.bumpBy (R.ANV_SL_STALL n) (now - c)) s
    s.setAnv { s.anv with stallFrom := some (max c now), stallSlices := s.fullSlices }

/-- The stalled cycles of a tick (R160). (DESIGN CHOICE, unsafe: log 140) -/
def State.stallTick (s : State) : State := s.countStall (s.pixCycle 0)

/-! ### The neighbourhood window (R155) -/

/-- The last line that the window of line `k` reads: `k + h`, or the line after which the flow ended. (DEDUCED, unsafe: log 145) -/
def State.windowTop (s : State) (k : Nat) : Nat :=
  match s.anv.flowEnds.find? fun e => decide (k ≤ e) && decide (e < k + s.lookAhead) with
  | some e => e
  | none => k + s.lookAhead

/-- A window read of slice `n` for a word of line `k`: sample and exclude bit at a line offset and a stripe column. (DEDUCED, unsafe: log 145) -/
def State.windowPixel (s : State) (n k : Nat) (dl col : Int) : Nat × Bool :=
  let t : Nat := min ((k : Int) + dl).toNat (s.windowTop k)
  let sw := s.stripeWidth
  let lw := s.lineWidth
  let ws : Int := (min sw (lw - n * sw) : Nat)
  match s.anv.lines.find? fun l => l.k == t with
  | none => (0, true)
  | some l =>
    if col < -8 ∨ ws + 8 ≤ col then (0, true)
    else
      let x : Int := (n * sw : Nat) + col
      if 0 ≤ x ∧ x < lw then (l.px.getD x.toNat 0, l.excl.getD x.toNat true)
      else (l.px.getD (mirror lw x) 0, true)

/-- A table entry. -/
def State.anvLut (s : State) (t e : Nat) : Nat := (sget (fun _ => (0 : BitVec 18)) s.anv.lut (4096 * t + e)).toNat

/-- What a word of slice `n` sees. -/
def State.wordEnv (s : State) (n : Nat) (e : Engine) : WordEnv :=
  let p := s.lineSet e.k
  { h := s.lookAhead, b18 := s.bits18, pixel := fun dl dc => s.windowPixel n e.k dl ((6 * e.w : Nat) + dc),
    lut := s.anvLut, param := fun i => sget (fun _ => (0 : Word)) p.params i, lutUse := p.lutUse,
    first := p.first, last := p.last, channel := fun c => s.bit (R.ANV_IMG c) F.ANV_IMG_enable }

/-! ### Dispatch (R156, R157) -/

/-- An engine of a slice, and the state with it replaced. -/
def State.engine (s : State) (n e : Nat) : Option Engine := sget (fun _ => none) s.anv.engines (8 * n + e)
def State.setEngine (s : State) (n e : Nat) (x : Option Engine) : State :=
  s.setAnv { s.anv with engines := sput (fun _ => none) s.anv.engines (8 * n + e) x }

/-- The state with the record of a line in work changed. -/
def State.mapWork (s : State) (k : Nat) (f : ClassLine → ClassLine) : State :=
  s.setAnv { s.anv with work := s.anv.work.map fun x => if x.line.k = k then f x else x }

/-- The dispatch word (R157). (DESIGN CHOICE, safe: log 144) -/
def dispatchWord (k n w : Nat) : Word := BitVec.ofNat 72 (k % 2 ^ 40 * 2 ^ 32 + n * 2 ^ 28 + 6 * w)

/-- WORD_DISPATCH (R156, R157): the next output word of a slice goes to its lowest-numbered free engine once its window is
in the line store. `corrected`: errors that SEC-DED corrected in the slice since the last dispatch (R169). (DESIGN CHOICE, safe: log 144) -/
def State.dispatch (s : State) (n corrected : Nat) : State :=
  let s := s.bumpBy R.ANV_ECC_CORR corrected
  match s.anv.work.find? fun x => !s.sliceFenced n x.line.k && decide (x.sentBy n < s.stripeWords) with
  | none => s
  | some x =>
    let k := x.line.k
    let w := x.sentBy n
    match firstBit (fun e => (s.engine n e).isNone) 0 8 with
    | none => s
    | some e =>
      if n < s.stripes ∧ (s.anv.lines.any fun l => l.k == s.windowTop k) then
        let eng : Engine := { k := k, w := w, v := sput (fun _ => (0 : Word)) [] 0 (dispatchWord k n w),
                              pc := (s.lineSet k).entry }
        (s.setEngine n e (some eng)).mapWork k fun x => { x with sent := sput (fun _ => (0 : Nat)) x.sent n (w + 1) }
      else s

/-- WORD_DISPATCH: see `State.dispatch`. (DESIGN CHOICE, safe: log 144) -/
def execWordDispatch (slice : Fin 16) (corrected : Nat) (s : State) : Host.Outcome State Fault Refusal :=
  .next (s.dispatch slice corrected)

/-! ### Release of lines (R156, R161 to R164) -/

/-- A class word with its excluded pixels at class 0 and measure 0 (R150, R161). (DEDUCED, unsafe: log 142) -/
def maskClass (l : StLine) (x0 : Nat) (w : Word) : Word :=
  fromLanes 12 ((List.range 6).map fun j => if l.excl.getD (x0 + j) false then 0 else lane 12 j w)

/-- A 12-bit sample per column from words by stripe (R162): `word n w` is stripe `n`'s word. (DEDUCED, unsafe: log 142) -/
def assemble (lw sw : Nat) (word : Nat → Nat → Word) : List Nat :=
  (List.range lw).map fun x => lane 12 (x % sw % 6) (word (x / sw) (x % sw / 6))

/-- The class pixels of a line, and the samples of one of its channels. (DEDUCED, unsafe: log 142) -/
def State.classPixels (s : State) (x : ClassLine) : List Nat :=
  assemble s.lineWidth s.stripeWidth fun n w => sget (fun _ => (0 : Word)) x.cls (4096 * n + w)
def State.channelPixels (s : State) (x : ClassLine) (c : Nat) : List Nat :=
  assemble s.lineWidth s.stripeWidth fun n w => sget (fun _ => (0 : Word)) x.img (65536 * c + 4096 * n + w)

/-- The stride of a channel's ring in words (R163). -/
def State.imgStride (s : State) : Nat := cdiv (3 + cdiv s.lineWidth 6) 8 * 8

/-- A channel line is released (R163, R164): to the output stream units or to its Hearth ring. -/
def State.releaseChannel (s : State) (x : ClassLine) (c : Nat) : State :=
  let cfg := s.rd (R.ANV_IMG c)
  if getField cfg F.ANV_IMG_enable = 0 then s
  else
    let l := x.line
    let px := s.channelPixels x c
    if getField cfg F.ANV_IMG_to_hearth = 1 then
      let bytes := packDense (l.w0 :: l.w1 :: l.w2 :: packPixels 12 px)
      let off := l.k % 2 ^ 40 % 2 ^ getField cfg F.ANV_IMG_ring_log2 * s.imgStride * 9
      (s.writeBuffer (s.rd (R.ANV_IMG_HANDLE c)) off bytes).hearthTraffic 3 bytes.length
    else s.ostSource (1 + c) { k := l.k, w0 := l.w0, w1 := l.w1, w2 := l.w2, px := px } (s.pixCycle 0)

/-- Lines whose words are all done are released in order (R162 to R164). -/
def State.releaseLines : Nat → State → State
  | 0, s => s
  | f + 1, s => match s.anv.work.find? fun x => !x.released with
    | none => s
    | some x =>
      if s.lineDone x then
        let s := upTo 4 (fun c s => s.releaseChannel x c) s
        State.releaseLines f (s.mapWork x.line.k fun x => { x with released := true })
      else s

/-- Every line that can be released is released. -/
def State.releaseAll (s : State) : State := State.releaseLines s.anv.work.length s

/-- STITCHED_LINE_PASS (R141, R160): the array accepts the oldest formed line when every active slice has a free slot;
otherwise it stalls the stitcher. The line also reaches the output stream units that read the stitched image. -/
def State.passLine (s : State) (cyc : Nat) : State :=
  match s.sti.formed with
  | [] => s
  | l :: rest =>
    let now := s.pixCycle cyc
    if (List.range s.stripes).all s.sliceFree then
      let s := (s.countStall now).endStall
      let s := s.setSti { s.sti with formed := rest }
      let s := s.setAnv { s.anv with lines := s.anv.lines ++ [l], work := s.anv.work ++ [{ line := l }], lastLine := now }
      let s := s.mapIval (l.k / 16) fun v => v.arrive now
      (s.ostSource 0 { k := l.k, w0 := l.w0, w1 := l.w1, w2 := l.w2, px := l.px, spw := s.stitchSpw } now).releaseAll
    else if s.anv.stallFrom.isSome then s
    else (s.setAnv { s.anv with stallFrom := some now, stallSlices := s.fullSlices }).anvFlag 3

/-- STITCHED_LINE_PASS: see `State.passLine`. -/
def execStitchedLinePass (cyc : Fin 10) (s : State) : Host.Outcome State Fault Refusal := .next (s.passLine cyc)

/-- A kernel fault (R168): kfault, its counter, and the record of the first after the flag was cleared. (DEDUCED, unsafe: log 138) -/
def State.kernelFault (s : State) (n w code : Nat) : State :=
  let s := if s.bit R.ANV_FLAGS F.ANV_FLAGS_kfault then s
    else s.wr (R.ANV_SL_KFINFO n) (BitVec.ofNat 32 (code * 2 ^ 24 + 6 * w))
  (s.bump (R.ANV_SL_KFAULT n)).anvFlag 4

/-- A word ends (R156, R161, R168, R194): its outputs, or zeros after a fault, are reordered into its line. (DESIGN CHOICE, safe: log 137) -/
def State.endWord (s : State) (n i : Nat) (e : Engine) (fault : Option Nat) : State :=
  let s := s.setEngine n i none
  let s := match fault with
    | some code => s.kernelFault n e.w code
    | none => s
  let ok := fault.isNone
  let s := s.mapWork e.k fun x =>
    let cls := if ok then maskClass x.line (n * s.stripeWidth + 6 * e.w) (e.cls.getD 0) else 0
    let img := if ok then e.img.foldl (fun m q => sput (fun _ => (0 : Word)) m (65536 * q.1 + 4096 * n + e.w) q.2) x.img
      else x.img
    { x with cls := sput (fun _ => (0 : Word)) x.cls (4096 * n + e.w) cls, img := img,
             ended := sput (fun _ => (0 : Nat)) x.ended n (x.endedBy n + 1) }
  let s := s.mapIval (e.k / 16) fun v =>
    { v with words := sput (fun _ => (0 : Nat)) v.words n (sget (fun _ => (0 : Nat)) v.words n + 1),
             cycles := sput (fun _ => (0 : Nat)) v.cycles n (sget (fun _ => (0 : Nat)) v.cycles n + e.cycles) }
  s.releaseAll

/-- MAX_BUNDLES_REACHED (R168, R182): a word whose count has reached max_bundles without end ends with fault 0x01. (DESIGN CHOICE, safe: log 137) -/
def State.maxBundles (s : State) (n i : Nat) : State :=
  match s.engine n i with
  | some e => if (s.lineSet e.k).maxBundles ≤ e.cycles then s.endWord n i e (some 1) else s
  | none => s

/-- MAX_BUNDLES_REACHED: see `State.maxBundles`. (DESIGN CHOICE, safe: log 137) -/
def execMaxBundlesReached (slice : Fin 16) (engine : Fin 8) (s : State) : Host.Outcome State Fault Refusal :=
  .next (s.maxBundles slice engine)

/-- The 40 bits of a slot of the bundle in the kernel store at a pc (R174): slot A is 0. -/
def State.storedSlot (s : State) (pc place : Nat) : Nat :=
  (sget (fun _ => (0 : BitVec 128)) s.anv.store pc).toNat / 2 ^ (80 - 40 * place) % 2 ^ 40

/-- An instruction takes its slot in the bundle that an engine assembles; with the header the bundle issues (R179), its other slots as the
kernel store holds them. `x`: the slot's 40 bits. (DESIGN CHOICE, unsafe: log 135) -/
def State.anvSlot (s : State) (n i place x : Nat) (header : Option (BitVec 8)) : State :=
  match s.engine n i with
  | none => s
  | some e =>
    let limit := (s.lineSet e.k).maxBundles
    if limit ≤ e.cycles then s
    else
      let slots := (e.slots.filter fun q => q.slot != place) ++ [⟨place, BitVec.ofNat 40 x⟩]
      match header with
      | none => s.setEngine n i (some { e with slots := slots })
      | some h =>
        let at' (p : Nat) : Nat := match slots.find? fun q => q.slot == p with | some q => q.bits.toNat | none => s.storedSlot e.pc p
        match e.bundle (s.wordEnv n e) limit h.toNat (at' 0) (at' 1) (at' 2) with
        | .running e => s.setEngine n i (some e)
        | .full e => s.setEngine n i (some e)
        | .ended e f => s.endWord n i e f

/-- An instruction of opcode `op` with the low 34 bits of its slot. (DESIGN CHOICE, unsafe: log 135) -/
def State.anvInstr (s : State) (op n i place : Nat) (bits : BitVec 34) (header : Option (BitVec 8)) : State :=
  s.anvSlot n i place (op * 2 ^ 34 + bits.toNat) header

/-! ### The end of the flow (R159) -/

/-- END_OF_FLOW: no line has arrived for drain_us while the gate is closed or reference loss holds; the array processes its
last lines at once. (DEDUCED, unsafe: log 141) -/
def State.endOfFlow (s : State) : State :=
  match s.anv.lines.getLast? with
  | none => s
  | some l =>
    if (s.gateClosed || s.refLost) && !s.fed.running && s.sti.formed.isEmpty && !s.anv.flowEnds.contains l.k &&
        decide (1250 * s.blmCfg R.BLM_OUT F.BLM_OUT_drain_us ≤ s.pixCycle 0 - s.anv.lastLine) then
      s.setAnv { s.anv with flowEnds := s.anv.flowEnds ++ [l.k] }
    else s

/-- END_OF_FLOW: see `State.endOfFlow`. -/
def execEndOfFlow (s : State) : Host.Outcome State Fault Refusal := .next s.endOfFlow

/-! ### Kernel sets and stores (R165 to R167) -/

/-- The shadow kernel set. -/
def State.anvShadow (s : State) : KSet :=
  { entry := s.fld R.ANV_KSET_ENTRY F.ANV_KSET_ENTRY_entry, first := s.fld R.ANV_KSET_REGION F.ANV_KSET_REGION_first,
    last := s.fld R.ANV_KSET_REGION F.ANV_KSET_REGION_last, maxBundles := s.fld R.ANV_KSET_LIMIT F.ANV_KSET_LIMIT_max_bundles,
    lutUse := s.fld R.ANV_KSET_LIMIT F.ANV_KSET_LIMIT_lut_use, params := s.anv.shadow }

/-- Does an apply of the shadow kernel set fail its checks (R166)? -/
def State.anvRefused (s : State) : Bool :=
  let p := s.anvShadow
  decide (p.last < p.first) || decide (p.entry < p.first) || decide (p.last < p.entry) || p.maxBundles == 0

/-- A write of ANV_CMD with apply (R166). -/
def State.anvApply (s : State) : State :=
  let p := s.anvShadow
  if s.anvRefused then s.anvFlag 1
  else (s.setAnv { s.anv with pending := some p }).setFld R.ANV_STATUS F.ANV_STATUS_apply_pending 1

/-- ANVIL_APPLY: a BAR0 write of ANV_CMD. -/
def execAnvilApply (v : Reg32) (s : State) : Host.Outcome State Fault Refusal :=
  .next (s.hostWrite R.ANV_CMD v fun s => if v.getLsbD 0 then s.anvApply else s)

/-- The kernel sets in use: active, pending and those of uncommitted intervals (R165). -/
def State.setsInUse (s : State) : List KSet :=
  (match s.anv.active with | some p => [p] | none => []) ++ (match s.anv.pending with | some p => [p] | none => []) ++
    if s.anv.active.isSome then s.sti.ivals.map fun v => v.kset else []

/-- Is a bundle, or a table, in use? -/
def State.bundleInUse (s : State) (b : Nat) : Bool :=
  s.setsInUse.any fun p => decide (p.first ≤ b) && decide (b ≤ p.last)
def State.anvLutInUse (s : State) (t : Nat) : Bool := s.setsInUse.any fun p => p.lutUse.testBit t

/-- old_busy: an uncommitted interval uses a set other than the active one (R167). -/
def State.anvOldBusy (s : State) : Bool := s.sti.ivals.any fun v => some v.kset != s.anv.active

/-- A bundle, a table entry and a shadow parameter word stored. -/
def State.storeBundle (s : State) (b : Nat) (v : BitVec 128) : State :=
  if s.bundleInUse b then s.anvFlag 2
  else s.setAnv { s.anv with store := sput (fun _ => (0 : BitVec 128)) s.anv.store b v }
def State.storeLut (s : State) (a : Nat) (v : BitVec 18) : State :=
  if s.anvLutInUse (a / 4096) then s.anvFlag 2 else s.setAnv { s.anv with lut := sput (fun _ => (0 : BitVec 18)) s.anv.lut a v }
def State.storeParam (s : State) (i : Nat) (w : Word) : State :=
  s.setAnv { s.anv with shadow := sput (fun _ => (0 : Word)) s.anv.shadow i w }

/-- ANV_PARAM_D0 to D2 read the addressed shadow parameter word (R172). -/
def State.paramView (s : State) (i : Nat) : BitVec 32 :=
  BitVec.ofNat 32 ((sget (fun _ => (0 : Word)) s.anv.shadow (s.fld R.ANV_PARAM_ADDR F.ANV_PARAM_ADDR_word)).toNat / 2 ^ (32 * i))

/-- A write of ANV_PARAM_D2: D0 to D2 are stored as one word and the address advances. -/
def State.writeParam (s : State) (v : BitVec 32) : State :=
  let s := s.plainWrite R.ANV_PARAM_D2 v
  let i := s.fld R.ANV_PARAM_ADDR F.ANV_PARAM_ADDR_word
  let w := BitVec.ofNat 72 ((s.rd R.ANV_PARAM_D2).toNat % 256 * 2 ^ 64 + (s.rd R.ANV_PARAM_D1).toNat * 2 ^ 32 +
    (s.rd R.ANV_PARAM_D0).toNat)
  (s.storeParam i w).setFld R.ANV_PARAM_ADDR F.ANV_PARAM_ADDR_word ((i + 1) % 64)

/-- PARAM_WORD_WRITE (R165): a BAR0 write of ANV_PARAM_D2. -/
def execParamWordWrite (v : Reg32) (s : State) : Host.Outcome State Fault Refusal :=
  .next (s.hostWrite R.ANV_PARAM_D2 v fun s => s.writeParam v)

/-- A write of ANV_KS_D3: D0 to D3 are stored as one bundle unless it is in use; the address advances. -/
def State.writeBundle (s : State) (v : BitVec 32) : State :=
  let s := s.wr R.ANV_KS_D3 v
  let b := s.fld R.ANV_KS_ADDR F.ANV_KS_ADDR_bundle
  let x := BitVec.ofNat 128 ((s.rd R.ANV_KS_D3).toNat * 2 ^ 96 + (s.rd R.ANV_KS_D2).toNat * 2 ^ 64 +
    (s.rd R.ANV_KS_D1).toNat * 2 ^ 32 + (s.rd R.ANV_KS_D0).toNat)
  (s.storeBundle b x).setFld R.ANV_KS_ADDR F.ANV_KS_ADDR_bundle ((b + 1) % 4096)

/-- BUNDLE_STORE_WRITE (R165): a BAR0 write of ANV_KS_D3. -/
def execBundleStoreWrite (v : Reg32) (s : State) : Host.Outcome State Fault Refusal :=
  .next (s.hostWrite R.ANV_KS_D3 v fun s => s.writeBundle v)

/-- ANV_LUT_ADDR advances within its table. -/
def State.advanceAnvLut (s : State) : State :=
  let a := s.fld R.ANV_LUT_ADDR F.ANV_LUT_ADDR_addr
  s.setFld R.ANV_LUT_ADDR F.ANV_LUT_ADDR_addr (a / 4096 * 4096 + (a + 1) % 4096)

/-- A write and a read of ANV_LUT_DATA. -/
def State.writeAnvLut (s : State) (v : BitVec 32) : State :=
  (s.storeLut (s.fld R.ANV_LUT_ADDR F.ANV_LUT_ADDR_addr) (v.setWidth 18)).advanceAnvLut
def State.readAnvLut (s : State) : BitVec 32 × State :=
  ((sget (fun _ => (0 : BitVec 18)) s.anv.lut (s.fld R.ANV_LUT_ADDR F.ANV_LUT_ADDR_addr)).setWidth 32, s.advanceAnvLut)

/-- ANVIL_LUT_ACCESS (R165): a BAR0 access to ANV_LUT_DATA; `none` reads. -/
def execAnvilLutAccess (v : Option Reg32) (s : State) : Host.Outcome State Fault Refusal :=
  .next (match v with
    | some v => s.hostWrite R.ANV_LUT_DATA v fun s => s.writeAnvLut v
    | none => s.hostAccess R.ANV_LUT_DATA (.read R.ANV_LUT_DATA) fun s =>
        let (v, t) := s.readAnvLut; t.emit (.readData v))

/-- A load ends with a result. -/
def State.endAnvLoad (s : State) (result : Nat) : State :=
  ((s.setAnv { s.anv with load := none }).wr R.ANV_LOAD_STATUS (BitVec.ofNat 32 result)).blockDone 6 0 result

/-- A write of ANV_LOAD_CMD with go (R165). -/
def State.anvLoadGo (s : State) : State :=
  if s.anv.load.isSome then s
  else
    let n := s.fld R.ANV_LOAD_COUNT F.ANV_LOAD_COUNT_count
    let a := s.fld R.ANV_LOAD_TARGET F.ANV_LOAD_TARGET_start
    let t := s.fld R.ANV_LOAD_TARGET F.ANV_LOAD_TARGET_target
    let size := match t with | 0 => 4096 | 1 => 16384 | 2 => 64 | _ => 0
    if n = 0 ∨ 16384 < n ∨ size < a + n ∨ (t = 1 ∧ n % 4 ≠ 0) then s.endAnvLoad 2
    else (s.setAnv { s.anv with load := some ⟨a, n, s.rd R.ANV_LOAD_HANDLE, t⟩ }).wr R.ANV_LOAD_STATUS 0x80000000

/-- ANVIL_LOAD_GO: a BAR0 write of ANV_LOAD_CMD. -/
def execAnvilLoadGo (v : Reg32) (s : State) : Host.Outcome State Fault Refusal :=
  .next (s.hostWrite R.ANV_LOAD_CMD v fun s => if v.getLsbD 0 then s.anvLoadGo else s)

/-- The words of a load stored in its target (R165). -/
def State.storeLoaded (s : State) (d : StoreLoad) (ws : List Word) : State :=
  let w (i : Nat) : Nat := (ws.getD i 0).toNat
  match d.target with
  | 0 => upTo (ws.length / 2) (fun i s =>
      s.storeBundle (d.start + i) (BitVec.ofNat 128 (w (2 * i + 1) % 2 ^ 64 * 2 ^ 64 + w (2 * i) % 2 ^ 64))) s
  | 1 => upTo ws.length (fun i s =>
      upTo 4 (fun j s => s.storeLut (d.start + 4 * i + j) (BitVec.ofNat 18 (w i / 2 ^ (18 * j)))) s) s
  | _ => upTo ws.length (fun i s => s.storeParam (d.start + i) (ws.getD i 0)) s

/-- ANVIL_LOAD_DONE (R165): the load ends; `failed`: the word whose HBM read failed twice. -/
def State.anvLoadDone (s : State) (failed : Option Nat) (ecc : EccResult) : State :=
  match s.anv.load with
  | none => s
  | some d =>
    let n := match d.target with | 0 => 2 * d.count | 1 => d.count / 4 | _ => d.count
    match s.loadWords d.handle n failed ecc with
    | (none, t) => t
    | (some (ws, bad), t) => (t.storeLoaded d ws).endAnvLoad (if bad then 6 else 0)

/-- ANVIL_LOAD_DONE: see `State.anvLoadDone`. -/
def execAnvilLoadDone (failed : Option Nat) (s : State) (ecc : EccResult := .clean) : Host.Outcome State Fault Refusal :=
  .next (s.anvLoadDone failed ecc)

end Sys2Proof.Machine
end

