-- ==== Sys2Proof/Machine/AnvilOps.lean ====
section
/-! DEFINITION. One meaning per Anvil kernel instruction (R183): the opcode of its row in a slot of an engine's bundle. A bundle
issues with its header; its slots' effects are `slotEffect` (R184 to R195). -/
namespace Sys2Proof.Machine

/-- ANVIL_NOP (R183): opcode 0x00. -/
def execAnvilNop (slice : Fin 16) (engine : Fin 8) (slot : Fin 3) (bits : BitVec 34) (close : Option (BitVec 8)) (s : State) :
    Host.Outcome State Fault Refusal := .next (s.anvInstr 0x00 slice engine slot bits close)

/-- ANVIL_ADD (R183): opcode 0x01. -/
def execAnvilAdd (slice : Fin 16) (engine : Fin 8) (slot : Fin 3) (bits : BitVec 34) (close : Option (BitVec 8)) (s : State) :
    Host.Outcome State Fault Refusal := .next (s.anvInstr 0x01 slice engine slot bits close)

/-- ANVIL_SUB (R183): opcode 0x02. -/
def execAnvilSub (slice : Fin 16) (engine : Fin 8) (slot : Fin 3) (bits : BitVec 34) (close : Option (BitVec 8)) (s : State) :
    Host.Outcome State Fault Refusal := .next (s.anvInstr 0x02 slice engine slot bits close)

/-- ANVIL_AVG (R183): opcode 0x03. -/
def execAnvilAvg (slice : Fin 16) (engine : Fin 8) (slot : Fin 3) (bits : BitVec 34) (close : Option (BitVec 8)) (s : State) :
    Host.Outcome State Fault Refusal := .next (s.anvInstr 0x03 slice engine slot bits close)

/-- ANVIL_ABSD (R183): opcode 0x04. -/
def execAnvilAbsd (slice : Fin 16) (engine : Fin 8) (slot : Fin 3) (bits : BitVec 34) (close : Option (BitVec 8)) (s : State) :
    Host.Outcome State Fault Refusal := .next (s.anvInstr 0x04 slice engine slot bits close)

/-- ANVIL_MIN (R183): opcode 0x05. -/
def execAnvilMin (slice : Fin 16) (engine : Fin 8) (slot : Fin 3) (bits : BitVec 34) (close : Option (BitVec 8)) (s : State) :
    Host.Outcome State Fault Refusal := .next (s.anvInstr 0x05 slice engine slot bits close)

/-- ANVIL_MAX (R183): opcode 0x06. -/
def execAnvilMax (slice : Fin 16) (engine : Fin 8) (slot : Fin 3) (bits : BitVec 34) (close : Option (BitVec 8)) (s : State) :
    Host.Outcome State Fault Refusal := .next (s.anvInstr 0x06 slice engine slot bits close)

/-- ANVIL_AND (R183): opcode 0x07. -/
def execAnvilAnd (slice : Fin 16) (engine : Fin 8) (slot : Fin 3) (bits : BitVec 34) (close : Option (BitVec 8)) (s : State) :
    Host.Outcome State Fault Refusal := .next (s.anvInstr 0x07 slice engine slot bits close)

/-- ANVIL_OR (R183): opcode 0x08. -/
def execAnvilOr (slice : Fin 16) (engine : Fin 8) (slot : Fin 3) (bits : BitVec 34) (close : Option (BitVec 8)) (s : State) :
    Host.Outcome State Fault Refusal := .next (s.anvInstr 0x08 slice engine slot bits close)

/-- ANVIL_XOR (R183): opcode 0x09. -/
def execAnvilXor (slice : Fin 16) (engine : Fin 8) (slot : Fin 3) (bits : BitVec 34) (close : Option (BitVec 8)) (s : State) :
    Host.Outcome State Fault Refusal := .next (s.anvInstr 0x09 slice engine slot bits close)

/-- ANVIL_SHL (R183): opcode 0x0A. -/
def execAnvilShl (slice : Fin 16) (engine : Fin 8) (slot : Fin 3) (bits : BitVec 34) (close : Option (BitVec 8)) (s : State) :
    Host.Outcome State Fault Refusal := .next (s.anvInstr 0x0A slice engine slot bits close)

/-- ANVIL_SHR (R183): opcode 0x0B. -/
def execAnvilShr (slice : Fin 16) (engine : Fin 8) (slot : Fin 3) (bits : BitVec 34) (close : Option (BitVec 8)) (s : State) :
    Host.Outcome State Fault Refusal := .next (s.anvInstr 0x0B slice engine slot bits close)

/-- ANVIL_SEL (R183): opcode 0x0C. -/
def execAnvilSel (slice : Fin 16) (engine : Fin 8) (slot : Fin 3) (bits : BitVec 34) (close : Option (BitVec 8)) (s : State) :
    Host.Outcome State Fault Refusal := .next (s.anvInstr 0x0C slice engine slot bits close)

/-- ANVIL_MOV (R183): opcode 0x0D. -/
def execAnvilMov (slice : Fin 16) (engine : Fin 8) (slot : Fin 3) (bits : BitVec 34) (close : Option (BitVec 8)) (s : State) :
    Host.Outcome State Fault Refusal := .next (s.anvInstr 0x0D slice engine slot bits close)

/-- ANVIL_CLS (R183): opcode 0x0E. -/
def execAnvilCls (slice : Fin 16) (engine : Fin 8) (slot : Fin 3) (bits : BitVec 34) (close : Option (BitVec 8)) (s : State) :
    Host.Outcome State Fault Refusal := .next (s.anvInstr 0x0E slice engine slot bits close)

/-- ANVIL_PK6 (R183): opcode 0x0F. -/
def execAnvilPk6 (slice : Fin 16) (engine : Fin 8) (slot : Fin 3) (bits : BitVec 34) (close : Option (BitVec 8)) (s : State) :
    Host.Outcome State Fault Refusal := .next (s.anvInstr 0x0F slice engine slot bits close)

/-- ANVIL_CMPEQ (R183): opcode 0x10. -/
def execAnvilCmpeq (slice : Fin 16) (engine : Fin 8) (slot : Fin 3) (bits : BitVec 34) (close : Option (BitVec 8)) (s : State) :
    Host.Outcome State Fault Refusal := .next (s.anvInstr 0x10 slice engine slot bits close)

/-- ANVIL_CMPLT (R183): opcode 0x11. -/
def execAnvilCmplt (slice : Fin 16) (engine : Fin 8) (slot : Fin 3) (bits : BitVec 34) (close : Option (BitVec 8)) (s : State) :
    Host.Outcome State Fault Refusal := .next (s.anvInstr 0x11 slice engine slot bits close)

/-- ANVIL_CMPLE (R183): opcode 0x12. -/
def execAnvilCmple (slice : Fin 16) (engine : Fin 8) (slot : Fin 3) (bits : BitVec 34) (close : Option (BitVec 8)) (s : State) :
    Host.Outcome State Fault Refusal := .next (s.anvInstr 0x12 slice engine slot bits close)

/-- ANVIL_ADDI (R183): opcode 0x18. -/
def execAnvilAddi (slice : Fin 16) (engine : Fin 8) (slot : Fin 3) (bits : BitVec 34) (close : Option (BitVec 8)) (s : State) :
    Host.Outcome State Fault Refusal := .next (s.anvInstr 0x18 slice engine slot bits close)

/-- ANVIL_SHLI (R183): opcode 0x19. -/
def execAnvilShli (slice : Fin 16) (engine : Fin 8) (slot : Fin 3) (bits : BitVec 34) (close : Option (BitVec 8)) (s : State) :
    Host.Outcome State Fault Refusal := .next (s.anvInstr 0x19 slice engine slot bits close)

/-- ANVIL_SHRI (R183): opcode 0x1A. -/
def execAnvilShri (slice : Fin 16) (engine : Fin 8) (slot : Fin 3) (bits : BitVec 34) (close : Option (BitVec 8)) (s : State) :
    Host.Outcome State Fault Refusal := .next (s.anvInstr 0x1A slice engine slot bits close)

/-- ANVIL_MOVI (R183): opcode 0x1B. -/
def execAnvilMovi (slice : Fin 16) (engine : Fin 8) (slot : Fin 3) (bits : BitVec 34) (close : Option (BitVec 8)) (s : State) :
    Host.Outcome State Fault Refusal := .next (s.anvInstr 0x1B slice engine slot bits close)

/-- ANVIL_CMPLTI (R183): opcode 0x1C. -/
def execAnvilCmplti (slice : Fin 16) (engine : Fin 8) (slot : Fin 3) (bits : BitVec 34) (close : Option (BitVec 8)) (s : State) :
    Host.Outcome State Fault Refusal := .next (s.anvInstr 0x1C slice engine slot bits close)

/-- ANVIL_CMPGEI (R183): opcode 0x1D. -/
def execAnvilCmpgei (slice : Fin 16) (engine : Fin 8) (slot : Fin 3) (bits : BitVec 34) (close : Option (BitVec 8)) (s : State) :
    Host.Outcome State Fault Refusal := .next (s.anvInstr 0x1D slice engine slot bits close)

/-- ANVIL_MUL (R183): opcode 0x20. -/
def execAnvilMul (slice : Fin 16) (engine : Fin 8) (slot : Fin 3) (bits : BitVec 34) (close : Option (BitVec 8)) (s : State) :
    Host.Outcome State Fault Refusal := .next (s.anvInstr 0x20 slice engine slot bits close)

/-- ANVIL_MAC (R183): opcode 0x21. -/
def execAnvilMac (slice : Fin 16) (engine : Fin 8) (slot : Fin 3) (bits : BitVec 34) (close : Option (BitVec 8)) (s : State) :
    Host.Outcome State Fault Refusal := .next (s.anvInstr 0x21 slice engine slot bits close)

/-- ANVIL_LUT (R183): opcode 0x22. -/
def execAnvilLut (slice : Fin 16) (engine : Fin 8) (slot : Fin 3) (bits : BitVec 34) (close : Option (BitVec 8)) (s : State) :
    Host.Outcome State Fault Refusal := .next (s.anvInstr 0x22 slice engine slot bits close)

/-- ANVIL_SUMH (R183): opcode 0x23. -/
def execAnvilSumh (slice : Fin 16) (engine : Fin 8) (slot : Fin 3) (bits : BitVec 34) (close : Option (BitVec 8)) (s : State) :
    Host.Outcome State Fault Refusal := .next (s.anvInstr 0x23 slice engine slot bits close)

/-- ANVIL_WIN (R183): opcode 0x30. -/
def execAnvilWin (slice : Fin 16) (engine : Fin 8) (slot : Fin 3) (bits : BitVec 34) (close : Option (BitVec 8)) (s : State) :
    Host.Outcome State Fault Refusal := .next (s.anvInstr 0x30 slice engine slot bits close)

/-- ANVIL_LDP (R183): opcode 0x31. -/
def execAnvilLdp (slice : Fin 16) (engine : Fin 8) (slot : Fin 3) (bits : BitVec 34) (close : Option (BitVec 8)) (s : State) :
    Host.Outcome State Fault Refusal := .next (s.anvInstr 0x31 slice engine slot bits close)

/-- ANVIL_EMC (R183): opcode 0x32. -/
def execAnvilEmc (slice : Fin 16) (engine : Fin 8) (slot : Fin 3) (bits : BitVec 34) (close : Option (BitVec 8)) (s : State) :
    Host.Outcome State Fault Refusal := .next (s.anvInstr 0x32 slice engine slot bits close)

/-- ANVIL_EMI (R183): opcode 0x33. -/
def execAnvilEmi (slice : Fin 16) (engine : Fin 8) (slot : Fin 3) (bits : BitVec 34) (close : Option (BitVec 8)) (s : State) :
    Host.Outcome State Fault Refusal := .next (s.anvInstr 0x33 slice engine slot bits close)

/-- ANVIL_BR (R183): opcode 0x34. -/
def execAnvilBr (slice : Fin 16) (engine : Fin 8) (slot : Fin 3) (bits : BitVec 34) (close : Option (BitVec 8)) (s : State) :
    Host.Outcome State Fault Refusal := .next (s.anvInstr 0x34 slice engine slot bits close)

/-- ANVIL_PAND (R183): opcode 0x38. -/
def execAnvilPand (slice : Fin 16) (engine : Fin 8) (slot : Fin 3) (bits : BitVec 34) (close : Option (BitVec 8)) (s : State) :
    Host.Outcome State Fault Refusal := .next (s.anvInstr 0x38 slice engine slot bits close)

/-- ANVIL_POR (R183): opcode 0x39. -/
def execAnvilPor (slice : Fin 16) (engine : Fin 8) (slot : Fin 3) (bits : BitVec 34) (close : Option (BitVec 8)) (s : State) :
    Host.Outcome State Fault Refusal := .next (s.anvInstr 0x39 slice engine slot bits close)

/-- ANVIL_PXOR (R183): opcode 0x3A. -/
def execAnvilPxor (slice : Fin 16) (engine : Fin 8) (slot : Fin 3) (bits : BitVec 34) (close : Option (BitVec 8)) (s : State) :
    Host.Outcome State Fault Refusal := .next (s.anvInstr 0x3A slice engine slot bits close)

/-- ANVIL_PANDN (R183): opcode 0x3B. -/
def execAnvilPandn (slice : Fin 16) (engine : Fin 8) (slot : Fin 3) (bits : BitVec 34) (close : Option (BitVec 8)) (s : State) :
    Host.Outcome State Fault Refusal := .next (s.anvInstr 0x3B slice engine slot bits close)

/-- ANVIL_PSET (R183): opcode 0x3C. -/
def execAnvilPset (slice : Fin 16) (engine : Fin 8) (slot : Fin 3) (bits : BitVec 34) (close : Option (BitVec 8)) (s : State) :
    Host.Outcome State Fault Refusal := .next (s.anvInstr 0x3C slice engine slot bits close)

end Sys2Proof.Machine
end

