-- ==== Sys2Proof/Machine/Deflate.lean ====
section
/-! DEFINITION. The Deflate blocks of a compression job (R250, R251): RFC 1951's block forms and codes over matches, code lengths and a code
header that the engine is free to choose. -/
namespace Sys2Proof.Machine

/-- A symbol of a block before coding: a literal byte, or a match by length and distance. -/
inductive Token where
  | lit (b : Byte)
  | copy (len dist : Nat)
deriving DecidableEq, Repr

/-! ### The codes of RFC 1951 -/

/-- The least length and the extra bits of the length codes 257 to 285. (PRESUMED, unsafe: log 190) -/
def lengthCodes : List (Nat × Nat) :=
  [(3, 0), (4, 0), (5, 0), (6, 0), (7, 0), (8, 0), (9, 0), (10, 0), (11, 1), (13, 1), (15, 1), (17, 1), (19, 2), (23, 2), (27, 2),
   (31, 2), (35, 3), (43, 3), (51, 3), (59, 3), (67, 4), (83, 4), (99, 4), (115, 4), (131, 5), (163, 5), (195, 5), (227, 5), (258, 0)]

/-- The least distance and the extra bits of the distance codes 0 to 29. (PRESUMED, unsafe: log 190) -/
def distanceCodes : List (Nat × Nat) :=
  [(1, 0), (2, 0), (3, 0), (4, 0), (5, 1), (7, 1), (9, 2), (13, 2), (17, 3), (25, 3), (33, 4), (49, 4), (65, 5), (97, 5), (129, 6),
   (193, 6), (257, 7), (385, 7), (513, 8), (769, 8), (1025, 9), (1537, 9), (2049, 10), (3073, 10), (4097, 11), (6145, 11), (8193, 12),
   (12289, 12), (16385, 13), (24577, 13)]

/-- The code of a value: its index, its extra bits and their value. -/
def codeOf (t : List (Nat × Nat)) (v : Nat) : Nat × Nat × Nat :=
  let i := (t.filter fun q => decide (q.1 ≤ v)).length - 1
  let q := t.getD i (0, 0)
  (i, q.2, v - q.1)

/-- `n` bits of a value, least significant first. -/
def bitsUp (n v : Nat) : List Bool := (List.range n).map v.testBit

/-- The first canonical code of a length. (PRESUMED, unsafe: log 190) -/
def firstCode (lens : List Nat) : Nat → Nat
  | 0 => 0
  | n + 1 => (firstCode lens n + (if n = 0 then 0 else lens.count n)) * 2

/-- The canonical code of a symbol, most significant bit first. (PRESUMED, unsafe: log 190) -/
def huffman (lens : List Nat) (i : Nat) : List Bool :=
  let n := lens.getD i 0
  (bitsUp n (firstCode lens n + (lens.take i).count n)).reverse

/-- The fixed code of RFC 1951. (PRESUMED, unsafe: log 190) -/
def fixedLit : List Nat := List.replicate 144 8 ++ List.replicate 112 9 ++ List.replicate 24 7 ++ List.replicate 8 8
def fixedDist : List Nat := List.replicate 30 5

/-- A token's bits under a pair of codes. (PRESUMED, unsafe: log 190) -/
def Token.bits (lit dist : List Nat) : Token → List Bool
  | .lit b => huffman lit b.toNat
  | .copy n d =>
    let (i, e, x) := codeOf lengthCodes n
    let (j, f, y) := codeOf distanceCodes d
    huffman lit (257 + i) ++ bitsUp e x ++ huffman dist j ++ bitsUp f y

/-! ### Matches and code lengths, the engine's choice -/

/-- The bytes that a match copies, itself included where it overlaps. -/
def copied (seen : List Byte) (n d : Nat) : List Byte := (List.range n).map fun i => seen.getD (seen.length - d + i % d) 0

/-- A match that restores the input: of 3 to 258 bytes, 1 to 32,768 back (R250). -/
def matchOk (seen rest : List Byte) (n d : Nat) : Bool :=
  decide (3 ≤ n) && decide (n ≤ 258) && decide (1 ≤ d) && decide (d ≤ 32768) && decide (d ≤ seen.length) && decide (n ≤ rest.length) &&
    rest.take n == copied seen n d

/-- The tokens of a block (R250): the engine's choice of matches, a literal where it chooses none. `pick` names the match that it chooses
after the bytes seen. (DESIGN CHOICE, safe: log 165) -/
def tokens (pick : List Byte → List Byte → Nat × Nat) : Nat → List Byte → List Byte → List Token
  | 0, _, _ => []
  | _, _, [] => []
  | f + 1, seen, b :: l =>
    let (n, d) := pick seen (b :: l)
    if matchOk seen (b :: l) n d then .copy n d :: tokens pick f (seen ++ (b :: l).take n) ((b :: l).drop n)
    else .lit b :: tokens pick f (seen ++ [b]) l

/-- The counts of the literal and length symbols, the block's end among them, and of the distance symbols of a block. -/
def symbolCounts (l : List Token) : List Nat × List Nat :=
  ((List.range 286).map fun i => (if i = 256 then 1 else 0) + (l.filter fun t => match t with
      | .lit b => b.toNat == i
      | .copy n _ => 257 + (codeOf lengthCodes n).1 == i).length,
   (List.range 30).map fun i => (l.filter fun t => match t with
      | .lit _ => false
      | .copy _ d => (codeOf distanceCodes d).1 == i).length)

/-- The Kraft sum in units of 2^-15 of the symbols that have a code. -/
def kraft (l : List Nat) : Nat := ((l.filter fun n => decide (n ≠ 0)).map fun n => 2 ^ (15 - n)).foldl (· + ·) 0

/-- Code lengths that the engine computes from the counts (R251): at most 15 bits, a code for every symbol that occurs. (DESIGN CHOICE, safe: log 165) -/
def computedLengths (counts : List Nat) : List Nat :=
  let l := (List.range counts.length).map fun i => (Config.codeLengths counts).getD i 0
  if (l.all fun n => decide (n ≤ 15)) && decide (kraft l ≤ 32768) &&
      ((l.zip counts).all fun q => decide (q.2 = 0) || decide (1 ≤ q.1)) then l
  else counts.map fun _ => 9

/-! ### Blocks (R250) -/

/-- How a job codes its blocks: its fields W0 [51:40] without those that its mode ignores, and its table set. -/
structure BlockCoding where
  mode : Nat
  chain : Nat
  fixed : Bool
  set : List Nat
deriving DecidableEq, Repr

/-- The codes of a block, and the bits of BTYPE with the header that carries them (R251): the way in which a header carries its code
lengths is the engine's. (DESIGN CHOICE, safe: log 165; PRESUMED, unsafe: log 190) -/
def BlockCoding.codes (c : BlockCoding) (l : List Token) : List Bool × List Nat × List Nat :=
  if c.mode = 0 ∨ c.fixed then (bitsUp 2 1, fixedLit, fixedDist)
  else
    let (lit, dist) := if c.mode = 2 then (c.set.take 286, c.set.drop 286)
      else (computedLengths (symbolCounts l).1, computedLengths (symbolCounts l).2)
    (bitsUp 2 2 ++ Config.codeHeader lit dist, lit, dist)

/-- The coded form of a block. -/
def BlockCoding.coded (c : BlockCoding) (last : Bool) (l : List Token) : List Bool :=
  let (head, lit, dist) := c.codes l
  last :: head ++ l.flatMap (Token.bits lit dist) ++ huffman lit 256

/-- The bits of a byte string, least significant first. -/
def bitsOfBytes (l : List Byte) : List Bool := l.flatMap fun b => bitsUp 8 b.toNat

/-- A stored block (BTYPE 00) that begins at bit `pos` of the output. (PRESUMED, unsafe: log 190) -/
def storedBlock (pos : Nat) (last : Bool) (bs : List Byte) : List Bool :=
  last :: bitsUp 2 0 ++ List.replicate ((8 - (pos + 3) % 8) % 8) false ++ bitsUp 16 bs.length ++ bitsUp 16 (65535 - bs.length) ++
    bitsOfBytes bs

/-- The blocks of 65,535 bytes of input each but the last: the shorter of the two encodings, the coded form on a tie (R250, R254). (DEDUCED, unsafe: log 165) -/
def blockBits (c : BlockCoding) (pick : List Byte → List Byte → Nat × Nat) (last : Bool) : Nat → Nat → List Byte → List Byte → List Bool
  | 0, _, _, _ => []
  | _, _, _, [] => []
  | f + 1, pos, seen, input =>
    let bs := input.take 65535
    let rest := input.drop 65535
    let coded := c.coded (last && rest.isEmpty) (tokens pick bs.length seen bs)
    let stored := storedBlock pos (last && rest.isEmpty) bs
    let b := if coded.length ≤ stored.length then coded else stored
    b ++ blockBits c pick last f (pos + b.length) (seen ++ bs) rest

/-- Bytes from bits, the last one filled with zeros. -/
def bytesOfBits : Nat → List Bool → List Byte
  | 0, _ => []
  | _, [] => []
  | f + 1, l => BitVec.ofNat 8 (((l.take 8).zip (List.range 8)).foldl (fun n q => if q.1 then n + 2 ^ q.2 else n) 0) ::
      bytesOfBits f (l.drop 8)

/-- The blocks of a job (R250): without input the empty stored block, or the empty fixed-code block that ends a stream; a job that does not
end its stream closes with an empty stored block. -/
def BlockCoding.deflate (c : BlockCoding) (history input : List Byte) (last : Bool) : List Byte :=
  if input.isEmpty then (if last then [0x03, 0x00] else [0x00, 0x00, 0x00, 0xFF, 0xFF])
  else
    let bits := blockBits c (Config.pickMatch c.mode c.chain) last input.length 0 history input
    let bits := if last then bits else bits ++ storedBlock bits.length false []
    bytesOfBits bits.length bits

end Sys2Proof.Machine
end

