-- ==== Sys2Proof/Machine/Compress.lean ====
section
/-! DEFINITION. The compression engines: jobs, streams, completions, table sets (R246 to R258). -/
namespace Sys2Proof.Machine

/-- CMP_FLAGS and sources 432 to 437 (R258). -/
def State.cmpFlag (s : State) (b : Nat) : State := s.flagRaise R.CMP_FLAGS b (R.CMP_EVCNT b) (432 + b)

/-- The state with changed compression. -/
def State.setCmp (s : State) (x : Compression) : State := { s with cmp := x }

/-- An engine, and the state with it replaced. -/
def State.cmpEngine (s : State) (e : Nat) : CmpEngine := sget (fun _ => ({} : CmpEngine)) s.cmp.engines e
def State.setCmpEngine (s : State) (e : Nat) (x : CmpEngine) : State :=
  s.setCmp { s.cmp with engines := sput (fun _ => ({} : CmpEngine)) s.cmp.engines e x }

/-- An open stream: an unlisted slot is closed. -/
def State.cmpStream (s : State) (n : Nat) : Option CmpStream := s.cmp.streams.lookup n
def State.setCmpStream (s : State) (n : Nat) (x : Option CmpStream) : State :=
  let rest := s.cmp.streams.filter fun p => p.1 != n
  s.setCmp { s.cmp with streams := match x with
    | some x => (rest.filter fun p => decide (p.1 < n)) ++ (n, x) :: rest.filter fun p => decide (n < p.1)
    | none => rest }

/-! ### A job's fields (R247) -/

def CmpJob.stream (j : CmpJob) : Nat := bitsOf j.w0.toNat 63 56
def CmpJob.start (j : CmpJob) : Bool := j.w0.getLsbD 55
def CmpJob.last (j : CmpJob) : Bool := j.w0.getLsbD 54
def CmpJob.wrap (j : CmpJob) : Nat := bitsOf j.w0.toNat 53 52
def CmpJob.mode (j : CmpJob) : Nat := bitsOf j.w0.toNat 51 50
def CmpJob.rfcFixed (j : CmpJob) : Bool := j.w0.getLsbD 49
def CmpJob.tableSet (j : CmpJob) : Nat := bitsOf j.w0.toNat 48 46
def CmpJob.chain (j : CmpJob) : Nat := bitsOf j.w0.toNat 45 40
def CmpJob.src (j : CmpJob) : BitVec 32 := BitVec.ofNat 32 (bitsOf j.w1.toNat 71 40)
def CmpJob.srcOff (j : CmpJob) : Nat := bitsOf j.w1.toNat 39 0
def CmpJob.dst (j : CmpJob) : BitVec 32 := BitVec.ofNat 32 (bitsOf j.w2.toNat 71 40)
def CmpJob.dstOff (j : CmpJob) : Nat := bitsOf j.w2.toNat 39 0
def CmpJob.srcLen (j : CmpJob) : Nat := bitsOf j.w3.toNat 71 40
def CmpJob.dstCap (j : CmpJob) : Nat := bitsOf j.w3.toNat 39 8
def CmpJob.doneQ (j : CmpJob) : Nat := bitsOf j.w3.toNat 5 0

/-- Does a job carry its table set? -/
def CmpJob.usesSet (j : CmpJob) : Bool := j.mode == 2 && !j.rfcFixed

/-- The code lengths of a table set. -/
def State.tableSet (s : State) (n : Nat) : List Nat :=
  (sgets (fun _ => (0 : BitVec 4)) s.cmp.tables (512 * n) 316).map (·.toNat)

/-- Is a table set valid (R252)? -/
def tableValid (l : List Nat) : Bool :=
  l.all (fun n => decide (1 ≤ n)) && decide (kraft (l.take 286) ≤ 32768) && decide (kraft (l.drop 286) ≤ 32768)

/-- A range beyond a live handle's size; a stale handle is judged as a poisoned one (R265). (DEDUCED, unsafe: log 164) -/
def State.beyond (s : State) (h : BitVec 32) (last : Nat) : Bool :=
  match s.buffer h with
  | some b => decide (b.size * 65536 < last)
  | none => false

/-- The checks of R248 on a job. (DEDUCED, unsafe: log 164) -/
def State.jobBad (s : State) (j : CmpJob) : Bool :=
  (j.start && j.wrap == 3) || j.mode == 3 || bitsOf j.w3.toNat 7 6 != 0 || (j.mode != 0 && j.chain == 0) || j.dstCap == 0 ||
    s.beyond j.src (j.srcOff + j.srcLen) || s.beyond j.dst (j.dstOff + j.dstCap) ||
    (!j.start && (s.cmpStream j.stream).isNone) || s.rd R.CMP_STATE_HANDLE == 0 ||
    (j.usesSet && !tableValid (s.tableSet j.tableSet))

/-! ### The Deflate stream (R250 to R254) -/

/-- Adler-32 continued over bytes. -/
def adlerStep (a : Nat) (b : Byte) : Nat :=
  let lo := (a % 65536 + b.toNat) % 65521
  (a / 65536 + lo) % 65521 * 65536 + lo
def adler32 (a : Nat) (bs : List Byte) : Nat := bs.foldl adlerStep a

/-- CRC-32 continued over bytes. -/
def crc32 (c : Nat) (bs : List Byte) : Nat := (~~~ crcBytes poly32 (~~~ BitVec.ofNat 32 c) bs).toNat

/-- A stream after more input. -/
def CmpStream.feed (x : CmpStream) (bs : List Byte) : CmpStream :=
  let h := x.history ++ bs
  { x with history := h.drop (h.length - 32768), adler := adler32 x.adler bs, crc := crc32 x.crc bs, count := x.count + bs.length }

/-- The check value of a stream (R249). -/
def CmpStream.check (x : CmpStream) : Nat := if x.wrap = 1 then x.adler else x.crc

/-- The wrapper of R253. -/
def wrapHeader (wrap mode : Nat) : List Byte :=
  match wrap with
  | 1 => [0x78, if mode = 0 then 0x01 else 0x9C]
  | 2 => [0x1F, 0x8B, 0x08, 0, 0, 0, 0, 0, if mode = 0 then 0x04 else 0x02, 0xFF]
  | _ => []
def CmpStream.trailer (x : CmpStream) : List Byte :=
  match x.wrap with
  | 1 => (toBytes 4 x.adler).reverse
  | 2 => toBytes 4 x.crc ++ toBytes 4 x.count
  | _ => []

/-- How a job codes its blocks (R247, R251): chain is ignored in line-rate mode. -/
def CmpJob.coding (j : CmpJob) (tables : List Nat) : BlockCoding :=
  ⟨j.mode, if j.mode = 0 then 0 else j.chain, j.mode == 2 && j.rfcFixed, tables⟩

/-- The stream that a job works on: a new one where start is set. (DESIGN CHOICE, unsafe: log 162) -/
def State.jobStream (s : State) (j : CmpJob) : CmpStream :=
  if j.start then { wrap := j.wrap } else (s.cmpStream j.stream).getD { wrap := 0 }

/-! ### Residency (R255) -/

/-- `n` bytes of open values. (DESIGN CHOICE, safe: log 4; DESIGN CHOICE, safe: log 165) -/
def State.openBytes (s : State) (n : Nat) : List Byte × State :=
  let (v, s) := s.fresh
  (toBytes n v, s)

/-- An engine saves its resident stream: the slot's contents are opaque. `false` while Hearth does not take them. (DESIGN CHOICE, safe: log 165) -/
def State.saveStream (s : State) (e : Nat) : Bool × State :=
  match (s.cmpEngine e).resident with
  | none => (true, s)
  | some n =>
    let (bs, s) := s.openBytes 34848
    match s.blockWrite (s.rd R.CMP_STATE_HANDLE) (34848 * n) bs with
    | (none, t) => (false, t)
    | (some _, t) =>
      let t := (t.setCmpEngine e { t.cmpEngine e with resident := none }).hearthTraffic 5 34848
      (true, t.bump (R.CMP_ENG_SWAP e))

/-- The engine that holds a stream resident. (DEDUCED, unsafe: log 163) -/
def State.residentOn (s : State) (n : Nat) : Option Nat := firstBit (fun f => (s.cmpEngine f).resident == some n) 0 8

/-- Whether a stream has become resident on an engine: not yet, or not at all where its slot cannot be read. -/
inductive Residency where
  | waits
  | ready
  | unreadable
deriving DecidableEq, Repr

/-- An engine saves its own stream and restores another, or takes one without a state (R255). (DEDUCED, unsafe: log 163) -/
def State.restoreStream (s : State) (e n : Nat) : Residency × State :=
  match s.saveStream e with
  | (false, t) => (.waits, t)
  | (true, t) =>
    if (t.cmpStream n).isNone then (.ready, t.setCmpEngine e { t.cmpEngine e with resident := some n })
    else match t.bulkRead (t.rd R.CMP_STATE_HANDLE) (34848 * n) 34848 .clean with
      | (none, t) => (.waits, t)
      | (some (_, poison, bad), t) =>
        if poison || bad then (.unreadable, t)
        else (.ready, ((t.setCmpEngine e { t.cmpEngine e with resident := some n }).bump (R.CMP_ENG_SWAP e)).hearthTraffic 5 34848)

/-- The named stream becomes resident on an engine (R255): one resident on another engine is saved there, after its current job. (DEDUCED, unsafe: log 163) -/
def State.makeResident (s : State) (e n : Nat) : Residency × State :=
  if (s.cmpEngine e).resident = some n then (.ready, s)
  else match s.residentOn n with
    | none => s.restoreStream e n
    | some f =>
      if (s.cmpEngine f).job.isSome then (.waits, s)
      else match s.saveStream f with
        | (false, t) => (.waits, t)
        | (true, t) => t.restoreStream e n

/-! ### Completion (R249, R256, R257) -/

/-- Engines that have saved their streams: save_done once all have. (DEDUCED, unsafe: log 164) -/
def State.checkSaved (s : State) : State :=
  if s.cmp.saveAll && (List.range 8).all fun e => !(s.cmpEngine e).saving then
    (s.setCmp { s.cmp with saveAll := false }).cmpFlag 5
  else s

/-- An engine that is to save its stream does so once it runs no job. -/
def State.saveIfDue (s : State) (e : Nat) : State :=
  let x := s.cmpEngine e
  if x.saving && x.job.isNone && x.waits.isNone then
    match s.saveStream e with
    | (false, t) => t
    | (true, t) => (t.setCmpEngine e { t.cmpEngine e with saving := false }).checkSaved
  else s

/-- The completion words of a job. -/
def completionWords (e : Nat) (j : CmpJob) (status outBytes check : Nat) : List Word :=
  [BitVec.ofNat 72 (0x11 * 2 ^ 64 + j.stream * 2 ^ 56 + status * 2 ^ 48 + e * 2 ^ 45 + bitsOf j.w0.toNat 39 0),
   BitVec.ofNat 72 (outBytes * 2 ^ 40 + check % 2 ^ 32 * 2 ^ 8)]

/-- A job ends: its completion waits for its queue. -/
def State.endJob (s : State) (e : Nat) (j : CmpJob) (status outBytes check : Nat) : State :=
  let s := s.setCmpEngine e { s.cmpEngine e with job := none, completion := some (j.doneQ, completionWords e j status outBytes check) }
  let s := s.setFld (R.CMP_ENG_STATUS e) F.CMP_ENG_STATUS_last status
  (if status = 0 then s.bump (R.CMP_ENG_JOBS e) else s.bump (R.CMP_ENG_FAIL e)).saveIfDue e

/-- The flag of a failure status. -/
def statusFlag : Nat → Nat
  | 1 => 4
  | 2 => 2
  | 5 => 0
  | _ => 1

/-- A job fails: its stream stays as it stood; the check value before the job, an open one where no stream was open. (DESIGN CHOICE, safe: log 165) -/
def State.failJob (s : State) (e : Nat) (j : CmpJob) (status : Nat) : State :=
  let (c, s) := s.orFresh ((s.cmpStream j.stream).map CmpStream.check)
  (s.cmpFlag (statusFlag status)).endJob e j status 0 c

/-- A frame's part of the destination of a failed job: one that is not backed, and for which the pool has no frame, stays so (R264). -/
def State.spoilFrame (h : BitVec 32) (off : Nat) (bs : List Byte) (s : State) (i : Nat) : State :=
  if ((s.buffer h).any fun b => b.frame i == .unbacked) && !s.framesFree 1 then s else State.writeFrame h off bs s i

/-- The destination range holds undefined bytes after a job that failed (R256). (DESIGN CHOICE, safe: log 165) -/
def State.spoil (s : State) (j : CmpJob) : State :=
  let (bs, s) := s.openBytes j.dstCap
  if (s.buffer j.dst).any fun b => b.held then s
  else (framesOf j.dstOff j.dstCap).foldl (State.spoilFrame j.dst j.dstOff bs) s

/-- A running job fails. -/
def State.failRunning (s : State) (e : Nat) (j : CmpJob) (status : Nat) : State :=
  let s := (s.spoil j).failJob e j status
  if j.start && (s.cmpStream j.stream).isNone && (s.cmpEngine e).resident == some j.stream then
    s.setCmpEngine e { s.cmpEngine e with resident := none }
  else s

/-- A job ends OK: its output is written, its stream advances or closes. (DESIGN CHOICE, unsafe: log 162) -/
def State.passJob (s : State) (e : Nat) (j : CmpJob) (input out : List Byte) (x : CmpStream) : State :=
  let s := if j.start && (s.cmpStream j.stream).isSome then s.bump R.CMP_ABANDON else s
  let s := s.setCmpStream j.stream (if j.last then none else some x)
  let g := s.cmpEngine e
  let g := { g with inBytes := g.inBytes + input.length, outBytes := g.outBytes + out.length,
                    resident := if j.last then none else g.resident }
  let s := (s.setCmpEngine e g).wr (R.CMP_ENG_IN e) (BitVec.ofNat 32 (g.inBytes / 1024))
  let s := s.wr (R.CMP_ENG_OUT e) (BitVec.ofNat 32 (g.outBytes / 1024))
  s.endJob e j 0 out.length x.check

/-- A job taken from the queue runs, ends at once, or waits for its stream (R255). An unreadable slot closes its
stream (R256). (DEDUCED, unsafe: log 163) -/
def State.startJob (s : State) (e : Nat) (j : CmpJob) : State :=
  let done (t : State) : State := t.setCmpEngine e { t.cmpEngine e with waits := none }
  if s.jobBad j then (done s).failJob e j 2
  else match s.makeResident e j.stream with
    | (.waits, t) => t
    | (.ready, t) => (done t).setCmpEngine e { (done t).cmpEngine e with job := some j }
    | (.unreadable, t) => (((done t).spoil j).failJob e j 6).setCmpStream j.stream none

/-- The job that waits on an engine starts, unless an engine that took a job of the same stream before still waits (R255). -/
def State.startIfFirst (s : State) (e : Nat) : State :=
  match (s.cmpEngine e).waits with
  | none => s
  | some j =>
    let before := s.cmp.waiting.takeWhile fun f => f != e
    if before.any fun f => (s.cmpEngine f).waits.any fun i => i.stream == j.stream then s
    else
      let t := s.startJob e j
      if (t.cmpEngine e).waits.isSome then t else t.setCmp { t.cmp with waiting := t.cmp.waiting.filter fun f => f != e }

/-- The jobs that wait for their streams, in the order in which they were taken. -/
def State.startWaiting (s : State) : State := s.cmp.waiting.foldl State.startIfFirst s

/-- The bytes of a job's output (R249 to R253). -/
def State.jobOutput (s : State) (j : CmpJob) (x y : CmpStream) (input : List Byte) : List Byte :=
  (if j.start then wrapHeader x.wrap j.mode else []) ++
    (j.coding (if j.usesSet then s.tableSet j.tableSet else [])).deflate x.history input j.last ++
    (if j.last then y.trailer else [])

/-- JOB_COMPLETE (R249, R250, R256): the running job has read its input and written its output, or fails. (DESIGN CHOICE, unsafe: log 162) -/
def State.jobComplete (s : State) (e : Nat) (ecc : EccResult) : State :=
  match (s.cmpEngine e).job with
  | none => s
  | some j =>
    if !s.inStates [.ready, .armed, .run, .hold] then s
    else match s.blockRead j.src j.srcOff j.srcLen ecc with
      | (.stall, t) => t
      | (.fault, t) => (t.failRunning e j 6).startWaiting
      | (.ok input, t) =>
        let t := t.hearthTraffic 4 j.srcLen
        let x := t.jobStream j
        let y := x.feed input
        let out := t.jobOutput j x y input
        match t.buffer j.dst with
        | none => (t.badAccess.failRunning e j 6).startWaiting
        | some b =>
          if b.poisoned then (t.failRunning e j 6).startWaiting
          else if j.dstCap < out.length then (t.failRunning e j 5).startWaiting
          else match t.bulkWrite j.dst j.dstOff out with
            | (false, t) => t
            | (true, t) => ((t.hearthTraffic 3 out.length).passJob e j input out y).startWaiting

/-- JOB_COMPLETE: see `State.jobComplete`. -/
def execJobComplete (engine : Fin 8) (s : State) (ecc : EccResult := .clean) : Host.Outcome State Fault Refusal :=
  .next (s.jobComplete engine ecc)

/-! ### Taking a job (R246 to R248) -/

/-- A packet's words form a job. -/
def jobOf : List Word → Option CmpJob
  | [w0, w1, w2, w3] => if bitsOf w0.toNat 71 64 = 0x10 then some ⟨w0, w1, w2, w3⟩ else none
  | _ => none

/-- May an engine take a job: enabled, with none running or waiting and no completion waiting, outside BANKED? (DEDUCED, unsafe: log 163) -/
def State.takesJob (s : State) (e : Nat) : Bool :=
  s.bit (R.CMP_ENG_CFG e) F.CMP_ENG_CFG_enable && (s.cmpEngine e).job.isNone && (s.cmpEngine e).waits.isNone &&
    (s.cmpEngine e).completion.isNone && s.inStates [.ready, .armed, .run, .hold] && s.blw.banking.isNone

/-- A job is taken: it joins those that wait for their streams, and starts where it can. -/
def State.takeJob (s : State) (e : Nat) (j : CmpJob) : State :=
  let s := s.setCmpEngine e { s.cmpEngine e with waits := some j }
  (s.setCmp { s.cmp with waiting := s.cmp.waiting ++ [e] }).startIfFirst e

/-- COMPRESSION_JOB (R246 to R248, R255, R335): the next packet of the job queue is taken; while the job's stream is resident on
an engine that runs a job, this engine waits for its save. -/
def State.compressionJob (s : State) (e : Nat) (ecc : EccResult) (badWord : Nat) : State :=
  if s.takesJob e then
    let q := s.fld (R.CMP_ENG_CFG e) F.CMP_ENG_CFG_jobq
    let x := s.queue q
    match x.slots with
    | .void _ :: rest => s.setQueue q { x with slots := rest }
    | .closed _ ws :: rest =>
      if ecc = .lasting then s.eccLasting q (badWord = 0)
      else
        let t := (if ecc = .clean then s else s.bump (R.HST_Q_ECC q)).setQueue q { x with slots := rest }
        match jobOf (ws.drop 1) with
        | none => t.cmpFlag 2
        | some j => t.takeJob e j
    | _ => s
  else s

/-- COMPRESSION_JOB: see `State.compressionJob`. -/
def execCompressionJob (engine : Fin 8) (ecc : EccResult) (badWord : Nat) (s : State) : Host.Outcome State Fault Refusal :=
  .next (s.compressionJob engine ecc badWord)

/-- COMPLETION_PUSH (R249): a waiting completion is pushed once its queue has room. -/
def State.completionPush (s : State) (e : Nat) : State :=
  match (s.cmpEngine e).completion with
  | none => s
  | some (q, ws) =>
    if s.canPush q 2 && !s.inStates [.off, .reset, .banked, .fault] then
      (s.setCmpEngine e { s.cmpEngine e with completion := none }).pushPacket q (0x88 + e) ws
    else s

/-- COMPLETION_PUSH: see `State.completionPush`. -/
def execCompletionPush (engine : Fin 8) (s : State) : Host.Outcome State Fault Refusal := .next (s.completionPush engine)

/-! ### Commands and tables (R252, R256, R257) -/

/-- What an engine still owes: a save, or the start of a job that waited. -/
def State.tickCompression (s : State) : State := (upTo 8 (fun e s => s.saveIfDue e) s).startWaiting

/-- Every engine saves its stream after its job, an idle one at once (R257). -/
def State.saveStreams (s : State) : State :=
  let s := upTo 8 (fun e s => s.setCmpEngine e { s.cmpEngine e with saving := true }) s
  upTo 8 (fun e s => s.saveIfDue e) s

/-- save_all (R257). -/
def State.saveAllStreams (s : State) : State := (s.setCmp { s.cmp with saveAll := true }).saveStreams

/-- A write of CMP_CMD: aborts, then save_all. -/
def State.writeCmpCmd (s : State) (v : BitVec 32) : State :=
  let s := upTo 8 (fun e s => match (s.cmpEngine e).job with
    | some j => if v.getLsbD (8 + e) then s.failRunning e j 1 else s
    | none => s) s
  if v.getLsbD 0 then s.startWaiting.saveAllStreams else s.startWaiting

/-- JOB_ABORT (R256): a BAR0 write of CMP_CMD with abort bits. -/
def execJobAbort (v : Reg32) (s : State) : Host.Outcome State Fault Refusal :=
  .next (s.hostWrite R.CMP_CMD v fun s => if getField v F.CMP_CMD_abort = 0 then s else s.writeCmpCmd v)

/-- SAVE_ALL (R257): a BAR0 write of CMP_CMD with save_all. -/
def execSaveAll (v : Reg32) (s : State) : Host.Outcome State Fault Refusal :=
  .next (s.hostWrite R.CMP_CMD v fun s => if v.getLsbD 0 then s.writeCmpCmd v else s)

/-- The key of the addressed code length; entry advances from 315 to 0. -/
def State.tableKey (s : State) : Nat := 512 * s.fld R.CMP_TBL_ADDR F.CMP_TBL_ADDR_set + s.fld R.CMP_TBL_ADDR F.CMP_TBL_ADDR_entry
def State.advanceTable (s : State) : State :=
  let i := s.fld R.CMP_TBL_ADDR F.CMP_TBL_ADDR_entry
  s.setFld R.CMP_TBL_ADDR F.CMP_TBL_ADDR_entry (if 315 ≤ i then 0 else i + 1)

/-- A running job uses a table set. -/
def State.setInUse (s : State) (n : Nat) : Bool :=
  (List.range 8).any fun e => match (s.cmpEngine e).job with
    | some j => j.usesSet && j.tableSet == n
    | none => false

/-- A code length stored, or refused while its set is in use (R252). -/
def State.storeLength (s : State) (key : Nat) (v : BitVec 4) : State :=
  if s.setInUse (key / 512) then s.cmpFlag 3
  else s.setCmp { s.cmp with tables := sput (fun _ => (0 : BitVec 4)) s.cmp.tables key v }

/-- A write and a read of CMP_TBL_DATA. -/
def State.writeTable (s : State) (v : BitVec 32) : State := (s.storeLength s.tableKey (v.setWidth 4)).advanceTable
def State.readTable (s : State) : BitVec 32 × State :=
  ((sget (fun _ => (0 : BitVec 4)) s.cmp.tables s.tableKey).setWidth 32, s.advanceTable)

/-- TABLE_SET_ACCESS (R252): a BAR0 access to CMP_TBL_DATA; `none` reads. -/
def execTableSetAccess (v : Option Reg32) (s : State) : Host.Outcome State Fault Refusal :=
  .next (match v with
    | some v => s.hostWrite R.CMP_TBL_DATA v fun s => s.writeTable v
    | none => s.hostAccess R.CMP_TBL_DATA (.read R.CMP_TBL_DATA) fun s =>
        let (v, t) := s.readTable; t.emit (.readData v))

/-- A write of CMP_STATE_HANDLE: ignored while a slot is open (R257). -/
def State.writeStateHandle (s : State) (v : BitVec 32) : State :=
  if s.cmp.streams.isEmpty then s.wr R.CMP_STATE_HANDLE v else s

/-- STATE_HANDLE_WRITE (R257): a BAR0 write of CMP_STATE_HANDLE. -/
def execStateHandleWrite (v : Reg32) (s : State) : Host.Outcome State Fault Refusal :=
  .next (s.hostWrite R.CMP_STATE_HANDLE v fun s => s.writeStateHandle v)

/-- A write of CMP_ENG_CFG_e: jobq is ignored while enable is set. -/
def State.writeEngCfg (s : State) (e : Nat) (v : BitVec 32) : State :=
  let k := R.CMP_ENG_CFG e
  let v := if s.bit k F.CMP_ENG_CFG_enable then putField v F.CMP_ENG_CFG_jobq (s.fld k F.CMP_ENG_CFG_jobq) else v
  s.plainWrite k v

/-- CMP_STATUS and CMP_ENG_STATUS as read. -/
def State.cmpStatus (s : State) : BitVec 32 :=
  BitVec.ofNat 32 (upTo 8 (fun e n => if (s.cmpEngine e).job.isSome then n + 2 ^ (24 + e) else n) s.cmp.streams.length)
def State.engStatus (s : State) (e : Nat) : BitVec 32 :=
  let x := s.cmpEngine e
  BitVec.ofNat 32 ((if x.job.isSome then 2 ^ 31 else 0) + (match x.resident with | some n => 2 ^ 30 + n * 256 | none => 0) +
    s.fld (R.CMP_ENG_STATUS e) F.CMP_ENG_STATUS_last)

end Sys2Proof.Machine
end

