-- ==== Sys2Proof/Machine/Tongs.lean ====
section
/-! DEFINITION. Tongs: marks, their evaluation and firing, and the marker links (R220 to R235). Instants are in 0.25 ns of
link time. -/
namespace Sys2Proof.Machine

/-- TNG_FLAGS and sources 384 to 388 (R235). -/
def State.tngFlag (s : State) (b : Nat) : State :=
  s.flagRaise R.TNG_FLAGS b (R.TNG_EVCNT b)
    (match b with | 0 => 384 | 1 => 384 | 2 => 385 | 3 => 388 | 4 => 387 | _ => 386)

/-- The state with the stored marks replaced: pending, its high-water mark and the watermark follow. -/
def State.setMarks (s : State) (m : List (Nat × Mark × MarkState)) : State :=
  let old := s.tng.marks.length
  let thr := s.fld R.TNG_PEND_WM F.TNG_PEND_WM_threshold
  let s : State := { s with tng := { s.tng with marks := m } }
  let s := (s.setFld R.TNG_PEND F.TNG_PEND_pending m.length).highWater R.TNG_PEND_HW F.TNG_PEND_HW_high_water m.length
  if old < thr ∧ thr ≤ m.length then (s.bump R.TNG_WM_CROSS).tngFlag 5 else s

/-- A mark's state replaced. -/
def State.setMark (s : State) (id : Nat) (st : MarkState) : State :=
  { s with tng := { s.tng with marks := s.tng.marks.map fun m => if m.1 = id then (id, m.2.1, st) else m } }

/-- A stored mark removed; its removal is journalled (R286). -/
def State.dropMark (s : State) (id : Nat) : State :=
  (s.setMarks (s.tng.marks.filter fun m => m.1 != id)).journal (.markGone id)

/-- A marker link, and the state with it replaced. -/
def State.link (s : State) (m : Nat) : MarkLink := sget (fun _ => ({} : MarkLink)) s.tng.links m
def State.setLink (s : State) (m : Nat) (l : MarkLink) : State :=
  { s with tng := { s.tng with links := sput (fun _ => ({} : MarkLink)) s.tng.links m l } }

/-- link_delay_ns of a channel's link, and the near limit 1,200 ns + link_delay_ns, in 0.25 ns. -/
def State.linkDelay (s : State) (m : Nat) : Nat := s.fld (R.TNG_LINK_CFG m) F.TNG_LINK_CFG_link_delay_ns
def State.nearLimit (s : State) (ch : Nat) : Nat := 4 * (1200 + s.linkDelay (ch / 128))

/-- Link time now, in 0.25 ns. -/
def State.ltNow (s : State) : Nat := 32 * s.ticks

/-- Does link frame `a` come before `b` (R225): by instant, then channel? (DESIGN CHOICE, safe: log 155) -/
def DueFrame.before (a b : DueFrame) : Bool := decide (a.t < b.t) || (a.t == b.t && decide (a.ch < b.ch))

/-- A FIRE or CANCEL joins the frames due of its link in their order. (DESIGN CHOICE, safe: log 155) -/
def insertDue (f : DueFrame) : List DueFrame → List DueFrame
  | [] => [f]
  | g :: l => if f.before g then f :: g :: l else g :: insertDue f l

/-- A frame of a channel becomes due. (DESIGN CHOICE, safe: log 155) -/
def State.queueFrame (s : State) (f : DueFrame) : State :=
  let l := s.link (f.ch / 128)
  s.setLink (f.ch / 128) { l with due := insertDue f l.due }

/-- SENT marks of a channel. -/
def State.sentOf (s : State) (ch : Nat) : Nat :=
  (s.tng.marks.filter fun m => m.2.1.ch == ch && (match m.2.2 with | .sent _ => true | _ => false)).length

/-- A mark is SENT: its FIRE frame is queued with t_fire (R224). -/
def State.sendMark (s : State) (id : Nat) (m : Mark) (t : Nat) : State :=
  (s.setMark id (.sent t)).queueFrame ⟨false, m.ch, t, id⟩

/-- A LATE mark under its channel's policy (R226). -/
def State.lateMark (s : State) (id : Nat) (m : Mark) : State :=
  if s.bit (R.TNG_CH_CFG m.ch) F.TNG_CH_CFG_late_fire then
    let s := s.tngFlag 1
    if s.sentOf m.ch < 4 then s.sendMark id m (s.ltNow + s.nearLimit m.ch) else s.setMark id .late
  else (s.dropMark id).tngFlag 0

/-- Does the master move downstream with an increasing count? -/
def State.downUp (s : State) : Bool := !s.bit R.ENC_COORD F.ENC_COORD_md_downstream_negative

/-- Has the master's count reached or passed a firing position in the downstream direction (R226)? -/
def State.passed (s : State) (n : Nat) (f : BitVec 72) : Bool :=
  let d := (BitVec.ofInt 72 ((s.enc n).count.toInt * 65536) - f).toInt
  if s.downUp then decide (0 ≤ d) else decide (d ≤ 0)

/-- The prediction of t_fire (R224) from the edge time and the period in link time (R223): while the period is valid and the last counted
edge moved downstream. (DEDUCED, unsafe: log 107) -/
def State.predict (s : State) (n : Nat) (m : Mark) : Option Int :=
  let e := s.enc n
  match e.edge with
  | some _ =>
    if s.periodValid n && e.up == some s.downUp then
      let d := (m.pos - BitVec.ofInt 72 (e.count.toInt * 65536)).toInt.natAbs
      some (((e.edgeLt + d * e.periodLt / 65536 : Nat) : Int) - 4 * m.act)
    else none
  | none => none

/-- The evaluation of a WAITING mark (R224, R226). -/
def State.evalMark (s : State) (id : Nat) (m : Mark) : State :=
  match s.master with
  | none => s
  | some n =>
    if s.passed n m.pos then s.lateMark id m
    else match s.predict n m with
      | some t => if t < ((s.ltNow + s.nearLimit m.ch : Nat) : Int) then s.lateMark id m else s
      | none => s

/-- Are marks held: after Quench (R230), in FAULT, where markers are disabled (R25), and with Tongs' clock gated? (DEDUCED, unsafe: log 156) -/
def State.marksHeld (s : State) : Bool := s.tng.frozen || s.inStates [.fault] || s.coresStopped

/-- A LATE mark that waited for its channel is sent once the channel holds fewer than four SENT marks (R226). -/
def State.sendLate (s : State) (id : Nat) (m : Mark) : State :=
  if s.sentOf m.ch < 4 then s.sendMark id m (s.ltNow + s.nearLimit m.ch) else s

/-- Every LATE mark that may be sent is sent, unless marks are held. (DEDUCED, unsafe: log 156) -/
def State.sendLates (s : State) : State :=
  if s.marksHeld then s else s.tng.marks.foldl (fun s m => if m.2.2 = .late then s.sendLate m.1 m.2.1 else s) s

/-- Every WAITING mark evaluated, after the LATE ones that may be sent, unless marks are held (R230). -/
def State.evalMarks (s : State) : State :=
  if s.marksHeld then s
  else s.tng.marks.foldl (fun s m => if m.2.2 = .waiting then s.evalMark m.1 m.2.1 else s) s.sendLates

/-- Does Tongs store marks (R222): in RUN, and in HOLD entered by a hold command? (DEDUCED, unsafe: log 154) -/
def State.storesMarks (s : State) : Bool := s.inStates [.run] || (s.inStates [.hold] && !s.tng.byQuench)

/-- A mark created for a channel (R220 to R222): not stored outside RUN and HOLD or with the store full; stored marks are
journalled and evaluated on arrival unless marks are held (R230). (DESIGN CHOICE, safe: log 21; DEDUCED, unsafe: log 154) -/
def State.createMark (s : State) (m : Mark) : State :=
  let s := s.bump R.TNG_MARKS
  if !s.storesMarks then s.tngFlag 3
  else if s.fld R.TNG_CAP F.TNG_CAP_capacity ≤ s.tng.marks.length then s.tngFlag 2
  else
    let id := s.tng.nextId
    let s : State := { s with tng := { s.tng with nextId := id + 1 } }
    let s := (s.setMarks (s.tng.marks ++ [(id, m, .waiting)])).journal (.mark id m)
    if s.marksHeld then s else s.evalMark id m

/-- Does a channel mark a class over columns lo to hi (R220, TNG_LINK_CFG)? -/
def State.channelHits (s : State) (ch cls lo hi : Nat) : Bool :=
  s.bit (R.TNG_CH_CFG ch) F.TNG_CH_CFG_enable && s.bit (R.TNG_LINK_CFG (ch / 128)) F.TNG_LINK_CFG_enable &&
    (s.fld (R.TNG_CH_CFG ch) F.TNG_CH_CFG_class_mask).testBit (cls - 1) &&
    decide (s.fld (R.TNG_CH_CDLO ch) F.TNG_CH_CDLO_cd_lo ≤ hi) && decide (lo ≤ s.fld (R.TNG_CH_CDHI ch) F.TNG_CH_CDHI_cd_hi)

/-- A record passed to Tongs (R220): a mark for each channel it hits, in channel order. (DEDUCED, unsafe: log 154) -/
def State.markRecord (s : State) (cls lo hi : Nat) (mdFirst : BitVec 72) : State :=
  let chs := (List.range 1024).filter fun ch => s.channelHits ch cls lo hi
  if chs.isEmpty then s.bump R.TNG_NOCHAN
  else chs.foldl (fun s ch =>
    let o := BitVec.ofNat 72 (s.fld (R.TNG_CH_OFS ch) F.TNG_CH_OFS_ofs * 256)
    s.createMark ⟨ch, if s.downUp then mdFirst + o else mdFirst - o, s.fld (R.TNG_CH_ACT ch) F.TNG_CH_ACT_act_ns⟩) s

/-- CANCEL for every SENT mark far enough ahead (R229); the marks return to WAITING. -/
def State.cancelMarks (s : State) : State :=
  s.tng.marks.foldl (fun s m =>
    match m.2.2 with
    | .sent t =>
      if s.ltNow + s.nearLimit m.2.1.ch ≤ t then
        ((s.setMark m.1 .waiting).queueFrame ⟨true, m.2.1.ch, t, m.1⟩).tngFlag 4
      else s
    | _ => s) s

/-- On leaving RUN or HOLD for ARMED (R222, R229): CANCEL as above, then every mark not sent is discarded. (DEDUCED, unsafe: log 156) -/
def State.discardMarks (s : State) : State :=
  let s := s.cancelMarks
  s.tng.marks.foldl (fun s m =>
    match m.2.2 with
    | .sent _ => s
    | _ => (s.dropMark m.1).tngFlag 3) s

/-- Quench (R230): enabled links send K23.7, frames due are withdrawn, SENT marks return to WAITING and are held with the others. (DEDUCED, unsafe: log 156) -/
def State.quenchMarks (s : State) : State :=
  let s := upTo 8 (fun m s =>
    let s := s.setLink m { s.link m with due := [], config := [] }
    if s.bit (R.TNG_LINK_CFG m) F.TNG_LINK_CFG_enable then s.emit (.markerQuench m) else s) s
  { s with tng := { s.tng with frozen := true,
                               marks := s.tng.marks.map fun m => match m.2.2 with
                                 | .sent _ => (m.1, m.2.1, .waiting)
                                 | _ => m } }

/-- Release of Quench (R230, R232): a CONFIG is due for every channel of the enabled links. (DEDUCED, unsafe: log 156) -/
def State.releaseMarks (s : State) : State :=
  upTo 8 (fun m s =>
    if s.bit (R.TNG_LINK_CFG m) F.TNG_LINK_CFG_enable then
      s.setLink m { s.link m with config := (List.range 128).map (128 * m + ·) }
    else s) s

/-- Entry to RUN by RESUME, or START (R230): held marks are evaluated at once. (DEDUCED, unsafe: log 156) -/
def State.thawMarks (s : State) : State := ({ s with tng := { s.tng with frozen := false, byQuench := false } } : State).evalMarks

/-- MARK_SEND (R224, R225): the commit point of a WAITING mark has come and its channel has fewer than four SENT marks. -/
def execMarkSend (id : Nat) (s : State) : Host.Outcome State Fault Refusal :=
  .next (
    match s.tng.marks.lookup id, s.master with
    | some (m, .waiting), some n =>
      if s.marksHeld || s.passed n m.pos then s
      else match s.predict n m with
        | some t =>
          if t < ((s.ltNow + s.nearLimit m.ch : Nat) : Int) then s.lateMark id m
          else if t - s.ltNow ≤ (400 * s.fld R.TNG_CFG F.TNG_CFG_commit : Nat) ∧ s.sentOf m.ch < 4 then
            s.sendMark id m t.toNat
          else s
        | none => s
    | _, _ => s)

/-- MARK_FIRED (R224 to R226): link time has passed t_fire; a late mark that waited for its channel is sent. CLK_CTL is gated in BANKED
until step 5 of a wake (R15, R407). -/
def execMarkFired (id : Nat) (s : State) : Host.Outcome State Fault Refusal :=
  .next (
    match s.tng.marks.lookup id with
    | some (m, .sent t) =>
      if s.coresStopped = false ∧ t ≤ s.ltNow ∧ (s.link (m.ch / 128)).due.all (fun f => f.mark != id) then
        let s := ((s.bump (R.TNG_CH_COUNT m.ch)).bump R.TNG_FIRED).dropMark id
        match s.tng.marks.find? (fun x => x.2.1.ch == m.ch && x.2.2 == .late) with
        | some x => if s.marksHeld then s else s.sendLate x.1 x.2.1
        | none => s
      else s
    | _ => s)

/-! ### Frames (R231, R232) -/

/-- One bit of CRC-8 with x^8 + x^2 + x + 1. -/
def crc8Bit (c : Nat) : Nat := if 128 ≤ c then (2 * c) % 256 ^^^ 7 else 2 * c
def crc8Byte (c b : Nat) : Nat := upTo 8 (fun _ c => crc8Bit c) (c ^^^ b)

/-- The CRC-8 of a list of octets, initial value 0. -/
def crc8 (l : List Nat) : Nat := l.foldl crc8Byte 0

/-- A frame's six octets: the K character, octets 1 to 4, their CRC-8. -/
def frameOctets (k : Nat) (o : List Nat) : List Byte := (k :: o ++ [crc8 o]).map (BitVec.ofNat 8)

/-- The three octets of an instant modulo 2^24 ns. -/
def lt24 (ns : Nat) : List Nat := [ns % 256, ns / 256 % 256, ns / 65536 % 256]

/-- May a link send frames: enabled, no Quench, the data path clocked? -/
def State.linkSends (s : State) (m : Nat) : Bool :=
  s.bit (R.TNG_LINK_CFG m) F.TNG_LINK_CFG_enable && !s.bit R.HST_QUENCH F.HST_QUENCH_quench &&
    !s.inStates [.off, .reset, .banked, .fault]

/-- A SYNC that has been due for 5 µs goes before FIRE and CANCEL. -/
def State.syncFirst (s : State) (m : Nat) : Bool :=
  match (s.link m).sync with
  | some t => decide (625 ≤ s.ticks - t)
  | none => false

/-- A FIRE or CANCEL frame of the wanted kind, if it is the next frame of the link. (DESIGN CHOICE, safe: log 155) -/
def State.markFrame (s : State) (m : Nat) (cancel : Bool) : State :=
  match (s.link m).due with
  | f :: l =>
    if s.linkSends m && !s.syncFirst m && f.cancel == cancel then
      let s := s.setLink m { s.link m with due := l }
      let s := s.emit (.markerFrame m (frameOctets (if cancel then 0xFD else 0xFB) (f.ch % 128 :: lt24 (f.t / 4))))
      s.bump (if cancel then R.TNG_LINK_CANCEL m else R.TNG_LINK_FIRE m)
    else s
  | [] => s

/-- FIRE_FRAME (R231, R232). -/
def execFireFrame (m : Fin 8) (s : State) : Host.Outcome State Fault Refusal := .next (s.markFrame m false)
/-- CANCEL_FRAME (R231, R232). -/
def execCancelFrame (m : Fin 8) (s : State) : Host.Outcome State Fault Refusal := .next (s.markFrame m true)

/-- SYNC_DUE (R232): link time has passed a multiple of 10,000 ns. -/
def execSyncDue (m : Fin 8) (s : State) : Host.Outcome State Fault Refusal :=
  .next (
    let l := s.link m
    if s.linkSends m && decide (l.syncs < s.nowNs / 10000) then
      s.setLink m { l with sync := some (l.sync.getD s.ticks), syncs := s.nowNs / 10000 }
    else s)

/-- SYNC_FRAME (R231, R232): link time at the driver, fire_enable in RUN and in HOLD entered by a hold command. -/
def execSyncFrame (m : Fin 8) (s : State) : Host.Outcome State Fault Refusal :=
  .next (
    let l := s.link m
    if s.linkSends m && l.sync.isSome && (s.syncFirst m || l.due.isEmpty) then
      let s := s.setLink m { l with sync := none }
      let fe := if s.storesMarks then 8 else 0
      (s.emit (.markerFrame m (frameOctets 0x3C ((fe + m.val) :: lt24 (s.nowNs + s.linkDelay m))))).bump (R.TNG_LINK_SYNC m)
    else s)

/-- CONFIG_FRAME (R231, R232): the width of the next channel due. -/
def execConfigFrame (m : Fin 8) (s : State) : Host.Outcome State Fault Refusal :=
  .next (
    let l := s.link m
    match l.config with
    | ch :: rest =>
      if s.linkSends m && l.sync.isNone && l.due.isEmpty then
        let w := s.fld (R.TNG_CH_WIDTH ch) F.TNG_CH_WIDTH_width_us
        let s := s.setLink m { l with config := rest }
        (s.emit (.markerFrame m (frameOctets 0x7C [ch % 128, w % 256, w / 256, 0]))).bump (R.TNG_LINK_CONFIG m)
      else s
    | [] => s)

/-- A write of TNG_LINK_CFG (R232, R234): enabling makes CONFIG due for all channels; disabling idles the balls. -/
def State.writeLinkCfg (s : State) (m : Nat) (v : BitVec 32) : State :=
  let was := s.bit (R.TNG_LINK_CFG m) F.TNG_LINK_CFG_enable
  let s := s.plainWrite (R.TNG_LINK_CFG m) v
  let on := s.bit (R.TNG_LINK_CFG m) F.TNG_LINK_CFG_enable
  if on && !was then
    let s := s.setLink m { s.link m with config := (List.range 128).map (128 * m + ·), syncs := s.nowNs / 10000 }
    if s.bit R.HST_QUENCH F.HST_QUENCH_quench then s.emit (.markerQuench m) else s
  else if was && !on then s.setLink m { s.link m with due := [], sync := none, config := [] }
  else s

/-- MARKER_LINK_ENABLE (R232): a write that sets enable. -/
def execMarkerLinkEnable (m : Fin 8) (v : Reg32) (s : State) : Host.Outcome State Fault Refusal :=
  .next (s.hostWrite (R.TNG_LINK_CFG m) v fun s => if v.getLsbD 31 then s.writeLinkCfg m v else s)

/-- MARKER_LINK_DISABLE (R234): a write that clears enable. -/
def execMarkerLinkDisable (m : Fin 8) (v : Reg32) (s : State) : Host.Outcome State Fault Refusal :=
  .next (s.hostWrite (R.TNG_LINK_CFG m) v fun s => if v.getLsbD 31 then s else s.writeLinkCfg m v)

/-- A write of TNG_CH_WIDTH (R232): a CONFIG is due for the channel. -/
def State.writeChWidth (s : State) (ch : Nat) (v : BitVec 32) : State :=
  let s := s.plainWrite (R.TNG_CH_WIDTH ch) v
  let l := s.link (ch / 128)
  if s.bit (R.TNG_LINK_CFG (ch / 128)) F.TNG_LINK_CFG_enable && !l.config.contains ch then
    s.setLink (ch / 128) { l with config := l.config ++ [ch] }
  else s

/-- CHANNEL_WIDTH_WRITE: see `State.writeChWidth`. -/
def execChannelWidthWrite (ch : Fin 1024) (v : Reg32) (s : State) : Host.Outcome State Fault Refusal :=
  .next (s.hostWrite (R.TNG_CH_WIDTH ch) v fun s => s.writeChWidth ch v)

end Sys2Proof.Machine
end

