-- ==== Sys2Proof/Machine/Encoder.lean ====
section
/-! DEFINITION. Encoder inputs: edges, references, standstill, presets, configuration (R46 to R58, R69, R70). -/
namespace Sys2Proof.Machine

/-- ENC_STATUS flag `b` of input `n`, its counter, and source 160 + 4b + n (R70). -/
def State.encFlag (s : State) (n b : Nat) : State :=
  s.flagRaise (R.ENC_STATUS n) b (R.ENC_EVCNT n b) (160 + 4 * b + n)

/-- Does an input count (R48)? (DEDUCED, unsafe: log 108) -/
def State.encCounts (s : State) (n : Nat) : Bool :=
  s.bit (R.ENC_CFG n) F.ENC_CFG_enable && !s.blw.porAsserted && !s.inStates [.off]

/-- The period made invalid until `need` counted edges have come (R56). (DEDUCED, unsafe: log 108) -/
def State.dropPeriod (s : State) (n need : Nat) : State :=
  (s.setEnc n { s.enc n with need := need }).setFld (R.ENC_PERIOD n) F.ENC_PERIOD_valid 0

/-- Standstill of an input (R57); the master's standstill cancels SENT marks (R229). -/
def State.standStill (s : State) (n : Nat) : State :=
  let s := (s.dropPeriod n 2).setFld (R.ENC_STATUS n) F.ENC_STATUS_moving 0
  let s := (s.setEnc n { s.enc n with quiet := none }).encFlag n 1
  if s.master = some n then s.cancelMarks.sendLates else s

/-- A counted edge (R52, R55, R56): `cnt` counts in a direction, its period recorded divided by `cnt` and truncated (DESIGN CHOICE,
unsafe: log 173). A level of B that has changed since the last counted edge (`flipped`) makes the edge a reversal for R56 also where its
direction is that of the last one; R63 and R229 take the direction (DEDUCED, unsafe: log 174). Marks are evaluated in no state in which
marker frames are disabled (R25). (DEDUCED, unsafe: log 107; DEDUCED, unsafe: log 108) -/
def State.countEdge (s : State) (n : Nat) (up flipped : Bool) (cnt tq sample lt : Nat) : State :=
  let before := s.posAt n tq sample
  let per := (s.enc n).edge.map fun t => tq - t.1
  let long := match per with | some p => decide (0x7FFFFFFF < p) | none => false
  let s := if long && (s.enc n).quiet.isSome then s.standStill n else s
  let e := s.enc n
  let turn := e.up == some (!up)
  let rev := turn || (flipped && e.up.isSome)
  let need := if long then 2 else e.need
  let valid := decide (need ≤ 1) && !rev && per.isSome
  let d := BitVec.ofNat 56 cnt
  let s := s.setEnc n { e with count := if up then e.count + d else e.count - d, edge := some (tq, sample), edgeLt := lt, up := some up, flipped := false,
                               periodLt := if valid then (lt - e.edgeLt) / cnt else e.periodLt,
                               need := if rev then 1 else need - 1, quiet := some s.ticks }
  let s := s.setFld (R.ENC_PERIOD n) F.ENC_PERIOD_valid (if valid then 1 else 0)
  let s := if valid then s.setFld (R.ENC_PERIOD n) F.ENC_PERIOD_period (per.getD 0 / cnt) else s
  let s := s.setFld (R.ENC_STATUS n) F.ENC_STATUS_moving 1
  let s := s.setFld (R.ENC_STATUS n) F.ENC_STATUS_dir_up (if up then 1 else 0)
  let s := if rev then s.encFlag n 2 else s
  let s := s.trigAtEdge n turn e.up.isNone before tq sample
  if s.master = some n then (if turn then s.cancelMarks else s).evalMarks else s

/-- The count loaded with the preset value (R58). -/
def State.preset (s : State) (n : Nat) : State :=
  let v := (s.rd (R.ENC_PRESET_HI n)).toNat * 2 ^ 32 + (s.rd (R.ENC_PRESET_LO n)).toNat
  (s.setEnc n { s.enc n with count := BitVec.ofNat 56 v }).dropPeriod n 2

/-- A reference (R51, R58): ref_seen, the latch units that select it, an armed preset; a preset of the active master is
refused. (DEDUCED, unsafe: log 108) -/
def State.takeReference (s : State) (n tq sample counter : Nat) : State :=
  let s := (s.encFlag n 3).latchSource (0x40 + n) tq sample counter
  if (s.enc n).armed then
    let s := s.setEnc n { s.enc n with armed := false }
    if s.master = some n then s.encFlag n 4 else s.preset n
  else s

/-- The place of a phase pair (A, B) in the upward sequence 00, 10, 11, 01 (R49). -/
def phase (a b : Bool) : Nat := match a, b with
  | false, false => 0
  | true, false => 1
  | true, true => 2
  | false, true => 3

/-- The levels of A and B after a sample; in pulse-train mode a change of B is kept for the next counted edge (R52). -/
def EncIn.levels (e : EncIn) (a b : Bool) : EncIn := { e with a := a, b := b, flipped := e.flipped || b != e.b }

/-- QUADRATURE_EDGE (R49, R50): a sample with new levels of A and B; the levels are followed in either mode. -/
def execQuadratureEdge (n : Fin 4) (a b : Bool) (tap : Fin 32) (s : State) : Host.Outcome State Fault Refusal :=
  .next (
    let e := s.enc n
    if s.blw.porAsserted || s.inStates [.off] then s
    else
      let d := (phase a b + 4 - phase e.a e.b) % 4
      let s := s.setEnc n (e.levels a b)
      if !s.encCounts n || s.fld (R.ENC_CFG n) F.ENC_CFG_mode != 0 || d == 0 then s
      else if d = 2 then
        let u := s.fld (R.ENC_UNCERT n) F.ENC_UNCERT_uncert
        let s := s.setFld (R.ENC_UNCERT n) F.ENC_UNCERT_uncert (min 65535 (u + 2))
        ((s.setEnc n { s.enc n with uncertain := BitVec.allOnes 16 }).dropPeriod n 2).encFlag n 0
      else s.countEdge n ((d == 1) != s.bit (R.ENC_CFG n) F.ENC_CFG_invert_dir) false 1 (s.edgeTq tap) (s.edgeSample tap) (s.edgeLt tap))

/-- PULSE_TRAIN_EDGE (R52 to R54): a rising edge of ENC_A with ENC_B's level; a gap, an extra tooth, or one count. -/
def execPulseTrainEdge (n : Fin 4) (b : Bool) (tap : Fin 32) (s : State) : Host.Outcome State Fault Refusal :=
  .next (
    if s.blw.porAsserted || s.inStates [.off] then s
    else
    let s := s.setEnc n ((s.enc n).levels true b)
    if !s.encCounts n || s.fld (R.ENC_CFG n) F.ENC_CFG_mode != 1 then s
    else
      let flipped := (s.enc n).flipped
      let tq := s.edgeTq tap
      let lt := s.edgeLt tap
      let smp := s.edgeSample tap
      let up := b != s.bit (R.ENC_CFG n) F.ENC_CFG_invert_dir
      let ratio := s.fld (R.ENC_CFG n) F.ENC_CFG_gap_ratio
      let kind := s.fld (R.ENC_CFG n) F.ENC_CFG_gap_kind
      let p := match (s.enc n).edge with | some t => tq - t.1 | none => 0
      let judged := s.periodValid n && (s.enc n).up == some up && !flipped
      if judged ∧ kind = 1 ∧ ratio * s.period n < 16 * p then
        (s.countEdge n up flipped (s.fld (R.ENC_CFG n) F.ENC_CFG_gap_teeth + 1) tq smp lt).takeReference n tq smp (s.edgeCounter tap)
      else if judged ∧ kind = 2 ∧ p * ratio < 16 * s.period n then s.takeReference n tq smp (s.edgeCounter tap)
      else s.countEdge n up flipped 1 tq smp lt)

/-- REFERENCE (R51): a Z edge to `level`; one to the active level is a reference in quadrature mode. -/
def execReference (n : Fin 4) (tap : Fin 32) (s : State) (level : Bool := true) : Host.Outcome State Fault Refusal :=
  .next (
    if s.blw.porAsserted || s.inStates [.off] || (s.enc n).z == level then s
    else
      let s := s.setEnc n { s.enc n with z := level }
      if s.encCounts n && s.fld (R.ENC_CFG n) F.ENC_CFG_mode == 0 && level != s.bit (R.ENC_CFG n) F.ENC_CFG_z_active_low then
        s.takeReference n (s.edgeTq tap) (s.edgeSample tap) (s.edgeCounter tap)
      else s)

/-- STANDSTILL (R57): timeout_us have passed without a counted edge, also on an input that has been disabled since. -/
def execStandstill (n : Fin 4) (s : State) : Host.Outcome State Fault Refusal :=
  .next (match (s.enc n).quiet with
    | some t =>
      if !s.blw.porAsserted && !s.inStates [.off] && s.passedUs t (s.fld (R.ENC_STILL n) F.ENC_STILL_timeout_us) then s.standStill n
      else s
    | none => s)

/-- A write of ENC_CMD (R58): refused for the active master. -/
def State.writeEncCmd (s : State) (n : Nat) (v : BitVec 32) : State :=
  if !v.getLsbD 0 && !v.getLsbD 1 then s
  else if s.master = some n then s.encFlag n 4
  else
    let s := if v.getLsbD 1 then s.setEnc n { s.enc n with armed := true } else s
    if v.getLsbD 0 then s.preset n else s

/-- PRESET_NOW (R58): a write of ENC_CMD with preset_now set. -/
def execPresetNow (n : Fin 4) (v : Reg32) (s : State) : Host.Outcome State Fault Refusal :=
  .next (s.hostWrite (R.ENC_CMD n) v fun s => if v.getLsbD 0 then s.writeEncCmd n v else s)

/-- ARM_REF (R58): a write of ENC_CMD with arm_ref set. -/
def execArmRef (n : Fin 4) (v : Reg32) (s : State) : Host.Outcome State Fault Refusal :=
  .next (s.hostWrite (R.ENC_CMD n) v fun s => if v.getLsbD 1 then s.writeEncCmd n v else s)

/-- A write of ENC_CFG (R56, R69): while enabled only a clear of enable acts; enabling starts counting afresh. -/
def State.writeEncCfg (s : State) (n : Nat) (v : BitVec 32) : State :=
  if s.bit (R.ENC_CFG n) F.ENC_CFG_enable then
    if v.getLsbD 31 then s
    else (s.setFld (R.ENC_CFG n) F.ENC_CFG_enable 0).dropPeriod n 2
  else
    let s := s.plainWrite (R.ENC_CFG n) v
    if s.bit (R.ENC_CFG n) F.ENC_CFG_enable then
      (s.setEnc n { s.enc n with edge := none, up := none, flipped := false, quiet := some s.ticks }).dropPeriod n 2
    else s

/-- ENC_CFG_WRITE: see `State.writeEncCfg`. -/
def execEncCfgWrite (n : Fin 4) (v : Reg32) (s : State) : Host.Outcome State Fault Refusal :=
  .next (s.hostWrite (R.ENC_CFG n) v fun s => s.writeEncCfg n v)

/-- A write of ENC_STILL (R69): ignored while enabled. -/
def State.writeEncStill (s : State) (n : Nat) (v : BitVec 32) : State :=
  if s.bit (R.ENC_CFG n) F.ENC_CFG_enable then s else s.plainWrite (R.ENC_STILL n) v

end Sys2Proof.Machine
end

