-- ==== Sys2Proof/Machine/Bloom.lean ====
section
/-! DEFINITION. Bloom: labelling, closure, features, records, crops and the record queue (R199 to R219). -/
namespace Sys2Proof.Machine

/-- The state with a changed Bloom. -/
def State.setBlm (s : State) (x : BloomEngine) : State := { s with blm := x }

/-- BLM_FLAGS with sources 368 to 374 (R219). -/
def State.blmFlag (s : State) (b : Nat) : State := s.flagRaise R.BLM_FLAGS b (R.BLM_EVCNT b) (368 + b)

/-- The settings of R218. (DEDUCED, unsafe: log 151) -/
def blmSettings : List Nat :=
  [R.BLM_CFG, R.BLM_OUT, R.BLM_MIN_AREA, R.BLM_MARK_MIN, R.BLM_CLASS, R.BLM_CROP_CFG, R.BLM_CROP_MAX]

/-- The settings written take effect (R218). (DEDUCED, unsafe: log 151) -/
def State.takeBlmCfg (s : State) : State :=
  s.setBlm { s.blm with cfg := blmSettings.foldl (fun m k => sput regReset m k (s.rd k)) s.blm.cfg }

/-! ### Runs (R200) -/

/-- The class and the measure of a class pixel. -/
def pixClass (v : Nat) : Nat := v / 256 % 16
def pixMeasure (v : Nat) : Nat := v % 256

/-- The runs of a class line from column `x`, with the start of a run that is open. -/
def runsFrom : Nat → Option Nat → List Nat → List (Nat × Nat)
  | x, some a, [] => [(a, x - 1)]
  | _, none, [] => []
  | x, some a, v :: l => if pixClass v = 0 then (a, x - 1) :: runsFrom (x + 1) none l else runsFrom (x + 1) (some a) l
  | x, none, v :: l => if pixClass v = 0 then runsFrom (x + 1) none l else runsFrom (x + 1) (some x) l

/-- The maximal runs of columns whose class is not 0. -/
def runsOf (cls : List Nat) : List (Nat × Nat) := runsFrom 0 none cls

/-- Does run `p` of the previous line touch run `r` of the present one? -/
def touches (conn4 : Bool) (p r : Nat × Nat) : Bool :=
  if conn4 then decide (r.1 ≤ p.2) && decide (p.1 ≤ r.2) else decide (r.1 ≤ p.2 + 1) && decide (p.1 ≤ r.2 + 1)

/-- The columns of a run that no run of a list covers. (DEDUCED, unsafe: log 149) -/
def uncovered (r : Nat × Nat) (l : List (Nat × Nat)) : Nat :=
  ((List.range (r.2 + 1 - r.1)).filter fun i => !(l.any fun q => decide (q.1 ≤ r.1 + i) && decide (r.1 + i ≤ q.2))).length

/-- Has a run a neighbour column with its exclude bit set in a line (R207)? (DEDUCED, unsafe: log 149) -/
def runExcluded (excl : List Bool) (r : Nat × Nat) : Bool :=
  (List.range (r.2 + 3 - r.1)).any fun i => decide (1 ≤ r.1 + i) && excl.getD (r.1 + i - 1) false

/-! ### Accumulation and merging (R201, R202, R205 to R207) -/

/-- Is one bloom earlier than another (R201)? -/
def OpenBloom.earlier (a b : OpenBloom) : Bool := decide (a.oseq < b.oseq) || (a.oseq == b.oseq && decide (a.ocol < b.ocol))

/-- A bloom absorbs another. -/
def OpenBloom.absorb (a b : OpenBloom) : OpenBloom :=
  { a with
    area := a.area + b.area, sum := a.sum + b.sum, min := Nat.min a.min b.min, max := Nat.max a.max b.max,
    cdMin := Nat.min a.cdMin b.cdMin, cdMax := Nat.max a.cdMax b.cdMax, sumX := a.sumX + b.sumX,
    sumW1 := a.sumW1 + b.sumW1,
    hist := b.hist.foldl (fun m q => sput (fun _ => (0 : Nat)) m q.1 (sget (fun _ => (0 : Nat)) m q.1 + q.2)) a.hist,
    merges := a.merges + 1 + b.merges, edge := a.edge || b.edge, overflow := a.overflow || b.overflow,
    continued := a.continued || b.continued, flags := a.flags ||| b.flags, perim := a.perim + b.perim,
    lastSeq := Nat.max a.lastSeq b.lastSeq, lastW1 := if a.lastSeq < b.lastSeq then b.lastW1 else a.lastW1,
    frontier := a.frontier ++ b.frontier, fresh := a.fresh ++ b.fresh }

/-- A run of the present line added to a bloom. `lw`: line_width; `prev`: the runs of the previous line; `excl`: the
exclude bits of the previous and of the present line. -/
def OpenBloom.addRun (b : OpenBloom) (l : CommitLine) (lw : Nat) (prev : List (Nat × Nat)) (prevExcl : List Bool)
    (r : Nat × Nat) : OpenBloom :=
  let px := (l.cls.drop r.1).take (r.2 + 1 - r.1)
  let n := px.length
  let ms := px.map pixMeasure
  { b with
    area := b.area + n, sum := b.sum + ms.foldl (· + ·) 0, min := ms.foldl Nat.min b.min, max := ms.foldl Nat.max b.max,
    cdMin := Nat.min b.cdMin r.1, cdMax := Nat.max b.cdMax r.2,
    sumX := b.sumX + ((List.range n).map fun i => r.1 + i).foldl (· + ·) 0,
    sumW1 := b.sumW1 + n * signed 72 l.line.w1.toNat,
    hist := px.foldl (fun m v => sput (fun _ => (0 : Nat)) m (pixClass v) (sget (fun _ => (0 : Nat)) m (pixClass v) + 1)) b.hist,
    edge := b.edge || r.1 == 0 || r.2 + 1 == lw || runExcluded prevExcl r || runExcluded l.line.excl r,
    flags := b.flags ||| bitsOf l.line.w0.toNat 21 16, perim := b.perim + 2 + uncovered r prev,
    lastSeq := l.line.k, lastW1 := l.line.w1, fresh := b.fresh ++ [r] }

/-- The blooms of the previous line as the present line finds them: the columns below their frontier that it leaves
uncovered, and its exclude bits. -/
def OpenBloom.below (b : OpenBloom) (runs : List (Nat × Nat)) (excl : List Bool) : OpenBloom :=
  { b with perim := b.perim + (b.frontier.map fun f => uncovered f runs).foldl (· + ·) 0,
           edge := b.edge || b.frontier.any (runExcluded excl) }

/-- The count of open regular blooms, and of overflow blooms. -/
def regularCount (l : List OpenBloom) : Nat := (l.filter fun b => b.ovf.isNone).length
def overflowCount (l : List OpenBloom) : Nat := (l.filter fun b => b.ovf.isSome).length

/-- What labelling one line carries along: the open blooms, the runs added to overflow blooms, the upward crossings of the
watermark and the highest count of open regular blooms. -/
structure Labelling where
  blooms : List OpenBloom
  ovfRuns : Nat := 0
  crossings : Nat := 0
  high : Nat := 0

/-- A new bloom with its first run. -/
def newBloom (l : CommitLine) (index : Nat) (r : Nat × Nat) (ovf : Option Nat) (continued : Bool) : OpenBloom :=
  { ovf := ovf, oseq := l.line.k, ocol := r.1, firstW1 := l.line.w1, firstW2 := l.line.w2, lastSeq := l.line.k,
    lastW1 := l.line.w1, index := index, cdMin := r.1, cdMax := r.2, overflow := ovf.isSome, continued := continued }

/-- What labelling takes of the line and of Bloom's settings. -/
structure LabelEnv where
  l : CommitLine
  lw : Nat
  sw : Nat
  conn4 : Bool
  index : Nat
  prev : List (Nat × Nat)
  prevExcl : List Bool
  cut : List (Nat × Nat)
  threshold : Nat

/-- The labelling of one run (R202, R204, R205). -/
def labelRun (e : LabelEnv) (a : Labelling) (r : Nat × Nat) : Labelling :=
  let add (b : OpenBloom) : OpenBloom := b.addRun e.l e.lw e.prev e.prevExcl r
  let hit (b : OpenBloom) : Bool := b.frontier.any fun f => touches e.conn4 f r
  let t := a.blooms.filter hit
  match t with
  | [] =>
    let cont := e.cut.any fun f => touches e.conn4 f r
    let n := regularCount a.blooms
    if n < 262144 then
      { a with blooms := a.blooms ++ [add (newBloom e.l e.index r none cont)], high := max a.high (n + 1),
               crossings := a.crossings + (if n + 1 = e.threshold then 1 else 0) }
    else
      let st := if e.sw = 0 then 0 else r.1 / e.sw
      if a.blooms.any fun b => b.ovf == some st then
        { a with blooms := a.blooms.map fun b => if b.ovf = some st then add b else b, ovfRuns := a.ovfRuns + 1 }
      else { a with blooms := a.blooms ++ [add (newBloom e.l e.index r (some st) cont)], ovfRuns := a.ovfRuns + 1 }
  | b :: bs =>
    let s := bs.foldl (fun m x => if x.earlier m then x else m) b
    let merged := (t.filter fun x => !(x.oseq == s.oseq && x.ocol == s.ocol)).foldl OpenBloom.absorb s
    { a with blooms := (a.blooms.filter fun x => !hit x) ++ [add merged],
             ovfRuns := a.ovfRuns + (if s.ovf.isSome then 1 else 0) }

/-! ### Records (R206 to R212) -/

/-- A saturating value and whether it saturated. -/
def satNat (bits v : Nat) : Nat × Bool := if 2 ^ bits ≤ v then (2 ^ bits - 1, true) else (v, false)
def satInt (bits : Nat) (v : Int) : Int × Bool :=
  let c := clampInt (-(2 : Int) ^ (bits - 1)) ((2 : Int) ^ (bits - 1) - 1) v
  (c, decide (c ≠ v))

/-- Pixels of a class. -/
def OpenBloom.count (b : OpenBloom) (c : Nat) : Nat := sget (fun _ => (0 : Nat)) b.hist c

/-- The dominant class: the lowest of those with the greatest count. -/
def OpenBloom.cls (b : OpenBloom) : Nat :=
  (List.range 15).foldl (fun m i => if b.count m < b.count (i + 1) then i + 1 else m) 1

/-- The histogram of 15 bins. -/
def OpenBloom.histogram (b : OpenBloom) : Nat :=
  ((List.range 15).map fun i =>
    let n := b.count (i + 1)
    (if n = 0 then 0 else Nat.min 15 (1 + 14 * n / b.area)) * 2 ^ (4 * i)).foldl (· + ·) 0

/-- The flags field of W0 without the mark and crop bits (R210). -/
def OpenBloom.flagBits (b : OpenBloom) (saturated : Bool) : Nat :=
  let tag (i o : Nat) : Nat := if b.flags.testBit i then 2 ^ o else 0
  b.overflow.toNat * 2 ^ 55 + b.forced.toNat * 2 ^ 54 + b.continued.toNat * 2 ^ 53 + b.edge.toNat * 2 ^ 52 +
    saturated.toNat * 2 ^ 51 + tag 2 47 + tag 0 46 + tag 3 45 + tag 5 44 + tag 4 43 + tag 1 42

/-- The eight words of a record (R206, R207, R209), without the mark and crop fields. -/
def OpenBloom.record (b : OpenBloom) (serial : Nat) : List Word :=
  let w0 := signed 72 b.firstW1.toNat
  let (area, s1) := satNat 36 b.area
  let (sum, s2) := satNat 36 b.sum
  let (span, s3) := satInt 36 (sar (signed 72 b.lastW1.toNat - w0) 12)
  let (mdc, s4) := satInt 32 ((b.sumW1 - b.area * w0) / (4096 * b.area : Nat))
  let (merges, s5) := satNat 12 b.merges
  let cdc := 64 * b.sumX / b.area
  let (perim, s6) := satNat 28 b.perim
  let sat := s1 || s2 || s3 || (s4 && !s1) || s5 || s6
  [BitVec.ofNat 72 (2 ^ 64 + 8 * 2 ^ 60 + b.cls * 2 ^ 56 + b.flagBits sat + serial % 2 ^ 40),
   b.firstW1,
   BitVec.ofNat 72 (wrapTo 36 span * 2 ^ 36 + b.cdMax * 2 ^ 18 + b.cdMin),
   BitVec.ofNat 72 (if s1 then 0 else b.histogram),
   BitVec.ofNat 72 (area * 2 ^ 36 + sum),
   BitVec.ofNat 72 ((if s1 then 0 else cdc * 2 ^ 48 + wrapTo 32 mdc * 2 ^ 16) + b.min * 2 ^ 8 + b.max),
   b.firstW2,
   BitVec.ofNat 72 (perim * 2 ^ 12 + merges)]

/-- The crop box of a record (R212). -/
def State.cropBox (s : State) (b : OpenBloom) : Crop :=
  let mcd := s.blmCfg R.BLM_CROP_CFG F.BLM_CROP_CFG_margin_cd
  let mmd := s.blmCfg R.BLM_CROP_CFG F.BLM_CROP_CFG_margin_md
  let cd0 := (b.cdMin - mcd) / 6 * 6
  let cd1 := min (s.lineWidth - 1) (b.cdMax + mcd)
  { first := (b.oseq : Int) - mmd, last := (b.lastSeq : Int) + mmd, cd0 := cd0, cd1 := cd1, cw := cdiv (cd1 + 1 - cd0) 6,
    ch := s.blmCfg R.BLM_CROP_CFG F.BLM_CROP_CFG_channel, handle := 0 }

/-- The lines and the words of a crop. -/
def Crop.lines (c : Crop) : Nat := (c.last + 1 - c.first).toNat
def Crop.words (c : Crop) : Nat := c.lines * (3 + c.cw)

/-- A word of a record with bits set. -/
def setBits (l : List Word) (i v : Nat) : List Word := l.set i (l.getD i 0 ||| BitVec.ofNat 72 v)

/-- The records formed and not yet pushed: those of the FIFO, and those that wait for a place in it (R214). -/
def BloomEngine.records (x : BloomEngine) : List Record := x.fifo ++ x.stalled

/-- The engine with its records: the first 4,096 are in the FIFO. -/
def BloomEngine.withRecords (x : BloomEngine) (l : List Record) : BloomEngine :=
  { x with fifo := l.take 4096, stalled := l.drop 4096 }

/-- BLM_REC_FIFO follows the FIFO; rec_hold is set as it fills (R214). (DEDUCED, unsafe: log 150) -/
def State.setRecords (s : State) (l : List Record) : State :=
  let old := s.blm.fifo.length
  let s := (s.setBlm (s.blm.withRecords l)).setFld R.BLM_REC_FIFO F.BLM_REC_FIFO_waiting (min 4096 l.length)
  if old < 4096 ∧ 4096 ≤ l.length then s.blmFlag 5 else s

/-- A formed record's crop: allocated at once, or refused (R212); the record joins the FIFO. -/
def State.requestCrop (s : State) (b : OpenBloom) (serial : Nat) (ws : List Word) : State :=
  let wanted := s.blmCfg R.BLM_CROP_CFG F.BLM_CROP_CFG_crop_en == 1 &&
    (s.blmCfg R.BLM_CLASS F.BLM_CLASS_crop_mask).testBit (b.cls - 1)
  if !wanted then s.setRecords (s.blm.records ++ [{ serial := serial, words := ws }])
  else
    let c := s.cropBox b
    let fits := decide (c.words ≤ 1024 * s.blmCfg R.BLM_CROP_MAX F.BLM_CROP_MAX_max_kwords)
    match if fits then s.hearthTake (cdiv (9 * c.words) 65536) .crop 0 0 else none with
    | some (h, s) =>
      let r : Record := { serial := serial, words := setBits ws 7 (h.toNat * 2 ^ 40), handle := h, crop := some { c with handle := h } }
      s.setRecords (s.blm.records ++ [r])
    | none => (s.setRecords (s.blm.records ++ [{ serial := serial, words := setBits ws 0 (3 * 2 ^ 48) }])).blmFlag 4

/-- A closed bloom: discarded below min_area, or its record formed, passed to Tongs and given its crop (R208 to R212). (DEDUCED, unsafe: log 150) -/
def State.formRecord (s : State) (b : OpenBloom) : State :=
  if b.area < s.blmCfg R.BLM_MIN_AREA F.BLM_MIN_AREA_min_area then s.bump R.BLM_DISCARD
  else
    let serial := s.blm.serial
    let ws := b.record serial
    let mark := (s.blmCfg R.BLM_CLASS F.BLM_CLASS_mark_mask).testBit (b.cls - 1) &&
      decide (s.blmCfg R.BLM_MARK_MIN F.BLM_MARK_MIN_mark_min_area ≤ b.area)
    let s := (s.setBlm { s.blm with serial := (serial + 1) % 2 ^ 40 }).bump R.BLM_RECORDS
    let s := if (serial + 1) % 65536 = 0 then s.journal (.serial ((serial + 1) % 2 ^ 40)) else s
    let s := if mark then s.markRecord b.cls b.cdMin b.cdMax b.firstW1 else s
    s.requestCrop b serial (if mark then setBits ws 0 (2 ^ 50) else ws)

/-! ### Closure (R203, R204) -/

/-- Blooms in order of origin. (DEDUCED, unsafe: log 150) -/
def insertBloom (b : OpenBloom) : List OpenBloom → List OpenBloom
  | [] => [b]
  | c :: l => if b.earlier c then b :: c :: l else c :: insertBloom b l
/-- DEDUCED, unsafe: log 150. -/
def byOrigin (l : List OpenBloom) : List OpenBloom := l.foldl (fun m b => insertBloom b m) []

/-- BLM_OPEN follows the table. -/
def State.setBlooms (s : State) (l : List OpenBloom) : State :=
  (s.setBlm { s.blm with blooms := l }).wr R.BLM_OPEN (BitVec.ofNat 32 (overflowCount l * 2 ^ 24 + regularCount l))

/-- A bloom force-closed: the neighbours across the closure count as class 0 (R207). (DEDUCED, unsafe: log 149) -/
def OpenBloom.force (b : OpenBloom) : OpenBloom :=
  { b with forced := true, perim := b.perim + (b.frontier.map fun f => f.2 + 1 - f.1).foldl (· + ·) 0 }

/-- Every open bloom closes with forced set (R204). (DEDUCED, unsafe: log 149) -/
def State.closeAllBlooms (s : State) : State :=
  let bs := byOrigin (s.blm.blooms.map OpenBloom.force)
  let s := upTo bs.length (fun _ s => s.blmFlag 2) s
  let s := s.setBlm { s.blm with cut := s.blm.cut ++ s.blm.blooms.flatMap fun b => b.frontier }
  let s := s.setBlooms []
  bs.foldl State.formRecord s

/-- A partial interval has been processed: every crop requested so far may be cut. -/
def State.cropsDue (s : State) : State :=
  s.setRecords (s.blm.records.map fun r => { r with crop := r.crop.map fun c => { c with due := true } })

/-- The closure that follows the committed lines: after a partial interval, crops may be cut (R198, R204, R213). (DEDUCED, safe: log 66) -/
def State.closeNow (s : State) (partialDone : Bool) : State :=
  if partialDone then s.closeAllBlooms.cropsDue else s.closeAllBlooms

/-- The forced closure of every open bloom once the committed lines have been processed. (DEDUCED, safe: log 66) -/
def State.requestCloseAll (s : State) (partialDone : Bool) : State :=
  if s.blm.committed.isEmpty then s.closeNow partialDone
  else s.setBlm { s.blm with committed := s.blm.committed ++ [.closeAll partialDone] }

/-- Does Bloom work: it stops in FAULT, and its clock in BANKED (R15, R217)? -/
def State.bloomRuns (s : State) : Bool := s.inStates [.ready, .armed, .run, .hold]

/-- A flush (R204): no line is in process between commands, so every open bloom closes at once. -/
def State.flushBlooms (s : State) : State := if s.bloomRuns then s.closeAllBlooms else s

/-- FLUSH: see `State.flushBlooms`. -/
def execFlush (v : Reg32) (s : State) : Host.Outcome State Fault Refusal :=
  .next (s.hostWrite R.BLM_CMD v fun s => if v.getLsbD 0 then s.flushBlooms else s)

/-! ### A committed line (R199, R202, R215 to R218) -/

/-- BLM_CB_LEVEL: the entries of the lines in the buffer that Bloom has not read. -/
def State.syncBuffer (s : State) : State :=
  let n := s.blm.buffer.length + (s.blm.committed.filter fun i => match i with | .line _ _ _ => true | .closeAll _ => false).length
  s.setFld R.BLM_CB_LEVEL F.BLM_CB_LEVEL_used (n * s.lineWidth)

/-- The class source's line for the units that read it (R236). -/
def State.classSource (s : State) (l : CommitLine) : State :=
  if s.inStates [.armed, .run, .hold] then
    upTo 8 (fun u s => match (s.ostUnit u).active with
      | some p =>
        if p.source = 5 ∧ (s.ostUnit u).run.state ≠ .idle then
          let mask := getField p.cfg F.OST_CFG_class_mask
          let px := l.cls.map fun v => if pixClass v ≠ 0 ∧ mask.testBit (pixClass v - 1) then pixMeasure v else 0
          s.ostLine u p { k := l.line.k, w0 := l.line.w0, w1 := l.line.w1, w2 := l.line.w2, px := px } (s.pixCycle 0)
        else s
      | none => s) s
  else s

/-- CLK_PIX cycles of a line against C of R158 (R215). -/
def State.runOverload (s : State) (runs : Nat) : Bool :=
  match s.anv.rate with
  | none => false
  | some (a, n) => decide (a < (max (cdiv (cdiv s.lineWidth 6) 16) (cdiv runs 16) + 32) * n)

/-- The labelling of a line, closure and the records of the blooms closed, all of them in order of origin (R202 to R208). `all`: the line
ends a partial interval, or the lines before a stop, so that the forced closures take every bloom that stays open. -/
def State.bloomLabel (s : State) (l : CommitLine) (all : Bool) : State :=
  let runs := runsOf l.cls
  let prev := s.blm.blooms.flatMap fun b => b.frontier
  let e : LabelEnv := { l := l, lw := s.lineWidth, sw := s.stripeWidth, conn4 := s.blmCfg R.BLM_CFG F.BLM_CFG_conn4 == 1,
                        index := s.blm.lines, prev := prev, prevExcl := s.blm.prevExcl, cut := s.blm.cut,
                        threshold := s.fld R.BLM_OPEN_WM F.BLM_OPEN_WM_threshold }
  let a := runs.foldl (labelRun e) { blooms := s.blm.blooms.map fun b => b.below runs l.line.excl }
  let s := s.setBlm { s.blm with lines := s.blm.lines + 1, lastSeq := l.line.k, prevExcl := l.line.excl }
  let s := upTo a.ovfRuns (fun _ s => (s.bump R.BLM_OVF_RUNS).blmFlag 0) s
  let s := upTo a.crossings (fun _ s => (s.bump R.BLM_OPEN_CROSS).blmFlag 1) s
  let s := s.highWater R.BLM_OPEN_HW F.BLM_OPEN_HW_high_water (max a.high (regularCount a.blooms))
  let gone := a.blooms.filter fun b => b.fresh.isEmpty
  let kept := (a.blooms.filter fun b => !b.fresh.isEmpty).map fun b => { b with frontier := b.fresh, fresh := [] }
  let lim := s.blmCfg R.BLM_CFG F.BLM_CFG_max_lines
  let long (b : OpenBloom) : Bool := all || (decide (lim ≠ 0) && decide (b.index + lim ≤ s.blm.lines))
  let forced := (kept.filter long).map OpenBloom.force
  let s := upTo forced.length (fun _ s => s.blmFlag 2) s
  let s := s.setBlm { s.blm with cut := forced.flatMap fun b => b.frontier }
  let s := s.setBlooms (kept.filter fun b => !long b)
  (byOrigin (gone ++ forced)).foldl State.formRecord s

/-- BLOOM_LINE: Bloom reads the next committed line in ARMED, RUN and HOLD while the record FIFO is not full (R199, R214,
R217); a forced closure that waits for the committed lines follows the last of them. -/
def State.bloomLine (s : State) : State :=
  if !s.inStates [.armed, .run, .hold] || decide (4096 ≤ s.blm.fifo.length) then s
  else match s.blm.committed with
    | [] => s
    | .closeAll p :: rest => (s.setBlm { s.blm with committed := rest }).closeNow p
    | .line l _ first :: rest =>
      let s := (s.setBlm { s.blm with committed := rest }).syncBuffer
      let s := if first then s.takeBlmCfg.ostBoundary true l.line.k else s
      let s := (s.classSource l).bump R.BLM_LINES
      let s := if s.runOverload (runsOf l.cls).length then s.blmFlag 6 else s
      match s.blm.committed with
      | .closeAll p :: rest =>
        let s := (s.setBlm { s.blm with committed := rest }).bloomLabel l true
        if p then s.cropsDue else s
      | _ => s.bloomLabel l false

/-- BLOOM_LINE: see `State.bloomLine`. -/
def execBloomLine (s : State) : Host.Outcome State Fault Refusal := .next s.bloomLine

/-- The total area of the open blooms (R217). -/
def State.bloomArea (s : State) : Nat := (s.blm.blooms.map fun b => b.area).foldl (· + ·) 0

/-! ### Crops (R213) -/

/-- May the cut of a crop start: its last interval has committed, or a partial interval has been processed? -/
def State.cropReady (s : State) (c : Crop) : Bool :=
  c.due || (match s.blm.lastCommit with | some j => decide (c.last < ((16 * (j + 1) : Nat) : Int)) | none => false)

/-- The record of a serial number takes a change of its crop and words. -/
def changeRecord (serial : Nat) (f : Record → Record) (l : List Record) : List Record :=
  l.map fun q => if q.serial = serial then f q else q

/-- CROP_CUT (R213): crops are cut one at a time in serial order, once Hearth has their frames (R264) and grants the channel ring's
reads. (DESIGN CHOICE, unsafe: log 89) -/
def State.cropCut (s : State) (ecc : EccResult) : State :=
  match s.blm.records.find? fun r => r.crop.isSome with
  | some r => match r.crop with
    | some c =>
      if s.bloomRuns && s.cropReady c && !s.framesOwed then
        match s.blockEcc (s.rd (R.ANV_IMG_HANDLE c.ch)) 0 1 ecc with
        | (false, t) => t
        | (true, t) => t.setRecords (changeRecord r.serial (fun q => { q with crop := some { c with cutting := true } }) t.blm.records)
      else s
    | none => s
  | none => s

/-- CROP_CUT: see `State.cropCut`. -/
def execCropCut (s : State) (ecc : EccResult := .clean) : Host.Outcome State Fault Refusal := .next (s.cropCut ecc)

/-- A channel ring's slot for a stitched line: its words, or none where the slot does not hold the sequence. -/
def State.imgSlot (s : State) (ch : Nat) (k : Int) : Option (List Word) :=
  let cfg := s.rd (R.ANV_IMG ch)
  let seq := wrapTo 40 k
  if getField cfg F.ANV_IMG_to_hearth = 0 ∨ getField cfg F.ANV_IMG_enable = 0 then none
  else
    let off := seq % 2 ^ getField cfg F.ANV_IMG_ring_log2 * s.imgStride * 9
    let n := 3 + cdiv s.lineWidth 6
    let ws := denseWords n (s.readBuffer (s.rd (R.ANV_IMG_HANDLE ch)) off (9 * n)).1
    if bitsOf (ws.getD 0 0).toNat 71 32 = seq ∧ ws.getD 0 0 ≠ BitVec.allOnes 72 then some ws else none

/-- The words of one crop line (R213). -/
def Crop.lineWords (c : Crop) (slot : List Word) : List Word :=
  slot.take 3 ++ (List.range c.cw).map fun i =>
    let x0 := c.cd0 + 6 * i
    fromLanes 12 ((List.range 6).map fun j => if x0 + j ≤ c.cd1 then lane 12 j (slot.getD (3 + x0 / 6) 0) else 0)

/-- The lines of a crop written to its buffer; how many had no slot. -/
def State.writeCrop (s : State) (c : Crop) : State × Nat :=
  (List.range c.lines).foldl (fun (a : State × Nat) (i : Nat) =>
    let (s, miss) := a
    let slot := s.imgSlot c.ch (c.first + i)
    let ws := match slot with
      | some ws => c.lineWords ws
      | none => List.replicate (3 + c.cw) 0
    (s.writeBuffer c.handle (9 * (i * (3 + c.cw))) (packDense ws), if slot.isNone then miss + 1 else miss)) (s, 0)

/-- CROP_DONE (R213): the crop being cut has been written; it is complete, or partial where lines were missing, each of which sets
crop_partial. -/
def State.cropDone (s : State) : State :=
  match s.blm.records.find? fun r => match r.crop with | some c => c.cutting | none => false with
  | some r => match r.crop with
    | some c =>
      if s.bloomRuns = false ∨ s.hbmBusy then s
      else
        let (s, miss) := s.writeCrop c
        let s := s.hearthTraffic 3 (18 * c.words)
        let s := s.setRecords (changeRecord r.serial (fun q =>
          { q with crop := none, words := setBits q.words 0 ((if 0 < miss then 2 else 1) * 2 ^ 48) }) s.blm.records)
        upTo miss (fun _ s => s.blmFlag 3) s
    | none => s
  | none => s

/-- CROP_DONE: see `State.cropDone`. -/
def execCropDone (s : State) : Host.Outcome State Fault Refusal := .next s.cropDone

/-! ### The record queue (R214) -/

/-- A crop whose record has been pushed becomes pageable (R261). (DEDUCED, unsafe: log 152) -/
def State.releaseCrop (s : State) (h : BitVec 32) : State :=
  match s.buffer h with
  | some b => (s.setBuffer h { b with pinned := false }).hearthSync
  | none => s

/-- RECORD_PUSH (R214): the oldest record goes to rec_q as one packet once its crop is settled and the queue has room. (DEDUCED, unsafe: log 152) -/
def State.recordPush (s : State) : State :=
  match s.blm.fifo with
  | [] => s
  | r :: rest =>
    let q := s.blmCfg R.BLM_OUT F.BLM_OUT_rec_q
    if r.crop.isNone && s.canPush q 8 && s.bloomRuns then
      let s := (s.setRecords (rest ++ s.blm.stalled)).pushPacket q 0x82 r.words
      if r.handle = 0 then s else s.releaseCrop r.handle
    else s

/-- RECORD_PUSH: see `State.recordPush`. -/
def execRecordPush (s : State) : Host.Outcome State Fault Refusal := .next s.recordPush

end Sys2Proof.Machine
end

