-- ==== Sys2Proof/Machine/Temper.lean ====
section
/-! DEFINITION. Temper: HBM retraining, interpolator calibration and the coefficient window (R381 to R389). -/
namespace Sys2Proof.Machine

/-- The state with a changed Temper. -/
def State.setTmp (s : State) (t : Temper) : State := { s with tmp := t }

/-- The states in which Temper runs its schedules (R388). -/
def State.temperRuns (s : State) : Bool := s.inStates [.ready, .armed, .run, .hold]

/-- The die temperature that Bellows reports, in 0.25 °C. -/
def State.dieTemp (s : State) : Int := s.sfld R.BLW_TEMP F.BLW_TEMP_die

/-- A retraining waits or runs. -/
def State.hbmActive (s : State) : Bool := s.tmp.hbmDue.isSome || s.tmp.hbmStart.isSome

/-- A retraining becomes due and waits (R382). -/
def State.makeHbmDue (s : State) : State :=
  (s.setTmp { s.tmp with hbmDue := some s.ticks, overdue := false, boundary := false }).setFld
    R.TMP_STATUS F.TMP_STATUS_hbm_waiting 1

/-- RETRAIN_DUE (R382): the period has passed, or the die temperature has moved by temp_step. -/
def execRetrainDue (s : State) : Host.Outcome State Fault Refusal :=
  let step := s.fld R.TMP_CFG F.TMP_CFG_temp_step
  let moved := step ≠ 0 ∧ 4 * step ≤ (s.dieTemp - s.tmp.lastTemp).natAbs
  let period := s.passedUs s.tmp.hbmEnd (1000 * s.fld R.TMP_CFG F.TMP_CFG_hbm_period_ms) = true
  .next (if s.temperRuns ∧ s.hbmActive = false ∧ s.bit R.TMP_CFG F.TMP_CFG_hbm_en ∧ (moved ∨ period)
    then s.makeHbmDue else s)

/-- A write of run_hbm (R382, R384): ignored while a retraining waits or runs. -/
def State.runHbm (s : State) : State := if s.temperRuns ∧ s.hbmActive = false then s.makeHbmDue else s

/-- RUN_HBM: a write of TMP_CMD with run_hbm. -/
def execRunHbm (s : State) : Host.Outcome State Fault Refusal := .next (s.hostWrite R.TMP_CMD 1 fun s => s.runHbm)

/-- RETRAIN_OVERDUE (R382): still waiting 10 ms after becoming due. -/
def execRetrainOverdue (s : State) : Host.Outcome State Fault Refusal :=
  .next (match s.tmp.hbmDue with
    | some t => if s.tmp.overdue = false ∧ s.passedUs t 10000 then (s.setTmp { s.tmp with overdue := true }).tmpFlag 2 else s
    | none => s)

/-- The start of a pause (R383). (DEDUCED, unsafe: log 104) -/
def State.startRetraining (s : State) : State :=
  let s := s.setTmp { s.tmp with hbmDue := none, boundary := false, hbmStart := some s.ticks }
  (s.setFld R.TMP_STATUS F.TMP_STATUS_hbm_waiting 0).setFld R.TMP_STATUS F.TMP_STATUS_hbm_busy 1

/-- Codes written over a set, but for those of the pseudo-channels of a list (R383). (DESIGN CHOICE, safe: log 105) -/
def takeCodes (failed : List (Fin 16)) (m : List (Nat × Nat)) (l : List (Fin 1152 × Fin 64)) : List (Nat × Nat) :=
  l.foldl (fun m p => if failed.any fun c => c.val = p.1.val / 72 then m else sput (fun _ => 32) m p.1.val p.2.val) m

/-- Measured codes recorded. -/
def recordCodes (m : List (Nat × Nat)) (l : List (Fin 1152 × Fin 64)) : List (Nat × Nat) :=
  l.foldl (fun m p => sput (fun _ => 0) m p.1.val p.2.val) m

/-- The largest code change of a measurement that takes effect. -/
def maxMove (failed : List (Fin 16)) (m : List (Nat × Nat)) (l : List (Fin 1152 × Fin 64)) : Nat :=
  l.foldl (fun a p => if failed.any fun c => c.val = p.1.val / 72 then a
    else max a ((p.2.val : Int) - ((sget (fun _ => 32) m p.1.val : Nat) : Int)).natAbs) 0

/-- New HBM codes take effect and are journalled, but for failed pseudo-channels (R381, R383, R388). (DESIGN CHOICE, safe: log 105) -/
def State.applyHbm (s : State) (r : HbmResult) (failed : List (Fin 16)) : State :=
  let rd := takeCodes failed s.tmp.hbmRead r.read
  let wr := takeCodes failed s.tmp.hbmWrite r.write
  (s.setTmp { s.tmp with hbmRead := rd, hbmWrite := wr }).journal (.temper 0 rd wr)

/-- The end of a retraining (R383, R384). (DESIGN CHOICE, safe: log 105) -/
def State.retrainEnd (s : State) (r : HbmResult) : State :=
  let again := s.tmp.hbmRetry
  let freeze := s.bit R.TMP_CFG F.TMP_CFG_hbm_freeze
  let applied : Option (List (Fin 16)) :=
    if freeze then none else if r.failed.isEmpty then some [] else if again then some r.failed else none
  let move := match applied with
    | some f => max (maxMove f s.tmp.hbmRead r.read) (maxMove f s.tmp.hbmWrite r.write)
    | none => 0
  let s := match applied with
    | some f => s.applyHbm r f
    | none => s
  let s := s.setTmp { s.tmp with hbmStart := none, hbmEnd := s.ticks, lastTemp := s.dieTemp,
                                 measuredRead := recordCodes s.tmp.measuredRead r.read,
                                 measuredWrite := recordCodes s.tmp.measuredWrite r.write,
                                 hbmRetry := !r.failed.isEmpty && !again }
  let s := (s.setFld R.TMP_STATUS F.TMP_STATUS_hbm_busy 0).bump R.TMP_HBM_RUNS
  let s := (s.setFld R.TMP_HBM_LAST F.TMP_HBM_LAST_min_eye r.minEye).setFld R.TMP_HBM_LAST F.TMP_HBM_LAST_max_move move
  let s := if r.atLimit then s.tmpFlag 3 else s
  if r.failed.isEmpty then s
  else if again then s.tmpFlag 1
  else (s.tmpFlag 0).makeHbmDue

/-- RETRAIN_END (R383): a pause lasts 8 µs. (DESIGN CHOICE, safe: log 1; DESIGN CHOICE, safe: log 7) -/
def execRetrainEnd (r : HbmResult) (s : State) : Host.Outcome State Fault Refusal :=
  .next (match s.tmp.hbmStart with
    | some t => if s.passedUs t 8 then s.retrainEnd r else s
    | none => s)

/-! ### Interpolator calibration (R385, R386) -/

/-- The states in which the calibration schedule runs (R388: BANKED keeps it). (DEDUCED, unsafe: log 103) -/
def State.tdcRuns (s : State) : Bool := s.inStates [.ready, .armed, .run, .hold, .banked]

/-- TDC_DUE (R385, R386): the period has passed, or 1 ms since a failed calibration. -/
def execTdcDue (s : State) : Host.Outcome State Fault Refusal :=
  let period := s.bit R.TMP_CFG F.TMP_CFG_tdc_en &&
    s.passedUs s.tmp.tdcEnd (1000 * s.fld R.TMP_TDC_PERIOD F.TMP_TDC_PERIOD_tdc_period_ms)
  let again := match s.tmp.tdcAgain with
    | some t => decide (t ≤ s.ticks)
    | none => false
  .next (if s.tdcRuns ∧ s.tmp.tdcStart = none ∧ (period || again) then
      s.setTmp { s.tmp with tdcDue := some s.ticks, tdcAgain := none }
    else s)

/-- A write of run_tdc makes a calibration due (R385). -/
def State.runTdc (s : State) : State :=
  if s.tdcRuns ∧ s.tmp.tdcStart = none then s.setTmp { s.tmp with tdcDue := some s.ticks } else s

/-- RUN_TDC: a write of TMP_CMD with run_tdc. -/
def execRunTdc (s : State) : Host.Outcome State Fault Refusal := .next (s.hostWrite R.TMP_CMD 2 fun s => s.runTdc)

/-- At a CLK_TIME tick a due calibration starts (R385). (DEDUCED, unsafe: log 103) -/
def State.tickTdc (s : State) : State :=
  if s.tmp.tdcDue.isSome ∧ s.tmp.tdcStart = none then
    (s.setTmp { s.tmp with tdcDue := none, tdcStart := some s.ticks }).setFld R.TMP_STATUS F.TMP_STATUS_tdc_busy 1
  else s

/-- Trims that take effect: those of the interpolators not in a list (R386). (DESIGN CHOICE, safe: log 105) -/
def takeTrims (failed : List (Fin 110)) (m : List (Nat × Nat)) (l : List (Fin 3520 × Fin 64 × Fin 256)) :
    List (Nat × Nat) :=
  l.foldl (fun m p => if failed.any fun u => u.val = p.1.val / 32 then m else sput (fun _ => 32) m p.1.val p.2.1.val) m

/-- The end of a calibration (R385, R386). (DESIGN CHOICE, safe: log 105) -/
def State.tdcFinish (s : State) (r : TdcResult) : State :=
  let freeze := s.bit R.TMP_CFG F.TMP_CFG_tdc_freeze
  let trims := if freeze then s.tmp.trims else takeTrims r.failed s.tmp.trims r.trims
  let meas := r.trims.foldl (fun m p => sput (fun _ => 0) m p.1.val p.2.2.val) s.tmp.measuredTrims
  let lasting := r.failed.any fun u => s.tmp.tdcFailed.contains u.val
  let first := (r.failed.filter fun u => !s.tmp.tdcFailed.contains u.val).map fun u => u.val
  let s := s.setTmp { s.tmp with tdcStart := none, tdcEnd := s.ticks, trims := trims, measuredTrims := meas,
                                 tdcFailed := first,
                                 tdcAgain := if first.isEmpty then none else some (s.ticks + 125000) }
  let s := (s.setFld R.TMP_STATUS F.TMP_STATUS_tdc_busy 0).bump R.TMP_TDC_RUNS
  let s := if freeze then s else s.journal (.temper 2 trims [])
  let s := if first.isEmpty then s else s.tmpFlag 4
  if lasting then s.tmpFlag 5 else s

/-- TDC_END (R385): the test lasts 2,500 ticks. (DESIGN CHOICE, safe: log 7) -/
def execTdcEnd (r : TdcResult) (s : State) : Host.Outcome State Fault Refusal :=
  .next (match s.tmp.tdcStart with
    | some t => if 2500 ≤ s.ticks - t then s.tdcFinish r else s
    | none => s)

/-- TMP_STATUS.since_ms: ms since the last retraining ended, saturating. -/
def State.sinceMs (s : State) : Nat := min 65535 ((s.ticks - s.tmp.hbmEnd) / 125000)

/-- TMP_COEF_DATA (R381): the selected coefficient's measured and active values. -/
def State.coefData (s : State) : BitVec 32 :=
  let i := s.fld R.TMP_COEF_SEL F.TMP_COEF_SEL_index
  let (m, a) := match s.fld R.TMP_COEF_SEL F.TMP_COEF_SEL_kind with
    | 0 => (sget (fun _ => 0) s.tmp.measuredRead i, sget (fun _ => 32) s.tmp.hbmRead i)
    | 1 => (sget (fun _ => 0) s.tmp.measuredWrite i, sget (fun _ => 32) s.tmp.hbmWrite i)
    | 2 => (sget (fun _ => 0) s.tmp.measuredTrims i, sget (fun _ => 32) s.tmp.trims i)
    | _ => (sget (fun _ => 0) s.tmp.measuredDeskew i, sget (fun _ => 0) s.tmp.deskew i)
  BitVec.ofNat 32 (m % 256 * 65536 + a % 256)

/-- The number of coefficients of a kind (TMP_COEF_SEL). -/
def coefCount (kind : Nat) : Nat := match kind with | 0 => 1152 | 1 => 1152 | 2 => 3520 | _ => 64

/-- A read of TMP_COEF_DATA advances the index, wrapping within the kind. -/
def State.advanceCoef (s : State) : State :=
  let n := coefCount (s.fld R.TMP_COEF_SEL F.TMP_COEF_SEL_kind)
  let i := s.fld R.TMP_COEF_SEL F.TMP_COEF_SEL_index + 1
  s.setFld R.TMP_COEF_SEL F.TMP_COEF_SEL_index (if n ≤ i then 0 else i)

/-- COEF_DATA_READ (R381): a BAR0 read of TMP_COEF_DATA. -/
def execCoefDataRead (s : State) : Host.Outcome State Fault Refusal :=
  .next (s.hostAccess R.TMP_COEF_DATA (.read R.TMP_COEF_DATA) fun s => (s.emit (.readData s.coefData)).advanceCoef)

end Sys2Proof.Machine
end

