-- ==== Sys2Proof/Machine/Lanes.lean ====
section
/-! DEFINITION. Camera links: bring-up, the mailbox, loss, Wimen, packets, eye scans (R71 to R93, R387). A link is named by
the device lane of its master connection. -/
namespace Sys2Proof.Machine

/-- The link state codes of R77. (DEDUCED, unsafe: log 114) -/
def linkCode : LinkState → Nat
  | .down => 0 | .discover => 1 | .config => 2 | .retune => 3 | .up => 4

/-- The connections a layout gives a link, 0 where it does not define it (R76). -/
def State.slotLanes (s : State) (l : Nat) : Nat := ((layoutLinks (s.layout (l / 4))).lookup (l % 4)).getD 0

/-- The link that a lane belongs to under the layout. -/
def State.linkOf (s : State) (lane : Nat) : Nat :=
  let p := lane / 4
  (layoutLinks (s.layout p)).foldl (fun a x => if x.1 ≤ lane % 4 ∧ lane % 4 < x.1 + x.2 then 4 * p + x.1 else a) (4 * p)

/-- A lane's lock. -/
def State.laneLocked (s : State) (lane : Nat) : Bool := s.lan.locked.getLsbD lane

/-- The connections of a link are all locked. -/
def State.allLocked (s : State) (l n : Nat) : Bool := (List.range n).all fun c => s.laneLocked (l + c)

/-- LANE_LINK_STATUS follows the link (R92): rate 0 while DOWN, CXP-1 until the receivers are retuned. (DEDUCED, unsafe: log 115) -/
def State.syncLink (s : State) (l : Nat) : State :=
  let x := s.camLink l
  let rate := match x.state with
    | .down => 0
    | .discover => 1
    | .config => 1
    | .retune => if x.switched then x.rate else 1
    | .up => x.rate
  let conns := match x.state with
    | .retune => x.conns
    | .up => x.conns
    | _ => 0
  s.wr (R.LANE_LINK_STATUS (l / 4) (l % 4)) (BitVec.ofNat 32
    ((if x.wimenExcluded then 2 ^ 28 else 0) + rate * 2 ^ 24 + conns * 2 ^ 16 + linkCode x.state))

/-- A link changed, its status register following. (DEDUCED, unsafe: log 115) -/
def State.putLink (s : State) (l : Nat) (x : Link) : State := (s.setCamLink l x).syncLink l

/-- A lane's lock indications set (R92): signal, CDR lock, alignment, block lock at the Wimen rate. -/
def State.lockLane (s : State) (lane : Nat) (wimen : Bool) : State :=
  let s : State := { s with lan := { s.lan with locked := s.lan.locked ||| BitVec.ofNat 64 (2 ^ lane) } }
  let k := R.LANE_RX_STATUS lane
  (((s.setFld k F.LANE_RX_STATUS_signal_detect 1).setFld k F.LANE_RX_STATUS_cdr_lock 1).setFld
    k F.LANE_RX_STATUS_aligned 1).setFld k F.LANE_RX_STATUS_block_lock (if wimen then 1 else 0)

/-- A lane's lock indications cleared. -/
def State.unlockLane (s : State) (lane : Nat) : State :=
  let s : State := { s with lan := { s.lan with locked := s.lan.locked &&& ~~~ BitVec.ofNat 64 (2 ^ lane) } }
  let k := R.LANE_RX_STATUS lane
  ((s.setFld k F.LANE_RX_STATUS_cdr_lock 0).setFld k F.LANE_RX_STATUS_aligned 0).setFld k F.LANE_RX_STATUS_block_lock 0

/-- The rate of a lane's receiver, 0 while it is idle or its clocks are gated (R15, R77). -/
def State.rxRate (s : State) (lane : Nat) : Nat :=
  if s.coresStopped then 0 else s.fld (R.LANE_RX_STATUS lane) F.LANE_RX_STATUS_rate

/-- LANE_CDR of a running receiver: an open phase, and an open frequency offset within ±350 ppm (R71, R91). (DESIGN CHOICE, safe: log 28) -/
def State.sampleCdr (s : State) (lane : Nat) : State :=
  let (v, s) := s.fresh
  s.wr (R.LANE_CDR lane) (BitVec.ofNat 32 (wrapTo 16 ((v / 64 % 7001 : Nat) - 3500 : Int) * 2 ^ 16 + v % 64))

/-- The receivers of a link's slot enter a rate, without lock; rate 0: idle, the CDR loop standing where it was. (DEDUCED, unsafe: log 115) -/
def State.setRxRate (s : State) (l rate : Nat) : State :=
  upTo (s.slotLanes l) (fun c s =>
    let s := s.unlockLane (l + c)
    let s := if rate = 0 then
        (if s.rxRate (l + c) = 0 then s else s.sampleCdr (l + c)).setFld (R.LANE_RX_STATUS (l + c)) F.LANE_RX_STATUS_signal_detect 0
      else s
    s.setFld (R.LANE_RX_STATUS (l + c)) F.LANE_RX_STATUS_rate rate) s

/-- Each receiver of a link selects its CTLE code (R71, R79): ctle_code while ctle_hold is set, otherwise a code that the
spec does not give. ctle_hold and ctle_code written while the link is UP take effect at the next selection. (DESIGN CHOICE, unsafe:
log 175) (DEDUCED, unsafe: log 114) -/
def State.selectCtle (s : State) (l n : Nat) : State :=
  upTo n (fun c s =>
    let (code, s) := if s.bit (R.LANE_RX_CFG (l + c)) F.LANE_RX_CFG_ctle_hold
      then (s.fld (R.LANE_RX_CFG (l + c)) F.LANE_RX_CFG_ctle_code, s) else s.fresh
    s.setFld (R.LANE_RX_STATUS (l + c)) F.LANE_RX_STATUS_ctle_code (code % 16)) s

/-! ### Control transactions (R78 to R80) -/

/-- The bootstrap registers of bring-up, as indices of Config.bootstrapAddress, which holds CoaXPress's addresses. -/
def stepRegister : BringStep → Nat
  | .standard => 0 | .revision => 1 | .deviceConnectionId _ => 2 | .connectionConfigDefault => 3
  | .controlPacketSizeMax => 4 | .streamPacketSizeMax => 5 | .connectionConfig => 6 | .verify => 6 | .resumeRead => 6
  | _ => 8

/-- The address of a step's transaction: a bootstrap register, or a Wimen register of R82. -/
def stepAddr (x : Link) : BitVec 32 :=
  match x.step with
  | .wimenSig => 0x00007F00
  | .wimenCap => 0x00007F04
  | .wimenCtrl => 0x00007F08
  | .verify => if x.rate = 8 then 0x00007F0C else Config.bootstrapAddress 6
  | t => Config.bootstrapAddress (stepRegister t)

/-- The value that a step writes; none for a read (R75, R79, R83). -/
def stepWrite (x : Link) : Option (BitVec 32) :=
  match x.step with
  | .streamPacketSizeMax => some 8192
  | .connectionConfig => some (Config.connectionConfig x.rate x.conns)
  | .wimenCtrl => some (BitVec.ofNat 32 (1000 * 65536 + x.conns))
  | _ => none

/-- The present step's transaction is sent on the master uplink. -/
def State.sendStep (s : State) (l : Nat) (second : Bool) : State :=
  let x := { s.camLink l with sent := some s.ticks, second := second }
  (s.putLink l x).emit (.controlPacket (l / 4) (l % 4) x.fast (stepWrite x).isSome (stepAddr x) ((stepWrite x).getD 0))

/-- A step begins. -/
def State.beginStep (s : State) (l : Nat) (t : BringStep) : State := (s.setCamLink l { s.camLink l with step := t }).sendStep l false

/-! ### The mailbox (R88) -/

/-- A port's mailbox transaction, and the state with it replaced. -/
def State.mail (s : State) (p : Nat) : Option Mail := sget (fun _ => none) s.lan.mailbox p
def State.setMail (s : State) (p : Nat) (m : Option Mail) : State :=
  { s with lan := { s.lan with mailbox := sput (fun _ => none) s.lan.mailbox p m } }

/-- A mailbox transaction ends with a result and a camera status code. (DEDUCED, unsafe: log 116) -/
def State.endMail (s : State) (p result code : Nat) : State :=
  ((s.setMail p none).wr (R.LANE_CC_STATUS p) (BitVec.ofNat 32 (code * 256 + result))).blockDone 10 p result

/-- A waiting mailbox transaction is sent once its link is UP. (DEDUCED, unsafe: log 116) -/
def State.sendMail (s : State) (p : Nat) : State :=
  match s.mail p with
  | some m =>
    if m.sent.isNone && (s.camLink (4 * p + m.link)).state == .up then
      (s.setMail p (some { m with sent := some s.ticks })).emit
        (.controlPacket p m.link (s.camLink (4 * p + m.link)).fast m.write m.addr m.data)
    else s
  | none => s

/-- A link left UP, or entered DOWN: its transaction waits again, or ends with result 0x04. (DEDUCED, unsafe: log 116) -/
def State.mailLink (s : State) (l : Nat) : State :=
  match s.mail (l / 4) with
  | some m =>
    if m.link ≠ l % 4 then s
    else if (s.camLink l).state = .down then s.endMail (l / 4) 4 0
    else s.setMail (l / 4) (some { m with sent := none, second := false })
  | none => s

/-- Is an address protected from mailbox writes (R88)? -/
def protectedAddr (a : BitVec 32) : Bool :=
  a == Config.bootstrapAddress 7 || a == Config.bootstrapAddress 6 || a == Config.bootstrapAddress 5 ||
    (decide (0x7F00 ≤ a.toNat) && decide (a.toNat ≤ 0x7F0F))

/-- A write of LANE_CC_CMD (R88, R92): ignored while busy. (DEDUCED, unsafe: log 116) -/
def State.writeCcCmd (s : State) (p : Nat) (v : BitVec 32) : State :=
  if !v.getLsbD 31 || (s.mail p).isSome then s
  else
    let link := getField v F.LANE_CC_CMD_link
    let a := s.rd (R.LANE_CC_ADDR p)
    if v.getLsbD 30 && protectedAddr a then s.endMail p 5 0
    else if s.slotLanes (4 * p + link) = 0 then s.endMail p 4 0
    else ((s.setMail p (some ⟨link, v.getLsbD 30, a, s.rd (R.LANE_CC_DATA p), none, false⟩)).wr (R.LANE_CC_STATUS p)
      0x80000000).sendMail p

/-- MAILBOX_READ (R88): go with write clear. -/
def execMailboxRead (p : Fin 16) (v : Reg32) (s : State) : Host.Outcome State Fault Refusal :=
  .next (s.hostWrite (R.LANE_CC_CMD p) v fun s => if v.getLsbD 30 then s else s.writeCcCmd p v)

/-- MAILBOX_WRITE (R88): go with write set. -/
def execMailboxWrite (p : Fin 16) (v : Reg32) (s : State) : Host.Outcome State Fault Refusal :=
  .next (s.hostWrite (R.LANE_CC_CMD p) v fun s => if v.getLsbD 30 then s.writeCcCmd p v else s)

/-! ### Link states (R77 to R83) -/

/-- What a link keeps across a new bring-up: the Wimen exclusion. -/
def State.freshLink (s : State) (l : Nat) (st : LinkState) : Link :=
  { state := st, wimenExcluded := (s.camLink l).wimenExcluded, since := s.ticks }

/-- A link leaves UP (R87): link_down, packets in progress end, its waiting trigger packets are not sent. -/
def State.leaveUp (s : State) (l : Nat) : State :=
  if (s.camLink l).state = .up then
    let s := s.setTrigPlaces l 0 0 0
    (s.endStreams (l / 4) (l % 4)).portFlag (l / 4) 1
  else s

/-- A link enters DOWN: receivers idle, uplinks quiet. -/
def State.linkDown (s : State) (l : Nat) : State :=
  let s := s.leaveUp l
  ((s.putLink l (s.freshLink l .down)).setRxRate l 0).mailLink l

/-- A link enters DISCOVER: ConnectionReset on the master uplink, first at 41.667 Mbit/s and then at 20.833 Mbit/s, receivers at CXP-1.
(DEDUCED, unsafe: log 112) -/
def State.linkDiscover (s : State) (l : Nat) : State :=
  let s := s.leaveUp l
  let s := ((s.putLink l (s.freshLink l .discover)).setRxRate l 1).mailLink l
  let reset (fast : Bool) := Out.controlPacket (l / 4) (l % 4) fast true (Config.bootstrapAddress 7) Config.connectionReset
  (s.emit (reset true)).emit (reset false)

/-- May start and restart act (R77)? -/
def State.portStarts (s : State) (p : Nat) : Bool :=
  s.inStates [.ready, .armed, .run, .hold] && s.bit (R.LANE_PORT_CFG p) F.LANE_PORT_CFG_enable

/-- The links of a port's layout. -/
def State.portLinks (s : State) (p : Nat) : List Nat := (layoutLinks (s.layout p)).map fun x => 4 * p + x.1

/-- Every link of a port to DOWN (R77). -/
def State.portStop (s : State) (p : Nat) : State := (s.portLinks p).foldl State.linkDown s

/-- The DOWN links of a port to DISCOVER (R92). -/
def State.portStart (s : State) (p : Nat) : State :=
  if s.portStarts p then
    (s.portLinks p).foldl (fun s l => if (s.camLink l).state = .down then s.linkDiscover l else s) s
  else s

/-- wimen_excluded cleared, and every link of a port to DISCOVER (R77, R92). (DEDUCED, unsafe: log 112) -/
def State.portRestart (s : State) (p : Nat) : State :=
  if s.portStarts p then
    (s.portLinks p).foldl (fun s l => (s.setCamLink l { s.camLink l with wimenExcluded := false }).linkDiscover l) s
  else s

/-- A write of LANE_PORT_CMD (R92): stop wins, then restart. -/
def State.writePortCmd (s : State) (p : Nat) (v : BitVec 32) : State :=
  if v.getLsbD 1 then s.portStop p
  else if v.getLsbD 2 then s.portRestart p
  else if v.getLsbD 0 then s.portStart p
  else s

/-- PORT_START: a write of LANE_PORT_CMD with start set. -/
def execPortStart (p : Fin 16) (v : Reg32) (s : State) : Host.Outcome State Fault Refusal :=
  .next (s.hostWrite (R.LANE_PORT_CMD p) v fun s => if v.getLsbD 0 then s.writePortCmd p v else s)
/-- PORT_STOP: a write of LANE_PORT_CMD with stop set. -/
def execPortStop (p : Fin 16) (v : Reg32) (s : State) : Host.Outcome State Fault Refusal :=
  .next (s.hostWrite (R.LANE_PORT_CMD p) v fun s => if v.getLsbD 1 then s.writePortCmd p v else s)
/-- PORT_RESTART: a write of LANE_PORT_CMD with restart set. -/
def execPortRestart (p : Fin 16) (v : Reg32) (s : State) : Host.Outcome State Fault Refusal :=
  .next (s.hostWrite (R.LANE_PORT_CMD p) v fun s => if v.getLsbD 2 then s.writePortCmd p v else s)

/-- A write of LANE_PORT_CFG (R92): layout and evq change only while every link is DOWN; clearing enable stops the
links. -/
def State.writePortCfg (s : State) (p : Nat) (v : BitVec 32) : State :=
  let k := R.LANE_PORT_CFG p
  let old := s.rd k
  let down := (List.range 4).all fun i => (s.camLink (4 * p + i)).state == .down
  let v := if down then v
    else putField (putField v F.LANE_PORT_CFG_layout (getField old F.LANE_PORT_CFG_layout)) F.LANE_PORT_CFG_evq
      (getField old F.LANE_PORT_CFG_evq)
  let s := if old.getLsbD 31 && !v.getLsbD 31 then s.portStop p else s
  s.plainWrite k v

/-- PORT_CFG_WRITE: see `State.writePortCfg`. -/
def execPortCfgWrite (p : Fin 16) (v : Reg32) (s : State) : Host.Outcome State Fault Refusal :=
  .next (s.hostWrite (R.LANE_PORT_CFG p) v fun s => s.writePortCfg p v)

/-- The Wimen negotiation fails (R83): wimen_excluded, fallback, and DISCOVER. (DEDUCED, unsafe: log 113) -/
def State.wimenFails (s : State) (l : Nat) : State :=
  ((s.setCamLink l { s.camLink l with wimenExcluded := true }).portFlag (l / 4) 2).linkDiscover l

/-- A bring-up transaction has failed (R79 to R83); a link that is in DISCOVER stays in it, its discovery timeout running on (R77). -/
def State.stepFails (s : State) (l : Nat) : State :=
  let x := s.camLink l
  if x.state = .retune ∧ x.rate = 8 ∧ x.switched then s.wimenFails l
  else if x.state = .discover then
    let s := s.linkDiscover l
    s.putLink l { s.camLink l with since := x.since }
  else s.linkDiscover l

/-- The deskew coefficients of a link's lanes are loaded with the skew measured in RETUNE (R381, R387, R388). (DESIGN CHOICE, safe: log 117) -/
def State.loadDeskew (s : State) (l n : Nat) : State :=
  let d := upTo n (fun c m => sput (fun _ => 0) m (l + c) (sget (fun _ => 0) s.tmp.measuredDeskew (l + c))) s.tmp.deskew
  (s.setTmp { s.tmp with deskew := d }).journal (.temper 3 d [])

/-- A link enters UP. (DEDUCED, unsafe: log 114) -/
def State.linkUp (s : State) (l : Nat) : State :=
  let s := if (s.camLink l).state = .retune then s.loadDeskew l (s.camLink l).conns else s
  let s := s.putLink l { s.camLink l with state := .up, resume := false, resuming := false, sent := none }
  (s.portFlag (l / 4) 0).sendMail (l / 4)

/-- The connection count of R76 from what CONFIG has read, and the target rate of R78. (DEDUCED, unsafe: log 113) -/
def State.chooseConns (s : State) (l : Nat) (counts : List Nat) : Nat :=
  let x := s.camLink l
  let ok (n : Nat) : Bool := decide (n ≤ s.slotLanes l) && counts.contains n && (List.range n).all fun c => x.found.testBit c
  if ok 4 then 4 else if ok 2 then 2 else if ok 1 then 1 else 0
/-- DEDUCED, unsafe: log 113. -/
def State.chooseRate (s : State) (l : Nat) : Nat :=
  ((s.camLink l).camRates.filter fun r => decide (1 ≤ r) && decide (r ≤ s.fld (R.LANE_PORT_CFG (l / 4)) F.LANE_PORT_CFG_max_rate)).foldl max 0

/-- Is the Wimen rate chosen (R78, R82)? (DEDUCED, unsafe: log 113) -/
def State.wimenChosen (s : State) (l : Nat) : Bool :=
  let x := s.camLink l
  let k := R.LANE_PORT_CFG (l / 4)
  x.wimenSig && decide (0 < x.wimenConns) && s.bit k F.LANE_PORT_CFG_allow_wimen && s.fld k F.LANE_PORT_CFG_max_rate == 8 &&
    !x.wimenExcluded

/-- The counts that the camera supports at the rate chosen: at the Wimen rate those up to WIMEN_CAP's largest. -/
def Link.counts (x : Link) (wimen : Bool) : List Nat :=
  if wimen then x.camConns.filter fun n => n ≤ x.wimenConns else x.camConns

/-- CONFIG ends: the configuration is chosen and RETUNE begins; with no rate or count to choose, DISCOVER. (DEDUCED, unsafe: log 115) -/
def State.enterRetune (s : State) (l : Nat) : State :=
  let w := s.wimenChosen l
  let rate := if w then 8 else s.chooseRate l
  let n := s.chooseConns l ((s.camLink l).counts w)
  if rate = 0 ∨ n = 0 then s.linkDiscover l
  else
    let s := s.putLink l { s.camLink l with state := .retune, rate := rate, conns := n, since := s.ticks }
    s.beginStep l (if w then .wimenCtrl else .connectionConfig)

/-- The next DeviceConnectionID read from lane `c` of the slot on: lanes that are not aligned carry no connection. (DEDUCED, unsafe: log 113) -/
def State.readIds (s : State) (l c : Nat) : State :=
  match firstBit (fun i => s.laneLocked (l + i)) c (s.slotLanes l - c) with
  | some i => s.beginStep l (.deviceConnectionId i)
  | none => s.beginStep l .connectionConfigDefault

/-- A step's acknowledgement without error (R77 to R83). (DEDUCED, unsafe: log 113) -/
def State.stepDone (s : State) (l : Nat) (a : ControlAck) : State :=
  let x := s.camLink l
  match x.step with
  | .standard => (s.putLink l { x with state := .config }).beginStep l .revision
  | .revision => s.readIds l 0
  | .deviceConnectionId c =>
    (s.setCamLink l { x with found := if a.data.toNat = c then x.found ||| 2 ^ c else x.found }).readIds l (c + 1)
  | .connectionConfigDefault =>
    (s.setCamLink l { x with camRates := a.rates.map (·.val), camConns := a.counts.map (·.val) }).beginStep l .controlPacketSizeMax
  | .controlPacketSizeMax => s.beginStep l .wimenSig
  | .wimenSig =>
    if a.data = 0x59574D4E then (s.setCamLink l { x with wimenSig := true }).beginStep l .wimenCap
    else s.beginStep l .streamPacketSizeMax
  | .wimenCap =>
    let n := a.data.toNat % 8
    let ok := a.data.toNat / 65536 == 1 && (n == 1 || n == 2 || n == 4)
    (s.setCamLink l { x with wimenConns := if ok then n else 0 }).beginStep l .streamPacketSizeMax
  | .streamPacketSizeMax => s.enterRetune l
  | .connectionConfig =>
    let s := (s.setRxRate l x.rate).selectCtle l x.conns
    s.putLink l { x with switched := true, fast := decide (6 ≤ x.rate), step := .locking, sent := none, since := s.ticks }
  | .wimenCtrl => s.putLink l { x with step := .locking, sent := none, since := s.ticks }
  | .locking => s
  | .verify => s.linkUp l
  | .resumeRead => s.linkUp l

/-- Does a step go on after an error acknowledgement (R82: a camera without the Wimen registers)? (DEDUCED, unsafe: log 113) -/
def State.stepError (s : State) (l : Nat) : State :=
  match (s.camLink l).step with
  | .wimenSig => s.beginStep l .streamPacketSizeMax
  | .wimenCap => s.beginStep l .streamPacketSizeMax
  | _ => s.stepFails l

/-- A transaction's first attempt is sent again; its second failure ends it (R80). (DEDUCED, unsafe: log 113) -/
def State.retryStep (s : State) (l : Nat) : State :=
  if (s.camLink l).second then s.stepFails l else s.sendStep l true

/-- A mailbox attempt failed with a result code (R80). (DEDUCED, unsafe: log 116) -/
def State.retryMail (s : State) (p : Nat) (m : Mail) (result : Nat) : State :=
  if m.second then s.endMail p result 0
  else (s.setMail p (some { m with sent := some s.ticks, second := true })).emit
    (.controlPacket p m.link (s.camLink (4 * p + m.link)).fast m.write m.addr m.data)

/-- Is a bring-up transaction in progress on a link? (DEDUCED, unsafe: log 112) -/
def State.bringing (s : State) (l : Nat) : Bool := (s.camLink l).sent.isSome && (s.camLink l).state != .up

/-- The mailbox transaction sent on a link. -/
def State.mailSent (s : State) (l : Nat) : Option Mail :=
  (s.mail (l / 4)).filter fun m => m.link == l % 4 && m.sent.isSome

/-- A packet's CRC failure on a lane (R86, R92). -/
def State.crcError (s : State) (lane : Nat) : State := (s.bump (R.LANE_CRCERR lane)).portFlag (lane / 4) 3

/-- Code errors on a lane (R84, R86). -/
def State.codeErrors (s : State) (lane n : Nat) : State :=
  upTo n (fun _ s => (s.bump (R.LANE_CODEERR lane)).portFlag (lane / 4) 4) s

/-- Code errors in what a lane's receiver has decoded (R84, R86): packets of every kind and the idle characters before them, in every link
state in which the receiver runs. (DEDUCED, unsafe: log 118) -/
def State.itemErrors (s : State) (lane n : Nat) : State := if s.rxRate lane = 0 then s else s.codeErrors lane n

/-- CONTROL_ACK (R80): an acknowledgement advances bring-up, or completes the mailbox transaction. -/
def State.controlAck (s : State) (l : Nat) (a : ControlAck) : State :=
  let s := s.itemErrors l a.codeErrors
  if s.bringing l then
    if !a.crcOk then (s.crcError l).retryStep l
    else match a.error with
      | some _ => s.stepError l
      | none => s.stepDone l a
  else match s.mailSent l with
    | none => s
    | some m =>
      if !a.crcOk then (s.crcError l).retryMail (l / 4) m 2
      else match a.error with
        | some e => s.endMail (l / 4) 3 e.toNat
        | none => (if m.write then s else s.wr (R.LANE_CC_DATA (l / 4)) a.data).endMail (l / 4) 0 0

/-- CONTROL_ACK: see `State.controlAck`. -/
def execControlAck (link : Fin 64) (ack : ControlAck) (s : State) : Host.Outcome State Fault Refusal :=
  .next (s.controlAck link ack)

/-- CONTROL_ACK_TIMEOUT (R80): t_ack of 10 ms without an acknowledgement. -/
def execControlAckTimeout (link : Fin 64) (s : State) : Host.Outcome State Fault Refusal :=
  .next (
    if s.bringing link then
      match (s.camLink link).sent with
      | some t => if s.passedUs t 10000 then s.retryStep link else s
      | none => s
    else match s.mailSent link with
      | some m => if s.passedUs (m.sent.getD s.ticks) 10000 then s.retryMail (link / 4) m 1 else s
      | none => s)

/-- A connection has gained lock: the step that waited for it begins (R77, R79, R81, R83). -/
def State.afterLock (s : State) (l : Nat) : State :=
  let x := s.camLink l
  match x.state with
  | .down => if x.resuming ∧ x.sent.isNone ∧ s.allLocked l x.conns then s.beginStep l .resumeRead else s
  | .discover => if x.sent.isNone ∧ s.laneLocked l then s.beginStep l .standard else s
  | .retune => if x.step = .locking ∧ x.switched ∧ s.allLocked l x.conns then s.beginStep l .verify else s
  | _ => s

/-- A lane's measured arrival skew in words (R387). (DESIGN CHOICE, safe: log 117) -/
def State.measureSkew (s : State) (lane skew : Nat) : State :=
  s.setTmp { s.tmp with measuredDeskew := sput (fun _ => 0) s.tmp.measuredDeskew lane skew }

/-- A lane gains lock at its receiver's rate. -/
def State.gainLock (s : State) (lane skew : Nat) (wimen : Bool) : State :=
  let l := s.linkOf lane
  ((s.lockLane lane wimen).measureSkew lane skew).afterLock l

/-- LANE_LOCK (R77, R79, R81): a connection at a CXP rate gains CDR lock and character alignment. (DESIGN CHOICE, safe: log 7) -/
def execLaneLock (lane : Fin 64) (skew : BitVec 8) (s : State) : Host.Outcome State Fault Refusal :=
  .next (
    if s.rxRate lane = 0 ∨ s.rxRate lane = 8 then s else s.gainLock lane skew.toNat false)

/-- BLOCK_LOCK_GAIN (R85): 64 consecutive valid sync headers at the Wimen rate. -/
def execBlockLockGain (lane : Fin 64) (skew : BitVec 8) (s : State) : Host.Outcome State Fault Refusal :=
  .next (if s.rxRate lane = 8 then s.gainLock lane skew.toNat true else s)

/-- BLOCK_LOCK_LOSS (R85): 16 of 64 consecutive sync headers invalid; CDR lock is not touched. -/
def execBlockLockLoss (lane : Fin 64) (s : State) : Host.Outcome State Fault Refusal :=
  .next (if s.rxRate lane = 8 ∧ s.laneLocked lane then
      let s : State := { s with lan := { s.lan with locked := s.lan.locked &&& ~~~ BitVec.ofNat 64 (2 ^ lane.val) } }
      (s.setFld (R.LANE_RX_STATUS lane) F.LANE_RX_STATUS_aligned 0).setFld (R.LANE_RX_STATUS lane) F.LANE_RX_STATUS_block_lock 0
    else s)

/-- DISCOVERY_TIMEOUT (R77): disc_timeout × 100 ms in DISCOVER. -/
def execDiscoveryTimeout (link : Fin 64) (s : State) : Host.Outcome State Fault Refusal :=
  .next (if (s.camLink link).state = .discover ∧
      s.passedUs (s.camLink link).since (100000 * s.fld (R.LANE_PORT_CFG (link / 4)) F.LANE_PORT_CFG_disc_timeout)
    then s.linkDown link else s)

/-- RETUNE_TIMEOUT (R79): t_retune of 2 ms since the acknowledgement, at a CXP rate. -/
def execRetuneTimeout (link : Fin 64) (s : State) : Host.Outcome State Fault Refusal :=
  .next (
    let x := s.camLink link
    if x.state = .retune ∧ x.switched ∧ x.rate ≠ 8 ∧ s.passedUs x.since 2000 then s.linkDiscover link else s)

/-- WIMEN_SWITCH (R83): switch_delay_us (1,000) after the acknowledgement, receivers and uplink move. -/
def execWimenSwitch (link : Fin 64) (s : State) : Host.Outcome State Fault Refusal :=
  .next (
    let x := s.camLink link
    if x.state = .retune ∧ x.rate = 8 ∧ x.step = .locking ∧ x.switched = false ∧ s.passedUs x.since 1000 then
      let s := (s.setRxRate link 8).selectCtle link x.conns
      s.putLink link { x with switched := true, fast := true, since := s.ticks }
    else s)

/-- WIMEN_LOCK_TIMEOUT (R83): t_wlock of 20 ms without block lock on every connection. -/
def execWimenLockTimeout (link : Fin 64) (s : State) : Host.Outcome State Fault Refusal :=
  .next (
    let x := s.camLink link
    if x.state = .retune ∧ x.rate = 8 ∧ x.step = .locking ∧ x.switched ∧ s.passedUs x.since 20000 then s.wimenFails link
    else s)

/-- Link loss of the UP link that a lane is a connection of (R77, R87). -/
def State.loseLink (s : State) (lane : Nat) : State :=
  let l := s.linkOf lane
  let x := s.camLink l
  if x.state = .up ∧ lane < l + x.conns then
    let s := s.unlockLane lane
    if s.bit (R.LANE_PORT_CFG (l / 4)) F.LANE_PORT_CFG_auto_restart then s.linkDiscover l else s.linkDown l
  else s

/-- LINK_LOSS (R87, R91): a receiver has lost lock or alignment for longer than t_loss, which its status shows with the `signal` that it
detects; a link that is UP over it is lost. -/
def execLinkLoss (lane : Fin 64) (s : State) (signal : Bool := false) : Host.Outcome State Fault Refusal :=
  .next (
    if s.rxRate lane = 0 then s
    else ((s.unlockLane lane).setFld (R.LANE_RX_STATUS lane) F.LANE_RX_STATUS_signal_detect signal.toNat).loseLink lane)

/-! ### BANKED and wake (R81) -/

/-- At the entry to BANKED every UP link keeps its rate and coefficients, goes quiet and reads DOWN. (DEDUCED, unsafe: log 114) -/
def State.bankLinks (s : State) : State :=
  upTo 64 (fun l s =>
    let x := s.camLink l
    match x.state with
    | .up => ((s.endStreams (l / 4) (l % 4)).putLink l { x with state := .down, resume := true }).mailLink l
    | .down => if x.resuming then s.linkDown l else s
    | _ => s.linkDown l) s

/-- On wake each kept link restarts its receivers at the kept rate with the kept coefficients. (DEDUCED, unsafe: log 114) -/
def State.resumeLinks (s : State) : State :=
  upTo 64 (fun l s =>
    let x := s.camLink l
    if x.resume then
      let s := s.setRxRate l x.rate
      let s := upTo x.conns (fun c s =>
        if s.bit (R.LANE_RX_CFG (l + c)) F.LANE_RX_CFG_ctle_hold then
          s.setFld (R.LANE_RX_STATUS (l + c)) F.LANE_RX_STATUS_ctle_code (s.fld (R.LANE_RX_CFG (l + c)) F.LANE_RX_CFG_ctle_code)
        else s) s
      s.putLink l { x with state := .down, resume := false, resuming := true, since := s.ticks, sent := none }
    else s) s

/-- RESUME_TIMEOUT (R81): the read has not succeeded within t_resume of 0.8 ms. -/
def execResumeTimeout (link : Fin 64) (s : State) : Host.Outcome State Fault Refusal :=
  .next (
    let x := s.camLink link
    if x.resuming ∧ x.state = .down ∧ s.passedUs x.since 800 then s.linkDiscover link else s)

/-- Every link to DOWN: the entry to FAULT or RESET (R77). -/
def State.allLinksDown (s : State) : State :=
  upTo 64 (fun l s => if s.camLink l = s.freshLink l .down then s else s.linkDown l) s

/-! ### Packets (R74, R75, R84, R86) -/

/-- Is a lane a connection of an UP link? -/
def State.laneUp (s : State) (lane : Nat) : Bool :=
  let x := s.camLink (s.linkOf lane)
  x.state == .up && decide (lane < s.linkOf lane + x.conns)

/-- The bytes of stream data that a packet carries. (DEDUCED, unsafe: log 118) -/
def packetBytes (p : StreamPacket) : Nat :=
  (p.items.map fun i => match i with
    | .imageHeader n _ _ _ => n
    | .lineMarker n => n
    | .pixels n _ => n).foldl (· + ·) 0

/-- STREAM_PACKET (R74, R75, R86, R94): a packet with an invalid header is discarded and counted as a CRC failure; one
longer than 8,192 bytes fails its CRC. (DEDUCED, unsafe: log 118) -/
def State.streamPacket (s : State) (lane : Nat) (p : StreamPacket) : State :=
  let s := s.itemErrors lane p.codeErrors
  if !s.laneUp lane then s
  else
    if !p.headerOk then s.crcError lane
    else
      let bad := !p.crcOk || decide (8192 < packetBytes p)
      let s := if bad then s.crcError lane else s
      let l := s.linkOf lane
      s.streamData (l / 4) (l % 4) p bad

/-- STREAM_PACKET: see `State.streamPacket`. -/
def execStreamPacket (lane : Fin 64) (p : StreamPacket) (s : State) : Host.Outcome State Fault Refusal :=
  .next (s.streamPacket lane p)

/-- CAMERA_EVENT_PACKET (R74): pushed whole to Q evq with the arrival time as its last word, or dropped as unsupported. -/
def execCameraEventPacket (lane : Fin 64) (words : List Word) (tap : Fin 32) (s : State) (codeErrors : Nat := 0) :
    Host.Outcome State Fault Refusal :=
  .next (
    let s := s.itemErrors lane codeErrors
    if s.laneUp lane then
      let p := lane.val / 4
      let q := s.fld (R.LANE_PORT_CFG p) F.LANE_PORT_CFG_evq
      if s.canPush q (words.length + 1) then s.pushPacket q 0x80 (words ++ [s.edgeTime tap]) else s.portFlag p 5
    else s)

/-- TRIGGER_ACK_PACKET (R74): counted. -/
def execTriggerAckPacket (lane : Fin 64) (s : State) (codeErrors : Nat := 0) : Host.Outcome State Fault Refusal :=
  .next (
    let s := s.itemErrors lane codeErrors
    if s.laneUp lane then s.bump (R.LANE_TRG_ACK (lane / 4)) else s)

/-- UNSUPPORTED_PACKET (R74): GenDC, device trigger and I/O channel packets. -/
def execUnsupportedPacket (lane : Fin 64) (s : State) (codeErrors : Nat := 0) : Host.Outcome State Fault Refusal :=
  .next (
    let s := s.itemErrors lane codeErrors
    if s.laneUp lane then s.portFlag (lane / 4) 5 else s)

/-- LANE_MARKER (R84, R387): the marker's block count gives the lane's skew; a skew more than 8 words from the
coefficient loses the link. -/
def State.laneMarker (s : State) (lane count skew : Nat) : State :=
  if s.laneUp lane ∧ s.fld (R.LANE_RX_STATUS lane) F.LANE_RX_STATUS_rate = 8 then
    let s : State := { s with lan := { s.lan with markers := sput (fun _ => 0) s.lan.markers lane count } }
    let s := s.measureSkew lane skew
    if 8 < ((skew : Int) - (sget (fun _ => 0) s.tmp.deskew lane : Nat)).natAbs then (s.tmpFlag 6).loseLink lane else s
  else s

/-- LANE_MARKER: see `State.laneMarker`. -/
def execLaneMarker (lane : Fin 64) (count : BitVec 40) (skew : BitVec 8) (s : State) : Host.Outcome State Fault Refusal :=
  .next (s.laneMarker lane count.toNat skew.toNat)

/-- DESKEW_MOVE (R387): between stream packets a coefficient that differs from the measured skew moves by one word. -/
def execDeskewMove (lane : Fin 64) (s : State) : Host.Outcome State Fault Refusal :=
  .next (
    let m := sget (fun _ => 0) s.tmp.measuredDeskew lane
    let a := sget (fun _ => 0) s.tmp.deskew lane
    if s.laneUp lane ∧ s.fld (R.LANE_RX_STATUS lane) F.LANE_RX_STATUS_rate = 8 ∧ m ≠ a then
      let d := sput (fun _ => 0) s.tmp.deskew lane (if a < m then a + 1 else a - 1)
      (s.setTmp { s.tmp with deskew := d }).journal (.temper 3 d [])
    else s)

/-! ### Receivers (R71, R91, R387) -/

/-- A two's complement 6-bit tap moved by one step, not beyond its limits. -/
def moveTap (v : Nat) (e d : Bool) : Nat :=
  wrapTo 6 (clampInt (-32) 31 (signed 6 v + (if e = d then 1 else -1)))

/-- DFE_UPDATE (R71): after 2^dfe_mu decisions of a running receiver each tap moves by sign(e) × sign(d[n−k]). -/
def execDfeUpdate (lane : Fin 64) (ePos : Bool) (d1 d2 d3 d4 d5 : Bool) (s : State) : Host.Outcome State Fault Refusal :=
  .next (
    let k := R.LANE_DFE lane
    if s.rxRate lane != 0 && !s.bit (R.LANE_RX_CFG lane) F.LANE_RX_CFG_dfe_freeze then
      let v := s.rd k
      let t (f : Field) (d : Bool) (w : BitVec 32) : BitVec 32 := putField w f (moveTap (getField v f) ePos d)
      s.wr k (t F.LANE_DFE_tap5 d5 (t F.LANE_DFE_tap4 d4 (t F.LANE_DFE_tap3 d3 (t F.LANE_DFE_tap2 d2 (t F.LANE_DFE_tap1 d1 v)))))
    else s)

/-- A write of LANE_EYE_CTRL (R91): start begins or restarts a scan; on a link that is not UP, and on a lane of an UP link's slot that is
none of its connections (DESIGN CHOICE, unsafe: log 176), it ends at once. -/
def State.writeEyeCtrl (s : State) (lane : Nat) (v : BitVec 32) : State :=
  let k := R.LANE_EYE_CTRL lane
  let s := s.plainWrite k v
  if !v.getLsbD 31 then s
  else if s.laneUp lane then
    let s := s.wr (R.LANE_EYE_RESULT lane) 0
    { s with lan := { s.lan with scans := sput (fun _ => 0) s.lan.scans lane (s.ticks + 1) } }
  else (s.setFld k F.LANE_EYE_CTRL_start 0).wr (R.LANE_EYE_RESULT lane) 0xFFFFFFFF

/-- EYE_SCAN_START: a write of LANE_EYE_CTRL with start set. -/
def execEyeScanStart (lane : Fin 64) (v : Reg32) (s : State) : Host.Outcome State Fault Refusal :=
  .next (s.hostWrite (R.LANE_EYE_CTRL lane) v fun s => if v.getLsbD 31 then s.writeEyeCtrl lane v else s)

/-- The line rate of a rate code, in kbit/s (R73). (DEDUCED, unsafe: log 115) -/
def lineRate : Nat → Nat
  | 1 => 1250000 | 2 => 2500000 | 3 => 3125000 | 4 => 5000000 | 5 => 6250000 | 6 => 10000000 | 7 => 12500000
  | _ => 20625000

/-- EYE_SCAN_DONE (R91): after 2^(20+dwell) bits, by the dwell that stands then (DESIGN CHOICE, unsafe: log 177), the scan sets done with
its errors, saturating. -/
def execEyeScanDone (lane : Fin 64) (errors : Nat) (s : State) : Host.Outcome State Fault Refusal :=
  .next (
    let t := sget (fun _ => 0) s.lan.scans lane
    let bits := 2 ^ (20 + s.fld (R.LANE_EYE_CTRL lane) F.LANE_EYE_CTRL_dwell)
    let rate := lineRate (s.fld (R.LANE_RX_STATUS lane) F.LANE_RX_STATUS_rate)
    if t = 0 then s
    else if bits * 1000000 ≤ (s.ticks + 1 - t) * 8 * rate then
      let s : State := { s with lan := { s.lan with scans := sput (fun _ => 0) s.lan.scans lane 0 } }
      (s.setFld (R.LANE_EYE_CTRL lane) F.LANE_EYE_CTRL_start 0).wr (R.LANE_EYE_RESULT lane)
        (BitVec.ofNat 32 (2 ^ 31 + min errors (2 ^ 31 - 1)))
    else s)

end Sys2Proof.Machine
end

