-- ==== Sys2Proof/Machine/DataPath.lean ====
section
/-! DEFINITION. The data path's stop at the entry to FAULT (R25, R280, R402). -/
namespace Sys2Proof.Machine

/-- The pixel path drops the work it holds, from intake to the commit buffer, and the replay feeder stops; the registers keep
what they show, and line sequences go on (R41). (DEDUCED, unsafe: log 153) -/
def State.dropPixelPath (s : State) : State :=
  let seqs := upTo 64 (fun c l => sput (fun _ => ({} : Ctx)) l c { seq := (s.ictx c).seq }) []
  let s := s.setInt { s.int with ctx := seqs, ringWrites := [], eligible := [], lanes := [], reinj := none, backlog := [] }
  let s := s.setCor { s.cor with out := [], capture := none }
  let s := s.setSti { s.sti with store := [], formed := [], ivals := [], cursor := [] }
  let s := s.setAnv { s.anv with lines := [], work := [], engines := [], flowEnds := [], stallFrom := none, stallSlices := [] }
  let s := s.setBlm { s.blm with buffer := [], committed := [] }
  { s with fed := {} }

/-- The data path stops (R402): links go DOWN (R77), output stream units to IDLE (R241), the pixel path drops its work. (DEDUCED, unsafe: log 153) -/
def State.stopDataPath (s : State) : State := s.allLinksDown.ostAllIdle.dropPixelPath

/-- The total area of the open blooms (R217). (DEDUCED, unsafe: log 153) -/
def State.openBloomArea (s : State) : Nat := s.bloomArea

end Sys2Proof.Machine
end

