-- ==== Sys2Proof/Machine/FaultEntry.lean ====
section
/-! DEFINITION. Entry to FAULT and the halting of Wick cores, shared by every meaning that finds an uncorrectable
control-path fault (R25, R311, R320, R402). -/
namespace Sys2Proof.Machine

/-- The tags of a core freed (R308). -/
def State.freeTags (s : State) (n : Nat) : State := s.setCore n { s.core n with tags := [] }

/-- A due or waiting retraining and a due calibration are cancelled (R388). -/
def State.cancelTemper (s : State) : State :=
  (s.setTmp { s.tmp with hbmDue := none, boundary := false, tdcDue := none, tdcAgain := none }).setFld
    R.TMP_STATUS F.TMP_STATUS_hbm_waiting 0

/-- The service call that a core has pending goes with its halt (R311, R321). (DEDUCED, unsafe: log 192) -/
def State.dropService (s : State) (n : Nat) : State :=
  let s : State := { s with wck := { s.wck with svc := s.wck.svc.filter fun m => m.val != n } }
  let s := if (s.core n).inService then s.setFld (R.WCK_SVC_NUM n) F.WCK_SVC_NUM_pending 0 else s
  s.setCore n { s.core n with inService := false }

/-- A core of 1 to 3 stops at the entry to FAULT (R320): its halted flag is set and its event raised (R311). (DEDUCED, unsafe: log 49) -/
def State.stopCore (s : State) (n : Nat) : State :=
  match (s.core n).run with
  | .reset => s
  | .halted => s
  | _ => ((s.setCore n { s.core n with run := .halted, stalled := none }).dropService n).wckFlag n

/-- The entry to FAULT with a cause (R25, R286, R402): the data path stops, the marker links go idle, cores 1 to 3 halt
and the fault record is written to the journal. (DEDUCED, unsafe: log 49; DEDUCED, unsafe: log 80) -/
def State.enterFault (s : State) (cause : Nat) : State :=
  if s.inStates [.off, .reset, .fault] then s
  else
    let s := s.enter .fault
    let s : State := { s with blw := { s.blw with faultTick := some s.ticks, faultCause := cause, banking := none,
                                                  wake := none } }
    let s := ((s.stopCore 1).stopCore 2).stopCore 3
    let blooms := s.fld R.BLM_OPEN F.BLM_OPEN_open + s.fld R.BLM_OPEN F.BLM_OPEN_ovf_open
    s.cancelTemper.stopDataPath.journal (.faultRecord cause blooms s.openBloomArea)

/-- A core halts with a cause (R308, R311): causes 0x01 to 0x03 free its tags; a halt of core 0 is an uncorrectable
control-path fault; a halt of another core sets its flag, except one by the loader, which keeps its tags and its service call. (DEDUCED, unsafe: log 48; DEDUCED, unsafe: log 49) -/
def State.haltCore (s : State) (n : Nat) (cause : BitVec 8) : State :=
  let s := s.setCore n { s.core n with run := .halted, haltCause := cause, stalled := none, entry := none }
  let s := if cause = 4 then s else (s.freeTags n).dropService n
  let s := if cause = 2 then s.wckFlag (4 + n) else s
  if n = 0 then (s.wckFlag 0).enterFault 2
  else if cause = 4 then s
  else s.wckFlag n

end Sys2Proof.Machine
end

