-- ==== Sys2Proof/Machine/Commit.lean ====
section
/-! DEFINITION. The commit of intervals, rewinding and the replay feeder, lasting faults and interval reports (R169, R170,
R196 to R198, R278 to R285). -/
namespace Sys2Proof.Machine

/-! ### Class lines into the commit buffer (R169, R196) -/

/-- A slice's class words of a line, in release order. -/
def ClassLine.words (x : ClassLine) (n count : Nat) : List Word :=
  (List.range count).map fun w => sget (fun _ => (0 : Word)) x.cls (4096 * n + w)

/-- The CRC-32C registers of an interval with one line more (R169). -/
def State.addCrcs (s : State) (x : ClassLine) (v : Ival) : Ival :=
  { v with crcs := (List.range s.stripes).foldl (fun m n =>
      if s.sliceFenced n x.line.k then m
      else sput (fun _ => BitVec.allOnes 32) m n
        (crcBytes polyC (sget (fun _ => BitVec.allOnes 32) m n) (packDense (x.words n s.stripeWords)))) v.crcs }

/-- The CRC of a slice over an interval, after the final XOR. -/
def Ival.crc (v : Ival) (n : Nat) : BitVec 32 := ~~~ sget (fun _ => BitVec.allOnes 32) v.crcs n

/-- The first stitched line that is still needed: of the array's work, and of the uncommitted intervals (R279). (DEDUCED, unsafe: log 143) -/
def State.firstNeeded (s : State) : Nat :=
  let a := match s.anv.work with
    | x :: _ => x.line.k
    | [] => s.nextArrival
  match s.sti.ivals with
  | v :: _ => min a (16 * v.num)
  | [] => a

/-- Stitched lines that no window can read any more leave the array. (DEDUCED, unsafe: log 143) -/
def State.pruneLines (s : State) : State :=
  let m := s.firstNeeded
  let last := match s.anv.lines.getLast? with | some l => l.k | none => 0
  s.setAnv { s.anv with lines := s.anv.lines.filter fun l => decide (m ≤ l.k + s.lookAhead) || l.k == last,
                        flowEnds := s.anv.flowEnds.filter fun e => decide (m ≤ e + s.lookAhead) }

/-- The lines that the commit buffer holds (R196). (DEDUCED, unsafe: log 143) -/
def State.bufferedLines (s : State) : Nat :=
  s.blm.buffer.length + (s.blm.committed.filter fun i => match i with | .line _ _ _ => true | .closeAll _ => false).length

/-- CLASS_LINE_ENTER (R196): the oldest released class line enters the commit buffer when it finds enough free entries. A line
that a partial interval has already committed is formed again by a replay and dropped here. -/
def State.classEnter (s : State) : State :=
  match s.anv.work with
  | [] => s
  | x :: rest =>
    if x.released && decide ((s.bufferedLines + 1) * s.lineWidth ≤ 4194304) then
      let j := x.line.k / 16
      let done := match s.ival j with
        | some v => decide (x.line.k % 16 < v.committed)
        | none => true
      let s := s.setAnv { s.anv with work := rest }
      if done then s.pruneLines
      else
        let s := s.mapIval j (s.addCrcs x)
        let l : CommitLine := { line := x.line, cls := s.classPixels x }
        (s.setBlm { s.blm with buffer := s.blm.buffer ++ [l], lastEnter := s.ticks }).syncBuffer.pruneLines
    else s

/-- CLASS_LINE_ENTER: see `State.classEnter`. -/
def execClassLineEnter (s : State) : Host.Outcome State Fault Refusal := .next s.classEnter

/-! ### The checks of an interval (R169, R197) -/

/-- The lines of an interval in the buffer. -/
def State.bufferOf (s : State) (j : Nat) : List CommitLine := s.blm.buffer.filter fun l => l.line.k / 16 == j

/-- The slices that are not clean, with their own CRCs. (DESIGN CHOICE, safe: log 146) -/
def State.badSlices (s : State) (v : Ival) (f : CommitChecks) : List (Nat × BitVec 32) :=
  (List.range s.stripes).filterMap fun n =>
    if s.sliceFenced n (16 * v.num) then none
    else match f.slices.find? fun q => q.1.val == n with
      | some (_, none) => some (n, v.crc n)
      | some (_, some x) => if x = v.crc n then none else some (n, x)
      | none => none

/-- A CRC of a slice differs from the commit buffer's. (DESIGN CHOICE, safe: log 146) -/
def State.crcDiffers (s : State) (v : Ival) (f : CommitChecks) : Bool :=
  f.slices.any fun q => decide (q.1.val < s.stripes) && (match q.2 with | some x => x != v.crc q.1.val | none => false)

/-- The failing entries, as stitched line, column and bank, among the lines held. (DESIGN CHOICE, safe: log 146) -/
def State.badEntries (s : State) (v : Ival) (held : List CommitLine) (f : CommitChecks) : List (Nat × Nat × Nat) :=
  (f.entries.map fun q => (16 * v.num + q.1.val, q.2.1.val, q.2.2.val)).filter fun q =>
    decide (q.2.1 < s.lineWidth) && held.any fun l => l.line.k == q.1

/-- The mask of a list of slices. (DEDUCED, unsafe: log 147) -/
def sliceMask (l : List Nat) : BitVec 16 := l.foldl (fun m n => m ||| BitVec.ofNat 16 (2 ^ n)) 0

/-- The array's record of a slice that is not clean (R169). (DEDUCED, unsafe: log 147) -/
def State.noteSlice (s : State) (q : Nat × BitVec 32) : State :=
  ((s.bump (R.ANV_SL_DETECT q.1)).wr (R.ANV_SL_SIG q.1) q.2).anvFlag 5

/-! ### Interval reports (R285) -/

/-- The words of an interval report. (DEDUCED, unsafe: log 147) -/
def reportWords (v : Ival) (kind stripes : Nat) (first w2 : Nat) : List Word :=
  [BitVec.ofNat 72 (3 * 2 ^ 64 + 3 * 2 ^ 60 + kind * 2 ^ 56 + stripes * 2 ^ 40 + v.num % 2 ^ 40),
   BitVec.ofNat 72 (first % 2 ^ 40 * 2 ^ 32 + min v.lost (2 ^ 24 - 1) * 2 ^ 8 + v.detect % 16), BitVec.ofNat 72 w2]

/-- The report of a committed interval, if it is due one: `lasting` under R282, `stripes` the forced or failing ones. (DEDUCED, unsafe: log 147) -/
def State.report (s : State) (v : Ival) (lines : List CommitLine) (lasting : Bool) (stripes : BitVec 16) : State :=
  if !lasting && !v.second && v.lost == 0 then s
  else
    let kind := if lasting then 2 else if v.second then 1 else 3
    let all := stripes ||| v.slices1 ||| lines.foldl (fun m l => m ||| l.line.stripes) 0 ||| v.lostStripes
    let w2 := match v.founded with | f :: _ => f.w2.toNat | [] => 0
    let q := s.fld R.EMB_CFG F.EMB_CFG_report_q
    if s.canPush q 3 then s.pushPacket q 0x83 (reportWords v kind all.toNat (16 * v.num) w2) else s.embFlag 3

/-! ### Commit (R158, R197, R198) -/

/-- The line rate that a committed interval leaves (R158). -/
def State.takeRate (s : State) (v : Ival) : State :=
  if v.replayed ∨ v.arrivals < 2 then s
  else s.setAnv { s.anv with rate := some (v.arriveLast - v.arriveFirst, v.arrivals - 1) }

/-- The budget B from the arrivals (A, n − 1): C = A / (n − 1) cycles (R158). -/
def budget (w : Nat) : Option (Nat × Nat) → Nat
  | some (a, m) => if m = 0 ∨ w = 0 then 0 else min 255 (8 * (a - 8 * m) / (m * w))
  | none => 0

/-- ANV_SL_STATUS.budget and ANV_SL_LOAD of the active slices at a commit (R158, R172). -/
def State.publishBudget (s : State) (v : Ival) : State :=
  let b := budget s.stripeWords s.anv.rate
  upTo s.stripes (fun n s =>
    let w := sget (fun _ => (0 : Nat)) v.words n
    let c := sget (fun _ => (0 : Nat)) v.cycles n
    let s := s.setFld (R.ANV_SL_STATUS n) F.ANV_SL_STATUS_budget b
    if w = 0 then s else s.setFld (R.ANV_SL_LOAD n) F.ANV_SL_LOAD_avg_bundles (256 * c / w)) s

/-- What an interval keeps when a part of it has committed (R198): the next part is measured and checked as its own. (DEDUCED, unsafe: log 148) -/
def Ival.nextPart (v : Ival) (n : Nat) : Ival :=
  { v with committed := v.committed + n, seams := [], arrivals := 0, words := [], cycles := [], crcs := [], second := false,
           replayed := false, slices1 := 0, banks1 := [], cor1 := [], corNow := [], detect := 0, lost := 0 }

/-- Lines as Bloom is to read them. (DEDUCED, unsafe: log 148) -/
def commitItems (j : Nat) : List CommitLine → List BloomItem
  | [] => []
  | l :: ls => .line l j true :: ls.map fun l => .line l j false

/-- The held lines of an interval commit (R197, R198, R282). `lasting`, `stripes`: for the report; `last`: it is the newest
interval of a drain, so that it commits as a partial one even with all its lines. The lines that complete a partly committed interval are
a further partial interval. -/
def State.commitIval (s : State) (v : Ival) (lines : List CommitLine) (lasting : Bool) (stripes : BitVec 16) (last : Bool) : State :=
  let whole := v.committed + lines.length == 16
  let part := last || !whole || decide (0 < v.committed)
  let s := s.setBlm { s.blm with buffer := s.blm.buffer.filter fun l => l.line.k / 16 != v.num,
                                 committed := s.blm.committed ++ commitItems v.num lines }
  let s := (s.takeRate v).commitMeasure v
  let s := (s.publishBudget v).report v lines lasting stripes
  let s := if whole then
      let s := s.keepCursor v s.refSeg
      let s := s.setSti { s.sti with ivals := s.sti.ivals.filter fun w => w.num != v.num }
      s.setBlm { s.blm with lastCommit := some v.num }
    else s.mapIval v.num fun w => w.nextPart lines.length
  let s := upTo 64 (fun c s => s.settleCor c) s.syncBuffer.pruneLines
  if part then s.requestCloseAll true else s

/-! ### Rewinding (R279, R280) -/

/-- A discarded interval's record: its parameter sets and decisions stay, what the stages measured goes. -/
def Ival.discard (v : Ival) : Ival :=
  { v with replayed := true, seams := [], arrivals := 0, words := [], cycles := [], crcs := [], corNow := [] }

/-- A line belongs to interval `j` or a later one. -/
def Line.from (l : Line) (j : Nat) : Bool := match l.interval with | some i => decide (j ≤ i) | none => false

/-- The interval whose snapshot holds a context's state at the start of `j` (R126): the first from `j` on of which the context took lines
with temporal noise reduction on; before it nothing has changed the state. -/
def State.snapshotOf (s : State) (j c : Nat) : Nat :=
  match s.sti.ivals.find? fun v => decide (j ≤ v.num) && v.cor.any fun q => q.1 == c && q.2.1.tnrEn with
  | some v => v.num
  | none => j

/-- A context's state region and empty mark restored from the snapshot of the start of `j` (R127, R279). (DEDUCED, unsafe: log 127) -/
def State.restoreCor (s : State) (j c : Nat) : State :=
  let x := s.corCtx c
  match x.updated with
  | none => s
  | some i =>
    if i < j then s
    else
      let j := s.snapshotOf j c
      let b := s.tnrBase c
      let w := s.ctxWidth c
      let vals := sgets (fun _ => (0 : BitVec 16)) (if j % 2 = 0 then s.cor.snapA else s.cor.snapB) b w
      (s.setCor { s.cor with bank := sputs (fun _ => (0 : BitVec 16)) s.cor.bank b vals }).setCorCtx c
        { x with empty := if j % 2 = 0 then x.emptyA else x.emptyB, updated := none }

/-- Lanes, correction and stitcher drop their lines of interval `j` and later. -/
def State.dropWork (s : State) (j : Nat) : State :=
  let s := upTo 16 (fun L s => match s.onLane L with
    | some o => if o.line.from j then
        (if o.line.reinjected then s.bump R.INT_REINJ_DONE else s).setOnLane L none
      else s
    | none => s) s
  let s := s.setInt { s.int with backlog := [] }
  let s := s.setCor { s.cor with out := s.cor.out.filter fun l => !l.from j }
  let s := s.setSti { s.sti with store := s.sti.store.map (fun q => (q.1, q.2.filter fun l => !l.from j)),
                                 formed := s.sti.formed.filter (fun l => decide (l.k < 16 * j)),
                                 nextForm := min s.sti.nextForm (16 * j) }
  let s := s.endStall
  let s := s.setAnv { s.anv with lines := s.anv.lines.filter (fun l => decide (l.k < 16 * j)),
                                 work := s.anv.work.filter (fun x => decide (x.line.k < 16 * j)),
                                 engines := s.anv.engines.filter fun q => match q.2 with
                                   | some e => decide (e.k < 16 * j)
                                   | none => false }
  (s.setBlm { s.blm with buffer := s.blm.buffer.filter fun l => decide (l.line.k < 16 * j) }).syncBuffer.syncStore

/-- Eligible lines of intake in slot order, by key and context. -/
def insertByKey (l : Line) : List Line → List Line
  | [] => [l]
  | m :: ms => if l.key < m.key ∨ (l.key = m.key ∧ l.ctx < m.ctx) then l :: m :: ms else m :: insertByKey l ms

/-- What the feeder reads after a rewind to `j`: lines of older intervals still to feed, the lines taken into `j` and later,
and those that intake had assembled and not sent. (DEDUCED, unsafe: log 126) -/
def State.feedList (s : State) (j : Nat) : List (Nat × Nat × Option Nat) :=
  let older := s.fed.todo.filter fun q => match q.2.2 with | some i => decide (i < j) | none => false
  let taken := (s.sti.ivals.filter fun v => decide (j ≤ v.num)).flatMap fun v => v.taken.map fun q => (q.1, q.2, some v.num)
  let behind := s.fed.todo.filter fun q => q.2.2.isNone
  let sent := ((s.int.eligible.filter fun l => !l.reinjected).foldl (fun m l => insertByKey l m) []).map fun l =>
    (l.ctx, l.seq, none)
  older ++ taken ++ behind ++ sent

/-- The feeder has read every line: intake sends again, lane by lane. (DEDUCED, unsafe: log 126) -/
def State.feederEnd (s : State) : State :=
  if s.fed.todo.isEmpty && s.fed.running then
    upTo 16 (fun L s => s.takeNext L) { s with fed := { s.fed with running := false } }
  else s

/-- The discard of interval `v`, found not clean on its first attempt: the pipeline rewinds to its start and the replay feeder
begins (R197, R279, R280); a retraining that was to start at this boundary waits for the next (R382). (DEDUCED, unsafe: log 126) -/
def State.rewind (s : State) (v : Ival) (bad : List Nat) (banks : List Nat) : State :=
  let j := v.num
  let behind := (s.sti.ivals.filter fun w => decide (j < w.num)).length
  let feed := s.feedList j
  let s := s.dropWork j
  let s := s.setSti { s.sti with ivals := s.sti.ivals.map fun w =>
    if w.num = j then { w.discard with second := true, slices1 := sliceMask bad, banks1 := banks, cor1 := w.corNow }
    else if j < w.num then { w.discard with detect := w.detect / 8 * 8 } else w }
  let s := upTo 64 (fun c s => s.restoreCor j c) s
  let s := s.setInt { s.int with eligible := s.int.eligible.filter fun l => l.reinjected }
  let s := upTo 16 (fun L s => s.syncLane L) s
  let s := ((s.bump R.EMB_REPLAYS).embFlag 0).bumpBy R.EMB_REWOUND behind
  let s := if s.tmp.boundary then ({ s with tmp := { s.tmp with boundary := false } } : State).bump R.TMP_HBM_DEFER else s
  State.feederEnd { s with fed := { todo := feed, running := true } }

/-! ### Lasting faults (R170, R282 to R284) -/

/-- A class line with pixels forced to class 0 and measure 0, and its tag suspect. (DEDUCED, unsafe: log 147) -/
def CommitLine.force (l : CommitLine) (forced : Nat → Bool) : CommitLine :=
  { l with cls := ((List.range l.cls.length).zip l.cls).map fun q => if forced q.1 then 0 else q.2,
           line := { l.line with w0 := l.line.w0 ||| BitVec.ofNat 72 (2 ^ 16) } }

/-- A slice is fenced from the next interval that opens (R170, R284). (DEDUCED, unsafe: log 167) -/
def State.fenceSlice (s : State) (n : Nat) : State :=
  let s := s.setAnv { s.anv with fences := s.anv.fences ++ [(n, s.sti.newest + 1)] }
  let s := s.wr R.EMB_FENCE (s.rd R.EMB_FENCE ||| BitVec.ofNat 32 (2 ^ n))
  let s := s.wr R.EMB_SUSPECT (s.rd R.EMB_SUSPECT ||| BitVec.ofNat 32 (2 ^ n))
  let s := s.setFld (R.ANV_SL_STATUS n) F.ANV_SL_STATUS_fenced 1
  (s.journal (.fence (2 ^ n) 0)).raise (336 + n)

/-- A commit-buffer bank that failed in both attempts goes to the spare, which the journal records (R286); a second such fault is a
control-path fault (R283). (DEDUCED, unsafe: log 167) -/
def State.spareBank (s : State) (b : Nat) : State :=
  match s.blm.spare with
  | none => ((s.setBlm { s.blm with spare := some b }).journal (.bankFence b)).embFlag 9
  | some _ => s.enterFault 2

/-- The second attempt is not clean: the interval commits from it with its failing stripes and entries forced (R282). (DEDUCED, unsafe: log 167) -/
def State.lasting (s : State) (v : Ival) (held : List CommitLine) (bad : List Nat) (ent : List (Nat × Nat × Nat)) (last : Bool) :
    State :=
  let both := (List.range 16).filter fun n => v.slices1.getLsbD n && bad.contains n
  let sw := s.stripeWidth
  let lines := held.map fun l => l.force fun x =>
    both.contains (if sw = 0 then 0 else x / sw) || ent.any fun q => q.1 == l.line.k && q.2.1 == x
  let forced := sliceMask both ||| sliceMask (ent.map fun q => if sw = 0 then 0 else q.2.1 / sw) ||| sliceMask bad
  let banks := ((ent.map fun q => q.2.2).filter v.banks1.contains).eraseDups
  let s := both.foldl State.fenceSlice s
  let s := (s.embFlag 1).bump R.EMB_LASTING
  let s := banks.foldl State.spareBank s.degrade
  s.commitIval v lines true forced last

/-- An interval whose lines are in the buffer is checked: it commits, is discarded and replayed, or commits under R282. (DESIGN CHOICE, safe: log 146) -/
def State.checkIval (s : State) (v : Ival) (held : List CommitLine) (f : CommitChecks) (last : Bool) : State :=
  let bad := s.badSlices v f
  let ent := s.badEntries v held f
  let det := v.detect ||| (if bad.isEmpty then 0 else 2) ||| (if ent.isEmpty && !s.crcDiffers v f then 0 else 4)
  let v := { v with detect := det }
  let s := bad.foldl State.noteSlice (s.mapIval v.num fun w => { w with detect := det })
  if bad.isEmpty && ent.isEmpty && v.corNow.isEmpty then s.commitIval v held false 0 last
  else if v.second then s.lasting v held (bad.map Prod.fst) ent last
  else s.rewind v (bad.map Prod.fst) (ent.map fun q => q.2.2)

/-- INTERVAL_COMMIT (R197): the oldest uncommitted interval with all of its stitched lines in the buffer is checked. -/
def State.intervalCommit (s : State) (f : CommitChecks) : State :=
  match s.sti.ivals with
  | [] => s
  | v :: _ =>
    let held := s.bufferOf v.num
    if v.committed + held.length = 16 ∧ !held.isEmpty then s.checkIval v held f false else s

/-- INTERVAL_COMMIT: see `State.intervalCommit`. (DESIGN CHOICE, safe: log 146) -/
def execIntervalCommit (found : CommitChecks) (s : State) : Host.Outcome State Fault Refusal := .next (s.intervalCommit found)

/-- The conditions of R198; the drain waits for the replay feeder (R280). (DEDUCED, unsafe: log 148) -/
def State.draining (s : State) : Bool :=
  (s.gateClosed || s.refLost) && s.passedUs s.blm.lastEnter (s.blmCfg R.BLM_OUT F.BLM_OUT_drain_us) && s.anv.work.isEmpty &&
    s.sti.formed.isEmpty && !s.fed.running

/-- DRAIN_COMMIT (R143, R198): the oldest interval held in the buffer commits with the lines it holds, as a partial interval if it
lacks lines or is the newest held; with nothing held under reference loss, or in ARMED after the last committed line (R204), the open
blooms close. (DEDUCED, unsafe: log 148) -/
def State.drainCommit (s : State) (f : CommitChecks) : State :=
  if s.draining then
    match s.sti.ivals.filter fun v => !(s.bufferOf v.num).isEmpty with
    | [] => if (s.refLost || s.inStates [.armed]) && !s.blm.blooms.isEmpty then s.requestCloseAll true else s
    | v :: rest => s.checkIval v (s.bufferOf v.num) f rest.isEmpty
  else s

/-- DRAIN_COMMIT: see `State.drainCommit`. -/
def execDrainCommit (found : CommitChecks) (s : State) : Host.Outcome State Fault Refusal := .next (s.drainCommit found)

/-! ### The replay feeder (R280, R281) -/

/-- The decisions of a founded line that use a lost line of a segment are blanks, and its line is suspect. (DEDUCED, unsafe: log 134) -/
def Founded.lose (f : Founded) (i q : Nat) (stripes : BitVec 16) : Founded :=
  if f.serves.any fun p => p.1 == i && p.2.uses q then
    { f with serves := f.serves.map fun p => if p.1 = i ∧ p.2.uses q then (i, .blank) else p, lost := f.lost ||| stripes }
  else f

/-- Stitched lines of an interval that are already formed become suspect. (DEDUCED, unsafe: log 134) -/
def State.suspectIval (s : State) (j : Nat) : State :=
  let tag (l : StLine) : StLine := if l.k / 16 = j then { l with w0 := l.w0 ||| BitVec.ofNat 72 (2 ^ 16) } else l
  let s := s.setSti { s.sti with formed := s.sti.formed.map tag }
  let s := s.setAnv { s.anv with lines := s.anv.lines.map tag, work := s.anv.work.map fun x => { x with line := tag x.line } }
  s.setBlm { s.blm with buffer := s.blm.buffer.map fun l => { l with line := tag l.line } }

/-- A lost line is skipped (R281). (DEDUCED, unsafe: log 134) -/
def State.loseLine (s : State) (c seq : Nat) (interval : Option Nat) : State :=
  let j := interval.getD s.sti.newest
  let segs := match s.ival j with | some v => v.segs | none => s.sti.segs
  let mine := (enabledSegs segs).filter fun p => p.2.ctx == c
  let stripes := mine.foldl (fun m p => m ||| segStripes s.stripeWidth p.2) 0
  let s := (s.embFlag 2).bump R.EMB_LOST_LINES
  let s := s.mapIval j fun v =>
    { v with lost := v.lost + 1, detect := v.detect ||| 8, suspectAll := true, lostStripes := v.lostStripes ||| stripes }
  let s := s.suspectIval j
  let s := mine.foldl (fun s p =>
    let s := upTo (s.usesOf p.1 seq) (fun _ s => (s.bump (R.STI_SEG_BLANK p.1)).stiFlag 2) s
    let own (f : Founded) : Founded := if p.1 == s.refSeg && f.ref == seq && f.serves.all (fun q => q.1 != p.1) then
      { f.serve p.1 .blank with lost := f.lost ||| stripes } else f.lose p.1 seq stripes
    s.setSti { s.sti with ivals := s.sti.ivals.map fun v => { v with founded := v.founded.map own } }) s
  s.formAll

/-- FEEDER_LINE (R280, R281): the next raw line whose pixel lane is free is read from its slot and supplied, or skipped as lost; intake
sends again on a lane of which the feeder has nothing left to read. It waits while Hearth does not grant the read. (DEDUCED, unsafe: log 126) -/
def State.feederLine (s : State) (ecc : EccResult) : State :=
  if !s.fed.running then s
  else match s.fed.todo.find? fun q => (s.onLane (s.ctxLane q.1)).isNone with
    | none => s
    | some (c, seq, i) =>
      let n := 9 * lineWords (s.ctxWidth c) (samplesPerWord (s.ctxFmt c))
      match s.blockEcc (s.ringHandle c) (s.slotOffset c seq) n ecc with
      | (false, t) => t
      | (true, s) =>
        let s : State := { s with fed := { s.fed with todo := s.fed.todo.erase (c, seq, i) } }
        let s := s.hearthTraffic 2 n
        let s := match s.readSlot c seq with
          | none => s.loseLine c seq i
          | some l => s.takeLine (s.ctxLane c) { l with w0 := l.w0 ||| BitVec.ofNat 72 (2 ^ 18), interval := i } true
        (s.takeNext (s.ctxLane c)).feederEnd

/-- FEEDER_LINE: see `State.feederLine`. -/
def execFeederLine (s : State) (ecc : EccResult := .clean) : Host.Outcome State Fault Refusal := .next (s.feederLine ecc)

/-! ### The start of a retraining (R382) -/

/-- The pipeline is idle (R382): no recipe is loaded, or the feeder does not run and no line is held from correction to the
commit buffer; the lines of the alignment store are held. (DEDUCED, unsafe: log 104) -/
def State.pipelineIdle (s : State) : Bool :=
  !s.rcp.loaded || (!s.fed.running && s.int.lanes.all (fun p => p.2.isNone) && s.cor.out.isEmpty &&
    s.sti.store.all (fun q => q.2.isEmpty) && s.sti.formed.isEmpty && s.anv.work.isEmpty && s.blm.buffer.isEmpty)

/-- RETRAIN_START (R102, R382): a waiting retraining starts at the opening of an interval with no replay reads outstanding, or
at once when the pipeline is idle; ring writes in progress are deferred. -/
def State.retrainStart (s : State) : State :=
  if s.tmp.hbmDue.isSome && s.tmp.hbmStart.isNone && !s.fed.running && (s.tmp.boundary || s.pipelineIdle) then
    let s := s.startRetraining
    s.setInt { s.int with ringWrites := s.int.ringWrites.map fun l => { l with deferred := true } }
  else s

/-- RETRAIN_START: see `State.retrainStart`. -/
def execRetrainStart (s : State) : Host.Outcome State Fault Refusal := .next s.retrainStart

end Sys2Proof.Machine
end

