-- ==== Sys2Proof/Machine/Events.lean ====
section
/-! DEFINITION. The event controller: gates, delivery to host software as MSI-X messages, source configuration and the
Lantern (R348 to R361). -/
namespace Sys2Proof.Machine

/-- The entry of a vector in the MSI-X table. -/
def State.msixEntry (s : State) (v : Nat) : MsixEntry := sget (fun _ => ({} : MsixEntry)) s.evt.msix v

/-- The state with a vector's entry replaced. -/
def State.setMsixEntry (s : State) (v : Nat) (e : MsixEntry) : State :=
  { s with evt := { s.evt with msix := sput (fun _ => ({} : MsixEntry)) s.evt.msix v e } }

/-- A vector's message: sent, or held in the pending bit array while the vector or the function is masked (R354). -/
def State.message (s : State) (v : Nat) : State :=
  let e := s.msixEntry v
  if s.evt.functionMask || e.masked then
    { s with evt := { s.evt with pba := s.evt.pba ||| BitVec.ofNat 64 (2 ^ v) } }
  else s.emit (.msix v e.addr e.data)

/-- A pended vector that is no longer masked sends its one message (R354). (DESIGN CHOICE, safe: log 30) -/
def State.sendPended (s : State) (v : Nat) : State :=
  if s.evt.pba.getLsbD v && !s.evt.functionMask && !(s.msixEntry v).masked then
    ({ s with evt := { s.evt with pba := s.evt.pba &&& ~~~ BitVec.ofNat 64 (2 ^ v) } } : State).message v
  else s

/-- May a host-targeted source commit: released, enabled and unmasked (R354)? -/
def State.hostDue (s : State) (src : Nat) : Bool :=
  let v := s.rd (R.EVT_SRC src)
  getField v F.EVT_SRC_released == 1 && getField v F.EVT_SRC_enable == 1 && getField v F.EVT_SRC_mask == 0 &&
    getField v F.EVT_SRC_target == 4

/-- The commit of one host-targeted source (R354), without its vector's message. -/
def State.commitSource (s : State) (src : Nat) : State :=
  let s := (s.setFld (R.EVT_SRC src) F.EVT_SRC_pending 0).setFld (R.EVT_SRC src) F.EVT_SRC_released 0
  let k := R.EVT_HOST_SEEN ((src - 128) / 32)
  s.wr k (s.rd k ||| BitVec.ofNat 32 (2 ^ ((src - 128) % 32)))

/-- Every source of a list that is due commits; each vector named sends one message, in vector order (R354). -/
def State.commitAll (s : State) (srcs : List Nat) : State :=
  let due := srcs.filter s.hostDue
  let vectors := due.map fun src => s.fld (R.EVT_SRC src) F.EVT_SRC_vector
  let s := due.foldl State.commitSource s
  upTo 64 (fun v s => if vectors.contains v then s.message v else s) s

/-- Units of 100 ns have passed since a tick of the event clock (R350: measured with a resolution of 8 ns). (DEDUCED, unsafe: log 32) -/
def State.unitsPassed (s : State) (since units : Nat) : Bool := decide (units * 100 ≤ 8 * (s.evt.clock - since))

/-- The raises reach count, or the timer has run (R350). -/
def State.gateDue (s : State) (g : Nat) : Bool :=
  let x := s.gate g
  let a := s.fld (R.EVT_GRP_STATUS g) F.EVT_GRP_STATUS_accum
  decide (x.count ≤ a) || (match x.first with | some t => s.unitsPassed t x.timer | none => false)

/-- The hold-off has passed since the last opening (R350). -/
def State.gateFree (s : State) (g : Nat) : Bool :=
  match (s.gate g).lastOpen with
  | some t => s.unitsPassed t (s.gate g).holdOff
  | none => true

/-- The sources of a group. -/
def groupSources (g : Nat) : List Nat := (List.range 16).map fun i => 16 * g + i

/-- Is the event controller clocked (R360: not in BANKED, RESET or OFF)? -/
def State.eventsRun (s : State) : Bool := !s.inStates [.off, .reset, .banked]

/-- A gate opening (R350, R351): every pending source is released, the count and timer restart, the written
configuration takes effect, and released host sources commit. -/
def State.openGate (s : State) (g : Nat) : State :=
  let s := (groupSources g).foldl (fun s src =>
    if s.bit (R.EVT_SRC src) F.EVT_SRC_pending then s.setFld (R.EVT_SRC src) F.EVT_SRC_released 1 else s) s
  let s := (s.setFld (R.EVT_GRP_STATUS g) F.EVT_GRP_STATUS_accum 0).setFld (R.EVT_GRP_STATUS g) F.EVT_GRP_STATUS_timing 0
  let s := s.bump (R.EVT_GRP_OPENS g)
  let s := s.setGate g ⟨s.fld (R.EVT_GRP_CFG g) F.EVT_GRP_CFG_timer, s.fld (R.EVT_GRP_CFG g) F.EVT_GRP_CFG_count,
    s.fld (R.EVT_GRP_HOLD g) F.EVT_GRP_HOLD_hold_off, none, some s.evt.clock⟩
  s.commitAll (groupSources g)

/-- GATE_OPEN (R350): the gate opens where both conditions hold. -/
def execGateOpen (g : Fin 32) (s : State) : Host.Outcome State Fault Refusal :=
  .next (if s.eventsRun && s.gateDue g && s.gateFree g then s.openGate g else s)

/-- The value that a write leaves in EVT_SRC (R349, R353, R357): the target and vector of a shared source change only
while it is disabled, a private source's target never does, clearing enable or pending withdraws the source. -/
def evtSrcNext (old v : BitVec 32) (routable : Bool) : BitVec 32 :=
  let locked := getField old F.EVT_SRC_enable == 1
  let tgt := if locked || !routable || 4 < getField v F.EVT_SRC_target then getField old F.EVT_SRC_target
    else getField v F.EVT_SRC_target
  let vec := if locked then getField old F.EVT_SRC_vector else getField v F.EVT_SRC_vector
  let keep := getField v F.EVT_SRC_enable == 1 && getField v F.EVT_SRC_pending == 0
  let pend := if keep then getField old F.EVT_SRC_pending else 0
  let rel := if keep then getField old F.EVT_SRC_released else 0
  let w := putField (putField (putField 0 F.EVT_SRC_enable (getField v F.EVT_SRC_enable)) F.EVT_SRC_mask
    (getField v F.EVT_SRC_mask)) F.EVT_SRC_priority (getField v F.EVT_SRC_priority)
  putField (putField (putField (putField w F.EVT_SRC_target tgt) F.EVT_SRC_vector vec) F.EVT_SRC_pending pend)
    F.EVT_SRC_released rel

/-- A write of EVT_SRC by an agent (R357: a recipe-mode core cannot write the target). A source that it leaves
released, enabled and unmasked for the host commits at once. -/
def State.writeSource (s : State) (ag : Agent) (src : Nat) (v : BitVec 32) : State :=
  let routable := decide (128 ≤ src) && (match ag with | .host => true | .core n => n.val == 0)
  let s := s.wr (R.EVT_SRC src) (evtSrcNext (s.rd (R.EVT_SRC src)) v routable)
  if s.eventsRun then s.commitAll [src] else s

/-- SOURCE_CONFIG_WRITE (R349, R353, R357): a BAR0 write of EVT_SRC. -/
def execSourceConfigWrite (src : Fin 512) (v : Reg32) (s : State) : Host.Outcome State Fault Refusal :=
  .next (s.hostWrite (R.EVT_SRC src) v fun s => s.writeSource .host src v)

/-- VECTOR_UNMASK (R354): a write to the MSI-X structures; an unmasked vector with its pending bit set sends one
message. (DESIGN CHOICE, safe: log 30) -/
def State.writeMsix (s : State) (w : MsixWrite) : State :=
  match w with
  | .unmask v => (s.setMsixEntry v { s.msixEntry v with masked := false }).sendPended v
  | .mask v => s.setMsixEntry v { s.msixEntry v with masked := true }
  | .entry v a d => s.setMsixEntry v { s.msixEntry v with addr := a, data := d }
  | .functionMask b =>
    let s : State := { s with evt := { s.evt with functionMask := b } }
    upTo 64 (fun v s => s.sendPended v) s

/-- VECTOR_UNMASK: see `State.writeMsix`. The table lies in BAR4, which D3hot disables (R324, R325); the function mask lies in
configuration space. (DESIGN CHOICE, safe: log 30) -/
def execVectorUnmask (w : MsixWrite) (s : State) : Host.Outcome State Fault Refusal :=
  .next (match w with
    | .functionMask _ => s.writeMsix w
    | _ => if s.hst.d3hot then s else s.writeMsix w)

/-- What 32 bits of BAR4 read as (R325): a vector's table entry of four words at 0x8000 + 16 v, the pending bit array at 0x9000; a doorbell
reads as zero. (PRESUMED, safe: log 30) -/
def State.bar4Dword (s : State) (off : Nat) : BitVec 32 :=
  if 0x8000 ≤ off ∧ off < 0x8400 then
    let e := s.msixEntry ((off - 0x8000) / 16)
    match (off - 0x8000) / 4 % 4 with
    | 0 => e.addr.setWidth 32
    | 1 => (e.addr >>> 32).setWidth 32
    | 2 => e.data
    | _ => BitVec.ofNat 32 e.masked.toNat
  else if off = 0x9000 then s.evt.pba.setWidth 32
  else if off = 0x9004 then (s.evt.pba >>> 32).setWidth 32
  else 0

/-- EVT_GRP_STATUS.held: an opening is due and waits for hold_off. -/
def State.gateHeld (s : State) (g : Nat) : Bool := s.gateDue g && !s.gateFree g

/-- A write of EVT_LTN_CFG: arm stays clear while no slot is valid (R358). -/
def State.writeLanternCfg (s : State) (v : BitVec 32) : State :=
  let any := (List.range 32).any fun i => s.bit (R.EVT_LTN_SLOT i) F.EVT_LTN_SLOT_valid
  s.setFld R.EVT_LTN_CFG F.EVT_LTN_CFG_arm (if any then getField v F.EVT_LTN_CFG_arm else 0)

/-- At the entry to BANKED, a pending source that would wake the device wakes it at once (R360). (DEDUCED, safe: log 82) -/
def State.wakePending (s : State) : State :=
  upTo 512 (fun src s =>
    if s.bit (R.EVT_SRC src) F.EVT_SRC_pending && s.bit (R.EVT_SRC src) F.EVT_SRC_enable then s.wakeOn src else s) s

end Sys2Proof.Machine
end

