-- ==== Sys2Proof/Machine/TimeBase.lean ====
section
/-! DEFINITION. The time base: counter, states, servo, PTP exchanges and the transparent clock (R362 to R373). -/
namespace Sys2Proof.Machine

/-- The clamp of R363 and R368. -/
def rateLimit : Int := 34359738

/-- The time state code of R365. -/
def timeCode : TimeState → Nat
  | .unset => 0 | .tracking => 1 | .holdover => 2 | .held => 3

/-- The state with a changed time base. -/
def State.setTim (s : State) (t : TimeBase) : State := { s with tim := t }

/-- The time base enters HOLDOVER (R369): rate is I, holdover is set. -/
def State.enterHoldover (s : State) : State :=
  (s.setTim { s.tim with state := .holdover, rate := s.tim.integral, restep := false }).timFlag 1

/-- The servo update of R368. -/
def State.servo (s : State) (o : Int) : State :=
  let i := clampInt (-rateLimit) rateLimit (s.tim.integral - sar o (s.fld R.TIM_SERVO F.TIM_SERVO_ki))
  let p := -(sar o (s.fld R.TIM_SERVO F.TIM_SERVO_kp))
  s.setTim { s.tim with integral := i, rate := clampInt (-rateLimit) rateLimit (i + p) }

/-- |o| is within the step threshold (R368). -/
def State.withinThreshold (s : State) (o : Int) : Bool :=
  decide (o.natAbs ≤ s.fld R.TIM_CFG F.TIM_CFG_step_thresh * 65536)

/-- A step is decided and takes effect at the next tick (R367). (DEDUCED, unsafe: log 97; DEDUCED, unsafe: log 101) -/
def State.decideStep (s : State) (o : Int) : State := s.setTim { s.tim with stepOffset := some o, restep := false }

/-- Is an offset formed now discarded (R367)? -/
def State.offsetsDiscarded (s : State) : Bool := s.tim.stepOffset.isSome || s.tim.state == .held

/-- An offset that has been formed (R365, R367 to R370). (DEDUCED, unsafe: log 101) -/
def State.takeOffset (s : State) (o : Int) : State :=
  let s := s.setTim { s.tim with offset := o }
  match s.tim.state with
  | .unset => s.decideStep o
  | .tracking => if s.withinThreshold o then s.servo o else s.enterHoldover
  | .holdover =>
    if s.tim.restep then s.decideStep o
    else if s.withinThreshold o then (s.setTim { s.tim with state := .tracking }).servo o
    else s
  | .held => s

/-- The time counter at one CLK_TIME tick (R362, R367): the advance of 8 ns and rate, a decided step, or the hold. (DEDUCED, unsafe: log 101) -/
def State.tickTime (s : State) : State :=
  let t := s.tim
  if t.state = .held then s.setTim { t with hold := t.hold - 1 }
  else
    let c := (((t.counter : Int) + 8 * 2 ^ 32 + t.rate).toNat) % (2 ^ 40 * 1000000000 * 2 ^ 32)
    match t.stepOffset with
    | none => s.setTim { t with counter := c }
    | some o =>
      if o ≤ 0 then
        (s.setTim { t with counter := (c + o.natAbs * 65536) % (2 ^ 40 * 1000000000 * 2 ^ 32), state := .tracking, integral := 0, rate := 0,
                           stepOffset := none, stretch := t.stretch + 1 }).timFlag 0
      else
        (s.setTim { t with counter := c, state := .held, hold := cdiv o.natAbs (8 * 65536), stepOffset := none,
                           stretch := t.stretch + 1 }).timFlag 2

/-- HELD_END (R365, R367): the hold has run; the counter resumes and the time base enters TRACKING, keeping I. -/
def execHeldEnd (s : State) : Host.Outcome State Fault Refusal :=
  .next (if s.tim.state = .held ∧ s.tim.hold = 0 then
      (s.setTim { s.tim with state := .tracking, stretch := s.tim.stretch + 1 }).raise 499
    else s)

/-- HOST_OFFSET (R366): a write of TIM_HOST_OFS_HI submits the host offset when source is 0b11. -/
def State.hostOffset (s : State) (hi : BitVec 32) : State :=
  let s := s.wr R.TIM_HOST_OFS_HI hi
  if s.fld R.TIM_CFG F.TIM_CFG_source = 3 ∧ s.offsetsDiscarded = false then
    s.takeOffset (signed 64 (hi.toNat * 2 ^ 32 + (s.rd R.TIM_HOST_OFS_LO).toNat))
  else s

/-- HOST_OFFSET: see `State.hostOffset`. -/
def execHostOffset (hi : Reg32) (s : State) : Host.Outcome State Fault Refusal :=
  .next (s.hostWrite R.TIM_HOST_OFS_HI hi fun s => s.hostOffset hi)

/-- Is the time base in a state that a lost master, a change of source or BANKED moves to HOLDOVER (R369)? (DEDUCED, unsafe: log 98) -/
def State.loseTime (s : State) : State := if s.tim.state = .tracking then s.enterHoldover else s

/-- A write of TIM_CFG (R369): step_thresh 0 keeps its value (R10); a change of source starts afresh. (DEDUCED, unsafe: log 98) -/
def State.writeTimCfg (s : State) (v : BitVec 32) : State :=
  let old := s.fld R.TIM_CFG F.TIM_CFG_source
  let thr := getField v F.TIM_CFG_step_thresh
  let v := if thr = 0 then putField v F.TIM_CFG_step_thresh (s.fld R.TIM_CFG F.TIM_CFG_step_thresh) else v
  let s := s.wr R.TIM_CFG (v &&& 0xF0FFFFFF#32)
  if getField v F.TIM_CFG_source = old then s
  else
    let s := s.setTim { s.tim with exchange := none, master := none, mpd := none, lastSync := s.ticks, lastDelayReq := none }
    s.loseTime

/-- SOURCE_CHANGE (R365, R369): a write of TIM_CFG that changes source. -/
def execSourceChange (v : Reg32) (s : State) : Host.Outcome State Fault Refusal :=
  .next (s.hostWrite R.TIM_CFG v fun s => s.writeTimCfg v)

/-- The plant port that source selects, if PTP (R366). -/
def State.ptpPort (s : State) : Option Nat :=
  match s.fld R.TIM_CFG F.TIM_CFG_source with
  | 1 => some 0
  | 2 => some 1
  | _ => none

/-- Is a plant port enabled and running (not in BANKED, RESET or OFF)? -/
def State.portOn (s : State) (k : Nat) : Bool :=
  s.bit (R.TIM_PP_CFG k) F.TIM_PP_CFG_enable && !s.inStates [.off, .reset, .banked]

/-- A PTP message forwarded to the other port (R373); the residence time measured is an open value, added for Sync and
Delay_Req. (DESIGN CHOICE, safe: log 99) -/
def State.tcForward (s : State) (m : PtpMsg) (corrected : Bool) : State :=
  let o := 1 - m.port.val
  if s.bit R.TIM_CFG F.TIM_CFG_tc_en && s.portOn o then
    let (r, s) := if corrected then s.fresh else (0, s)
    (s.emit (.ptpForward o { m with correction := m.correction + r })).bump (R.TIM_PP_TC_FWD o)
  else s

/-- A frame received on a port is counted. (DESIGN CHOICE, safe: log 99) -/
def State.rxFrame (s : State) (k : Nat) : State := s.bump (R.TIM_PP_RX_FRAMES k)

/-- Does the ordinary clock take a message: on the port that source selects, in the configured domain (R372)? -/
def State.ptpTakes (s : State) (m : PtpMsg) : Bool :=
  s.ptpPort == some m.port.val && s.fld R.TIM_CFG F.TIM_CFG_domain == m.domain.toNat

/-- The selected master sent the message. -/
def State.fromMaster (s : State) (m : PtpMsg) : Bool :=
  match s.tim.master with
  | some (src, _) => src == m.source
  | none => false

/-- A device time in 2^-16 ns. -/
def State.time16 (s : State) (tap : Nat) : Int := ((s.edgeCounter tap / 2 ^ 16 : Nat) : Int)

/-- PTP_SYNC (R366, R372): the receive time of a Sync from the master opens an exchange. -/
def State.ptpSync (s : State) (m : PtpMsg) : State :=
  if s.portOn m.port then
    let s := (s.rxFrame m.port).tcForward m true
    if s.ptpTakes m && s.fromMaster m then
      let x : Exchange :=
        ⟨m.sequenceId.toNat, m.source, if m.twoStep then none else some m.stamp, m.correction, s.time16 m.tap,
          s.tim.stretch, none⟩
      s.setTim { s.tim with lastSync := s.ticks, exchange := some x }
    else s
  else s

/-- PTP_SYNC: see `State.ptpSync`. -/
def execPtpSync (m : PtpMsg) (s : State) : Host.Outcome State Fault Refusal := .next (s.ptpSync m)

/-- FOLLOW_UP (R366): the precise origin time and the second correctionField of a two-step Sync. (DEDUCED, unsafe: log 97) -/
def State.followUp (s : State) (m : PtpMsg) : State :=
  if s.portOn m.port then
    let s := (s.rxFrame m.port).tcForward m false
    match s.tim.exchange with
    | some x =>
      if s.ptpTakes m && x.t1.isNone && x.seq == m.sequenceId.toNat && x.source == m.source then
        s.setTim { s.tim with exchange := some { x with t1 := some m.stamp, cS := x.cS + m.correction } }
      else s
    | none => s
  else s

/-- FOLLOW_UP: see `State.followUp`. -/
def execFollowUp (m : PtpMsg) (s : State) : Host.Outcome State Fault Refusal := .next (s.followUp m)

/-- The interval of a logMessageInterval, in ticks. -/
def logTicks (k : Int) : Nat :=
  if 0 ≤ k then 125000000 * 2 ^ k.toNat else 125000000 / 2 ^ k.natAbs

/-- DELAY_REQ (R366): one is sent after each Sync, held back for the interval of the last Delay_Resp; t3 is written on
the fly. (DEDUCED, unsafe: log 97) -/
def State.delayReq (s : State) (k tap : Nat) : State :=
  match s.tim.exchange with
  | some x =>
    let spaced : Bool := match s.tim.lastDelayReq with
      | some t => decide (logTicks s.tim.logInterval ≤ s.ticks - t)
      | none => true
    if s.ptpPort = some k ∧ s.portOn k ∧ x.t3 = none ∧ spaced then
      let seq := (s.tim.delaySeq + 1) % 65536
      let x := { x with t3 := some (s.time16 tap, s.tim.stretch) }
      let s := s.setTim { s.tim with delaySeq := seq, lastDelayReq := some s.ticks, exchange := some x }
      s.emit (.delayReq k seq (s.edgeTime tap))
    else s
  | none => s

/-- DELAY_REQ: see `State.delayReq`. -/
def execDelayReq (k : Fin 2) (tap : Fin 32) (s : State) : Host.Outcome State Fault Refusal := .next (s.delayReq k tap)

/-- The ML16's own port identity on a port. (DEDUCED, unsafe: log 97) -/
def ownIdentity (k : Nat) : BitVec 80 := BitVec.ofNat 80 (Config.clockIdentity.toNat * 65536 + k + 1)

/-- The offset and the mean path delay of a completed exchange (R366). -/
def exchangeOffset (old : Option Int) (t1 t2 t3 t4 cS cD : Int) : Int × Int :=
  let dms := t2 - t1 - cS
  let dsm := t4 - t3 - cD
  let half := sar (dms + dsm) 1
  let mpd := match old with
    | none => half
    | some p => p + sar (half - p) 3
  (dms - mpd, mpd)

/-- DELAY_RESP (R366, R371): the matching response completes the exchange, unless the counter was broken in it or the
offset falls where R367 discards it. (DEDUCED, unsafe: log 97) -/
def State.delayResp (s : State) (m : PtpMsg) : State :=
  if s.portOn m.port then
    let s := (s.rxFrame m.port).tcForward m false
    if s.ptpTakes m && s.fromMaster m && m.requester == ownIdentity m.port then
      let s := s.setTim { s.tim with logInterval := m.logInterval }
      match s.tim.exchange with
      | some x =>
        let s := s.setTim { s.tim with exchange := none }
        match x.t1, x.t3 with
        | some t1, some (t3, st) =>
          if s.tim.delaySeq = m.sequenceId.toNat ∧ x.stretch = st ∧ st = s.tim.stretch ∧ s.offsetsDiscarded = false then
            let (o, mpd) := exchangeOffset s.tim.mpd t1 x.t2 t3 m.stamp x.cS m.correction
            (s.setTim { s.tim with mpd := some mpd }).takeOffset o
          else s
        | _, _ => s
      | none => s
    else s
  else s

/-- DELAY_RESP: see `State.delayResp`. -/
def execDelayResp (m : PtpMsg) (s : State) : Host.Outcome State Fault Refusal := .next (s.delayResp m)

/-- The default data set comparison (R372): is `a` better than `b`? (DEDUCED, unsafe: log 98) -/
def betterMaster (a b : AnnounceData) : Bool :=
  let k (d : AnnounceData) : List Nat :=
    [d.priority1.toNat, d.clockClass.toNat, d.accuracy.toNat, d.variance.toNat, d.priority2.toNat, d.identity.toNat]
  if a.identity = b.identity then decide (a.stepsRemoved.toNat < b.stepsRemoved.toNat) else decide (k a < k b)

/-- ANNOUNCE (R372): the best master on the port that source selects. (DEDUCED, unsafe: log 98) -/
def State.announce (s : State) (m : PtpMsg) (d : AnnounceData) : State :=
  if s.portOn m.port then
    let s := (s.rxFrame m.port).tcForward m false
    if s.ptpTakes m then
      match s.tim.master with
      | none => s.setTim { s.tim with master := some (m.source, d) }
      | some (src, old) =>
        if src = m.source ∨ betterMaster d old then s.setTim { s.tim with master := some (m.source, d) } else s
    else s
  else s

/-- ANNOUNCE: see `State.announce`. -/
def execAnnounce (m : PtpMsg) (d : AnnounceData) (s : State) : Host.Outcome State Fault Refusal := .next (s.announce m d)

/-- RECEIVED_DELAY_REQ (R373): another clock's Delay_Req is forwarded with its residence time. -/
def execReceivedDelayReq (m : PtpMsg) (s : State) : Host.Outcome State Fault Refusal :=
  .next (if s.portOn m.port then (s.rxFrame m.port).tcForward m true else s)

/-- MASTER_LOST (R369): no Sync has been accepted for master_tmo × 100 ms. -/
def execMasterLost (s : State) : Host.Outcome State Fault Refusal :=
  .next (if s.ptpPort.isSome ∧ s.passedUs s.tim.lastSync (s.fld R.TIM_SERVO F.TIM_SERVO_master_tmo * 100000) then
      ((s.setTim { s.tim with lastSync := s.ticks, master := none, exchange := none }).timFlag 3).loseTime
    else s)

end Sys2Proof.Machine
end

