-- ==== Sys2Proof/Machine/Plant.lean ====
section
/-! DEFINITION. The plant ports: datagrams, answers to ARP and ICMP echo, received frames (R374 to R378). -/
namespace Sys2Proof.Machine

/-- The `n` bytes of a number, most significant first (network order). -/
def netBytes (n v : Nat) : List Byte := (toBytes n v).reverse

/-- The Internet checksum of a header given as 16-bit words. (DEDUCED, unsafe: log 100) -/
def ipChecksum (ws : List Nat) : Nat :=
  let t := ws.foldl (· + ·) 0
  let t := t / 65536 + t % 65536
  let t := t / 65536 + t % 65536
  65535 - t % 65536

/-- The 48-bit MAC address of a pair of registers. -/
def State.mac (s : State) (lo hi : Nat) (f : Field) : Nat := s.fld hi f * 2 ^ 32 + (s.rd lo).toNat

/-- The VLAN that a received frame must carry, where vlan_en is set (R374). -/
def State.vlanOk (s : State) (k : Nat) (v : Option (BitVec 12)) : Bool :=
  if s.bit (R.TIM_PP_CFG k) F.TIM_PP_CFG_vlan_en then v == some (BitVec.ofNat 12 (s.fld (R.TIM_PP_CFG k) F.TIM_PP_CFG_vlan_id))
  else true

/-- Largest number of payload words in one datagram (R375). -/
def State.datagramLimit (s : State) (k : Nat) : Nat := if s.bit (R.TIM_PP_CFG k) F.TIM_PP_CFG_jumbo then 992 else 159

/-- The UDP payload of a data datagram (R376, R377). -/
def State.datagramPayload (s : State) (k tap : Nat) (ws : List Word) : List Byte :=
  let flags := (if s.tim.state = .tracking then 1 else 0) + (if s.tim.state = .holdover then 2 else 0) +
    (if s.tim.state = .held then 4 else 0) + (if s.bit R.BLW_STATE F.BLW_STATE_degraded then 8 else 0)
  let map := s.fld R.ENC_COORD F.ENC_COORD_master + 4 * s.fld R.ENC_COORD F.ENC_COORD_md_downstream_negative +
    8 * s.fld R.ENC_COORD F.ENC_COORD_valid
  [0x4B, 0x1F, 0x01, 0x01] ++ toBytes 4 (sget (fun _ => 0) s.tim.dgramSeq k) ++ toBytes 1 flags ++ toBytes 1 map ++
    toBytes 2 ws.length ++ toBytes 4 (s.rd R.ENC_MD_SCALE).toNat ++ toBytes 4 (s.rd R.STI_CD_PITCH).toNat ++
    toBytes 4 (s.rd R.STI_CD_ORIGIN).toNat ++ toBytes 9 (s.edgeTime tap).toNat ++ [0, 0, 0] ++ packDense ws

/-- The Ethernet, VLAN, IPv4 and UDP headers around a payload (R375): TTL 64, DF set, UDP checksum 0. (DEDUCED, unsafe: log 100) -/
def State.plantHeaders (s : State) (k d ident : Nat) (payload : List Byte) : List Byte :=
  let dst := R.TIM_DST_MAC_HI d
  let pcp := s.fld dst F.TIM_DST_MAC_HI_pcp
  let total := payload.length + 28
  let sip := (s.rd (R.TIM_PP_IP k)).toNat
  let dip := (s.rd (R.TIM_DST_IP d)).toNat
  let hdr := [0x4500, total, ident % 65536, 0x4000, 64 * 256 + 17]
  let sum := ipChecksum (hdr ++ [sip / 65536, sip % 65536, dip / 65536, dip % 65536])
  netBytes 6 (s.mac (R.TIM_DST_MAC_LO d) dst F.TIM_DST_MAC_HI_mac_hi) ++
    netBytes 6 (s.mac (R.TIM_PP_MAC_LO k) (R.TIM_PP_MAC_HI k) F.TIM_PP_MAC_HI_mac_hi) ++
    (if s.bit (R.TIM_PP_CFG k) F.TIM_PP_CFG_vlan_en then
      netBytes 2 0x8100 ++ netBytes 2 (pcp * 8192 + s.fld (R.TIM_PP_CFG k) F.TIM_PP_CFG_vlan_id) else []) ++
    netBytes 2 0x0800 ++ (hdr.flatMap (netBytes 2)) ++ netBytes 2 sum ++ netBytes 4 sip ++ netBytes 4 dip ++
    netBytes 2 (s.fld (R.TIM_DST_UDP d) F.TIM_DST_UDP_udp_src) ++
    netBytes 2 (s.fld (R.TIM_DST_UDP d) F.TIM_DST_UDP_udp_dst) ++ netBytes 2 (payload.length + 8) ++ [0, 0] ++ payload

/-- The slots of a queue without the void words in front: the port skips them (R375). (DEDUCED, safe: log 55) -/
def skipVoids : List QSlot → List QSlot
  | .void _ :: l => skipVoids l
  | l => l

/-- DATAGRAM_SEND (R375 to R377): the port takes one whole packet of its transmit queue. (DEDUCED, unsafe: log 100) -/
def State.sendDatagram (s : State) (k tap : Nat) : State :=
  if s.portOn k && s.bit (R.TIM_PP_STATUS k) F.TIM_PP_STATUS_link_up then
    let q := s.fld (R.TIM_PP_CFG k) F.TIM_PP_CFG_tx_q
    let x := s.queue q
    match skipVoids x.slots with
    | .closed _ (l :: ws) :: rest =>
      if isLength l then
        let s := s.setQueue q { x with slots := rest }
        let (d, ws) := match ws with
          | w :: more => if bitsOf w.toNat 71 64 = 0x30 then (bitsOf w.toNat 63 60, more) else (0, w :: more)
          | [] => (0, [])
        if s.datagramLimit k < ws.length then (s.bump (R.TIM_PP_TX_DROP k)).timFlag 6
        else
          let payload := s.datagramPayload k tap ws
          let (ident, s) := s.fresh
          let s := s.emit (.plantFrame k (s.fld (R.TIM_DST_MAC_HI d) F.TIM_DST_MAC_HI_pcp) (s.plantHeaders k d ident payload))
          let n := sget (fun _ => 0) s.tim.dgramSeq k
          (s.setTim { s.tim with dgramSeq := sput (fun _ => 0) s.tim.dgramSeq k ((n + 1) % 2 ^ 32) }).bump (R.TIM_PP_TX_DGRAMS k)
      else s
    | _ => s
  else s

/-- DATAGRAM_SEND: see `State.sendDatagram`. -/
def execDatagramSend (k : Fin 2) (tap : Fin 32) (s : State) : Host.Outcome State Fault Refusal :=
  .next (s.sendDatagram k tap)

/-- A received frame discarded and counted (R374). (DESIGN CHOICE, safe: log 102) -/
def State.discardFrame (s : State) (k : Nat) : State := (s.bump (R.TIM_PP_RX_DISCARD k)).timFlag 8

/-- ARP_REQUEST (R374): answered for TIM_PP_IP, otherwise discarded. (DESIGN CHOICE, safe: log 102) -/
def execArpRequest (k : Fin 2) (ip : BitVec 32) (vlan : Option (BitVec 12)) (s : State) :
    Host.Outcome State Fault Refusal :=
  .next (if s.portOn k then
      let s := s.rxFrame k
      if s.vlanOk k vlan && s.rd (R.TIM_PP_IP k) == ip then s.emit (.arpReply k) else s.discardFrame k
    else s)

/-- ECHO_REQUEST (R374): an ICMP echo request to TIM_PP_IP is answered. (DESIGN CHOICE, safe: log 102) -/
def execEchoRequest (k : Fin 2) (ip : BitVec 32) (vlan : Option (BitVec 12)) (s : State) :
    Host.Outcome State Fault Refusal :=
  .next (if s.portOn k then
      let s := s.rxFrame k
      if s.vlanOk k vlan && s.rd (R.TIM_PP_IP k) == ip then s.emit (.echoReply k) else s.discardFrame k
    else s)

/-- Is a received frame a quench datagram (R378)? -/
def State.isQuenchDatagram (s : State) (k : Nat) (f : PlantFrame) : Bool :=
  f.fcsOk && f.ipChecksumOk && f.pcp == 7 && s.vlanOk k f.vlan &&
    f.dstMac.toNat == s.mac (R.TIM_PP_MAC_LO k) (R.TIM_PP_MAC_HI k) F.TIM_PP_MAC_HI_mac_hi &&
    f.dstIp == s.rd (R.TIM_PP_IP k) && f.udpDst.toNat == 47010 && f.payload.length == 36 &&
    ofBytes (f.payload.take 2) == 0x1F4B && ofBytes ((f.payload.drop 2).take 2) == 0x0201 &&
    ofBytes ((f.payload.drop 12).take 4) == (s.rd R.TIM_QKEY).toNat

/-- FRAME_DISCARD (R374, R378): a received frame that nothing takes is discarded and counted. -/
def execFrameDiscard (k : Fin 2) (f : PlantFrame) (s : State) : Host.Outcome State Fault Refusal :=
  .next (if s.portOn k && !s.isQuenchDatagram k f then (s.rxFrame k).discardFrame k else s)

/-- PLANT_LINK_CHANGE (R380): the link of a port goes up or down. -/
def execPlantLinkChange (k : Fin 2) (up : Bool) (s : State) : Host.Outcome State Fault Refusal :=
  .next (if s.bit (R.TIM_PP_STATUS k) F.TIM_PP_STATUS_link_up = up then s
    else (s.setFld (R.TIM_PP_STATUS k) F.TIM_PP_STATUS_link_up (if up then 1 else 0)).timFlag (4 + k.val))

end Sys2Proof.Machine
end

