-- ==== Sys2Proof/Machine/Rings.lean ====
section
/-! DEFINITION. Descriptor rings, doorbells and the PCI Express link (R326, R338 to R341). -/
namespace Sys2Proof.Machine

/-- Is a ring enabled with a kind (R339)? -/
def State.ringIs (s : State) (d kind : Nat) : Bool :=
  s.bit (R.HST_RING_CFG d) F.HST_RING_CFG_enable && s.fld (R.HST_RING_CFG d) F.HST_RING_CFG_kind == kind

/-- The entries of a ring. -/
def State.ringSize (s : State) (d : Nat) : Nat := 2 ^ s.fld (R.HST_RING_CFG d) F.HST_RING_CFG_size_log2

/-- The queue bound to a ring. -/
def State.ringQueue (s : State) (d : Nat) : Nat := s.fld (R.HST_RING_CFG d) F.HST_RING_CFG_queue

/-- The entries between the device pointer and the host pointer. -/
def State.ringRoom (s : State) (d : Nat) : Nat := (s.rd (R.HST_RING_HOST d) - s.rd (R.HST_RING_DEV d)).toNat

/-- Rings are served in BOOT to HOLD and in FAULT (R344). -/
def State.ringsServed (s : State) : Bool := !s.inStates [.off, .reset, .banked]

/-- The base address of a ring. -/
def State.ringBase (s : State) (d : Nat) : Nat :=
  (s.rd (R.HST_RING_BASE_HI d)).toNat * 2 ^ 32 + s.fld (R.HST_RING_BASE_LO d) F.HST_RING_BASE_LO_base_lo * 64

/-- The writeback address of a ring. -/
def State.ringWb (s : State) (d : Nat) : Nat :=
  (s.rd (R.HST_RING_WB_HI d)).toNat * 2 ^ 32 + s.fld (R.HST_RING_WB_LO d) F.HST_RING_WB_LO_wb_lo * 8

/-- The index and the lap parity of the entry at the device pointer. -/
def State.ringIndex (s : State) (d : Nat) : Nat := (s.rd (R.HST_RING_DEV d)).toNat % s.ringSize d
def State.ringEvenLap (s : State) (d : Nat) : Bool := (s.rd (R.HST_RING_DEV d)).toNat / s.ringSize d % 2 == 0

/-- A ring stops with an error code (R338): enable clear, ring_error set, its event raised. A PCI Express error, code 0x03, is one that AER
logs (R324, R341). -/
def State.ringStop (s : State) (d code : Nat) : State :=
  let s := ((s.wr (R.HST_RING_ERR d) (BitVec.ofNat 32 code)).setFld (R.HST_RING_CFG d) F.HST_RING_CFG_enable 0).hstFlag 3
  if code = 3 then s.hstFlag 6 else s

/-- The device pointer advanced, written back, and the notification raised (R338). -/
def State.ringAdvance (s : State) (d n : Nat) (cls : DmaClass) : State :=
  let s := s.bumpBy (R.HST_RING_DEV d) n
  let s := s.emit (.hostWrite cls false (s.ringWb d) (toBytes 8 (s.rd (R.HST_RING_DEV d)).toNat))
  if s.bit (R.HST_RING_CFG d) F.HST_RING_CFG_notify_en then
    s.raise (128 + s.fld (R.HST_RING_CFG d) F.HST_RING_CFG_notify)
  else s

/-- Does Quench hold (R345)? -/
def State.quenchHolds (s : State) : Bool := s.bit R.HST_QUENCH F.HST_QUENCH_quench

/-- A doorbell (R338): ignored for a disabled ring, an error where it reaches beyond the ring; in BANKED one to the ring
bound to Q0 wakes the device (R406). -/
def State.doorbell (s : State) (d : Nat) (v : BitVec 32) : State :=
  if s.bit (R.HST_RING_CFG d) F.HST_RING_CFG_enable = false then s
  else
    let s := if s.ringIs d 0 ∧ s.ringQueue d = 0 then s.startWake 0x3FF else s
    if s.ringSize d < (v - s.rd (R.HST_RING_DEV d)).toNat then s.ringStop d 1 else s.wr (R.HST_RING_HOST d) v

/-- DOORBELL (R325, R338): a write of `size` bytes to BAR4; one that is not 32 bits wide is discarded and logged. -/
def execDoorbell (d : Fin 64) (v : Reg32) (s : State) (size : Nat := 4) : Host.Outcome State Fault Refusal :=
  .next (if s.inStates [.off, .reset] || s.hst.d3hot then s else if size = 4 then s.doorbell d v else s.hstFlag 6)

/-- A write of HST_RING_CFG (R338): while enabled only the clearing of enable acts; setting enable starts the ring afresh
at entry 0. -/
def State.writeRingCfg (s : State) (d : Nat) (v : BitVec 32) : State :=
  let k := R.HST_RING_CFG d
  if s.bit k F.HST_RING_CFG_enable then
    (if getField v F.HST_RING_CFG_enable = 1 then s else s.setFld k F.HST_RING_CFG_enable 0)
  else
    let sz := getField v F.HST_RING_CFG_size_log2
    let v := if 4 ≤ sz ∧ sz ≤ 20 then v else putField v F.HST_RING_CFG_size_log2 (s.fld k F.HST_RING_CFG_size_log2)
    let s := s.wr k (v &&& 0xFFDF003F#32)
    if getField v F.HST_RING_CFG_enable = 1 then
      ((s.wr (R.HST_RING_DEV d) 0).wr (R.HST_RING_HOST d) 0).wr (R.HST_RING_ERR d) 0
    else s

/-- RING_ENABLE (R338): a write of HST_RING_CFG that sets enable. -/
def execRingEnable (d : Fin 64) (v : Reg32) (s : State) : Host.Outcome State Fault Refusal :=
  .next (s.hostWrite (R.HST_RING_CFG d) v fun s => if getField v F.HST_RING_CFG_enable = 1 then s.writeRingCfg d v else s)

/-- RING_DISABLE (R338): a write of HST_RING_CFG that clears enable. -/
def execRingDisable (d : Fin 64) (v : Reg32) (s : State) : Host.Outcome State Fault Refusal :=
  .next (s.hostWrite (R.HST_RING_CFG d) v fun s => if getField v F.HST_RING_CFG_enable = 0 then s.writeRingCfg d v else s)

/-- QUEUE_IN_PUSH (R332, R339): the entries at the device pointer are a length word and its words; the packet is pushed
once all of it lies below the host pointer and the queue has room. -/
def State.queueInPush (s : State) (d : Nat) (len : Word) (ws : List Word) (pcieOk : Bool) : State :=
  if s.ringIs d 0 && s.ringsServed && decide (0 < s.ringRoom d) then
    let n := bitsOf len.toNat 15 0
    if pcieOk = false then s.ringStop d 3
    else if isLength len = false ∨ 4095 < n then s.ringStop d 2
    else if ws.length = n ∧ n + 1 ≤ s.ringRoom d ∧ s.canPush (s.ringQueue d) n then
      (s.pushPacket (s.ringQueue d) d ws).ringAdvance d (n + 1) .response
    else s
  else s

/-- QUEUE_IN_PUSH: see `State.queueInPush`. -/
def execQueueInPush (d : Fin 64) (len : Word) (ws : List Word) (pcieOk : Bool) (s : State) :
    Host.Outcome State Fault Refusal := .next (s.queueInPush d len ws pcieOk)

/-- May a packet leave through a dense ring (R339): its W0 type is below 0x7F and its word count is in [63:60]? -/
def denseOk (ws : List Word) : Bool :=
  match ws with
  | w :: _ => decide (bitsOf w.toNat 71 64 < 0x7F) && bitsOf w.toNat 63 60 == ws.length
  | [] => false

/-- The bytes of words as ring entries. -/
def entryBytes (dense : Bool) (ws : List Word) : List Byte := if dense then packDense ws else ws.flatMap packSlot

/-- Words written into successive entries of a ring, wrapping at its end. -/
def State.writeEntries (s : State) (d : Nat) (cls : DmaClass) (dense : Bool) (ws : List Word) : State :=
  let sz := if dense then 9 else 16
  (ws.zip (List.range ws.length)).foldl (fun s p =>
    s.emit (.hostWrite cls false (s.ringBase d + (s.ringIndex d + p.2) % s.ringSize d * sz) (entryBytes dense [p.1]))) s

/-- QUEUE_OUT_MOVE (R335, R339, R341, R345): the first visible packet or void word moves into the ring when the ring has
room for all of it; Quench holds every ring but that of Q1. -/
def State.queueOutMove (s : State) (d : Nat) (ecc : EccResult) (badWord : Nat) (pcieOk : Bool) : State :=
  let q := s.ringQueue d
  if s.ringIs d 1 && s.ringsServed && (!s.quenchHolds || q == 1) then
    let dense := s.bit (R.HST_RING_CFG d) F.HST_RING_CFG_dense
    let cls := if q = 1 then DmaClass.response else .records
    let x := s.queue q
    let move (s : State) (ws : List Word) (rest : List QSlot) : State :=
      if s.ringRoom d < ws.length then s
      else if pcieOk = false then s.ringStop d 3
      else ((s.setQueue q { x with slots := rest }).writeEntries d cls dense ws).ringAdvance d ws.length cls
    match x.slots with
    | .void w :: rest => move s [w] rest
    | .closed _ ws :: rest =>
      if ecc = .lasting then s.eccLasting q (badWord = 0)
      else
        let s := if ecc = .clean then s else s.bump (R.HST_Q_ECC q)
        let body := if dense then ws.drop 1 else ws
        if dense && !denseOk (ws.drop 1) then
          (s.setQueue q { x with slots := rest }).queueDrop q ws.length
        else move s body rest
    | _ => s
  else s

/-- QUEUE_OUT_MOVE: see `State.queueOutMove`. -/
def execQueueOutMove (d : Fin 64) (ecc : EccResult) (badWord : Nat) (pcieOk : Bool) (s : State) :
    Host.Outcome State Fault Refusal := .next (s.queueOutMove d ecc badWord pcieOk)

/-- The bytes that the ML16 writes to a descriptor: transferred, status and phase (R340). -/
def State.endDescriptor (s : State) (d transferred status : Nat) (cls : DmaClass) : State :=
  let phase := if s.ringEvenLap d then 1 else 0
  let s := s.emit (.hostWrite cls false (s.ringBase d + s.ringIndex d * 32 + 24)
    (toBytes 4 transferred ++ toBytes 1 status ++ [0, 0] ++ toBytes 1 phase))
  s.ringAdvance d 1 cls

/-- The items waiting for a receive ring. -/
def State.ringItems (s : State) (d : Nat) : List RecvItem := sget (fun _ => []) s.hst.items d
def State.setRingItems (s : State) (d : Nat) (l : List RecvItem) : State :=
  { s with hst := { s.hst with items := sput (fun _ => []) s.hst.items d l } }

/-- RECEIVE_ITEM (R339, R340, R345): the oldest item fills one buffer; one longer than the buffer is truncated with
NOSPACE. (DEDUCED, safe: log 180) -/
def State.receiveItem (s : State) (d : Nat) (x : Descriptor) (ecc : EccResult) (pcieOk : Bool) : State :=
  if s.ringIs d 2 && s.ringsServed && !s.quenchHolds && decide (0 < s.ringRoom d) then
    match s.ringItems d with
    | [] => s
    | it :: rest =>
      if pcieOk = false then s.ringStop d 3
      else
        let n := min it.length x.length.toNat
        match s.blockEcc it.handle it.offset n ecc with
        | (false, t) => t
        | (true, t) =>
          let (bytes, pois) := t.readBuffer it.handle it.offset n
          let t := (t.setRingItems d rest).emit (.hostWrite .streams true x.addr.toNat bytes)
          t.endDescriptor d n (if n < it.length then 5 else if pois then 6 else 0) .streams
  else s

/-- RECEIVE_ITEM: see `State.receiveItem`. -/
def execReceiveItem (d : Fin 64) (x : Descriptor) (pcieOk : Bool) (s : State) (ecc : EccResult := .clean) : Host.Outcome State Fault Refusal :=
  .next (s.receiveItem d x ecc pcieOk)

/-- COPY_DESCRIPTOR (R339, R340): bytes copied between a handle and host memory; `hostBytes` is what the device reads
from host memory. (DEDUCED, safe: log 180) -/
def State.copyDescriptor (s : State) (d : Nat) (x : Descriptor) (hostBytes : List Byte) (ecc : EccResult) (pcieOk : Bool) : State :=
  if s.ringIs d 3 && s.ringsServed && (!s.quenchHolds || x.toHandle) && decide (0 < s.ringRoom d) then
    let n := x.length.toNat
    let off := x.offset.toNat
    if pcieOk = false then s.ringStop d 3
    else match s.buffer x.handle with
      | none => s.badAccess.endDescriptor d 0 2 .archive
      | some b =>
        if b.size * 65536 < off + n then s.badAccess.endDescriptor d 0 2 .archive
        else if x.toHandle then
          (if hostBytes.length = n then
            match s.bulkWrite x.handle off hostBytes with
            | (false, t) => t
            | (true, t) => t.endDescriptor d n 0 .archive
          else s)
        else match s.bulkRead x.handle off n ecc with
          | (none, t) => t
          | (some (bytes, pois, _), t) =>
            (t.emit (.hostWrite .archive true x.addr.toNat bytes)).endDescriptor d n (if pois then 6 else 0) .archive
  else s

/-- COPY_DESCRIPTOR: see `State.copyDescriptor`. -/
def execCopyDescriptor (d : Fin 64) (x : Descriptor) (hostBytes : List Byte) (pcieOk : Bool) (s : State) (ecc : EccResult := .clean) :
    Host.Outcome State Fault Refusal := .next (s.copyDescriptor d x hostBytes ecc pcieOk)

/-- Is a queue drained by an enabled queue-out ring, or by a plant port (R333, R375)? -/
def State.queueBound (s : State) (q : Nat) : Bool :=
  ((List.range 64).any fun d => s.ringIs d 1 && s.ringQueue d == q) ||
    ((List.range 2).any fun k => s.bit (R.TIM_PP_CFG k) F.TIM_PP_CFG_enable && s.fld (R.TIM_PP_CFG k) F.TIM_PP_CFG_tx_q == q)

/-- What the PCI Express function says of itself in configuration space (R1, R2, R324): nothing writes it. Where the standard places each
item is not restated. -/
structure PciIdentity where
  vendorId : BitVec 16
  deviceId : BitVec 16
  revisionId : BitVec 8
  classCode : BitVec 24
  maxPayload : Nat
  maxReadRequest : Nat
  nonPosted : Nat
  msixVectors : Nat
deriving DecidableEq, Repr

/-- The identity of both variants (R1, R2, R324). -/
def pciIdentity : PciIdentity :=
  { vendorId := 0x1F4B, deviceId := 0x0016, revisionId := 0x10, classCode := 0x118000, maxPayload := 512, maxReadRequest := 4096,
    nonPosted := 256, msixVectors := 64 }

/-- PCIE_LINK_TRAINED (R326, R398): the link trains once RESET has ended; below 64 GT/s or x8 it is degraded. -/
def execPcieLinkTrained (speed : Fin 7) (width : Fin 9) (flit : Bool) (s : State) : Host.Outcome State Fault Refusal :=
  .next (
    if s.inStates [.off, .reset] ∨ speed.val = 0 ∨ width.val ∉ [1, 2, 4, 8] then s
    else
      let s := ((s.setFld R.HST_LINK F.HST_LINK_speed speed).setFld R.HST_LINK F.HST_LINK_width width).setFld
        R.HST_LINK F.HST_LINK_flit flit.toNat
      let s := s.setFld R.BLW_CLK_STATUS F.BLW_CLK_STATUS_pcie_pll_lock 1
      let s : State := { s with hst := { s.hst with linkUp := true }, blw := { s.blw with perstAsserted := false } }
      if speed.val < 6 ∨ width.val < 8 then s.hstFlag 2 else s)

/-- D3HOT (R324): the BARs are disabled, the device state is unchanged; D0 enables them again. -/
def execD3hot (enter : Bool) (s : State) : Host.Outcome State Fault Refusal :=
  .next { s with hst := { s.hst with d3hot := enter } }

end Sys2Proof.Machine
end

