-- ==== Sys2Proof/Machine/Quench.lean ====
section
/-! DEFINITION. Quench: its entry, its release, the QUENCH_N ball and the quench datagram (R345, R346, R378). -/
namespace Sys2Proof.Machine

/-- Quench begins (R345): the intake gates close and upstream writes are held while the bit is set, the marker links send K23.7,
RUN goes to HOLD. Setting it again changes nothing. (DEDUCED, unsafe: log 63) -/
def State.setQuench (s : State) : State :=
  if s.quenchHolds then s
  else
    let s := ((s.setFld R.HST_QUENCH F.HST_QUENCH_quench 1).hstFlag 0).quenchMarks
    if s.blw.state = .run then ({ s with tng := { s.tng with byQuench := true } } : State).enter .hold else s

/-- Quench is released (R346): only while QUENCH_N is deasserted. (DEDUCED, unsafe: log 63) -/
def State.releaseQuench (s : State) : State :=
  if s.quenchHolds && !s.hst.quenchPin then
    ((s.setFld R.HST_QUENCH F.HST_QUENCH_quench 0).hstFlag 1).releaseMarks
  else s

/-- A write of HST_QUENCH: a release is judged first, then a set (a set in the same write stands). (DEDUCED, unsafe: log 63) -/
def State.writeQuench (s : State) (v : BitVec 32) : State :=
  let s := if getField v F.HST_QUENCH_release = 1 then s.releaseQuench else s
  if getField v F.HST_QUENCH_quench = 1 then s.setQuench else s

/-- QUENCH (R345): a BAR0 write of quench. -/
def execQuench (s : State) : Host.Outcome State Fault Refusal :=
  .next (s.hostWrite R.HST_QUENCH 1 fun s => s.setQuench)

/-- QUENCH_RELEASE (R346): a BAR0 write of release. -/
def execQuenchRelease (s : State) : Host.Outcome State Fault Refusal :=
  .next (s.hostWrite R.HST_QUENCH 2 fun s => s.releaseQuench)

/-- QUENCH_N_ASSERT (R345, R406): the ball's level, once it has stood for 20 ns; assertion sets quench in every powered state. -/
def execQuenchNAssert (asserted : Bool) (s : State) : Host.Outcome State Fault Refusal :=
  .next (
    let s : State := { s with hst := { s.hst with quenchPin := asserted } }
    if asserted && !s.inStates [.off] then s.setQuench else s)

/-- QUENCH_DATAGRAM (R378): counted, quench_rx set, and with quench_en Quench begins. -/
def execQuenchDatagram (k : Fin 2) (f : PlantFrame) (s : State) : Host.Outcome State Fault Refusal :=
  .next (if s.portOn k && s.isQuenchDatagram k f then
      let s := (((s.rxFrame k).bump (R.TIM_PP_QUENCH_RX k)).timFlag 7)
      if s.bit R.TIM_CFG F.TIM_CFG_quench_en then s.setQuench else s
    else s)

end Sys2Proof.Machine
end

