-- ==== Sys2Proof/Machine/Security.lean ====
section
/-! DEFINITION. Ialdalis: measurement registers, unlocks, provisioning and the TAP (R409 to R421). -/
namespace Sys2Proof.Machine

/-- The state with a changed security root. -/
def State.setSec (s : State) (x : Security) : State := { s with sec := x }

/-- A measurement register (R415). -/
def State.meas (s : State) (r : Nat) : BitVec 512 := sget (fun _ => 0) s.sec.meas r

/-- An extend with a 64-byte value: m = SHAKE256(m ‖ d) (R415). (DEDUCED, unsafe: log 78) -/
def State.extend (s : State) (r : Nat) (d : BitVec 512) : State :=
  let m := Config.shake256 (toBytes 64 (s.meas r).toNat ++ toBytes 64 d.toNat)
  s.setSec { s.sec with meas := sput (fun _ => 0) s.sec.meas r m }

/-- The 64-byte record of an unlock or a provisioning operation (R415, register 3). (DEDUCED, unsafe: log 78) -/
def measRecord (code value : Nat) : BitVec 512 := BitVec.ofNat 512 (code % 256 + value % 256 * 256)

/-- A verification failure (R411, R413, R419): the use and reason in SEC_LAST_FAIL, verify_fail, event 508. -/
def State.verifyFail (s : State) (use reason : Nat) : State :=
  (s.wr R.SEC_LAST_FAIL (BitVec.ofNat 32 (use % 256 * 256 + reason % 256))).secFlag 0

/-- A request joins the verifications and signatures, served in arrival order (R420). -/
def State.secRequest (s : State) (j : SecJob) : State := s.setSec { s.sec with jobs := s.sec.jobs ++ [j] }

/-- Is a job an unlock? -/
def SecJob.isUnlock : SecJob → Bool
  | .tapUnlock _ => true
  | .registerUnlock _ => true
  | _ => false

/-- A write of SEC_DBG_CMD with go (R419): ignored while an unlock runs; levels other than 1 and 2 are reserved. (DEDUCED, safe: log 84) -/
def State.registerUnlock (s : State) (v : BitVec 32) : State :=
  let l := getField v F.SEC_DBG_CMD_level
  if getField v F.SEC_DBG_CMD_go = 1 ∧ (l = 1 ∨ l = 2) ∧ (s.sec.jobs.any SecJob.isUnlock) = false then
    s.secRequest (.registerUnlock l)
  else s

/-- REGISTER_UNLOCK (R419, R420). -/
def execRegisterUnlock (v : Reg32) (s : State) : Host.Outcome State Fault Refusal :=
  .next (s.hostWrite R.SEC_DBG_CMD v fun s => s.registerUnlock v)

/-- TAP_UNLOCK (R419, R420): a signature shifted into the UNLOCK data register, level byte last. -/
def execTapUnlock (level : BitVec 8) (s : State) : Host.Outcome State Fault Refusal :=
  .next (if s.inStates [.off] ∨ ¬ (level = 1 ∨ level = 2) then s else s.secRequest (.tapUnlock level.toNat))

/-- May a signer unlock a level (R419)? (DEDUCED, safe: log 84) -/
def State.signerOk (s : State) (signer : UnlockSigner) (level : Nat) : Bool :=
  match signer with
  | .yalvan => true
  | .customer => level == 1 && s.sec.fuses.custKey.isSome
  | .none => false

/-- The result of the unlock in front (R419): a fresh challenge is drawn after every attempt. (DEDUCED, safe: log 84) -/
def State.unlockDone (s : State) (signer : UnlockSigner) : State :=
  let finish (level : Nat) (rest : List SecJob) : State :=
    let s := s.setSec { s.sec with jobs := rest, draws := s.sec.draws + 1 }
    if s.sec.fuses.debugDisabled then s.verifyFail 3 3
    else if s.signerOk signer level then
      ((s.setSec { s.sec with debugLevel := level }).secFlag 1).extend 3 (measRecord level level)
    else s.verifyFail 3 5
  match s.sec.jobs with
  | .tapUnlock l :: rest => finish l rest
  | .registerUnlock l :: rest => finish l rest
  | _ => s

/-- UNLOCK_DONE: see `State.unlockDone`. (DESIGN CHOICE, safe: log 7) -/
def execUnlockDone (signer : UnlockSigner) (s : State) : Host.Outcome State Fault Refusal := .next (s.unlockDone signer)

/-! ### Provisioning (R417) -/

/-- SEC_PROV_DATA_i. -/
def State.provWord (s : State) (i : Nat) : BitVec 32 := sget (fun _ => 0) s.sec.provData i

/-- The 64-byte operand. -/
def State.provKey (s : State) : BitVec 512 :=
  BitVec.ofNat 512 (upTo 16 (fun i n => n + (s.provWord i).toNat * 2 ^ (32 * i)) 0)

/-- The check that a provisioning operation makes before the fuses are programmed (R417): 0 where it may run. (DEDUCED, unsafe: log 83) -/
def State.provCheck (s : State) (op : Nat) : Nat :=
  let v := bitsOf (s.provWord 0).toNat 7 0
  if s.blw.state ≠ .ready then 3
  else match op with
    | 1 => if s.sec.fuses.custKey.isSome ∨ s.sec.fuses.slotDead then 4 else 0
    | 2 => if v ≤ s.sec.fuses.fwSvnMin ∨ 32 < v then 2 else if s.sec.fwSvn < v then 4 else 0
    | 3 =>
      if v ≤ s.sec.fuses.rcpSvnMin ∨ 32 < v then 2
      else match s.sec.rcpSvn with
        | none => 4
        | some n => if n < v then 4 else 0
    | 4 => 0
    | _ => 2

/-- A write of SEC_PROV_CMD (R417): with key 0xC0DE and no operation running it starts the operation, or ends it at
once with the status of its check. -/
def State.writeProvCmd (s : State) (v : BitVec 32) : State :=
  if getField v F.SEC_PROV_CMD_key ≠ 0xC0DE ∨ s.bit R.SEC_PROV_STATUS F.SEC_PROV_STATUS_busy then s
  else
    let op := getField v F.SEC_PROV_CMD_op
    let st := s.provCheck op
    if st = 0 then (s.setSec { s.sec with provOp := some op }).setFld R.SEC_PROV_STATUS F.SEC_PROV_STATUS_busy 1
    else s.setFld R.SEC_PROV_STATUS F.SEC_PROV_STATUS_result st

/-- A BAR0 write of SEC_PROV_CMD naming one operation. (DEDUCED, unsafe: log 83) -/
def State.provision (s : State) (op : Nat) (v : BitVec 32) : State :=
  s.hostWrite R.SEC_PROV_CMD v fun s => if getField v F.SEC_PROV_CMD_op = op then s.writeProvCmd v else s

/-- PROGRAM_CUSTOMER_KEY (R417 op 0x1). -/
def execProgramCustomerKey (v : Reg32) (s : State) : Host.Outcome State Fault Refusal := .next (s.provision 1 v)
/-- RAISE_FW_SVN_MIN (R417 op 0x2). -/
def execRaiseFwSvnMin (v : Reg32) (s : State) : Host.Outcome State Fault Refusal := .next (s.provision 2 v)
/-- RAISE_RCP_SVN_MIN (R417 op 0x3). -/
def execRaiseRcpSvnMin (v : Reg32) (s : State) : Host.Outcome State Fault Refusal := .next (s.provision 3 v)
/-- DISABLE_DEBUG (R417 op 0x4). -/
def execDisableDebug (v : Reg32) (s : State) : Host.Outcome State Fault Refusal := .next (s.provision 4 v)

/-- The fuses after an operation has programmed them: permanent, so a key that stands is kept and a minimum only rises. (DEDUCED, unsafe: log 83) -/
def State.provFuses (s : State) (op : Nat) : Fuses :=
  let v := bitsOf (s.provWord 0).toNat 7 0
  match op with
  | 1 => { s.sec.fuses with custKey := some (s.sec.fuses.custKey.getD s.provKey) }
  | 2 => { s.sec.fuses with fwSvnMin := max s.sec.fuses.fwSvnMin v }
  | 3 => { s.sec.fuses with rcpSvnMin := max s.sec.fuses.rcpSvnMin v }
  | _ => { s.sec.fuses with debugDisabled := true }

/-- The measurement record of an operation (R415). -/
def State.provRecord (s : State) (op : Nat) : BitVec 512 :=
  measRecord (0x0F + op) (if op = 2 ∨ op = 3 then bitsOf (s.provWord 0).toNat 7 0 else 0)

/-- The end of a provisioning operation (R417). (DEDUCED, unsafe: log 83) -/
def State.provisionDone (s : State) (r : FuseResult) : State :=
  match s.sec.provOp with
  | none => s
  | some op =>
    let s := s.setFld R.SEC_PROV_STATUS F.SEC_PROV_STATUS_busy 0
    let s := s.setSec { s.sec with provOp := none }
    match r with
    | .good =>
      let s := (s.setSec { s.sec with fuses := s.provFuses op }).setFld R.SEC_PROV_STATUS F.SEC_PROV_STATUS_result 0
      (s.secFlag 2).extend 3 (s.provRecord op)
    | .mismatch =>
      let s := if op = 1 then s.setSec { s.sec with fuses := { s.sec.fuses with slotDead := true } } else s
      (s.setFld R.SEC_PROV_STATUS F.SEC_PROV_STATUS_result 6).secFlag 3

/-- PROVISION_DONE: see `State.provisionDone`. -/
def execProvisionDone (r : FuseResult) (s : State) : Host.Outcome State Fault Refusal := .next (s.provisionDone r)

/-! ### Windows -/

/-- 32-bit word `i` of a 512-bit value, byte 0 least significant. (DEDUCED, safe: log 87) -/
def word512 (v : BitVec 512) (i : Nat) : BitVec 32 := BitVec.ofNat 32 (v.toNat / 2 ^ (32 * i))

/-- SEC_MEAS_DATA. -/
def State.measData (s : State) : BitVec 32 :=
  word512 (s.meas (s.fld R.SEC_MEAS_SEL F.SEC_MEAS_SEL_reg)) (s.fld R.SEC_MEAS_SEL F.SEC_MEAS_SEL_word)

/-- SEC_PUBKEY_DATA: zero for an empty slot. -/
def State.pubkeyData (s : State) : BitVec 32 :=
  let k := match s.fld R.SEC_PUBKEY_SEL F.SEC_PUBKEY_SEL_key with
    | 0 => Config.yalvanKey
    | 1 => s.sec.fuses.custKey.getD 0
    | _ => Config.deviceKey
  word512 k (s.fld R.SEC_PUBKEY_SEL F.SEC_PUBKEY_SEL_word)

/-- A read of SEC_MEAS_DATA advances word, wrapping. -/
def State.advanceMeas (s : State) : State :=
  s.setFld R.SEC_MEAS_SEL F.SEC_MEAS_SEL_word (s.fld R.SEC_MEAS_SEL F.SEC_MEAS_SEL_word + 1)

/-- A read of SEC_PUBKEY_DATA advances word, wrapping. -/
def State.advancePubkey (s : State) : State :=
  s.setFld R.SEC_PUBKEY_SEL F.SEC_PUBKEY_SEL_word (s.fld R.SEC_PUBKEY_SEL F.SEC_PUBKEY_SEL_word + 1)

/-- MEASUREMENT_READ (R415): a BAR0 read of SEC_MEAS_DATA. -/
def execMeasurementRead (s : State) : Host.Outcome State Fault Refusal :=
  .next (s.hostAccess R.SEC_MEAS_DATA (.read R.SEC_MEAS_DATA) fun s => (s.emit (.readData s.measData)).advanceMeas)

/-- PUBKEY_READ (R416): a BAR0 read of SEC_PUBKEY_DATA. -/
def execPubkeyRead (s : State) : Host.Outcome State Fault Refusal :=
  .next (s.hostAccess R.SEC_PUBKEY_DATA (.read R.SEC_PUBKEY_DATA) fun s => (s.emit (.readData s.pubkeyData)).advancePubkey)

/-- SEC_STATUS from the fuses (R409, R418). -/
def State.secStatus (s : State) : BitVec 32 :=
  let f := s.sec.fuses
  BitVec.ofNat 32 ((if f.custKey.isSome then 2 ^ 31 else 0) + (if f.debugDisabled then 2 ^ 30 else 0) +
    s.sec.debugLevel % 4 * 2 ^ 28 + (if f.slotDead then 2 ^ 27 else 0) + f.fwSvnMin % 256 * 2 ^ 16 +
    f.rcpSvnMin % 256 * 2 ^ 8 + Config.romVersion.toNat)

/-- SEC_DEVID_i and SEC_DBG_CHAL_i. (DEDUCED, safe: log 87) -/
def devidWord (i : Nat) : BitVec 32 :=
  BitVec.ofNat 32 (ofBytes ((List.range 4).map fun j => Config.deviceId (4 * i + j)))
def State.chalWord (s : State) (i : Nat) : BitVec 32 :=
  BitVec.ofNat 32 ((Config.challenge s.sec.draws).toNat / 2 ^ (32 * i))

/-! ### Boundary scan (R418) -/

/-- The ball-driving instructions act: level 2, in BOOT, READY or FAULT. (DEDUCED, unsafe: log 85) -/
def State.mayDriveBalls (s : State) : Bool := s.sec.debugLevel == 2 && s.inStates [.boot, .ready, .fault]

/-- A ball-driving instruction is selected: commands that would leave READY end with DENIED. (DEDUCED, unsafe: log 85) -/
def State.ballsDriven (s : State) : Bool := s.sec.tap == .extest || s.sec.tap == .clamp || s.sec.tap == .highz

/-- The TAP works while the device is powered. (DEDUCED, unsafe: log 85) -/
def State.withTap (s : State) (f : State → State) : State := if s.blw.state = .off then s else f s

/-- BYPASS (R418): the one-bit register between TDI and TDO. -/
def execBypass (tdi : Bool) (s : State) : Host.Outcome State Fault Refusal :=
  .next (s.withTap fun s =>
    let old := if s.sec.tap = .bypass then s.sec.bypassBit else false
    (s.setSec { s.sec with tap := .bypass, bypassBit := tdi }).emit (.tdo old.toNat))

/-- IDCODE (R418): version 0x1, part 0x0016, the manufacturer code in [11:1], bit 0 set. -/
def execIdcode (s : State) : Host.Outcome State Fault Refusal :=
  .next (s.withTap fun s => (s.setSec { s.sec with tap := .idcode }).emit
    (.tdo (0x1 * 2 ^ 28 + 0x0016 * 2 ^ 12 + Config.idcodeMaker.toNat * 2 + 1)))

/-- SAMPLE/PRELOAD (R418): the boundary cells are sampled (an open value: the levels on the balls) and preloaded. -/
def execSamplePreload (levels : List (Nat × Bool)) (s : State) : Host.Outcome State Fault Refusal :=
  .next (s.withTap fun s =>
    let (v, s) := s.fresh
    (s.setSec { s.sec with tap := .sample, preload := levels }).emit (.tdo v))

/-- EXTEST (R418): the preloaded and then the shifted levels drive the balls; without leave it selects BYPASS. -/
def execExtest (levels : List (Nat × Bool)) (s : State) : Host.Outcome State Fault Refusal :=
  .next (s.withTap fun s =>
    if s.mayDriveBalls then s.setSec { s.sec with tap := .extest, balls := levels, preload := levels }
    else s.setSec { s.sec with tap := .bypass, balls := [] })

/-- CLAMP (R418): the preloaded levels drive the balls; without leave it selects BYPASS. -/
def execClamp (s : State) : Host.Outcome State Fault Refusal :=
  .next (s.withTap fun s =>
    if s.mayDriveBalls then s.setSec { s.sec with tap := .clamp, balls := s.sec.preload }
    else s.setSec { s.sec with tap := .bypass, balls := [] })

/-- HIGHZ (R418): no ball is driven; without leave it selects BYPASS. -/
def execHighz (s : State) : Host.Outcome State Fault Refusal :=
  .next (s.withTap fun s =>
    if s.mayDriveBalls then s.setSec { s.sec with tap := .highz, balls := [] }
    else s.setSec { s.sec with tap := .bypass, balls := [] })

/-- Does the debug level reach a core (R418)? (DESIGN CHOICE, safe: log 86) -/
def State.debugReaches (s : State) (core : Nat) : Bool :=
  if core = 0 then s.sec.debugLevel == 2 else 1 ≤ s.sec.debugLevel

/-- One debug access to a core (R418). (DESIGN CHOICE, safe: log 86) -/
def State.debugAccess (s : State) (n : Nat) (op : DebugOp) : State :=
  let c := s.core n
  match op with
  | .halt => s.setCore n { c with debugHalt := true, debugStep := false }
  | .resume => s.setCore n { c with debugHalt := false, debugStep := false }
  | .step => s.setCore n { c with debugStep := c.debugHalt }
  | .readG r => s.emit (.tdo (c.getG r).toNat)
  | .writeG r v => s.setCore n (c.setG r v)
  | .readS r => s.emit (.tdo (c.getS r).toNat)
  | .writeS r v => s.setCore n (c.setS r v)
  | .readPc => s.emit (.tdo c.pc.toNat)
  | .writePc v => s.setCore n { c with pc := v }
  | .readLocal a => s.emit (.tdo (Memory.read c.mem a).toNat)
  | .writeLocal a b => s.setCore n { c with mem := Memory.write c.mem a b }

/-- WICK_DEBUG_ACCESS (R418): only with the level that reaches the core; otherwise BYPASS is selected. (DESIGN CHOICE, safe: log 86) -/
def execWickDebugAccess (core : Fin 4) (op : DebugOp) (s : State) : Host.Outcome State Fault Refusal :=
  .next (s.withTap fun s =>
    if s.debugReaches core then (s.setSec { s.sec with tap := .wickDebug }).debugAccess core op
    else s.setSec { s.sec with tap := .bypass, balls := [] })

end Sys2Proof.Machine
end

