-- ==== Sys2Proof/Machine/Reset.lean ====
section
/-! DEFINITION. The reset domains: what POR, DEVICE and LINK resets clear and keep (R11, R25, R393). -/
namespace Sys2Proof.Machine

/-- The registers of a list whose domain is among those kept. (DESIGN CHOICE, unsafe: log 16) -/
def keepDomains (keep : List ResetDomain) (m : List (Nat × BitVec 32)) : List (Nat × BitVec 32) :=
  skeep (fun k => match regInfo k with
    | some r => keep.contains r.domain
    | none => false) m

/-- A buffer without its spilled copies. -/
def Buffer.dropCopies (b : Buffer) : Buffer :=
  b.frames.foldl (fun b p => match p.2 with
    | .resident a d (some _) => b.setFrame p.1 (.resident a d none)
    | _ => b) b

/-- A LINK reset (R11, R268, R324, R325, R393): every ring ends, the spill registers are cleared and spilled frames are lost,
the link is down, the BARs are enabled again and the MSI-X structures take their reset values. (PRESUMED, unsafe: log 18) -/
def State.linkReset (s : State) : State :=
  let s := s.loseSpilled
  let s : State := { s with hrt := { s.hrt with
    slots := s.hrt.slots.map fun p => (p.1, { p.2 with buf := p.2.buf.map Buffer.dropCopies })
    pageIns := [] } }
  let s : State := { s with regs := keepDomains [.por, .device] s.regs,
                            hst := { s.hst with items := [], bulkWait := [], d3hot := false, linkUp := false },
                            evt := { s.evt with msix := [], functionMask := false, pba := 0 } }
  s.hearthSync.endPins

/-- A LINK-only reset is counted (BLW_RESET_CAUSE.link_resets, saturating). -/
def State.countLinkReset (s : State) : State :=
  s.setFld R.BLW_RESET_CAUSE F.BLW_RESET_CAUSE_link_resets
    (min 65535 (s.fld R.BLW_RESET_CAUSE F.BLW_RESET_CAUSE_link_resets + 1))

/-- The security root as a DEVICE reset leaves it: fuses, boot_fails and the TAP outlast it; a fresh challenge is drawn (R415,
R419). (DEDUCED, unsafe: log 85) -/
def Security.afterReset (x : Security) : Security :=
  { fuses := x.fuses, draws := x.draws + 1, bootFails := x.bootFails, bypassBit := x.bypassBit, preload := x.preload
    tap := if x.tap = .extest ∨ x.tap = .clamp ∨ x.tap = .highz ∨ x.tap = .wickDebug then .bypass else x.tap }

/-- Quench after a reset (R346): an asserted QUENCH_N sets it again at once. -/
def State.quenchAgain (s : State) : State := if s.hst.quenchPin then s.setQuench else s

/-- The pool with `n` frames retired (R269, R271, R272). (DEDUCED, unsafe: log 17) -/
def State.keepRetired (s : State) (n : Nat) : State :=
  let s := s.setFld R.HRT_RETIRED F.HRT_RETIRED_count n
  let s := s.setFld R.HRT_SPARES F.HRT_SPARES_spares (2621 - n)
  let cap := 259139 - (n - 2621)
  let s := (s.setFld R.HRT_CAP F.HRT_CAP_cap cap).setFld R.HRT_FREE F.HRT_FREE_free cap
  (s.setFld R.HRT_FREE_LW F.HRT_FREE_LW_low_water cap).setFld R.HRT_PIN_LIMIT F.HRT_PIN_LIMIT_pin_limit (cap - 1024)

/-- A DEVICE reset with a cause code of R393, which also resets the LINK domain: the device enters RESET. The POR domain, the
encoder counts, the time counter, the journal and the fuses are kept; handles keep their generations. (DESIGN CHOICE, unsafe: log 16) -/
def State.deviceReset (s : State) (cause : Nat) : State :=
  let t : State := { State.reset with
    pending := s.pending, out := s.out, ticks := s.ticks, free := s.free, grade := s.grade
    regs := keepDomains [.por] s.regs
    blw := { state := .reset, porAsserted := false, perstAsserted := s.blw.perstAsserted, bootSel := s.blw.bootSel, pushed := s.blw.pushed,
             faultCause := if cause = 3 then s.blw.faultCause else 0, wasFaultReset := decide (cause = 3),
             coolDown := decide (cause = 3) && s.blw.faultCause == 3, bootTick := s.ticks, dieWarned := s.blw.dieWarned,
             hbmWarned := s.blw.hbmWarned }
    hst := { quenchPin := s.hst.quenchPin }
    hrt := { slots := s.hrt.slots.map fun p => (p.1, { p.2 with buf := none }) }
    jnl := s.jnl.afterReset
    tmp := s.jnl.savedTemper s.tmp
    tim := { counter := s.tim.counter, stretch := s.tim.stretch + 1, gpio := s.tim.gpio }
    sec := s.sec.afterReset
    pos := { enc := s.pos.enc }
    tng := { nextId := s.tng.nextId }
    rcv := { backlogLost := s.jnl.backlogMarks } }
  let t := t.setFld R.BLW_RESET_CAUSE F.BLW_RESET_CAUSE_cause cause
  ((t.enter .reset).syncCapacity).quenchAgain

/-- The thresholds of the grade (BLW_THERM, R28). (DESIGN CHOICE, unsafe: log 12) -/
def State.gradeRegs (s : State) : State :=
  match s.grade with
  | .commercial => s
  | .industrial => (s.setFld R.BLW_THERM F.BLW_THERM_trip 115).setFld R.BLW_THERM F.BLW_THERM_warn 100

/-- A reset of the POR domain with everything nested in it (R11, R393): link time restarts; the journal, the fuses and the grade
outlast it. `off`: the rails are down. (DESIGN CHOICE, unsafe: log 15) -/
def State.porReset (s : State) (cause : Nat) (off : Bool) : State :=
  let t : State := { State.reset with
    pending := s.pending, out := s.out, free := s.free, grade := s.grade
    hst := { quenchPin := s.hst.quenchPin }
    jnl := s.jnl.afterReset
    tmp := s.jnl.savedTemper s.tmp
    sec := { fuses := s.sec.fuses, draws := s.sec.draws + 1 }
    tng := { nextId := s.tng.nextId }
    rcv := { backlogLost := s.jnl.backlogMarks } }
  let t := (t.gradeRegs.setFld R.BLW_RESET_CAUSE F.BLW_RESET_CAUSE_cause cause).syncCapacity
  if off then t.enter .off else t.quenchAgain

/-- POWER_UP (R25, R391, R392): the supplies are valid with POR_N asserted; OFF goes to RESET. -/
def execPowerUp (s : State) : Host.Outcome State Fault Refusal :=
  .next (if s.blw.state = .off then s.porReset 1 false else s)

/-- POWER_DOWN (R25): the supplies fall below their thresholds. -/
def execPowerDown (s : State) : Host.Outcome State Fault Refusal := .next (s.porReset 1 true)

/-- UNDERVOLTAGE (R392): as a power-down, until the rail recovers. -/
def execUndervoltage (_rail : Fin 13) (s : State) : Host.Outcome State Fault Refusal := .next (s.porReset 1 true)

/-- SUPPLY_WARN (R392): a rail has been below its warning threshold for 10 µs, or stands above it again. -/
def execSupplyWarn (rail : Fin 13) (below : Bool) (s : State) : Host.Outcome State Fault Refusal :=
  .next (if s.blw.state = .off then s
    else
      let b := BitVec.ofNat 32 (2 ^ rail.val)
      if below then
        (if (s.rd R.BLW_SUPPLY).getLsbD rail then s else (s.wr R.BLW_SUPPLY (s.rd R.BLW_SUPPLY ||| b)).blwFlag 2)
      else s.wr R.BLW_SUPPLY (s.rd R.BLW_SUPPLY &&& ~~~ b))

/-- POR_N_ASSERT (R393). -/
def execPorNAssert (s : State) : Host.Outcome State Fault Refusal :=
  .next (if s.blw.state = .off then s else s.porReset 2 false)

/-- POR_N_DEASSERT (R394 step 1): BOOT_SEL is sampled and the reset sequence starts. (DESIGN CHOICE, safe: log 1; DESIGN CHOICE, unsafe: log 14) -/
def execPorNDeassert (straps : BitVec 2) (s : State) : Host.Outcome State Fault Refusal :=
  .next (if s.blw.state = .reset ∧ s.blw.porAsserted then
      let s : State := { s with blw := { s.blw with porAsserted := false, bootSel := straps } }
      s.setFld R.BLW_CLK_STATUS F.BLW_CLK_STATUS_root_ok 1
    else s)

/-- A reset of the LINK domain alone (R393): counted; in BANKED it then wakes the device where it is PERST_N (R406). -/
def State.linkOnly (s : State) (perst : Bool) : State :=
  if s.inStates [.off, .reset] then s
  else
    let s := s.linkReset.countLinkReset
    if perst then s.startWake 0x3FF else s

/-- PERST_N_ASSERT (R393, R406). -/
def execPerstNAssert (s : State) : Host.Outcome State Fault Refusal :=
  .next (({ s with blw := { s.blw with perstAsserted := true } } : State).linkOnly true)

/-- CONVENTIONAL_RESET (R324, R393). -/
def execConventionalReset (s : State) : Host.Outcome State Fault Refusal := .next (s.linkOnly false)

/-- FUNCTION_LEVEL_RESET (R324, R393). -/
def execFunctionLevelReset (s : State) : Host.Outcome State Fault Refusal := .next (s.linkOnly false)

/-- FAULT_RESET (R25, R393, R402): 10 ms after the entry to FAULT with auto_reset set. -/
def execFaultReset (s : State) : Host.Outcome State Fault Refusal :=
  .next (match s.blw.faultTick with
    | some t =>
      if s.blw.state = .fault ∧ s.bit R.BLW_CTRL F.BLW_CTRL_auto_reset ∧ s.passedUs t 10000 then s.deviceReset 3 else s
    | none => s)

/-- A write of BLW_CMD (R402): device_reset acts only with key 0x5A5A in the same write. -/
def State.writeBlwCmd (s : State) (v : BitVec 32) : State :=
  if getField v F.BLW_CMD_key = 0x5A5A ∧ getField v F.BLW_CMD_device_reset = 1 then s.deviceReset 5 else s

/-- DEVICE_RESET (R393, R402): a BAR0 write of BLW_CMD. -/
def execDeviceReset (v : Reg32) (s : State) : Host.Outcome State Fault Refusal :=
  .next (s.hostWrite R.BLW_CMD v fun s => s.writeBlwCmd v)

/-- RESET_AFTER_RESPONSE (R344): 10 µs after the response to RESET. -/
def execResetAfterResponse (s : State) : Host.Outcome State Fault Refusal :=
  .next (match s.blw.resetDue with
    | some t => if s.passedUs t 10 then s.deviceReset 4 else s
    | none => s)

end Sys2Proof.Machine
end

