-- ==== Sys2Proof/Machine/WickCore.lean ====
section
/-! DEFINITION. What every Wick instruction shares: fields and register codes, the fetch check, exceptions, interrupt
entry and exit, the system instructions' control registers (R293 to R299, R304, R310 to R317). -/
namespace Sys2Proof.Machine

/-- Bits `[hi:lo]` of the low 24 bits of an instruction (R299). -/
def insF (w : BitVec 24) (hi lo : Nat) : Nat := bitsOf w.toNat hi lo

/-- The register fields d, a, b and c of the formats of R299. -/
def fd (w : BitVec 24) : Nat := insF w 23 18
def fa (w : BitVec 24) : Nat := insF w 17 12
def fb (w : BitVec 24) : Nat := insF w 11 6
def fc (w : BitVec 24) : Nat := insF w 5 0

/-- The signed immediates and offsets of formats I, B, L and J. -/
def imm12 (w : BitVec 24) : Int := signed 12 (insF w 11 0)
def imm18 (w : BitVec 24) : Int := signed 18 (insF w 17 0)

/-- A code that names a general register; a code that names a stream register (R299). -/
def isG (r : Nat) : Bool := decide (r < 32)
def isS (r : Nat) : Bool := decide (32 ≤ r) && decide (r < 40)

/-- Privilege mode: core 0 supervisor, cores 1 to 3 recipe (R293). -/
def supervisor (n : Nat) : Bool := n == 0

/-! ### The address map (R294) -/

/-- The ranges of the map. -/
inductive Place where
  | localMem | sharedMem | device | rom
deriving DecidableEq, Repr

/-- The range that holds `size` bytes at an address, none where the access is outside the ranges. (DEDUCED, unsafe: log 35) -/
def placeOf (a size : Nat) : Option Place :=
  if a + size ≤ 0x80000 then some .localMem
  else if 0x100000 ≤ a ∧ a + size ≤ 0x300000 then some .sharedMem
  else if 0x40000000 ≤ a ∧ a + size ≤ 0x41300000 then some .device
  else if 0x70000000 ≤ a ∧ a + size ≤ 0x70040000 then some .rom
  else none

/-- The memory that a core sees in a range: its own local memory, or the shared memory. -/
def State.coreMem (s : State) (n : Nat) (p : Place) : List Host.Cell :=
  if p = .localMem then (s.core n).mem else s.wck.shared

/-- The state with that memory replaced. -/
def State.setCoreMem (s : State) (n : Nat) (p : Place) (m : List Host.Cell) : State :=
  if p = .localMem then s.setCore n { s.core n with mem := m } else { s with wck := { s.wck with shared := m } }

/-- Bytes of the boot ROM at an address; its place in the ROM is the low bits (R294). (DEDUCED, unsafe: log 41) -/
def romBytes (a size : Nat) : List Byte := (List.range size).map fun i => Config.romByte (a % 0x40000 + i)

/-- The word that a vector or a frame has at an address, through the map of R294: local or shared memory, or the ROM on core 0; none
where the map lets the core read nothing there. (DEDUCED, unsafe: log 191) -/
def State.entryWord (s : State) (n a : Nat) : Option (BitVec 32) :=
  match placeOf a 4 with
  | some .localMem => some (BitVec.ofNat 32 (ofBytes (Memory.reads (s.core n).mem a 4)))
  | some .sharedMem => some (BitVec.ofNat 32 (ofBytes (Memory.reads s.wck.shared a 4)))
  | some .rom => if n = 0 then some (BitVec.ofNat 32 (ofBytes (romBytes a 4))) else none
  | _ => none

/-- The memory in which a frame at an address stands, none where it cannot stand there (R294). (DEDUCED, unsafe: log 191) -/
def framePlace (a : Nat) : Option Place :=
  match placeOf a 16 with
  | some .localMem => some .localMem
  | some .sharedMem => some .sharedMem
  | _ => none

/-! ### Exceptions (R310) -/

/-- Taking an exception (R310): epc, cause and badaddr written, ex set, the pc at the handler's address in vector entry
512; an exception while ex is set halts the core with cause 0x01, that of a vector entry which cannot be read (R294) among
them. (DEDUCED, unsafe: log 191) -/
def State.takeException (s : State) (n code : Nat) (bad epc : BitVec 32) : State :=
  let c := s.core n
  let d : WickCore := { c with epc := epc, cause := BitVec.ofNat 8 code, badaddr := bad, ex := true }
  if c.ex then s.haltCore n 1
  else match s.entryWord n (c.vbase.toNat + 0x800) with
    | some pc => s.setCore n { d with run := .running, stalled := none, entry := none, pc := pc }
    | none => (s.setCore n d).haltCore n 1

/-- An exception raised by the instruction at the pc. -/
def State.wickExc (s : State) (n code : Nat) (bad : BitVec 32 := 0) : State := s.takeException n code bad (s.core n).pc

/-- The core goes on after the instruction at the pc. -/
def State.wickNext (s : State) (n : Nat) (c : WickCore) : State :=
  s.setCore n { c with pc := c.pc + 4, run := .running, stalled := none }

/-- The core stalls on an instruction, which runs again (R317). -/
def State.wickStall (s : State) (n : Nat) (op : Nat) (w : BitVec 24) : State :=
  s.setCore n { s.core n with run := .waiting, stalled := some (op, w) }

/-- May a core issue an instruction: running, or stalled on this very one; clocked; not stopped through the TAP? -/
def State.wickReady (s : State) (n : Nat) (op : Nat) (w : BitVec 24) : Bool :=
  let c := s.core n
  !s.coresStopped && (c.run == .running || (c.run == .waiting && c.stalled == some (op, w))) &&
    !c.inService && (!c.debugHalt || c.debugStep)

/-- May a core fetch at an address: local memory, or the boot ROM on core 0 during BOOT (R294)? -/
def State.fetchable (s : State) (n : Nat) (pc : Nat) : Bool :=
  decide (pc < 0x80000) || (n == 0 && s.blw.state == .boot && decide (0x70000000 ≤ pc) && decide (pc ≤ 0x7003FFFF))

/-- One instruction of a core: issued where the core may issue it; a pc outside the fetch ranges raises exception 0x04
with epc the target (R294, R302); otherwise `body` with the core. -/
def State.wickRun (s : State) (n : Nat) (op : Nat) (w : BitVec 24) (body : WickCore → State → State) : State :=
  if s.wickReady n op w then
    let s := s.setCore n { s.core n with entry := none, debugStep := false }
    if s.fetchable n (s.core n).pc.toNat then body (s.core n) s
    else s.takeException n 4 (s.core n).pc (s.core n).pc
  else s

/-- A check of the encoding (R299): exception 0x01 where it does not hold. -/
def State.legal (s : State) (n : Nat) (ok : Bool) (f : State → State) : State := if ok then f s else s.wickExc n 1

/-- A result written to a general register. -/
def State.wickWrite (s : State) (n : Nat) (c : WickCore) (d : Nat) (v : Word64) : State := s.wickNext n (c.setG d v)

/-! ### Interrupts (R312 to R317) -/

/-- The priority of a source. -/
def State.prio (s : State) (src : Nat) : Nat := s.fld (R.EVT_SRC src) F.EVT_SRC_priority

/-- A source released, enabled and unmasked for a core (R352). -/
def State.delivered (s : State) (n src : Nat) : Bool :=
  let v := s.rd (R.EVT_SRC src)
  getField v F.EVT_SRC_released == 1 && getField v F.EVT_SRC_enable == 1 && getField v F.EVT_SRC_mask == 0 &&
    getField v F.EVT_SRC_target == n

/-- The eligible source of a core below a priority (R313): the lowest priority value, then the lowest number. -/
def State.bestSource (s : State) (n rp : Nat) : Option Nat :=
  let c := s.core n
  if c.ie && !c.ex then
    upTo 512 (fun src best =>
      if s.delivered n src && decide (s.prio src < rp) then
        match best with
        | some b => if s.prio src < s.prio b then some src else best
        | none => some src
      else best) none
  else none

/-- Delivery of a source commits: it is no longer pending (R314, R352). -/
def State.commitCore (s : State) (src : Nat) : State :=
  (s.setFld (R.EVT_SRC src) F.EVT_SRC_pending 0).setFld (R.EVT_SRC src) F.EVT_SRC_released 0

/-- A source whose delivery was taken over is pending again (R315). -/
def State.restoreSource (s : State) (src : Nat) : State :=
  (s.setFld (R.EVT_SRC src) F.EVT_SRC_pending 1).setFld (R.EVT_SRC src) F.EVT_SRC_released 1

/-- The status control register (R297). -/
def WickCore.status (c : WickCore) (n : Nat) : BitVec 32 :=
  BitVec.ofNat 32 ((if supervisor n then 2 ^ 31 else 0) + (if c.ex then 2 ^ 30 else 0) + (if c.ie then 2 ^ 29 else 0) +
    c.rp % 32 * 2 ^ 16)

/-- The 16 bytes of an interrupt frame (R314). -/
def frameBytes (pc status : BitVec 32) (src : Nat) : List Byte :=
  toBytes 4 pc.toNat ++ toBytes 4 status.toNat ++ toBytes 2 src ++ List.replicate 6 0

/-- The return pc of an interrupted core: the next instruction for WFI, otherwise the instruction at the pc (R317). -/
def WickCore.returnPc (c : WickCore) : BitVec 32 :=
  match c.stalled with
  | some (0x5C, _) => c.pc + 4
  | _ => c.pc

/-- The vector of a source: the word at vbase + 4 × source (R314). -/
def State.vector (s : State) (n src : Nat) : Option (BitVec 32) := s.entryWord n ((s.core n).vbase.toNat + 4 * src)

/-- A source's delivery commits and its handler is entered at its vector, with its priority running; a vector that cannot be read
raises exception 0x04 and leaves the source pending (R294). (DEDUCED, unsafe: log 191) -/
def State.enterHandler (s : State) (n src : Nat) (epc : BitVec 32) (frame : State → State) : State :=
  match s.vector n src with
  | some pc =>
    let t := frame (s.commitCore src)
    t.setCore n { t.core n with pc := pc, rp := s.prio src, run := .running, stalled := none, entry := some src }
  | none => s.takeException n 4 (BitVec.ofNat 32 ((s.core n).vbase.toNat + 4 * src)) epc

/-- The frame written at ifsp − 16, and ifsp lowered by 16 (R314). -/
def State.pushFrame (s : State) (n src : Nat) (p : Place) : State :=
  let c := s.core n
  let fp := c.ifsp - 16
  let s := s.setCoreMem n p (Memory.writes (s.coreMem n p) fp.toNat (frameBytes c.returnPc (c.status n) src))
  s.setCore n { s.core n with ifsp := fp }

/-- INTERRUPT_ENTRY (R314, R315): the winner's delivery commits, the frame is written and its handler entered; a source
of lower priority value takes over an entry whose handler has not begun; a frame below iflim raises exception 0x08, one that the
map has no memory for 0x04. (DEDUCED, unsafe: log 191) -/
def State.interruptEntry (s : State) (n : Nat) : State :=
  let c := s.core n
  if s.coresStopped ∨ c.inService ∨ c.debugHalt ∨ ¬ (c.run = .running ∨ c.run = .waiting) then s
  else match c.entry with
    | some old =>
      match s.bestSource n (s.prio old) with
      | some src => s.enterHandler n src c.pc fun s => s.restoreSource old
      | none => s
    | none =>
      match s.bestSource n c.rp with
      | none => s
      | some src =>
        if c.ifsp.toNat < c.iflim.toNat + 16 then s.takeException n 8 0 c.returnPc
        else match framePlace (c.ifsp - 16).toNat with
          | some p => s.enterHandler n src c.returnPc fun s => s.pushFrame n src p
          | none => s.takeException n 4 (c.ifsp - 16) c.returnPc

/-- INTERRUPT_ENTRY: see `State.interruptEntry`. -/
def execInterruptEntry (n : Fin 4) (s : State) : Host.Outcome State Fault Refusal := .next (s.interruptEntry n)

/-- What an ECC check of local or shared memory finds (R311), before any effect of a lasting fault. -/
def State.wickEcc (s : State) (ecc : EccResult) : State :=
  match ecc with
  | .corrected k => s.bumpBy R.WCK_ECC_CORR k
  | .transient => (s.bump R.WCK_ECC_RETRY).wckFlag 8
  | _ => s

/-- RETI (R316): exception 0x01 at rp 16; a source below the saved rp is dispatched in the same frame; otherwise pc, ie
and rp come back from the frame and ifsp rises by 16. A lasting error of the frame read halts the core; a frame outside the map raises
exception 0x04. (DEDUCED, unsafe: log 191) -/
def execReti (n : Fin 4) (w : BitVec 24) (ecc : EccResult) (s : State) : Host.Outcome State Fault Refusal :=
  .next (s.wickRun n 0x5D w fun c s =>
    s.legal n (w == 0 && c.rp != 16) fun s =>
      if ecc = .lasting then s.haltCore n 3
      else
        let s := s.wickEcc ecc
        let f := c.ifsp.toNat
        match s.entryWord n f, s.entryWord n (f + 4) with
        | some pc, some st =>
          match s.bestSource n (bitsOf st.toNat 20 16) with
          | some src => s.enterHandler n src c.pc fun s => s
          | none => s.setCore n { s.core n with pc := pc, ie := bitsOf st.toNat 29 29 == 1, rp := bitsOf st.toNat 20 16,
                                                ifsp := c.ifsp + 16 }
        | _, _ => s.wickExc n 4 c.ifsp)

/-! ### System instructions (R304) -/

/-- A source targeted at the core is pending and enabled (WFI). -/
def State.wfiOver (s : State) (n : Nat) : Bool :=
  (List.range 512).any fun src =>
    let v := s.rd (R.EVT_SRC src)
    getField v F.EVT_SRC_pending == 1 && getField v F.EVT_SRC_enable == 1 && getField v F.EVT_SRC_target == n

/-- WFI (R304, R317). -/
def execWfi (n : Fin 4) (w : BitVec 24) (s : State) : Host.Outcome State Fault Refusal :=
  .next (s.wickRun n 0x5C w fun c s =>
    s.legal n (w == 0) fun s => if s.wfiOver n then s.wickNext n c else s.wickStall n 0x5C w)

/-- WFI_WAKE (R304): the source that a waiting core waits for is pending. -/
def execWfiWake (n : Fin 4) (s : State) : Host.Outcome State Fault Refusal :=
  .next (
    let c := s.core n
    match c.run, c.stalled with
    | .waiting, some (0x5C, _) =>
      if s.wfiOver n && !s.coresStopped then s.wickNext n c else s
    | _, _ => s)

/-- DI and EI (R304): ie cleared or set. -/
def execDi (n : Fin 4) (w : BitVec 24) (s : State) : Host.Outcome State Fault Refusal :=
  .next (s.wickRun n 0x5A w fun c s => s.legal n (w == 0) fun s => s.wickNext n { c with ie := false })
/-- EI: see `execDi`. -/
def execEi (n : Fin 4) (w : BitVec 24) (s : State) : Host.Outcome State Fault Refusal :=
  .next (s.wickRun n 0x5B w fun c s => s.legal n (w == 0) fun s => s.wickNext n { c with ie := true })

/-- RETE (R304): exception 0x01 when ex is clear; otherwise ex clear and pc = epc. -/
def execRete (n : Fin 4) (w : BitVec 24) (s : State) : Host.Outcome State Fault Refusal :=
  .next (s.wickRun n 0x5E w fun c s =>
    s.legal n (w == 0 && c.ex) fun s => s.setCore n { c with ex := false, pc := c.epc, run := .running, stalled := none })

/-- SWI (R304, R312): raises private source 32 × g a[1:0] + g b[2:0]. -/
def execSwi (n : Fin 4) (w : BitVec 24) (s : State) : Host.Outcome State Fault Refusal :=
  .next (s.wickRun n 0x5F w fun c s =>
    s.legal n (fd w == 0 && isG (fa w) && isG (fb w) && fc w == 0) fun s =>
      (s.wickNext n c).raise (32 * ((c.getG (fa w)).toNat % 4) + (c.getG (fb w)).toNat % 8))

/-- FENCE (R304): every earlier store has been performed, each command taking effect whole; it waits for the core's bulk moves. -/
def execFence (n : Fin 4) (w : BitVec 24) (s : State) : Host.Outcome State Fault Refusal :=
  .next (s.wickRun n 0x60 w fun c s =>
    s.legal n (w == 0) fun s => if s.wck.moves.any fun m => m.core == n.val then s.wickStall n 0x60 w else s.wickNext n c)

/-- BRK (R304, R310): exception 0x09. -/
def execBrk (n : Fin 4) (w : BitVec 24) (s : State) : Host.Outcome State Fault Refusal :=
  .next (s.wickRun n 0x61 w fun _ s => s.legal n (w == 0) fun s => s.wickExc n 9)

/-- SVC (R304, R321): exception 0x01 on core 0; g1 to g4 copied to the argument registers, the number written with
pending, private source 30 of core 0 raised, and the core stalls. -/
def execSvc (n : Fin 4) (w : BitVec 24) (s : State) : Host.Outcome State Fault Refusal :=
  .next (s.wickRun n 0x62 w fun c s =>
    s.legal n (n.val != 0 && fd w == 0 && insF w 17 16 == 0) fun s =>
      let s := upTo 8 (fun i s =>
        s.wr (R.WCK_SVC_ARG n i) (BitVec.ofNat 32 ((c.getG (1 + i / 2)).toNat / 2 ^ (32 * (i % 2))))) s
      let s := (s.setFld (R.WCK_SVC_NUM n) F.WCK_SVC_NUM_number (insF w 15 0)).setFld
        (R.WCK_SVC_NUM n) F.WCK_SVC_NUM_pending 1
      let s := s.setCore n { s.core n with run := .waiting, stalled := some (0x62, w), inService := true }
      let s : State := { s with wck := { s.wck with svc := s.wck.svc ++ [n] } }
      s.raise 30)

/-- A service call ends (R321): the core resumes with g1 the status and g2 the value; a core that the loader has halted stays
halted. (DEDUCED, unsafe: log 192) -/
def State.endService (s : State) (n : Nat) (status : Nat) (value : Nat) : State :=
  let c := s.core n
  let s := s.setFld (R.WCK_SVC_NUM n) F.WCK_SVC_NUM_pending 0
  let s : State := { s with wck := { s.wck with svc := s.wck.svc.drop 1 } }
  let d : WickCore := { (c.setG 1 (BitVec.ofNat 64 status)).setG 2 (BitVec.ofNat 64 value) with inService := false }
  if c.run = .halted then s.setCore n { d with pc := c.pc + 4 } else s.wickNext n d

/-- A write of WCK_SVC_DONE_n by core 0 completes the call in front (R321). -/
def State.serviceDone (s : State) (n : Nat) (v : BitVec 32) : State :=
  match s.wck.svc with
  | m :: _ =>
    if m.val = n then
      s.endService n (getField v F.WCK_SVC_DONE_status)
        ((s.rd (R.WCK_SVC_RET_HI n)).toNat * 2 ^ 32 + (s.rd (R.WCK_SVC_RET_LO n)).toNat)
    else s
  | [] => s

/-- SERVICE_DONE (R321): see `State.serviceDone`. -/
def execServiceDone (n : Fin 4) (v : Reg32) (s : State) : Host.Outcome State Fault Refusal := .next (s.serviceDone n v)

/-- The value of a control register (R297); none for a number not in the table. -/
def State.controlReg (s : State) (n k : Nat) : Option Word64 :=
  let c := s.core n
  match k with
  | 0x00 => some ((c.status n).setWidth 64)
  | 0x01 => some (c.epc.setWidth 64)
  | 0x02 => some (c.cause.setWidth 64)
  | 0x03 => some (c.badaddr.setWidth 64)
  | 0x04 => some (c.vbase.setWidth 64)
  | 0x05 => some (c.ifsp.setWidth 64)
  | 0x06 => some (c.iflim.setWidth 64)
  | 0x07 => some c.cycle
  | 0x08 => some c.tcmp
  | 0x09 => some (BitVec.ofNat 64 n)
  | 0x0A => some (BitVec.ofNat 64 (upTo 16 (fun t m => if c.tag t = .free then m else m + 2 ^ t) 0))
  | 0x0B => some 0
  | _ => none

/-- MFC (R297, R304). -/
def execMfc (n : Fin 4) (w : BitVec 24) (s : State) : Host.Outcome State Fault Refusal :=
  .next (s.wickRun n 0x58 w fun c s =>
    s.legal n (isG (fd w) && fa w == 0 && insF w 11 8 == 0) fun s =>
      match s.controlReg n (insF w 7 0) with
      | some v => s.wickWrite n c (fd w) v
      | none => s.wickExc n 1)

/-- Is a control register read-only in recipe mode (R297)? -/
def recipeReadOnly (k : Nat) : Bool := !(k == 0x01 || k == 0x08 || k == 0x0B)

/-- A core with a control register written (R297): the mode, the cycle count, the core number and the tags cannot be. -/
def WickCore.setControl (c : WickCore) (k : Nat) (v : Word64) (now : Nat) : WickCore :=
  match k with
  | 0x00 =>
    let rp := bitsOf v.toNat 20 16
    { c with ex := v.getLsbD 30, ie := v.getLsbD 29, rp := if rp ≤ 16 then rp else c.rp }
  | 0x01 => { c with epc := v.setWidth 32 }
  | 0x02 => { c with cause := v.setWidth 8 }
  | 0x03 => { c with badaddr := v.setWidth 32 }
  | 0x04 => { c with vbase := v.setWidth 32 &&& 0xFFFFF000#32 }
  | 0x05 => { c with ifsp := v.setWidth 32 &&& 0xFFFFFFF0#32 }
  | 0x06 => { c with iflim := v.setWidth 32 }
  | 0x08 => { c with tcmp := v, tcmpArmed := true }
  | 0x0B => { c with kicked := now }
  | _ => c

/-- MTC (R297, R304): exception 0x01 for a number not in the table, 0x02 in recipe mode for a read-only register. -/
def execMtc (n : Fin 4) (w : BitVec 24) (s : State) : Host.Outcome State Fault Refusal :=
  .next (s.wickRun n 0x59 w fun c s =>
    s.legal n (fd w == 0 && isG (fa w) && insF w 11 8 == 0 && decide (insF w 7 0 ≤ 0x0B)) fun s =>
      if !supervisor n && recipeReadOnly (insF w 7 0) then s.wickExc n 2
      else s.wickNext n (c.setControl (insF w 7 0) (c.getG (fa w)) s.ticks))

/-- NOP (R299): the word 0x0000_0000 does nothing. -/
def execNop (n : Fin 4) (w : BitVec 24) (s : State) : Host.Outcome State Fault Refusal :=
  .next (s.wickRun n 0x00 w fun c s => s.legal n (w == 0) fun s => s.wickNext n c)

/-- The opcodes that the tables of R299 to R309 list. -/
def listedOpcode (op : Nat) : Bool :=
  op == 0x00 || (1 ≤ op && op ≤ 0x17 && op != 0x0F && op != 0x13) || (0x20 ≤ op && op ≤ 0x28) || op == 0x2F ||
    (0x30 ≤ op && op ≤ 0x36) || (0x38 ≤ op && op ≤ 0x3D) || (0x40 ≤ op && op ≤ 0x42) || (0x48 ≤ op && op ≤ 0x4F) ||
    (0x50 ≤ op && op ≤ 0x54) || (0x58 ≤ op && op ≤ 0x62) || (0x68 ≤ op && op ≤ 0x6C) || op == 0x70 || op == 0x71 ||
    (0x74 ≤ op && op ≤ 0x76)

/-- RESERVED_OPCODE (R299): exception 0x01. -/
def execReservedOpcode (n : Fin 4) (op : BitVec 8) (w : BitVec 24) (s : State) : Host.Outcome State Fault Refusal :=
  .next (if listedOpcode op.toNat then s
    else s.wickRun n op.toNat w fun _ s => s.wickExc n 1)

/-- TIMER_MATCH (R312): cycle has reached tcmp; raised once per write of tcmp. -/
def execTimerMatch (n : Fin 4) (s : State) : Host.Outcome State Fault Refusal :=
  .next (
    let c := s.core n
    if c.tcmpArmed ∧ c.run ≠ .reset ∧ c.tcmp ≤ c.cycle then
      (s.setCore n { c with tcmpArmed := false }).raise (32 * n.val + 24)
    else s)

/-- WATCHDOG_TIMEOUT (R311): timeout_us have passed without a write to wdkick; the core halts with cause 0x02. -/
def execWatchdogTimeout (n : Fin 4) (s : State) : Host.Outcome State Fault Refusal :=
  .next (
    let c := s.core n
    if s.bit (R.WCK_WDOG n) F.WCK_WDOG_enable ∧ (c.run = .running ∨ c.run = .waiting) ∧
        s.coresStopped = false ∧
        s.passedUs c.kicked (s.fld (R.WCK_WDOG n) F.WCK_WDOG_timeout_us) then
      s.haltCore n 2
    else s)

/-- A write of WCK_SWI_n (R312): each bit set raises its private source. -/
def State.writeSwi (s : State) (n : Nat) (v : BitVec 32) : State :=
  upTo 8 (fun i s => if v.getLsbD i then s.raise (32 * n + i) else s) s

/-- WCK_SWI_WRITE (R312). -/
def execWckSwiWrite (ag : Agent) (n : Fin 4) (v : Reg32) (s : State) : Host.Outcome State Fault Refusal :=
  .next (match ag with
    | .host => s.hostWrite (R.WCK_SWI n) v fun s => s.writeSwi n v
    | .core m => if m.val = 0 then s.writeSwi n v else s)

/-- TAG_COMPLETE (R308): a completed tag raises private source 32n + 8 + t and stays in use until an AWT. -/
def execTagComplete (n : Fin 4) (t : Fin 16) (s : State) : Host.Outcome State Fault Refusal :=
  .next (match (s.core n).tag t with
    | .ended r => (s.setCore n ((s.core n).setTag t (.done r))).raise (32 * n.val + 8 + t.val)
    | _ => s)

end Sys2Proof.Machine
end

