-- ==== Sys2Proof/Machine/HostCmd.lean ====
section
/-! DEFINITION. Host commands: the packets on Q0, the responses on Q1, and the commands that end at once (R342 to R346); the
device transitions that a command and a service share (R322). -/
namespace Sys2Proof.Machine

/-! ### Packets (R342, R343) -/

/-- Does the firmware (in BOOT: the ROM) on core 0 take commands? In BANKED and without core 0 they wait (R343, R344). -/
def State.servesCommands (s : State) : Bool :=
  s.queueOn 0 && (s.core 0).run != .halted &&
    (s.inStates [.ready, .armed, .run, .hold, .fault] || (s.inStates [.boot] && !s.blw.firmware))

/-- The word of a command packet at the head of Q0 and its arguments. -/
def State.commandPacket (s : State) : Option (List Word × List QSlot) :=
  match skipVoids (s.queue 0).slots with
  | .closed _ (_ :: ws) :: rest => some (ws, rest)
  | _ => none

/-- The acceptance and the completion of each host command are journalled (R286). -/
def State.journalCommand (s : State) (it : JournalItem) : State := s.journal it

/-- HST_CMD_STATUS follows the command in execution. -/
def State.setCmd (s : State) (c : Option HostCmd) : State :=
  ({ s with hst := { s.hst with cmd := c } } : State).setFld R.HST_CMD_STATUS F.HST_CMD_STATUS_busy (if c.isSome then 1 else 0)

/-- The words of a response (R342), with the state code given. -/
def responseWords (opcode code status seq value : Nat) : List Word :=
  [BitVec.ofNat 72 (0x21 * 2 ^ 64 + opcode % 4096 * 2 ^ 52 + code % 16 * 2 ^ 48 + status % 256 * 2 ^ 40 + seq % 2 ^ 40),
   BitVec.ofNat 72 (value % 2 ^ 64)]

/-- A response pushed on Q1 as firmware's (R330, R343). -/
def State.respond (s : State) (opcode code status seq value : Nat) : State :=
  let s := s.pushPacket 1 0x40 (responseWords opcode code status seq value)
  ({ s with hst := { s.hst with lastSeq := seq } } : State).journalCommand (.completed seq)

/-- A finished command's response is pushed once Q1 has room (R343); `code`: the state code it carries. (DESIGN CHOICE, safe: log 61) -/
def State.pushResponse (s : State) (code : Nat) : State :=
  match s.hst.cmd with
  | some c => match c.result with
    | some (st, v) => if s.canPush 1 2 then (s.respond c.opcode code st c.seq v).setCmd none else s
    | none => s
  | none => s

/-- The command in execution ends with a status and a result value. -/
def State.endCommand (s : State) (status value : Nat) : State :=
  match s.hst.cmd with
  | some c => ({ s with hst := { s.hst with cmd := some { c with result := some (status, value) } } } : State).pushResponse
      (devCode s.blw.state)
  | none => s

/-- May the next command start: the one before has been answered, the recovery answers are out, Q1 has room? -/
def State.commandsFree (s : State) : Bool :=
  s.servesCommands && s.hst.cmd.isNone && s.rcv.answers.isEmpty && s.canPush 1 2

/-- The opcode field of W0. -/
def cmdOpcode (w : Word) : Nat := bitsOf w.toNat 63 52

/-- The command packet in front is taken: it is accepted and journalled. (DEDUCED, safe: log 55; DEDUCED, unsafe: log 56) -/
def State.acceptCommand (s : State) (w : Word) (args : List Word) (rest : List QSlot) : State :=
  let seq := bitsOf w.toNat 39 0
  let s := s.setQueue 0 { s.queue 0 with slots := rest }
  (s.journalCommand (.accepted (cmdOpcode w) seq)).setCmd (some { opcode := cmdOpcode w, seq := seq, args := args })

/-- A command with its opcode, its argument count and its legal states (R343, R344): `f` runs it on its arguments. (DEDUCED, unsafe: log 56) -/
def State.command (s : State) (op argc : Nat) (legal : List DevState) (f : List Word → State → State) : State :=
  if s.commandsFree then
    match s.commandPacket with
    | some (w :: args, rest) =>
      if bitsOf w.toNat 71 64 = 0x20 ∧ cmdOpcode w = op then
        let t := s.acceptCommand w args rest
        if args.length ≠ argc then t.endCommand 2 0
        else if t.inStates legal = false then t.endCommand 3 0
        else f args t
      else s
    | _ => s
  else s

/-- A 32-bit argument. -/
def arg32 (l : List Word) (i : Nat) : BitVec 32 := (l.getD i 0).setWidth 32

/-- The opcodes of R344. (DESIGN CHOICE, safe: log 57) -/
def knownOpcodes : List Nat :=
  [0x001, 0x002, 0x003, 0x010, 0x011, 0x012, 0x013, 0x014, 0x015, 0x016, 0x020, 0x021, 0x022, 0x023, 0x024, 0x025, 0x030, 0x040,
   0x050]

/-- BAD_COMMAND_PACKET (R343): a packet without W0 or of another type is counted and gets no response; an unknown opcode is
answered BADARG. (DEDUCED, safe: log 55; DESIGN CHOICE, safe: log 57) -/
def execBadCommandPacket (s : State) : Host.Outcome State Fault Refusal :=
  .next (if s.commandsFree then
      match s.commandPacket with
      | some ([], rest) => (s.setQueue 0 { s.queue 0 with slots := rest }).bump R.HST_CMD_BAD
      | some (w :: args, rest) =>
        if bitsOf w.toNat 71 64 ≠ 0x20 then (s.setQueue 0 { s.queue 0 with slots := rest }).bump R.HST_CMD_BAD
        else if knownOpcodes.contains (cmdOpcode w) then s
        else (s.acceptCommand w args rest).endCommand 2 0
      | none => s
    else s)

/-! ### The states of R344 -/

/-- BOOT to HOLD, and FAULT; READY to HOLD. (DEDUCED, unsafe: log 58) -/
def bootToHoldFault : List DevState := [.boot, .ready, .armed, .run, .hold, .fault]
/-- DEDUCED, unsafe: log 58. -/
def readyToHold : List DevState := [.ready, .armed, .run, .hold]

/-- A command that would leave READY ends with DENIED while the TAP drives the balls (R418). (DEDUCED, unsafe: log 58) -/
def State.leaveDenied (s : State) : Bool := s.inStates [.ready] && s.ballsDriven

/-- IDENTIFY. -/
def execIdentify (s : State) : Host.Outcome State Fault Refusal :=
  .next (s.command 0x001 0 bootToHoldFault fun _ s =>
    s.endCommand 0 (if s.blw.firmware then Config.firmwareVersion.toNat else Config.romVersion.toNat))

/-- RESET: the reset follows 10 µs after the response. (DEDUCED, unsafe: log 58) -/
def execReset (s : State) : Host.Outcome State Fault Refusal :=
  .next (s.command 0x002 0 bootToHoldFault fun _ s =>
    if s.leaveDenied then s.endCommand 4 0
    else ({ s with blw := { s.blw with resetDue := some s.ticks } } : State).endCommand 0 0)

/-- BOOT_PUSH (R396): the length is checked and the read of the image begins; a push during a push is answered BUSY. (DEDUCED, unsafe: log 59) -/
def execBootPush (s : State) : Host.Outcome State Fault Refusal :=
  .next (
    if s.blw.pushing then
      match s.commandPacket with
      | some (w :: _, rest) =>
        if s.servesCommands ∧ s.canPush 1 2 ∧ bitsOf w.toNat 71 64 = 0x20 ∧ cmdOpcode w = 0x003 then
          (s.setQueue 0 { s.queue 0 with slots := rest }).respond 0x003 (devCode s.blw.state) 1 (bitsOf w.toNat 39 0) 0
        else s
      | _ => s
    else s.command 0x003 2 [.boot] fun args s =>
      let n := (arg32 args 1).toNat
      if n < 29872 ∨ 1078432 < n ∨ n % 16 ≠ 0 then s.endCommand 2 0
      else { s with blw := { s.blw with pushing := true } })

/-! ### Transitions shared by commands and services (R322, R344) -/

/-- The restore list is discarded as lost (R290): the marks leave the journal and are counted. -/
def State.loseRestored (s : State) : State :=
  let n := s.rcv.marks.length
  let s := s.rcv.marks.foldl (fun s p => s.journal (.markGone p.1)) s
  let s : State := { s with rcv := { s.rcv with marks := [], since := none } }
  s.setFld R.EMB_REC_LOST F.EMB_REC_LOST_lost (min 131071 (s.fld R.EMB_REC_LOST F.EMB_REC_LOST_lost + n))

/-- The first entry to RUN after a recovery (R290): the restore list enters Tongs as new marks where the digest is the journalled
one, within restore_hold_ms of READY. (DEDUCED, safe: log 64) -/
def State.restoreMarks (s : State) : State :=
  match s.rcv.since with
  | none => s
  | some t =>
    if s.passedUs t (1000 * s.fld R.EMB_CFG F.EMB_CFG_restore_hold_ms) || s.rcp.digest != s.rcv.digest then s.loseRestored
    else
      let l := s.rcv.marks
      let before := s.tng.nextId
      let s : State := { s with rcv := { s.rcv with marks := [], since := none } }
      let s := l.foldl (fun s p => (s.journal (.markGone p.1)).createMark p.2) s
      (s.setFld R.EMB_REC_STATUS F.EMB_REC_STATUS_digest_match 1).setFld R.EMB_REC_MARKS F.EMB_REC_MARKS_restored
        (s.tng.nextId - before)

/-- Entry to RUN by START or RESUME: held marks are evaluated, restored marks enter. -/
def State.enterRun (s : State) : State := (s.enter .run).thawMarks.restoreMarks

/-- START: DENIED while Quench holds. -/
def State.start (s : State) : Nat × State := if s.quenchHolds then (4, s) else (0, s.enterRun)

/-- HOLD, RESUME and STOP with their legal states: the status and the state after. -/
def State.hold (s : State) : Nat × State := if s.inStates [.run] then (0, s.enter .hold) else (3, s)
def State.resume (s : State) : Nat × State :=
  if s.inStates [.hold] = false then (3, s) else if s.quenchHolds then (4, s) else (0, s.enterRun)
def State.stop (s : State) : Nat × State :=
  if s.inStates [.run, .hold] then (0, ((s.enter .armed).requestCloseAll false).discardMarks) else (3, s)

/-- A command ended with the status of a transition. -/
def endWith (r : Nat × State) : State := r.2.endCommand r.1 0

/-- START. -/
def execStart (s : State) : Host.Outcome State Fault Refusal := .next (s.command 0x012 0 [.armed] fun _ s => endWith s.start)
/-- STOP. -/
def execStop (s : State) : Host.Outcome State Fault Refusal := .next (s.command 0x013 0 [.run, .hold] fun _ s => endWith s.stop)
/-- HOLD. -/
def execHold (s : State) : Host.Outcome State Fault Refusal := .next (s.command 0x014 0 [.run] fun _ s => endWith s.hold)
/-- RESUME. -/
def execResume (s : State) : Host.Outcome State Fault Refusal := .next (s.command 0x015 0 [.hold] fun _ s => endWith s.resume)

/-! ### Hearth commands (R344, on allocation port 0) -/

/-- A Hearth command on port 0: while the port works on spilled frames, the response waits. (DEDUCED, unsafe: log 60) -/
def State.hearthCommand (s : State) (op : Nat) : State :=
  let s := s.writeApCmd 0 op
  if s.bit (R.HRT_AP_STATUS 0) F.HRT_AP_STATUS_busy then s
  else
    let st := s.fld (R.HRT_AP_STATUS 0) F.HRT_AP_STATUS_result
    let v := if st ≠ 0 then 0 else if op = 1 ∨ op = 2 then (s.apHandle 0).toNat
      else if op = 6 then (s.rd (R.HRT_AP_INFO 0)).toNat else 0
    s.endCommand st v

/-- A Hearth command: BUSY while port 0 works for BAR0. (DEDUCED, unsafe: log 60) -/
def State.hearthCmd (s : State) (op : Nat) : State :=
  s.command (0x01F + op) 1 readyToHold fun args s =>
    if s.bit (R.HRT_AP_STATUS 0) F.HRT_AP_STATUS_busy then s.endCommand 1 0
    else if op ≤ 2 then (s.setFld (R.HRT_AP_SIZE 0) F.HRT_AP_SIZE_size (bitsOf (arg32 args 0).toNat 18 0)).hearthCommand op
    else (s.wr (R.HRT_AP_HANDLE 0) (arg32 args 0)).hearthCommand op

/-- HRT_ALLOC. -/
def execHrtAlloc (s : State) : Host.Outcome State Fault Refusal := .next (s.hearthCmd 1)
/-- HRT_ALLOC_PIN. -/
def execHrtAllocPin (s : State) : Host.Outcome State Fault Refusal := .next (s.hearthCmd 2)
/-- HRT_FREE. -/
def execHrtFree (s : State) : Host.Outcome State Fault Refusal := .next (s.hearthCmd 3)
/-- HRT_PIN. -/
def execHrtPin (s : State) : Host.Outcome State Fault Refusal := .next (s.hearthCmd 4)
/-- HRT_UNPIN. -/
def execHrtUnpin (s : State) : Host.Outcome State Fault Refusal := .next (s.hearthCmd 5)
/-- HRT_QUERY. -/
def execHrtQuery (s : State) : Host.Outcome State Fault Refusal := .next (s.hearthCmd 6)

/-- A pin command whose frames are all resident again is answered, and a pinned allocation whose frames the pool has given, with its
handle. (DEDUCED, unsafe: log 60) -/
def State.endHearthCmd (s : State) : State :=
  match s.hst.cmd with
  | some c =>
    if (c.opcode = 0x023 ∨ c.opcode = 0x021) ∧ c.result = none ∧ s.bit (R.HRT_AP_STATUS 0) F.HRT_AP_STATUS_busy = false then
      s.endCommand (s.fld (R.HRT_AP_STATUS 0) F.HRT_AP_STATUS_result) (if c.opcode = 0x021 then (s.apHandle 0).toNat else 0)
    else s
  | none => s

/-! ### Time, attestation, flushes -/

/-- TIME_RESTEP (R370): DENIED outside HOLDOVER. -/
def execTimeRestep (s : State) : Host.Outcome State Fault Refusal :=
  .next (s.command 0x030 0 readyToHold fun _ s =>
    if s.tim.state = .holdover then (s.setTim { s.tim with restep := true }).endCommand 0 0 else s.endCommand 4 0)

/-- SNUFF (R334): BADARG for Q0 and Q1; the words discarded. -/
def execSnuff (s : State) : Host.Outcome State Fault Refusal :=
  .next (s.command 0x050 1 readyToHold fun args s =>
    let q := bitsOf (arg32 args 0).toNat 5 0
    if q < 2 then s.endCommand 2 0
    else let (n, t) := s.snuffQueue q; t.endCommand 0 n)

/-- The checks of R416 on the destination of a report: BADARG, FAULT or none. -/
def State.attestCheck (s : State) (h : BitVec 32) : Option Nat :=
  match s.buffer h with
  | none => some 2
  | some b => if b.size * 65536 < 50208 then some 2 else if b.poisoned then some 6 else none

/-- ATTEST (R416, R420): the request joins the verifications and signatures. -/
def execAttest (s : State) : Host.Outcome State Fault Refusal :=
  .next (s.command 0x040 5 readyToHold fun args s =>
    match s.attestCheck (arg32 args 4) with
    | some st => s.endCommand st 0
    | none => s.secRequest .attest)

/-- Bytes 0 to 351 of the report (R416). -/
def State.reportBody (s : State) (nonce : List Byte) : List Byte :=
  let f := s.sec.fuses
  [0x16, 0x00, 0x4B, 0x1F, 0x03, 0x01] ++ toBytes 1 (devCode s.blw.state) ++
    toBytes 1 (s.degradedNow.toNat + 2 * s.holdoverNow.toNat) ++
    (List.range 16).map Config.deviceId ++ nonce ++ toBytes 9 (timeWord s.tim.counter).toNat ++ [0, 0, 0] ++
    toBytes 1 f.fwSvnMin ++ toBytes 1 f.rcpSvnMin ++ toBytes 1 s.sec.debugLevel ++
    toBytes 1 ((if f.custKey.isSome then 1 else 0) + (if f.slotDead then 2 else 0) + (if f.debugDisabled then 4 else 0)) ++
    List.replicate 8 0 ++ (List.range 4).flatMap (fun r => toBytes 64 (s.meas r).toNat) ++ List.replicate 16 0

/-- The whole report of 50,208 bytes. -/
def State.attestReport (s : State) (nonce : List Byte) : List Byte :=
  let m := s.reportBody nonce
  m ++ (List.range 49856).map (Config.signature ([0, 0] ++ m))

/-- ATTEST_DONE (R416): the signature completes, the report and the response are written. -/
def State.attestDone (s : State) : State :=
  match s.sec.jobs, s.hst.cmd with
  | .attest :: rest, some c =>
    let h := arg32 c.args 4
    let nonce := (c.args.take 4).flatMap fun w => toBytes 8 w.toNat
    let t := s.setSec { s.sec with jobs := rest }
    match s.attestCheck h with
    | some _ => t.endCommand 6 0
    | none => match t.blockWrite h 0 (s.attestReport nonce) with
      | (none, _) => s
      | (some ok, u) => u.endCommand (if ok then 0 else 6) (if ok then 50208 else 0)
  | _, _ => s

/-- ATTEST_DONE: see `State.attestDone`. -/
def execAttestDone (s : State) : Host.Outcome State Fault Refusal := .next s.attestDone

/-! ### Services (R321, R322) -/

/-- The service call in front with its number; its core waits. -/
def State.serviceCall (s : State) : Option (Nat × Nat) :=
  match s.wck.svc with
  | n :: _ => if (s.core n).run = .waiting ∧ s.coresStopped = false ∧ (s.core 0).run ≠ .halted ∧ s.inStates [.fault] = false
    then some (n.val, s.fld (R.WCK_SVC_NUM n) F.WCK_SVC_NUM_number) else none
  | [] => none

/-- Argument `i` (g1 to g4) of a core's call. -/
def State.serviceArg (s : State) (n i : Nat) : Nat :=
  (s.rd (R.WCK_SVC_ARG n (2 * i + 1))).toNat * 2 ^ 32 + (s.rd (R.WCK_SVC_ARG n (2 * i))).toNat

/-- The call in front with one of a list of numbers is served. (DESIGN CHOICE, safe: log 57) -/
def State.serve (s : State) (num : Nat → Bool) (f : Nat → Nat → State → State) : State :=
  match s.serviceCall with
  | some (n, k) => if num k then f n k s else s
  | none => s

/-- SVC_VERSION (R322): the firmware version; a number that no service has is answered BADARG here. (DESIGN CHOICE, safe: log 57) -/
def execSvcVersion (s : State) : Host.Outcome State Fault Refusal :=
  .next (s.serve (fun k => k == 0 || decide (3 < k)) fun n k s =>
    if k = 0 then s.endService n 0 Config.firmwareVersion.toNat else s.endService n 2 0)

/-- SVC_DEVSTATE (R322): hold, resume or stop; STATE with the state code in g2. -/
def execSvcDevstate (s : State) : Host.Outcome State Fault Refusal :=
  .next (s.serve (· == 1) fun n _ s =>
    let go (r : Nat × State) : State := r.2.endService n r.1 (if r.1 = 3 then devCode r.2.blw.state else 0)
    match s.serviceArg n 0 with
    | 1 => go s.hold
    | 2 => go s.resume
    | 3 => go s.stop
    | _ => s.endService n 2 0)

/-- SVC_ROUTE (R322): priority and enable of a shared source targeted at the caller. -/
def execSvcRoute (s : State) : Host.Outcome State Fault Refusal :=
  .next (s.serve (· == 2) fun n _ s =>
    let src := s.serviceArg n 0
    let p := s.serviceArg n 1
    let e := s.serviceArg n 2
    if src < 128 ∨ 511 < src ∨ 15 < p ∨ 1 < e then s.endService n 2 0
    else if s.fld (R.EVT_SRC src) F.EVT_SRC_target ≠ n then s.endService n 4 0
    else
      let v := putField (putField (s.rd (R.EVT_SRC src)) F.EVT_SRC_priority p) F.EVT_SRC_enable e
      (s.writeSource (.core 0) src (putField v F.EVT_SRC_pending 0)).endService n 0 0)

/-- SVC_NOTIFY (R322, R342): a notification carrying g1 on Q1; NOSPACE if it cannot be queued. -/
def execSvcNotify (s : State) : Host.Outcome State Fault Refusal :=
  .next (s.serve (· == 3) fun n _ s =>
    if s.canPush 1 2 then
      (s.pushPacket 1 0x40 [BitVec.ofNat 72 (0x22 * 2 ^ 64 + n * 2 ^ 62), BitVec.ofNat 72 (s.serviceArg n 0)]).endService n 0 0
    else s.endService n 5 0)

end Sys2Proof.Machine
end

