-- ==== Sys2Proof/Machine/Bus.lean ====
section
/-! DEFINITION. Register accesses (R6 to R10, R294 to R296, R324, R325, R405): what every register reads as, what every read and
every write of it does, for host software through BAR0 and for the Wick cores; the SMBus words of R437. -/
namespace Sys2Proof.Machine

/-! ### Addresses -/

/-- The index of a register key in an array of registers. -/
def regIdx (base stride n k : Nat) : Option Nat :=
  if base ≤ k ∧ k < base + stride * n ∧ (k - base) % stride = 0 then some ((k - base) / stride) else none

/-- What a register does where the key is one of its array, otherwise the rest. -/
def onReg (base stride n k : Nat) (f : Nat → β) (rest : β) : β :=
  match regIdx base stride n k with
  | some i => f i
  | none => rest

/-- What a register does where the key is its own. -/
def onOne (key k : Nat) (f : β) (rest : β) : β := if k = key then f else rest

/-- The register key of a BAR0 offset. Where the lane and port blocks both lie at an offset, the port register answers it. (DESIGN CHOICE, unsafe: log 13) -/
def regKey (off : Nat) : Nat :=
  if off / 0x8000 = 0x108000 / 0x8000 then
    match regInfo off with
    | some _ => off
    | none => off + 0x10000000
  else off

/-! ### What registers read as -/

/-- The wide value of a LO register and the registers that its read snapshots, in order (32 bits each). -/
def State.wide (s : State) (k : Nat) : Option (Nat × List Nat) :=
  onReg (R.ENC_COUNT_LO 0) 0x100 4 k (fun n => some ((s.enc n).count.toNat, [R.ENC_COUNT_HI n])) <|
  onReg (R.ENC_TRG_NEXT_LO 0) 64 16 k (fun i => some ((s.trig i).next.toNat, [])) <|
  onReg (R.INT_CTX_SEQ_LO 0) 64 64 k (fun c => some ((s.ictx c).seq, [R.INT_CTX_SEQ_HI c])) <|
  onOne R.BLM_SERIAL_LO k (some (s.blm.serial, [R.BLM_SERIAL_HI])) <|
  onOne R.BLM_SEQ_LO k (some (s.blm.lastSeq, [R.BLM_SEQ_HI])) <|
  onReg (R.OST_SEQ_LO 0) 0x100 8 k (fun u => some ((s.ostUnit u).run.outSeq, [R.OST_SEQ_HI u])) <|
  onOne R.HST_CMD_SEQ_LO k (some (s.hst.lastSeq, [R.HST_CMD_SEQ_HI])) <|
  onOne R.HST_BP_PTR_LO k (some (s.hst.bpPtr, [R.HST_BP_PTR_HI])) <|
  onOne R.TIM_NOW_LO k (some (s.tim.counter, [R.TIM_NOW_MID, R.TIM_NOW_HI])) <|
  onOne R.TIM_OFS_LO k (some (wrapTo 64 s.tim.offset, [R.TIM_OFS_HI])) none

/-- A register field value placed over the stored word. -/
def State.show (s : State) (k : Nat) (f : Field) (b : Bool) : BitVec 32 := putField (s.rd k) f b.toNat

/-- A core's state code (R320). -/
def coreCode : CoreState → Nat
  | .reset => 0 | .running => 1 | .waiting => 2 | .halted => 3

/-- WCK_CORE_STATUS_n (R320, R323). -/
def State.coreStatus (s : State) (n : Nat) : BitVec 32 :=
  let c := s.core n
  BitVec.ofNat 32 (coreCode c.run * 2 ^ 30 + (supervisor n).toNat * 2 ^ 29 + c.ie.toNat * 2 ^ 28 + c.ex.toNat * 2 ^ 27 +
    c.rp % 32 * 2 ^ 16 + c.haltCause.toNat * 2 ^ 8 + c.cause.toNat)

/-- BLW_STATE (R27, R28). -/
def State.blwState (s : State) : BitVec 32 :=
  putField (s.show R.BLW_STATE F.BLW_STATE_holdover s.holdoverNow) F.BLW_STATE_degraded s.degradedNow.toNat

/-- TIM_STATUS. -/
def State.timStatus (s : State) : BitVec 32 :=
  BitVec.ofNat 32 (s.tim.mpd.isSome.toNat * 512 + s.tim.restep.toNat * 256 + timeCode s.tim.state)

/-- TIM_GPIO_IN: the level that stands on each ball, the driven one on an output. (DEDUCED, unsafe: log 29) -/
def State.gpioIn (s : State) : BitVec 32 :=
  let d := s.rd R.TIM_GPIO_DIR
  (d &&& s.rd R.TIM_GPIO_OUT) ||| (~~~d &&& s.tim.gpio)

/-- Bytes of the journal's write backlog (R287). (DESIGN CHOICE, safe: log 95) -/
def Journal.backlogBytes (j : Journal) : Nat := min 65536 (j.backlog.length * journalItemBytes)

/-- What a register of the global, lane, correction or Anvil windows reads as where it is not its stored word. -/
def State.viewPath (s : State) (k : Nat) (rest : BitVec 32) : BitVec 32 :=
  onOne R.BLW_REV k (s.show R.BLW_REV F.BLW_REV_grade (s.grade == .industrial)) <|
  onOne R.BLW_STATE k s.blwState <|
  onOne R.BLW_BOOT k (putField (s.show R.BLW_BOOT F.BLW_BOOT_pushed s.blw.pushed) F.BLW_BOOT_boot_sel s.blw.bootSel.toNat) <|
  onReg (R.ENC_TRG_NEXT_HI 0) 64 16 k (fun i => s.nextHi i) <|
  onReg (R.COR_CTX_STATUS 0) 64 64 k (fun c => s.show (R.COR_CTX_STATUS c) F.COR_CTX_STATUS_old_busy (s.oldBusy c)) <|
  onReg R.ANV_PARAM_D0 4 3 k (fun i => s.paramView i) <|
  onOne R.ANV_STATUS k (s.show R.ANV_STATUS F.ANV_STATUS_old_busy s.anvOldBusy) <|
  onOne R.CMP_STATUS k s.cmpStatus <|
  onReg (R.CMP_ENG_STATUS 0) 64 8 k (fun e => s.engStatus e) rest

/-- What a register of the other windows reads as where it is not its stored word. -/
def State.viewSystem (s : State) (k : Nat) (rest : BitVec 32) : BitVec 32 :=
  onOne R.EMB_JNL_STATUS k s.jnl.status <|
  onOne R.EMB_JNL_WEAR k s.jnl.wear <|
  onOne R.EMB_JNL_BACKLOG k (BitVec.ofNat 32 s.jnl.backlogBytes) <|
  onOne R.EMB_ACK_DATA k (sget (fun _ => 0) s.jnl.acks (s.fld R.EMB_ACK_ADDR F.EMB_ACK_ADDR_queue)) <|
  onReg (R.WCK_CORE_STATUS 0) 0x100 4 k (fun n => s.coreStatus n) <|
  onReg (R.WCK_PC 0) 0x100 4 k (fun n => (s.core n).pc) <|
  onReg (R.WCK_EPC 0) 0x100 4 k (fun n => (s.core n).epc) <|
  onReg (R.WCK_BADADDR 0) 0x100 4 k (fun n => (s.core n).badaddr) <|
  onOne R.HST_QUENCH k (s.show R.HST_QUENCH F.HST_QUENCH_pin s.hst.quenchPin) <|
  onOne R.EMB_SUSPECT k (s.rd R.EMB_SUSPECT ||| s.fencedCtxStripes) <|
  onReg (R.EVT_GRP_STATUS 0) 32 32 k (fun g => s.show (R.EVT_GRP_STATUS g) F.EVT_GRP_STATUS_held (s.gateHeld g)) <|
  onOne R.TIM_STATUS k s.timStatus <|
  onOne R.TIM_RATE k (BitVec.ofInt 32 s.tim.rate) <|
  onOne R.TIM_MPD k (BitVec.ofInt 32 (s.tim.mpd.getD 0)) <|
  onOne R.TIM_GPIO_IN k s.gpioIn <|
  onOne R.TIM_QKEY k 0 <|
  onOne R.TMP_STATUS k (putField (s.rd R.TMP_STATUS) F.TMP_STATUS_since_ms s.sinceMs) <|
  onOne R.TMP_COEF_DATA k s.coefData <|
  onOne R.SEC_STATUS k s.secStatus <|
  onOne R.SEC_BOOT_FAILS k (BitVec.ofNat 32 s.sec.bootFails) <|
  onReg (R.SEC_DEVID 0) 4 4 k devidWord <|
  onReg (R.SEC_DBG_CHAL 0) 4 8 k (fun i => s.chalWord i) <|
  onOne R.SEC_MEAS_DATA k s.measData <|
  onOne R.SEC_PUBKEY_DATA k s.pubkeyData rest

/-- The mask of a register's bits that a read returns: reserved bits, unassigned offsets and WO fields read as zero (R6, R9). -/
def readMask (k : Nat) : BitVec 32 :=
  match regInfo k with
  | none => 0
  | some r => r.fields.foldl (fun m f => if f.access == .wo then m else
      m ||| BitVec.ofNat 32 ((2 ^ (f.field.hi + 1 - f.field.lo) - 1) * 2 ^ f.field.lo)) 0

/-- The value that a read of a register returns. -/
def State.view (s : State) (k : Nat) : BitVec 32 :=
  match s.wide k with
  | some (v, _) => BitVec.ofNat 32 v
  | none => s.viewPath k (s.viewSystem k (s.rd k)) &&& readMask k

/-- A list of registers takes the successive 32-bit parts of a value. (DEDUCED, safe: log 24) -/
def State.storeParts (s : State) : List Nat → Nat → State
  | [], _ => s
  | k :: ks, v => (s.wr k (BitVec.ofNat 32 v)).storeParts ks (v / 2 ^ 32)

/-- A read of a LO register (R6, SNAPSHOT_READ): its HI registers hold the other parts of the same value. (DEDUCED, safe: log 24) -/
def State.takeParts (s : State) (k : Nat) : State :=
  match s.wide k with
  | some (v, his) => s.storeParts his (v / 2 ^ 32)
  | none => s

/-- The fields of a register that a read clears (R6). (DEDUCED, unsafe: log 25) -/
def rcFields (k : Nat) : List Field :=
  match regInfo k with
  | none => []
  | some r => (r.fields.filter fun f => f.access == .rc).map fun f => f.field

/-- A read clears the RC fields (R6); HRT_FREE_LW, the lowest free count since the last read, starts again at the present one. (DEDUCED, unsafe: log 25) -/
def State.clearRc (s : State) (k : Nat) : State :=
  if k = R.HRT_FREE_LW then s.setFld k F.HRT_FREE_LW_low_water (s.fld R.HRT_FREE F.HRT_FREE_free)
  else (rcFields k).foldl (fun s f => s.setFld k f 0) s

/-- A read of LANE_CDR (R91): a running receiver's loop as it stands, an idle one's as it stood. (DESIGN CHOICE, safe: log 28) -/
def State.readCdr (s : State) (lane : Nat) : BitVec 32 × State :=
  let s := if s.rxRate lane = 0 then s else s.sampleCdr lane
  (s.rd (R.LANE_CDR lane), s)

/-- A read of a register: its value and what the read does. (DEDUCED, safe: log 24) -/
def State.busRead (s : State) (k : Nat) : BitVec 32 × State :=
  onReg (R.ENC_TRG_NEXT_LO 0) 64 16 k (fun i => s.readNextLo i) <|
  onReg (R.ENC_TRG_NEXT_HI 0) 64 16 k (fun i => s.readNextHi i) <|
  onOne R.COR_STORE_DATA k s.readStoreData <|
  onOne R.COR_LUT_DATA k s.readLutData <|
  onOne R.STI_KNOT_DATA k s.readKnot <|
  onOne R.ANV_LUT_DATA k s.readAnvLut <|
  onOne R.CMP_TBL_DATA k s.readTable <|
  onOne R.TMP_COEF_DATA k (s.coefData, s.advanceCoef) <|
  onOne R.SEC_MEAS_DATA k (s.measData, s.advanceMeas) <|
  onOne R.SEC_PUBKEY_DATA k (s.pubkeyData, s.advancePubkey) <|
  onReg (R.LANE_CDR 0) 0x100 64 k (fun l => s.readCdr l)
  (s.view k, (s.takeParts k).clearRc k)

/-! ### What writes do -/

/-- Is a kernel or recipe load in progress, so that its owner holds the settings (R218)? -/
def State.loading (s : State) : Bool := s.rcp.run.any fun r => !r.unload

/-- A write of BLW_THERM (R8, R401): trip is locked by lock as it stood, and a trip above its reset value is ignored. -/
def State.writeTherm (s : State) (v : BitVec 32) : State :=
  let k := R.BLW_THERM
  let top := if s.grade = .commercial then 110 else 115
  let v := if top < getField v F.BLW_THERM_trip then putField v F.BLW_THERM_trip (s.fld k F.BLW_THERM_trip) else v
  s.wr k (plainValue k (s.bit k F.BLW_THERM_lock) (s.rd k) v)

/-- A write of TMP_CMD (R382, R385). -/
def State.writeTmpCmd (s : State) (v : BitVec 32) : State :=
  let s := if getField v F.TMP_CMD_run_hbm = 1 then s.runHbm else s
  if getField v F.TMP_CMD_run_tdc = 1 then s.runTdc else s

/-- A write of TIM_PP_CFG_k (R379): while enable is set the other fields are ignored. -/
def State.writePpCfg (s : State) (k : Nat) (v : BitVec 32) : State :=
  let key := R.TIM_PP_CFG k
  if s.bit key F.TIM_PP_CFG_enable then s.setFld key F.TIM_PP_CFG_enable (getField v F.TIM_PP_CFG_enable)
  else s.plainWrite key v

/-- A write of WCK_WDOG_n (R311): enabling the watchdog restarts it. (DEDUCED, unsafe: log 48) -/
def State.writeWdog (s : State) (n : Nat) (v : BitVec 32) : State :=
  let t := s.plainWrite (R.WCK_WDOG n) v
  if s.bit (R.WCK_WDOG n) F.WCK_WDOG_enable then t else t.setCore n { t.core n with kicked := t.ticks }

/-- A write of HRT_WM: ignored unless high_wm exceeds low_wm. -/
def State.writeHrtWm (s : State) (v : BitVec 32) : State :=
  if getField v F.HRT_WM_low_wm < getField v F.HRT_WM_high_wm then s.plainWrite R.HRT_WM v else s

/-- A write of a spill region register: ignored while any frame is spilled (R268). -/
def State.writeSpill (s : State) (k : Nat) (v : BitVec 32) : State :=
  if s.fld R.HRT_SPILL_USED F.HRT_SPILL_USED_used = 0 then s.plainWrite k v else s

/-- A write of a SEC_PROV_DATA word. -/
def State.writeProvData (s : State) (i : Nat) (v : BitVec 32) : State :=
  s.setSec { s.sec with provData := sput (fun _ => 0) s.sec.provData i v }

/-- Writes of the camera lane window. -/
def State.writeLanes (s : State) (k : Nat) (v : BitVec 32) : State :=
  onReg (R.LANE_PORT_CFG 0) 0x1000 16 k (fun p => s.writePortCfg p v) <|
  onReg (R.LANE_PORT_CMD 0) 0x1000 16 k (fun p => s.writePortCmd p v) <|
  onReg (R.LANE_CC_CMD 0) 0x1000 16 k (fun p => s.writeCcCmd p v) <|
  onReg (R.LANE_EYE_CTRL 0) 0x100 64 k (fun l => s.writeEyeCtrl l v) (s.plainWrite k v)

/-- Writes of the intake window (R108, R109). -/
def State.writeIntake (s : State) (k : Nat) (v : BitVec 32) : State :=
  onReg (R.INT_CTX_CFG 0) 64 64 k (fun c => s.writeCtxCfg c v) <|
  onReg (R.INT_CTX_WIDTH 0) 64 64 k (fun c => s.writeCtxReg c k v) <|
  onReg (R.INT_CTX_FILL 0) 64 64 k (fun c => s.writeCtxReg c k v) <|
  onReg (R.INT_CTX_PAIR 0) 64 64 k (fun c => s.writeCtxReg c k v) <|
  onOne R.INT_REINJ_CMD k (s.writeReinjCmd v) <|
  onReg R.INT_REINJ_MASK_LO 4 5 k (fun _ => if s.int.reinj.isSome then s else s.plainWrite k v) (s.plainWrite k v)

/-- Writes of the correction window. -/
def State.writeCorrection (s : State) (k : Nat) (v : BitVec 32) : State :=
  onReg (R.COR_CTX_CMD 0) 64 64 k (fun c => if v.getLsbD 0 then s.applyCor c else s) <|
  onOne R.COR_STORE_DATA k (s.writeStoreData v) <|
  onOne R.COR_LUT_DATA k (s.writeLutData v) <|
  onOne R.COR_LOAD_CMD k (if v.getLsbD 0 then s.coefLoadGo else s) <|
  onOne R.COR_CAP_CMD k (s.writeCapCmd v) (s.plainWrite k v)

/-- Writes of the stitcher window. -/
def State.writeStitcher (s : State) (k : Nat) (v : BitVec 32) : State :=
  onOne R.STI_CMD k (if v.getLsbD 0 then s.stiApply else s) <|
  onOne R.STI_KNOT_DATA k (s.writeKnot v) (s.plainWrite k v)

/-- Writes of the Anvil window. -/
def State.writeAnvil (s : State) (k : Nat) (v : BitVec 32) : State :=
  onOne R.ANV_CMD k (if v.getLsbD 0 then s.anvApply else s) <|
  onOne R.ANV_PARAM_D2 k (s.writeParam v) <|
  onOne R.ANV_KS_D3 k (s.writeBundle v) <|
  onOne R.ANV_LUT_DATA k (s.writeAnvLut v) <|
  onOne R.ANV_LOAD_CMD k (if v.getLsbD 0 then s.anvLoadGo else s) (s.plainWrite k v)

/-- Writes of the Bloom window (R218): the loader holds the settings during a load. -/
def State.writeBloom (s : State) (k : Nat) (v : BitVec 32) : State :=
  onOne R.BLM_CMD k (if v.getLsbD 0 then s.flushBlooms else s) <|
  onReg R.BLM_CFG 4 7 k (fun _ => if s.loading then s else s.plainWrite k v) (s.plainWrite k v)

/-- Writes of the position feedback window. -/
def State.writePosition (s : State) (k : Nat) (v : BitVec 32) : State :=
  onReg (R.ENC_CFG 0) 0x100 4 k (fun n => s.writeEncCfg n v) <|
  onReg (R.ENC_STILL 0) 0x100 4 k (fun n => s.writeEncStill n v) <|
  onReg (R.ENC_CMD 0) 0x100 4 k (fun n => s.writeEncCmd n v) <|
  onReg (R.ENC_TRG_CFG 0) 64 16 k (fun i => s.writeTrgCfg i v) <|
  onReg (R.ENC_TRG_NEXT_LO 0) 64 16 k (fun i => s.writeTrgNextLo i v) <|
  onReg (R.ENC_TRG_NEXT_HI 0) 64 16 k (fun i => s.writeTrgNextHi i v) <|
  onReg (R.ENC_TRG_PERIOD 0) 64 16 k (fun i => s.writeTrgPeriod i v) <|
  onReg (R.ENC_TRG_MININT 0) 64 16 k (fun i => s.writeTrgMinint i v) <|
  onReg (R.ENC_LAT_CFG 0) 16 16 k (fun j => s.writeLatCfg j v) <|
  onReg (R.ENC_LAT_CMD 0) 16 16 k (fun j => s.writeLatCmd j v) (s.plainWrite k v)

/-- Writes of the Tongs window. -/
def State.writeTongs (s : State) (k : Nat) (v : BitVec 32) : State :=
  onReg (R.TNG_LINK_CFG 0) 32 8 k (fun m => s.writeLinkCfg m v) <|
  onReg (R.TNG_CH_WIDTH 0) 32 1024 k (fun c => s.writeChWidth c v) (s.plainWrite k v)

/-- Writes of the compression window. -/
def State.writeCompression (s : State) (k : Nat) (v : BitVec 32) : State :=
  onOne R.CMP_STATE_HANDLE k (s.writeStateHandle v) <|
  onOne R.CMP_CMD k (s.writeCmpCmd v) <|
  onOne R.CMP_TBL_DATA k (s.writeTable v) <|
  onReg (R.CMP_ENG_CFG 0) 64 8 k (fun e => s.writeEngCfg e v) (s.plainWrite k v)

/-- Writes of the Hearth window. -/
def State.writeHearthReg (s : State) (k : Nat) (v : BitVec 32) : State :=
  onReg (R.HRT_AP_CMD 0) 32 5 k (fun p => s.writeApCmd p (getField v F.HRT_AP_CMD_op)) <|
  onOne R.HRT_WM k (s.writeHrtWm v) <|
  onReg R.HRT_SPILL_LO 4 3 k (fun _ => s.writeSpill k v) (s.plainWrite k v)

/-- Writes of the Wick window: BAR0 writes to the service registers are ignored (R323). -/
def State.writeWick (s : State) (ag : Agent) (k : Nat) (v : BitVec 32) : State :=
  let byCore := match ag with | .host => false | .core _ => true
  onReg (R.WCK_SWI 0) 0x100 4 k (fun n => s.writeSwi n v) <|
  onReg (R.WCK_SVC_DONE 0) 0x100 4 k (fun n => if byCore then s.serviceDone n v else s) <|
  onReg (R.WCK_SVC_RET_LO 0) 0x100 4 k (fun _ => if byCore then s.plainWrite k v else s) <|
  onReg (R.WCK_SVC_RET_HI 0) 0x100 4 k (fun _ => if byCore then s.plainWrite k v else s) <|
  onReg (R.WCK_WDOG 0) 0x100 4 k (fun n => s.writeWdog n v) (s.plainWrite k v)

/-- Is a ring enabled? -/
def State.ringOn (s : State) (d : Nat) : Bool := s.bit (R.HST_RING_CFG d) F.HST_RING_CFG_enable

/-- Writes of the host window (R329, R334, R338, R345). -/
def State.writeHost (s : State) (ag : Agent) (k : Nat) (v : BitVec 32) : State :=
  let ringField := fun d => if s.ringOn d then s else s.plainWrite k v
  onOne R.HST_BP_CFG k (s.writeBulkReg k v) <|
  onOne R.HST_BP_HANDLE k (s.writeBulkReg k v) <|
  onOne R.HST_QUENCH k (s.writeQuench v) <|
  onOne R.HST_BP_BASE_HI k (s.writeBulkReg k v) <|
  onReg (R.HST_Q_CFG 0) 64 64 k (fun q => match ag with
    | .host => s.hostQueueCfg q v
    | .core _ => s.writeQueueCfg q v) <|
  onReg (R.HST_Q_CTRL 0) 64 64 k (fun q => s.writeQueueCtrl q v) <|
  onReg (R.HST_RING_CFG 0) 64 64 k (fun d => s.writeRingCfg d v) <|
  onReg (R.HST_RING_BASE_LO 0) 64 64 k ringField <|
  onReg (R.HST_RING_BASE_HI 0) 64 64 k ringField <|
  onReg (R.HST_RING_WB_LO 0) 64 64 k ringField <|
  onReg (R.HST_RING_WB_HI 0) 64 64 k ringField (s.plainWrite k v)

/-- Writes of the events window. -/
def State.writeEvents (s : State) (ag : Agent) (k : Nat) (v : BitVec 32) : State :=
  onReg (R.EVT_SRC 0) 4 512 k (fun i => s.writeSource ag i v) <|
  onOne R.EVT_LTN_CFG k (s.writeLanternCfg v) (s.plainWrite k v)

/-- Writes of the time, Temper, global and security windows. -/
def State.writeSystem (s : State) (k : Nat) (v : BitVec 32) : State :=
  onOne R.BLW_CMD k (s.writeBlwCmd v) <|
  onOne R.BLW_THERM k (s.writeTherm v) <|
  onOne R.TIM_CFG k (s.writeTimCfg v) <|
  onOne R.TIM_HOST_OFS_HI k (s.hostOffset v) <|
  onOne R.TIM_QKEY k (s.wr k v) <|
  onReg (R.TIM_PP_CFG 0) 0x100 2 k (fun p => s.writePpCfg p v) <|
  onOne R.TMP_CMD k (s.writeTmpCmd v) <|
  onReg (R.SEC_PROV_DATA 0) 4 16 k (fun i => s.writeProvData i v) <|
  onOne R.SEC_PROV_CMD k (s.writeProvCmd v) <|
  onOne R.SEC_DBG_CMD k (s.registerUnlock v) (s.plainWrite k v)

/-- A write of a register by an agent: the effect of its block, otherwise the value under its access codes (R6 to R10). -/
def State.busWrite (s : State) (ag : Agent) (k : Nat) (v : BitVec 32) : State :=
  match k / 0x100000 with
  | 0x1 => s.writeLanes k v
  | 0x101 => s.writeLanes k v
  | 0x2 => s.writeIntake k v
  | 0x3 => s.writeCorrection k v
  | 0x4 => s.writeStitcher k v
  | 0x5 => s.writeAnvil k v
  | 0x6 => s.writeBloom k v
  | 0x7 => s.writePosition k v
  | 0x8 => s.writeTongs k v
  | 0x9 => onReg (R.OST_CMD 0) 0x100 8 k (fun u => s.writeOstCmd u v) (s.plainWrite k v)
  | 0xA => s.writeCompression k v
  | 0xB => s.writeHearthReg k v
  | 0xD => s.writeWick ag k v
  | 0xE => s.writeHost ag k v
  | 0xF => s.writeEvents ag k v
  | _ => s.writeSystem k v

/-! ### What a Wick core may reach (R295, R357) -/

/-- A source that a recipe core may configure: its own private sources and the shared sources targeted at it. -/
def State.ownSource (s : State) (n i : Nat) : Bool :=
  if i < 128 then i / 32 == n else s.fld (R.EVT_SRC i) F.EVT_SRC_target == n

/-- May core `n` write the register at a BAR0 offset? Core 0 runs in supervisor mode. (DEDUCED, safe: log 51) -/
def State.coreMayWrite (s : State) (n off : Nat) : Bool :=
  if n = 0 then true
  else match off / 0x100000 with
    | 0x0 => false
    | 0xB => if 0xB01000 ≤ off ∧ off < 0xB010A0 then (off - 0xB01000) / 32 == n + 1 else true
    | 0xD => false
    | 0xE => (regIdx (R.HST_Q_ACK 0) 64 64 off).isSome
    | 0xF => onReg (R.EVT_SRC 0) 4 512 off (fun i => s.ownSource n i)
        (decide (0xF01000 ≤ off) && decide (off < 0xF01400) && (off - 0xF01000) / 64 == n)
    | 0x11 => false
    | 0x12 => false
    | _ => true

/-- May core `n` read the register at a BAR0 offset? -/
def coreMayRead (n off : Nat) : Bool := n == 0 || off / 0x100000 != 0x12

/-! ### The accesses -/

/-- A BAR0 access is 32 bits wide and aligned (R325). -/
def dwordAccess (off size : Nat) : Bool := size == 4 && off % 4 == 0

/-- REGISTER_WRITE (R6, R325): a write of `size` bytes by host software, or of a word by a Wick core. (DEDUCED, safe: log 23) -/
def execRegisterWrite (ag : Agent) (offset : BitVec 26) (size : Nat) (v : Reg32) (s : State) : Host.Outcome State Fault Refusal :=
  .next (
    let off := offset.toNat
    match ag with
    | .host =>
      if dwordAccess off size then s.hostWrite off v fun s => s.busWrite .host (regKey off) v
      else if s.inStates [.off, .reset] || s.hst.d3hot then s else s.hstFlag 6
    | .core n =>
      if s.coresStopped || !dwordAccess off size || !s.coreMayWrite n off then s else s.busWrite (.core n) (regKey off) v)

/-- A completed BAR0 read of host software. -/
def State.hostRead (s : State) (off : Nat) : State :=
  let (v, t) := s.busRead (regKey off)
  t.emit (.readData v)

/-- The value that a read of a register by an agent gives, and what the read does. (DESIGN CHOICE, safe: log 52) -/
def State.agentRead (s : State) (ag : Agent) (off : Nat) : State :=
  match ag with
  | .host => s.hostAccess off (.read off) fun s => s.hostRead off
  | .core n => if s.coresStopped || !coreMayRead n off then s else (s.busRead (regKey off)).2

/-- Is a read by an agent answered now: not in OFF, RESET, D3hot or to a core that stands still, not left until the wake? -/
def State.readServed (s : State) (ag : Agent) (off : Nat) : Bool :=
  match ag with
  | .host => !(s.inStates [.off, .reset] || s.hst.d3hot) && (servedBanked off || !s.inStates [.banked])
  | .core n => !s.coresStopped && coreMayRead n off

/-- The hardware sets fields of a register that a read has just cleared (R7): the set is visible to the next read. A high-water mark takes
the larger value, the low-water mark HRT_FREE_LW the smaller. (DEDUCED, safe: log 26) -/
def State.collide (s : State) (k : Nat) (c : Option Reg32) : State :=
  match c with
  | none => s
  | some v => (rcFields k).foldl (fun s f =>
      s.setFld k f (if k = R.HRT_FREE_LW then min (s.fld k f) (getField v f) else max (s.fld k f) (getField v f))) s

/-- RC_READ (R6, R7): a read of a register with a read-clear field; `collide`: what the hardware sets in the same cycle. -/
def execRcRead (ag : Agent) (offset : BitVec 26) (collide : Option Reg32) (s : State) : Host.Outcome State Fault Refusal :=
  .next (if (rcFields (regKey offset.toNat)).isEmpty then s
    else (s.agentRead ag offset.toNat).collide (regKey offset.toNat)
      (if s.readServed ag offset.toNat then collide else none))

/-- SNAPSHOT_READ (R6): a read of a LO register. -/
def execSnapshotRead (ag : Agent) (offset : BitVec 26) (s : State) : Host.Outcome State Fault Refusal :=
  .next (if (s.wide (regKey offset.toNat)).isSome then s.agentRead ag offset.toNat else s)

/-- BAR0_READ (R324, R325, R405): a read of `size` bytes of BAR0 by host software; AER logs a completer abort. (DEDUCED, safe: log 23) -/
def execBar0Read (offset : BitVec 26) (size : Nat) (s : State) : Host.Outcome State Fault Refusal :=
  .next (
    let off := offset.toNat
    if dwordAccess off size then s.hostAccess off (.read off) fun s => s.hostRead off
    else if s.inStates [.off, .reset] || s.hst.d3hot then s else (s.emit .completerAbort).hstFlag 6)

/-! ### SMBus (R437) -/

/-- The word that an SMBus command code returns; none for a code not in the table. (DEDUCED, safe: log 33) -/
def State.smbusWord (s : State) (code : Nat) : Option (BitVec 16) :=
  match code with
  | 0x00 => some ((s.view R.BLW_ID).setWidth 16)
  | 0x01 => some ((s.view R.BLW_STATE).setWidth 16)
  | 0x02 => some (BitVec.ofInt 16 (s.sfld R.BLW_TEMP F.BLW_TEMP_die))
  | 0x03 => some (BitVec.ofInt 16 (s.sfld R.BLW_TEMP F.BLW_TEMP_hbm))
  | 0x04 => some (BitVec.ofNat 16 (s.fld R.BLW_SUPPLY F.BLW_SUPPLY_below_warn))
  | 0x05 => some ((s.view R.BLW_RESET_CAUSE).setWidth 16)
  | _ => none

/-- SMBUS_READ_WORD (R437): answered in every state except OFF and except while POR_N is asserted; no wake. (DEDUCED, safe: log 33) -/
def execSmbusReadWord (command : BitVec 8) (s : State) : Host.Outcome State Fault Refusal :=
  .next (if s.inStates [.off] || s.blw.porAsserted then s
    else match s.smbusWord command.toNat with
      | some w => s.emit (.smbusWord w)
      | none => s)

/-! ### Reads through BAR2 -/

/-- A BAR2 read for which Hearth's metadata fails in both copies (R259): the device enters FAULT, and the read is answered
with open bytes, or waits where others wait. (DESIGN CHOICE, unsafe: log 94) -/
def State.metadataFails (s : State) (x n : Nat) : State :=
  if s.hst.bulkWait.isEmpty then
    let (bs, t) := s.openBytes n
    ((t.sendCompletions bs fun _ => false).advanceStream n).enterFault 2
  else (s.bulkLater (.bulkRead x n .clean)).enterFault 2

/-- BAR2_READ (R259, R327). -/
def execBar2Read (offset : BitVec 24) (length : Nat) (ecc : EccResult) (s : State) (metadata : Bool := false) :
    Host.Outcome State Fault Refusal :=
  .next (s.hostAccess 0xE00000 (.bulkRead offset.toNat length ecc) fun s =>
    if metadata then s.metadataFails offset.toNat length else s.bar2Read offset.toNat length ecc)

end Sys2Proof.Machine
end

