-- ==== Sys2Proof/Machine/Loader.lean ====
section
/-! DEFINITION. The recipe loader: LOAD and UNLOAD (R318, R319, R344, R414), the verification of a recipe image (R409 to R411), its
sections, rings and checks. -/
namespace Sys2Proof.Machine

/-! ### The image (R409 to R411, R318) -/

/-- Bytes of a handle as a number, least significant first. (DEDUCED, unsafe: log 67) -/
def State.imageField (s : State) (h : BitVec 32) (off n : Nat) : Nat := ofBytes (s.readBuffer h off n).1

/-- The payload's length (R409). -/
def State.imageLength (s : State) (h : BitVec 32) : Nat := s.imageField h 12 4

/-- The signed message M: the header's 64 bytes and the payload (R410). -/
def State.imageMessage (s : State) (h : BitVec 32) : List Byte :=
  (s.readBuffer h 0 64).1 ++ (s.readBuffer h 29856 (s.imageLength h)).1

/-- The signer's key is available to a recipe (R411 reason 0x03), by the key state latched at the start. (DEDUCED, unsafe: log 73) -/
def recipeKeyOk (cust dead : Bool) (signer : Nat) : Bool :=
  match signer with
  | 0 => !cust && !dead
  | 1 => cust && !dead
  | _ => false

/-- The first check of R411 that a recipe image fails, by its reason code; 0 where it is accepted. (DEDUCED, unsafe: log 73) -/
def State.recipeReason (s : State) (h : BitVec 32) (keys : Bool × Bool × Nat) (signatureOk : Bool) : Nat :=
  let n := s.imageLength h
  let room := match s.buffer h with | some b => b.size * 65536 | none => 0
  let svn := s.imageField h 8 4
  if s.imageField h 0 4 ≠ 0x1F4B0016 ∨ s.imageField h 4 1 ≠ 2 ∨ s.imageField h 6 2 ≠ 1 ∨ s.imageField h 32 32 ≠ 0 ∨ 32 < svn then 1
  else if n % 16 ≠ 0 ∨ room < 29856 + n then 2
  else if recipeKeyOk keys.1 keys.2.1 (s.imageField h 5 1) = false then 3
  else if svn < keys.2.2 then 4
  else if signatureOk = false then 5
  else if (s.readBuffer h 0 (29856 + n)).2 then 6
  else 0

/-- A section of the image (R318). -/
structure Section where
  kind : Nat
  core : Nat
  len : Nat
  dest : Nat
  payload : List Byte
deriving DecidableEq, Repr

/-- The sections up to kind 0xFF; none where the payload ends before it or a section overruns the payload. -/
def parseSections : Nat → List Byte → Option (List Section)
  | 0, _ => none
  | fuel + 1, bs =>
    let w := ofBytes (bs.take 9)
    let x : Section := ⟨bitsOf w 71 64, bitsOf w 63 62, bitsOf w 55 32, bitsOf w 31 0, (bs.drop 16).take (bitsOf w 55 32)⟩
    if bs.length < 16 then none
    else if x.kind = 0xFF then (if x.len = 0 then some [] else none)
    else if bs.length < 16 + x.len then none
    else (parseSections fuel (bs.drop (16 + cdiv x.len 16 * 16))).map fun l => x :: l

/-- The words of a section, one 16-byte slot each (R5). (DEDUCED, unsafe: log 67) -/
def Section.words (x : Section) : List Word :=
  (List.range (x.len / 16)).map fun i => BitVec.ofNat 72 (ofBytes ((x.payload.drop (16 * i)).take 9))

/-- Bits of word `i` of a section. (DEDUCED, unsafe: log 67) -/
def Section.field (x : Section) (i hi lo : Nat) : Nat := bitsOf (x.words.getD i 0).toNat hi lo

/-- Entries per word and entries in all of a block table (R121, R165, R318). (DESIGN CHOICE, unsafe: log 69) -/
def tableShape (table : Nat) : Nat × Nat :=
  match table with
  | 0 => (4, 524288)
  | 1 => (4, 65536)
  | 2 => (1, 8192)
  | 3 => (4, 16384)
  | 4 => (1, 64)
  | 5 => (4, 4096)
  | _ => (4, 1040)

/-- The first entry of a block table section, in the units of `tableShape` (two words to a kernel bundle), and its table. -/
def Section.table (x : Section) : Nat := bitsOf x.dest 31 28
def Section.first (x : Section) : Nat := bitsOf x.dest 27 0 * (if x.table = 2 then 2 else 1)

/-- A section is well formed (R318): its kind, its core and its place in its memory. -/
def Section.ok (x : Section) : Bool :=
  match x.kind with
  | 0x01 => decide (1 ≤ x.core) && decide (x.dest + x.len ≤ 0x80000)
  | 0x02 => decide (0x100000 ≤ x.dest) && decide (x.dest + x.len ≤ 0x300000)
  | 0x03 => decide (1 ≤ x.core) && decide (64 ≤ x.len) && decide (x.field 0 31 0 < 0x80000)
  | 0x04 => true
  | 0x05 => true
  | 0x06 => decide (x.table ≤ 6) && decide (x.first + x.words.length * (tableShape x.table).1 ≤ (tableShape x.table).2)
  | 0x07 => decide (16 ≤ x.len)
  | _ => false

/-! ### Fixed parameters and register lists (kinds 0x05 and 0x04) -/

/-- The bits of a register that the recipe loader fixes from the image; 0 for a register that it does not fix. (DEDUCED, unsafe: log 70) -/
def fixedMask (off : Nat) : BitVec 32 :=
  onOne R.ENC_COORD off 0x103 <|
  onOne R.ENC_MD_SCALE off 0xFFFFFFFF <|
  onOne R.STI_CD_PITCH off 0xFFFFFFFF <|
  onOne R.STI_CD_ORIGIN off 0xFFFFFFFF <|
  onReg (R.INT_CTX_RING 0) 64 64 off (fun _ => 0x1F) <|
  onReg (R.COR_CTX_TNR_BASE 0) 64 64 off (fun _ => 0x80000000) <|
  onOne R.STI_LINE_CFG off 0x8F07FFFF <|
  onOne R.STI_STRIPE_CFG off 0x001F7FFF <|
  onReg (R.STI_SEG_SLOTS 0) 64 16 off (fun _ => 0xFF) <|
  onOne R.ANV_CFG off 0x000F001F <|
  onReg (R.ANV_IMG 0) 8 4 off (fun _ => 0xC000001F) <|
  onReg (R.OST_RING 0) 0x100 8 off (fun _ => 0x00FFFF1F) 0

/-- The registers that hold what a recipe fixes or what its load has reserved. -/
def recipeRegs : List Nat :=
  [R.ENC_COORD, R.ENC_MD_SCALE, R.STI_CD_PITCH, R.STI_CD_ORIGIN, R.STI_LINE_CFG, R.STI_STRIPE_CFG, R.ANV_CFG, R.OST_SNAP_HANDLE] ++
  (List.range 64).flatMap (fun c => [R.INT_CTX_RING c, R.INT_CTX_RING_HANDLE c, R.COR_CTX_TNR_BASE c]) ++
  (List.range 16).map R.STI_SEG_SLOTS ++ (List.range 4).flatMap (fun c => [R.ANV_IMG c, R.ANV_IMG_HANDLE c]) ++
  (List.range 8).flatMap fun u => [R.OST_RING u, R.OST_HANDLE u]

/-- No recipe is loaded: its rings are freed (R276) and the registers that it fixed read their reset values. (DEDUCED, unsafe: log 75) -/
def State.clearRecipe (s : State) : State :=
  let s := s.rcp.rings.foldl (fun s h => s.hearthDrop h) s
  let s := recipeRegs.foldl (fun s k => s.wr k 0) s
  let s := upTo 16 (fun n s => s.setFld (R.ANV_SL_STATUS n) F.ANV_SL_STATUS_active 0) s
  { s with rcp := { s.rcp with loaded := false, rings := [] }, sec := { s.sec with rcpSvn := none } }

/-- A status (0 while nothing has rejected the recipe) and the state so far. -/
abbrev LoadResult := Nat × State

/-- The next part of a load, unless one before has rejected the recipe. -/
def LoadResult.next (r : LoadResult) (f : State → LoadResult) : LoadResult := if r.1 = 0 then f r.2 else r

/-- A list handled one by one until a step rejects. -/
def loadEach (f : α → State → LoadResult) : List α → State → LoadResult
  | [], s => (0, s)
  | x :: l, s => if (f x s).1 = 0 then loadEach f l (f x s).2 else f x s

/-- A word of kind 0x05. (DEDUCED, unsafe: log 70) -/
def State.loadFixed (w : Word) (s : State) : LoadResult :=
  let off := bitsOf w.toNat 63 32
  let v := BitVec.ofNat 32 (bitsOf w.toNat 31 0)
  let m := fixedMask off
  if m = 0 ∨ legalReg off (v &&& m) = false then (2, s) else (0, s.wr off ((s.rd off &&& ~~~m) ||| (v &&& m)))

/-- May the register list write an offset: one that R295 lets a recipe core write. (DEDUCED, unsafe: log 70) -/
def State.listMayWrite (s : State) (off : Nat) : Bool := off % 4 == 0 && [1, 2, 3].any fun n => s.coreMayWrite n off

/-- A word of kind 0x04 (R295, R318): a context that the write leaves disabled against R95 rejects the recipe. (DEDUCED, unsafe: log 68) -/
def State.loadRegister (w : Word) (s : State) : LoadResult :=
  let off := bitsOf w.toNat 63 32
  let v := BitVec.ofNat 32 (bitsOf w.toNat 31 0)
  if s.listMayWrite off = false then (2, s)
  else
    let t := s.busWrite (.core 1) (regKey off) v
    onReg (R.INT_CTX_CFG 0) 64 64 off (fun c => if v.getLsbD 31 && !t.ctxOn c then (2, t) else (0, t)) (0, t)

/-- All words of the sections of a kind. -/
def wordsOfKind (l : List Section) (k : Nat) : List Word := (l.filter fun x => x.kind == k).flatMap Section.words

/-! ### Rings (R106, R163, R242, R244) -/

/-- The bytes of a ring. (DEDUCED, unsafe: log 71) -/
def ringBytes (stride log2 : Nat) : Nat := 9 * stride * 2 ^ log2

/-- A ring of `slots` slots reserved, of none for the snapshot buffer: its handle in the state's list, or NOSPACE. -/
def State.takeRing (s : State) (bytes slotBytes slots handleReg : Nat) : LoadResult :=
  match s.hearthTake (cdiv bytes 65536) .ring slotBytes slots with
  | some (h, t) => (0, ({ t with rcp := { t.rcp with rings := t.rcp.rings ++ [h] } } : State).wr handleReg h)
  | none => (5, s)

/-- Is a ring_log2 one of a ring? (DEDUCED, unsafe: log 71) -/
def ringLegal (n : Nat) : Bool := decide (6 ≤ n) && decide (n ≤ 20)

/-- The raw rings of the enabled contexts (R106). (DEDUCED, unsafe: log 71) -/
def State.contextStride (s : State) (c : Nat) : Nat := slotStride (s.ctxWidth c) (samplesPerWord (s.ctxFmt c))
def State.loadRing (c : Nat) (s : State) : LoadResult :=
  let n := s.ringLog2 c
  let st := s.contextStride c
  if ringLegal n then (s.setFld (R.INT_CTX_RING c) F.INT_CTX_RING_stride st).takeRing (ringBytes st n) (9 * st) (2 ^ n) (R.INT_CTX_RING_HANDLE c)
  else (2, s)

/-- The rings of the image channels that write one (R163). (DEDUCED, unsafe: log 71) -/
def State.channelStride (s : State) : Nat := cdiv (3 + cdiv s.lineWidth 6) 8 * 8
def State.loadChannel (c : Nat) (s : State) : LoadResult :=
  let k := R.ANV_IMG c
  let n := s.fld k F.ANV_IMG_ring_log2
  if s.bit k F.ANV_IMG_enable && s.bit k F.ANV_IMG_to_hearth then
    (if ringLegal n then s.takeRing (ringBytes s.channelStride n) (9 * s.channelStride) (2 ^ n) (R.ANV_IMG_HANDLE c) else (2, s))
  else (0, s)

/-- The rings of the output stream units (R242). (DEDUCED, unsafe: log 71) -/
def State.loadStream (u : Nat) (s : State) : LoadResult :=
  let n := s.fld (R.OST_RING u) F.OST_RING_ring_log2
  let st := s.fld (R.OST_RING u) F.OST_RING_stride
  if n = 0 then (0, s)
  else if ringLegal n && st != 0 then s.takeRing (ringBytes st n) (9 * st) (2 ^ n) (R.OST_HANDLE u)
  else (2, s)

/-- A context that the load leaves disabled has no ring: it reads ring_log2 0 (R106). -/
def State.withoutRings (s : State) : State :=
  ((List.range 64).filter fun c => !s.ctxOn c).foldl (fun s c => s.setFld (R.INT_CTX_RING c) F.INT_CTX_RING_ring_log2 0) s

/-- Every ring of a recipe: those of the contexts and those of the streams hold at most 4 GB each. (DEDUCED, unsafe: log 68) -/
def State.loadRings (s : State) : LoadResult :=
  let ctxs := (List.range 64).filter s.ctxOn
  let raw := (ctxs.map fun c => ringBytes (s.contextStride c) (s.ringLog2 c)).foldl (· + ·) 0
  let out := ((List.range 8).map fun u =>
    ringBytes (s.fld (R.OST_RING u) F.OST_RING_stride) (s.fld (R.OST_RING u) F.OST_RING_ring_log2)).foldl (· + ·) 0
  if 0x100000000 < raw ∨ 0x100000000 < out then (5, s)
  else (((loadEach State.loadRing ctxs s).next (loadEach State.loadChannel (List.range 4))).next
    (loadEach State.loadStream (List.range 8))).next fun s => (s.withoutRings).takeRing 294912 0 0 R.OST_SNAP_HANDLE

/-! ### Block tables (kind 0x06) -/

/-- Entry `e` of a table takes a value. (DESIGN CHOICE, unsafe: log 69) -/
def State.storeEntry (s : State) (table e v : Nat) : State :=
  match table with
  | 0 => s.setCor { s.cor with coef := sput (fun _ => 0) s.cor.coef e (BitVec.ofNat 16 v) }
  | 1 => s.setCor { s.cor with lut := sput (fun _ => 0) s.cor.lut e (BitVec.ofNat 18 v) }
  | 3 => s.setAnv { s.anv with lut := sput (fun _ => 0) s.anv.lut e (BitVec.ofNat 18 v) }
  | 4 => s.setAnv { s.anv with shadow := sput (fun _ => 0) s.anv.shadow e (BitVec.ofNat 72 v) }
  | 5 => s.storeLength e (BitVec.ofNat 4 v)
  | _ => s.setSti { s.sti with knots := sput (fun _ => 0) s.sti.knots e (BitVec.ofNat 16 v) }

/-- Bits of one entry in a word of a table: 18 for the lookup tables, 16 for the others with four to a word. (DESIGN CHOICE, unsafe: log 69) -/
def entryBits (table : Nat) : Nat := if table = 1 ∨ table = 3 then 18 else 16

/-- A block table loaded from its section. (DESIGN CHOICE, unsafe: log 69) -/
def State.loadTable (s : State) (x : Section) : State :=
  let ws := x.words
  match x.table with
  | 2 => upTo (ws.length / 2) (fun i s =>
      let w (j : Nat) : Nat := (ws.getD (2 * i + j) 0).toNat % 2 ^ 64
      s.setAnv { s.anv with store := sput (fun _ => 0) s.anv.store (x.first / 2 + i) (BitVec.ofNat 128 (w 1 * 2 ^ 64 + w 0)) }) s
  | 4 => upTo ws.length (fun i s => s.storeEntry 4 (x.first + i) (ws.getD i 0).toNat) s
  | t => upTo ws.length (fun i s => upTo 4 (fun j s =>
      s.storeEntry t (x.first + 4 * i + j) (bitsOf (ws.getD i 0).toNat (entryBits t * (j + 1) - 1) (entryBits t * j))) s) s

/-! ### The checks of step 4 -/

/-- Temporal state regions are laid one after another over the contexts that declare one; R19 bounds their sum. (DEDUCED, unsafe: log 71) -/
def State.loadRegions (s : State) : LoadResult :=
  let on := (List.range 64).filter fun c => s.bit (R.COR_CTX_TNR_BASE c) F.COR_CTX_TNR_BASE_region
  let sum := (on.map s.ctxWidth).foldl (· + ·) 0
  if 524288 < sum then (2, s)
  else (0, (on.foldl (fun (a : State × Nat) c =>
    (a.1.setFld (R.COR_CTX_TNR_BASE c) F.COR_CTX_TNR_BASE_tnr_base a.2, a.2 + s.ctxWidth c)) (s, 0)).1)

/-- Samples per word of the stitched line. -/
def State.stitchedSpw (s : State) : Nat := if s.bits18 then 4 else 6

/-- Words of the alignment store that the slots of a recipe take (R140). -/
def State.slotWords (s : State) : Nat :=
  upTo 16 (fun i n =>
    let c := s.fld (R.STI_SEG_CFG i) F.STI_SEG_CFG_ctx
    n + s.fld (R.STI_SEG_SLOTS i) F.STI_SEG_SLOTS_slots * cdiv (s.ctxWidth c) (samplesPerWord (s.ctxFmt c))) 0

/-- The first check of R131, R140, R154, R155 and BLM_CROP_CFG that a recipe fails, by its status; 0 where all hold. (DEDUCED, unsafe: log 70) -/
def State.recipeStatus (s : State) : Nat :=
  let w := s.lineWidth
  let sw := s.stripeWidth
  let win := s.fld R.ANV_CFG F.ANV_CFG_window_lines
  let ch := R.ANV_IMG (s.fld R.BLM_CROP_CFG F.BLM_CROP_CFG_channel)
  if w = 0 ∨ 262144 < w ∨ sw < 64 ∨ 16384 < sw ∨ sw % 8 ≠ 0 ∨ s.stripes ≠ cdiv w sw ∨ 16 < s.stripes ∨
      [1, 3, 5, 7, 9].contains win = false then 2
  else if (refCtx s.refSeg s.stiShadow).isNone then 2
  else if s.bit R.BLM_CROP_CFG F.BLM_CROP_CFG_crop_en ∧ (s.bit ch F.ANV_IMG_enable && s.bit ch F.ANV_IMG_to_hearth) = false then 2
  else if 196608 < s.slotWords then 5
  else if 45056 / cdiv (sw + 16) s.stitchedSpw < win + 2 then 5
  else 0

/-! ### The pipeline as a load leaves it (R41, R43, R114, R144, R217) -/

/-- The previous recipe's sets, lines and intervals are gone: stitcher, Anvil, output streams, correction, Bloom. (DEDUCED, unsafe: log 72) -/
def State.emptyPipeline (s : State) : State :=
  let s := s.dropPixelPath
  let s := s.setSti { s.sti with segs := [], pending := none, shifts := [], shiftNext := [], cursor := [], nextK := 0, nextForm := 0, newest := 0,
                                 lastRef := s.ticks }
  let s := (s.setFld R.STI_STATUS F.STI_STATUS_apply_pending 0).blockDone 5 0 0
  let s := upTo 16 (fun i s => s.setShift i 0) s
  let s := s.setAnv { s.anv with active := none, pending := none, rate := none, fences := s.anv.fences.map fun q => (q.1, 0) }
  let s := (s.setFld R.ANV_STATUS F.ANV_STATUS_apply_pending 0).blockDone 7 0 0
  let s := upTo 8 (fun u s => (s.setOst u { s.ostUnit u with pending := none, run := {}, start := none, stop := false, snap := [],
                                                             work := [] }).setFld
    (R.OST_STATUS u) F.OST_STATUS_apply_pending 0 |>.blockDone 8 u 0) s
  let s := upTo 64 (fun c s => (s.setCorCtx c { s.corCtx c with pending := none, empty := true, emptyA := true, emptyB := true,
                                                                updated := none, last := none }).setFld
    (R.COR_CTX_STATUS c) F.COR_CTX_STATUS_apply_pending 0 |>.blockDone 4 c 0) s
  let s := ((s.setBlm { s.blm with cut := [], prevExcl := [], lines := 0, lastSeq := 0, lastCommit := none, cfg := [] }).setBlooms
    []).setRecords []
  s.syncBuffer

/-- The shadow sets as step 4 leaves them are the loaded sets: interval 0 opens with them (R140's "loaded parameter set", R167);
one that fails the checks of its apply is not taken. (DEDUCED, unsafe: log 72) -/
def State.takeLoadedSets (s : State) : State :=
  let s := if s.stiSetOk s.stiShadow then
      if s.sti.pending.isSome then s.setSti { s.sti with pending := some s.stiShadow } else s.setSti { s.sti with segs := s.stiShadow }
    else s
  if s.anvRefused then s
  else if s.anv.pending.isSome then s.setAnv { s.anv with pending := some s.anvShadow }
  else (s.setAnv { s.anv with active := some s.anvShadow }).setFld R.ANV_STATUS F.ANV_STATUS_active_entry s.anvShadow.entry

/-- The sequences and serials restart and interval 0 opens (R41, R61, R144, R208, R286); the master is active (R30). (DEDUCED, unsafe: log 72) -/
def State.restartSequences (s : State) : State :=
  let s := upTo 64 (fun c s => s.setIctx c { s.ictx c with seq := 0 }) s
  let s : State := { s with pos := { s.pos with latSeq := [] } }
  let s := s.setBlm { s.blm with serial := s.rcv.serial.getD 0 }
  let s : State := { s with rcv := { s.rcv with serial := none } }
  let s := upTo 16 (fun n s =>
    (s.setFld (R.ANV_SL_STATUS n) F.ANV_SL_STATUS_active (if n < s.stripes then 1 else 0)).setFld
      (R.ANV_SL_STATUS n) F.ANV_SL_STATUS_budget 0) s
  ((s.setFld R.ENC_COORD F.ENC_COORD_valid 1).takeLoadedSets).openInterval 0

/-- Kinds 0x01 and 0x02: bytes copied into a core's local memory or the shared memory. (DEDUCED, unsafe: log 68) -/
def State.loadMemory (s : State) (x : Section) : State :=
  match x.kind with
  | 0x01 => s.setCore x.core { s.core x.core with mem := Memory.writes (s.core x.core).mem x.dest x.payload }
  | 0x02 => { s with wck := { s.wck with shared := Memory.writes s.wck.shared x.dest x.payload } }
  | _ => s

/-- Steps 4 and 5 of R319. (DEDUCED, unsafe: log 68) -/
def State.loadSections (s : State) (l : List Section) : LoadResult :=
  let r := ((((loadEach State.loadFixed (wordsOfKind l 5) s).next (loadEach State.loadRegister (wordsOfKind l 4))).next
    State.loadRegions).next State.loadRings).next fun s => (0, (l.filter fun x => x.kind == 6).foldl State.loadTable s)
  r.next fun s => if s.recipeStatus ≠ 0 then (s.recipeStatus, s) else (0, (l.foldl State.loadMemory s).restartSequences)

/-! ### The commands (R319, R344, R414) -/

/-- The recipe in force or in loading. -/
def State.setRcp (s : State) (r : Recipe) : State := { s with rcp := r }

/-- The load ends: Hearth no longer holds the image's handle (R414). -/
def State.releaseImage (s : State) (r : LoadRun) : State :=
  match s.buffer r.handle with
  | some b => if r.unload then s else (s.setBuffer r.handle { b with held := false, pinned := r.wasPinned }).hearthSync
  | none => s

/-- A load or unload ends with a status and a result value. -/
def State.endLoad (s : State) (r : LoadRun) (status value : Nat) : State :=
  let s := s.releaseImage r
  (s.setRcp { s.rcp with run := none }).endCommand status value

/-- The image is held and the request joins the verifications (R414, R420); the key and version state is latched (R417). -/
def State.beginVerify (s : State) (h : BitVec 32) (b : Buffer) : State :=
  let f := s.sec.fuses
  let s := match s.buffer h with | some x => s.setBuffer h { x with held := true } | none => s
  (s.setRcp { s.rcp with run := some { handle := h, wasPinned := b.pinned, step := 1, tick := s.ticks,
                                       keys := (f.custKey.isSome, f.slotDead, f.rcpSvnMin) } }).secRequest .recipe

/-- The verification of a load starts: the handle is pinned (R414). -/
def State.startLoad (s : State) (h : BitVec 32) (b : Buffer) : State :=
  match s.hearthPin 5 h with
  | (some 0, t) => t.beginVerify h b
  | (some st, t) => t.endCommand st 0
  | (none, t) => t.beginVerify h b

/-- LOAD (R319, R344, R414). -/
def execLoad (s : State) : Host.Outcome State Fault Refusal :=
  .next (s.command 0x010 1 [.ready, .armed] fun args s =>
    let h := arg32 args 0
    match s.buffer h with
    | none => s.endCommand 2 0
    | some b => if s.leaveDenied then s.endCommand 4 0 else s.startLoad h b)

/-- The load or unload in progress, while the device can carry it out. -/
def State.loadRun (s : State) (step : Nat) : Option LoadRun :=
  if s.inStates [.ready, .armed] then s.rcp.run.filter fun r => r.step == step else none

/-- A core that runs or waits is halted by the loader (R308, R311). (DEDUCED, unsafe: log 74) -/
def State.loaderHalt (s : State) (n : Nat) : State :=
  if (s.core n).run = .running ∨ (s.core n).run = .waiting then s.haltCore n 4 else s

/-- Step 2 of R319: cores 1 to 3 halt with cause 0x04. -/
def State.haltRecipe (s : State) : State := ((s.loaderHalt 1).loaderHalt 2).loaderHalt 3

/-- The verification of an image ends (R411, R414, R415). -/
def State.recipeVerified (s : State) (signatureOk : Bool) : State :=
  match s.loadRun 1, s.sec.jobs with
  | some r, .recipe :: rest =>
    if s.hrt.pinWait.any fun p => p.1 == 5 then s
    else
      let s := s.setSec { s.sec with jobs := rest }
      let reason := s.recipeReason r.handle r.keys signatureOk
      if reason ≠ 0 then (s.verifyFail 2 reason).endLoad r 4 reason
      else
        let d := Config.shake256 (s.imageMessage r.handle)
        let cores := [1, 2, 3].map fun n => (n, s.core n)
        let run : LoadRun := { r with step := 3, tick := s.ticks, svn := s.imageField r.handle 8 4, digest := d, cores := cores }
        (s.setRcp { s.rcp with run := some run }).haltRecipe.extend 2 d
  | _, _ => s

/-- RECIPE_VERIFIED: see `State.recipeVerified`. (DEDUCED, unsafe: log 75) -/
def execRecipeVerified (signatureOk : Bool) (s : State) : Host.Outcome State Fault Refusal := .next (s.recipeVerified signatureOk)

/-- No line is on its way from intake to Bloom. -/
def State.pathEmpty (s : State) : Bool :=
  s.int.lanes.all (fun p => p.2.isNone) && s.int.eligible.isEmpty && s.cor.out.isEmpty && s.sti.formed.isEmpty &&
    s.anv.work.isEmpty && s.blm.buffer.isEmpty && s.blm.committed.isEmpty

/-- The drain of step 3 has ended: the pipeline, Anvil, the commit buffer and the record FIFO are empty. -/
def State.pathDrained (s : State) : Bool :=
  s.pathEmpty && s.int.reinj.isNone && s.blm.records.isEmpty && !s.fed.running

/-- The tags of cores 1 to 3 are freed (R308), and their service calls are dropped. (DEDUCED, unsafe: log 74) -/
def State.freeRecipeTags (s : State) : State :=
  let s := upTo 3 (fun i s => (s.freeTags (i + 1)).setCore (i + 1) { (s.freeTags (i + 1)).core (i + 1) with inService := false }) s
  let s := upTo 3 (fun i s => s.setFld (R.WCK_SVC_NUM (i + 1)) F.WCK_SVC_NUM_pending 0) s
  { s with wck := { s.wck with svc := [] } }

/-- A load fails in steps 4 to 6 (R319): what it allocated is freed, READY, no recipe. (DEDUCED, unsafe: log 74) -/
def State.failLoad (s : State) (r : LoadRun) (status : Nat) : State := (s.clearRecipe.emptyPipeline.enter .ready).endLoad r status 0

/-- What the sections of kinds 0x03 and 0x07 say. -/
def startsOf (l : List Section) : List (Nat × List Nat) :=
  (l.filter fun x => x.kind == 3).map fun x => (x.core, (List.range 4).map fun i => x.field i 31 0)
def portsOf (l : List Section) : BitVec 16 × Nat :=
  match l.filter fun x => x.kind == 7 with
  | x :: _ => (BitVec.ofNat 16 (x.field 0 15 0), x.field 0 31 16)
  | [] => (0, 0)

/-- Steps 3 to 5 of R319 end. -/
def State.loadDrained (s : State) (r : LoadRun) : State :=
  let n := s.imageLength r.handle
  let s := s.freeRecipeTags.clearRecipe.emptyPipeline
  let s := s.setRcp { s.rcp with run := none }
  match parseSections (n / 16 + 1) (s.readBuffer r.handle 29856 n).1 with
  | none => s.failLoad r 2
  | some l =>
    if l.all Section.ok then
      let (st, t) := s.loadSections l
      if st = 0 then
        t.setRcp { t.rcp with run := some { r with step := 6, tick := t.ticks, ports := (portsOf l).1, linkWait := (portsOf l).2,
                                                   starts := startsOf l } }
      else t.failLoad r st
    else s.failLoad r 2

/-- LOAD_DRAIN_DONE (R319): in READY there is nothing to drain. (DESIGN CHOICE, safe: log 1; DEDUCED, unsafe: log 75) -/
def execLoadDrainDone (s : State) : Host.Outcome State Fault Refusal :=
  .next (match s.loadRun 3 with
    | some r => if !r.unload && (s.inStates [.ready] || s.pathDrained) then s.loadDrained r else s
    | none => s)

/-- A core halted by the loader goes on where it was (R319): its tags and completions stand as they are now, and a service call
that has ended meanwhile is over. (DEDUCED, unsafe: log 74) -/
def State.resumeCore (s : State) (r : LoadRun) (n : Nat) (c : WickCore) : State :=
  let served := c.inService && !(s.core n).inService
  s.setCore n { s.core n with run := if served then .running else c.run, haltCause := c.haltCause,
                              stalled := if served then none else c.stalled, entry := c.entry,
                              kicked := c.kicked + (s.ticks - r.tick) }

/-- LOAD_DRAIN_TIMEOUT (R319): the drain, of a load or of an unload, has not ended within 100 ms. (DEDUCED, unsafe: log 75) -/
def execLoadDrainTimeout (s : State) : Host.Outcome State Fault Refusal :=
  .next (match s.loadRun 3 with
    | some r =>
      if s.inStates [.armed] && !s.pathDrained && s.passedUs r.tick 100000 then
        (r.cores.foldl (fun s p => s.resumeCore r p.1 p.2) s).endLoad r 1 0
      else s
    | none => s)

/-- Every required port has link 0 UP. -/
def State.portsUp (s : State) (ports : BitVec 16) : Bool :=
  (List.range 16).all fun p => !ports.getLsbD p || (s.camLink (4 * p)).state == .up

/-- A core released at its entry pc with ie clear and rp 16 (R319). (DEDUCED, unsafe: log 74) -/
def State.releaseCore (s : State) (n : Nat) (w : List Nat) : State :=
  let v (i : Nat) : BitVec 32 := BitVec.ofNat 32 (w.getD i 0)
  s.setCore n { s.core n with run := .running, pc := v 0, vbase := v 1 &&& 0xFFFFF000, ifsp := v 2 &&& 0xFFFFFFF0, iflim := v 3,
                              ie := false, ex := false, rp := 16, haltCause := 0, stalled := none, entry := none, tags := [],
                              inService := false, kicked := s.ticks }

/-- Step 7 of R319. -/
def State.loadLinksUp (s : State) (r : LoadRun) : State :=
  let s := s.journal (.digest r.digest)
  let s := s.setRcp { s.rcp with loaded := true, digest := r.digest }
  let s := (s.setSec { s.sec with rcpSvn := some r.svn }).enter .armed
  (r.starts.foldl (fun s p => s.releaseCore p.1 p.2) s).endLoad r 0 0

/-- LOAD_LINKS_UP (R319), once the pool has given the rings their frames (R264). (DEDUCED, unsafe: log 90) -/
def execLoadLinksUp (s : State) : Host.Outcome State Fault Refusal :=
  .next (match s.loadRun 6 with
    | some r => if s.portsUp r.ports && !s.framesOwed then s.loadLinksUp r else s
    | none => s)

/-- LINK_WAIT_TIMEOUT (R319): a required port is not up within link_wait. -/
def execLinkWaitTimeout (s : State) : Host.Outcome State Fault Refusal :=
  .next (match s.loadRun 6 with
    | some r => if !s.portsUp r.ports && s.passedUs r.tick (100000 * r.linkWait) then s.failLoad r 6 else s
    | none => s)

/-- UNLOAD (R344): the pipeline drains as in step 3 of R319. -/
def execUnload (s : State) : Host.Outcome State Fault Refusal :=
  .next (s.command 0x011 0 [.armed] fun _ s =>
    s.setRcp { s.rcp with run := some { unload := true, step := 3, tick := s.ticks } })

/-- UNLOAD_DRAIN_DONE (R308, R344): the cores halt, their tags and the recipe's rings are freed, READY. -/
def execUnloadDrainDone (s : State) : Host.Outcome State Fault Refusal :=
  .next (match s.loadRun 3 with
    | some r =>
      if r.unload && s.pathDrained then
        (s.haltRecipe.freeRecipeTags.clearRecipe.emptyPipeline.enter .ready).endLoad r 0 0
      else s
    | none => s)

end Sys2Proof.Machine
end

