-- ==== Sys2Proof/Machine/Bellows.lean ====
section
/-! DEFINITION. Bellows: thermal and clock supervision, the boot walk, recovery after a fault reset, BANKED and the wake
(R290, R291, R359 to R361, R388, R395 to R407, R412, R413). -/
namespace Sys2Proof.Machine

/-- The state with a changed Bellows. -/
def State.setBlw (s : State) (b : Bellows) : State := { s with blw := b }

/-! ### Thermal supervision (R401) -/

/-- A warning: set where the reading rises through its threshold, again only after it has fallen 2 °C below it. Readings in
0.25 °C, the threshold in °C. (DEDUCED, unsafe: log 79) -/
def warns (warned : Bool) (reading : Int) (threshold : Nat) : Bool := !warned && decide (4 * (threshold : Int) ≤ reading)
/-- DEDUCED, unsafe: log 79. -/
def staysWarned (warned : Bool) (reading : Int) (threshold : Nat) : Bool :=
  (warned && decide (4 * (threshold : Int) - 8 < reading)) || decide (4 * (threshold : Int) ≤ reading)

/-- Supervision runs in every powered state but RESET, where the reading alone follows. -/
def State.supervised (s : State) : Bool := !s.inStates [.off, .reset]

/-- The highest die reading taken (R401). (DEDUCED, unsafe: log 79) -/
def State.dieSample (s : State) (t : Int) : State :=
  let s := s.setFld R.BLW_TEMP F.BLW_TEMP_die (wrapTo 12 t)
  if s.supervised then
    let thr := s.fld R.BLW_THERM F.BLW_THERM_warn
    let s := if warns s.blw.dieWarned t thr then s.blwFlag 1 else s
    let above := if 4 * ((s.fld R.BLW_THERM F.BLW_THERM_trip : Nat) : Int) < t then s.blw.dieOver + 1 else 0
    let s := s.setBlw { s.blw with dieWarned := staysWarned s.blw.dieWarned t thr, dieOver := above }
    if 3 ≤ above then s.enterFault 3 else s
  else s

/-- The highest of the sensors' readings, signed. (DEDUCED, unsafe: log 79) -/
def highest (l : List (BitVec 12)) : Option Int :=
  l.foldl (fun m v => some (match m with | some x => max x v.toInt | none => v.toInt)) none

/-- THERMAL_SAMPLE (R401): the sixteen die sensors. (DESIGN CHOICE, safe: log 7) -/
def execThermalSample (sensors : List (BitVec 12)) (s : State) : Host.Outcome State Fault Refusal :=
  .next (match highest sensors with
    | some t => if sensors.length = 16 ∧ s.blw.state ≠ .off then s.dieSample t else s
    | none => s)

/-- The stack's reading taken (R401). -/
def State.stackSample (s : State) (t : Int) : State :=
  let s := s.setFld R.BLW_TEMP F.BLW_TEMP_hbm (wrapTo 12 t)
  if s.supervised then
    let thr := s.fld R.BLW_THERM F.BLW_THERM_hbm_warn
    let s := if warns s.blw.hbmWarned t thr then s.blwFlag 1 else s
    let s := s.setBlw { s.blw with hbmWarned := staysWarned s.blw.hbmWarned t thr }
    if 420 < t then s.enterFault 3 else s
  else s

/-- HBM_TEMP_SAMPLE (R401). -/
def execHbmTempSample (reading : BitVec 12) (s : State) : Host.Outcome State Fault Refusal :=
  .next (if s.blw.state = .off then s else s.stackSample reading.toInt)

/-! ### Clock loss (R400) -/

/-- A clock is lost: its lock bit clears, with that of the CLK_HBM branch where it is the system PLL's (R14), clk_loss is set, and what
depends on it goes. (DEDUCED, unsafe: log 22) -/
def State.loseClock (s : State) (c : ClockLost) : State :=
  match c with
  | .root => ((s.setFld R.BLW_CLK_STATUS F.BLW_CLK_STATUS_root_ok 0).blwFlag 0).enterFault 2
  | .systemPll => (((s.setFld R.BLW_CLK_STATUS F.BLW_CLK_STATUS_sys_pll_lock 0).setFld
      R.BLW_CLK_STATUS F.BLW_CLK_STATUS_hbm_pll_lock 0).blwFlag 0).enterFault 2
  | .lanePll p =>
    let m := s.fld R.BLW_CLK_STATUS F.BLW_CLK_STATUS_lane_pll_lock
    let s := (s.setFld R.BLW_CLK_STATUS F.BLW_CLK_STATUS_lane_pll_lock (if m.testBit p then m - 2 ^ p.val else m)).blwFlag 0
    upTo 4 (fun i s => s.loseLink (4 * p + i)) s
  | .pciePll =>
    let s := (s.setFld R.BLW_CLK_STATUS F.BLW_CLK_STATUS_pcie_pll_lock 0).blwFlag 0
    { s with hst := { s.hst with linkUp := false } }

/-- CLOCK_LOSS: see `State.loseClock`. -/
def execClockLoss (clock : ClockLost) (s : State) : Host.Outcome State Fault Refusal :=
  .next (if s.supervised then s.loseClock clock else s)

/-! ### Boot (R395 to R397, R412, R413) -/

/-- The ROM serves host push: it enables Q0 and Q1 (R329, R395). -/
def State.enablePush (s : State) : State := (s.writeQueueCfg 0 0x80000020).writeQueueCfg 1 0x80000020

/-- Does the boot serve host push from its start: BOOT_SEL 0b01 and 0b11, or two failed flash boots (R395, R413)? -/
def State.pushBoot (s : State) : Bool := s.blw.bootSel == 1 || s.blw.bootSel == 3 || decide (2 ≤ s.sec.bootFails)

/-- The end of the reset sequence (R394 step 4, R412): core 0 runs the ROM, which measures itself. (DEDUCED, unsafe: log 76) -/
def State.enterBoot (s : State) : State :=
  let s := s.wr R.BLW_CLK_STATUS (s.rd R.BLW_CLK_STATUS ||| 0xFFFF0007)
  let s := s.setBlw { s.blw with coolDown := false, bootTick := s.ticks, firmware := false, pushing := false }
  let s := s.setCore 0 { run := .running, pc := BitVec.ofNat 32 (0x70000000 + 4 * (Config.romEntry % 65536)), kicked := s.ticks }
  let s := (s.extend 0 Config.romDigest).enter .boot
  if s.pushBoot then s.enablePush else s

/-- May RESET leave step 1 (R394): a fault reset after a thermal trip waits until the die has cooled to trip − 10 °C. -/
def State.coolEnough (s : State) : Bool :=
  !s.blw.coolDown || decide (s.dieTemp ≤ 4 * (((s.fld R.BLW_THERM F.BLW_THERM_trip : Nat) : Int) - 10))

/-- The reset sequence completes (R394). (DESIGN CHOICE, unsafe: log 14) -/
def State.leaveReset (s : State) : State :=
  if s.blw.state = .reset ∧ s.blw.porAsserted = false ∧ s.coolEnough = true then s.enterBoot else s

/-- The firmware starts on core 0 (R412): its sections are in the memories, register 1 is extended and boot_fails is cleared. (DEDUCED, unsafe: log 78) -/
def State.startFirmware (s : State) (i : FirmwareImage) (pushed : Bool) : State :=
  let c := s.core 0
  let mem := i.localBytes.foldl (fun m p => Memory.write m (p.1.toNat % 524288) p.2) c.mem
  let s := s.setCore 0 { c with mem := mem, run := .running, pc := i.entry, vbase := i.vbase &&& 0xFFFFF000,
                                ifsp := i.ifsp &&& 0xFFFFFFF0, iflim := i.iflim, ie := false, ex := false, rp := 16 }
  let shared := i.sharedBytes.foldl (fun m p => Memory.write m p.1.toNat p.2) s.wck.shared
  let s : State := { s with wck := { s.wck with shared := shared } }
  let s := (s.extend 1 i.digest).setSec { (s.extend 1 i.digest).sec with bootFails := 0, fwSvn := i.svn.toNat }
  s.setBlw { s.blw with firmware := true, pushing := false, pushed := pushed }

/-- The reason for which an image fails R411, 0 where it passes: the svn against fw_svn_min is the device's own. (DEDUCED, unsafe: log 73) -/
def State.firmwareReason (s : State) (i : FirmwareImage) : Nat :=
  match i.check with
  | .accepted => if i.svn.toNat < s.sec.fuses.fwSvnMin then 4 else 0
  | .rejected r => if r.val = 0 then 1 else r.val

/-- A flash image fails (R413): FAULT at the first failure, host push after the second. (DEDUCED, unsafe: log 76) -/
def State.flashFailed (s : State) (reason : Nat) : State :=
  let s := s.verifyFail 1 reason
  if s.sec.bootFails = 0 then (s.setSec { s.sec with bootFails := 1 }).enterFault 1
  else (s.setSec { s.sec with bootFails := 2 }).enablePush

/-- The image in flash has been read (R395, R412, R413). (DEDUCED, unsafe: log 76) -/
def State.flashImage (s : State) (i : FirmwareImage) : State :=
  if i.header = false ∧ s.blw.bootSel = 2 then s.enablePush
  else
    let r := if i.header then s.firmwareReason i else 1
    if r = 0 then s.startFirmware i false else s.flashFailed r

/-- The pushed image has been read (R396, R413). (DEDUCED, unsafe: log 76) -/
def State.pushImage (s : State) (i : FirmwareImage) : State :=
  let r := if i.header then s.firmwareReason i else 1
  if r = 0 then (s.endCommand 0 0).startFirmware i true
  else ((s.verifyFail 1 r).setBlw { (s.verifyFail 1 r).blw with pushing := false }).endCommand 4 r

/-- FIRMWARE_VERIFIED (R396, R412, R413). -/
def execFirmwareVerified (image : FirmwareImage) (s : State) : Host.Outcome State Fault Refusal :=
  .next (
    if s.blw.state ≠ .boot ∨ s.blw.firmware then s
    else if s.blw.pushing then s.pushImage image
    else if s.queueOn 0 then s
    else s.flashImage image)

/-! ### Recovery (R286, R290, R291) -/

/-- The pending marks of the journal. -/
def Journal.pendingMarks (j : Journal) : List (Nat × Mark) :=
  j.log.foldl (fun l it => match it with
    | .mark id m => l ++ [(id, m)]
    | .markGone id => l.filter fun p => p.1 != id
    | _ => l) []

/-- The commands accepted and not completed, in command order. -/
def Journal.openCommands (j : Journal) : List (Nat × Nat) :=
  j.log.foldl (fun l it => match it with
    | .accepted op seq => l ++ [(op, seq)]
    | .completed seq => l.filter fun p => p.2 != seq
    | _ => l) []

/-- The newest recipe digest, serial checkpoint and fault record. -/
def Journal.lastDigest (j : Journal) : BitVec 512 :=
  j.log.foldl (fun d it => match it with | .digest x => x | _ => d) 0
/-- DEDUCED, unsafe: log 20. -/
def Journal.lastSerial (j : Journal) : Nat :=
  j.log.foldl (fun d it => match it with | .serial x => x | _ => d) 0
def Journal.lastFault (j : Journal) : Nat × Nat :=
  j.log.foldl (fun d it => match it with | .faultRecord _ b a => (b, a) | _ => d) (0, 0)

/-- May what the journal holds be used: it is enabled, and BOOT has read it (R290)? -/
def State.journalRead (s : State) (readable : Bool) : Bool := s.jnl.enabled && readable

/-- The frames retired before this boot are out of the pool (R272); without the journal they are found again by R269. (DEDUCED, unsafe: log 17) -/
def State.restoreRetired (s : State) (readable : Bool) : State :=
  s.keepRetired (if s.journalRead readable then s.jnl.lastRetired else 0)

/-- Recovery after a fault reset (R290, R291); all pending work is lost where the journal is disabled or unreadable. (DEDUCED, unsafe: log 20; DESIGN CHOICE, safe: log 21) -/
def State.recover (s : State) (readable : Bool) : State :=
  let st := (s.setFld R.EMB_REC_STATUS F.EMB_REC_STATUS_valid 1).setFld R.EMB_REC_STATUS F.EMB_REC_STATUS_cause s.blw.faultCause
  if s.journalRead readable then
    let s := st.setFld R.EMB_REC_LOST F.EMB_REC_LOST_lost (min 131071 s.rcv.backlogLost)
    let s := s.setFld R.EMB_REC_BLOOMS F.EMB_REC_BLOOMS_blooms s.jnl.lastFault.1
    let s := s.wr R.EMB_REC_AREA (BitVec.ofNat 32 (min 4294967295 s.jnl.lastFault.2))
    let s : State := { s with rcv := { marks := s.jnl.pendingMarks, since := some s.ticks, digest := s.jnl.lastDigest,
                                       answers := s.jnl.openCommands, serial := some ((s.jnl.lastSerial + 65536) % 2 ^ 40) } }
    s.embFlag 8
  else
    let s := st.setFld R.EMB_REC_STATUS F.EMB_REC_STATUS_lost 1
    { s with rcv := {} }

/-- After another reset nothing is recovered: what the journal still shows as pending is settled. (DEDUCED, safe: log 19; DEDUCED, safe: log 64) -/
def State.settleJournal (s : State) : State :=
  let s := s.jnl.pendingMarks.foldl (fun s p => s.journal (.markGone p.1)) s
  let s := s.jnl.openCommands.foldl (fun s p => s.journal (.completed p.2)) s
  { s with rcv := {} }

/-- The recovery answers of R291, one for each call, once Q1 has room. (DEDUCED, safe: log 19; DEDUCED, safe: log 64) -/
def State.recoveryAnswer (s : State) : State :=
  match s.rcv.answers with
  | (op, seq) :: rest =>
    if s.inStates [.ready] && s.canPush 1 2 then
      let s := s.respond op (devCode s.blw.state) 6 seq 0
      let s : State := { s with rcv := { s.rcv with answers := rest } }
      s.setFld R.EMB_REC_CMDS F.EMB_REC_CMDS_answered (min 2047 (s.fld R.EMB_REC_CMDS F.EMB_REC_CMDS_answered + 1))
    else s
  | [] => s

/-- BOOT steps 5 and 6 (R388, R397): the journalled sets are loaded, HBM trained and the interpolators calibrated. (DESIGN CHOICE, safe: log 77) -/
def State.bootTemper (s : State) (hbm : HbmResult) (tdc : TdcResult) (readable : Bool) : State :=
  let s := if readable then
      s.setTmp { s.tmp with hbmRead := s.tmp.savedRead, hbmWrite := s.tmp.savedWrite, trims := s.tmp.savedTrims }
    else s
  (s.retrainEnd hbm).tdcFinish tdc

/-- The device enters READY (R397 step 6). (DESIGN CHOICE, safe: log 77) -/
def State.enterReady (s : State) (readable : Bool) : State :=
  let s := if s.queueOn 0 then s else s.writeQueueCfg 0 0x80000020
  let s := if s.queueOn 1 then s else s.writeQueueCfg 1 0x80000020
  let s := s.setFld R.BLW_BOOT F.BLW_BOOT_boot_ms (min 65535 ((s.ticks - s.blw.bootTick) / 125000))
  let s := s.enter .ready
  if s.blw.wasFaultReset then s.recover readable
  else if readable then s.settleJournal
  else { s with rcv := {} }

/-- BOOT_READY (R272, R290, R388, R397); `readable`: BOOT could read the journal. (DESIGN CHOICE, safe: log 77) -/
def execBootReady (hbm : HbmResult) (tdc : TdcResult) (s : State) (readable : Bool := true) : Host.Outcome State Fault Refusal :=
  .next (if s.blw.state = .boot ∧ s.blw.firmware = true ∧ (s.core 0).run ≠ .halted then
      (((s.restoreRetired readable).hearthSync).bootTemper hbm tdc readable).enterReady readable
    else s)

/-- RESTORE_HOLD_EXPIRY (R290). -/
def execRestoreHoldExpiry (s : State) : Host.Outcome State Fault Refusal :=
  .next (match s.rcv.since with
    | some t =>
      if s.inStates [.ready, .armed, .run, .hold] && s.passedUs t (1000 * s.fld R.EMB_CFG F.EMB_CFG_restore_hold_ms) then
        s.loseRestored
      else s
    | none => s)

/-- RETIRE_DONE (R269, R270, R272, R286): the retirement ends and is journalled. (DESIGN CHOICE, unsafe: log 92) -/
def execRetireDone (handle : BitVec 32) (frame : Nat) (unreadable : List Nat) (s : State) : Host.Outcome State Fault Refusal :=
  .next (
    let t := s.retireFrame handle frame unreadable
    let n := t.fld R.HRT_RETIRED F.HRT_RETIRED_count
    if n = s.fld R.HRT_RETIRED F.HRT_RETIRED_count then t else t.journal (.retired n))

/-! ### BANKED (R403 to R407) -/

/-- A core of 1 to 3 lets BANK go on: in reset, halted or in WFI (R320). -/
def State.coreBanks (s : State) (n : Nat) : Bool :=
  match (s.core n).run with
  | .reset => true
  | .halted => true
  | .waiting => (s.core n).stalled.any fun p => p.1 == 0x5C
  | .running => false

/-- Steps 2 and 3 of R403 begin: trigger units hold, links go quiet, output stream units go IDLE, engines save. (DEDUCED, unsafe: log 81) -/
def State.startBank (s : State) : State :=
  let s := s.bankLinks
  let s : State := { s with heldOst := s.ost }
  let s := s.ostAllIdle
  let s := s.setBlw { s.blw with banking := some s.ticks }
  s.saveStreams

/-- BANK (R320, R403). -/
def execBank (s : State) : Host.Outcome State Fault Refusal :=
  .next (s.command 0x016 0 [.ready, .armed] fun _ s =>
    if s.leaveDenied then s.endCommand 4 0
    else if s.coreBanks 1 && s.coreBanks 2 && s.coreBanks 3 then s.startBank
    else (s.blwFlag 3).endCommand 1 0)

/-- An engine has finished its job and saved its stream (R257). -/
def State.engineBanks (s : State) (e : Nat) : Bool :=
  let x := s.cmpEngine e
  x.job.isNone && x.waits.isNone && !x.saving

/-- The array, the commit buffer and the table are empty, and no ring write is outstanding (R171, R217). (DEDUCED, unsafe: log 81) -/
def State.pathBanks (s : State) : Bool := s.pathEmpty && s.blm.blooms.isEmpty && s.int.ringWrites.isEmpty

/-- Step 3 of R403 has ended, a running retraining has completed (R388) and Q1 has room for the response. (DEDUCED, unsafe: log 81) -/
def State.bankReady (s : State) : Bool :=
  (List.range 8).all s.engineBanks && s.pathBanks && s.tmp.hbmStart.isNone && s.canPush 1 2

/-- The line store is not retained (R171); the stitcher's stall ends with it. -/
def State.emptyArray (s : State) : State :=
  s.setAnv { s.anv with lines := [], engines := [], flowEnds := [], stallFrom := none, stallSlices := [] }

/-- The response of BANK carries the state code 0x7; the queue-out ring bound to Q1 writes it before the clocks are gated. (DEDUCED, unsafe: log 62) -/
def State.bankResponse (s : State) : State :=
  match s.hst.cmd with
  | some c =>
    let s := ({ s with hst := { s.hst with cmd := some { c with result := some (0, 0) } } } : State).pushResponse 7
    (List.range 64).foldl (fun s d => if s.ringIs d 1 && s.ringQueue d == 1 then
      upTo (s.queue 1).slots.length (fun _ s => s.queueOutMove d .clean 0 true) s else s) s
  | none => s

/-- Steps 4 and 5 of R403. (DEDUCED, unsafe: log 62) -/
def State.enterBanked (s : State) : State :=
  let s := s.cancelTemper.bankResponse.loseTime.emptyArray.setFld R.BLW_CLK_STATUS F.BLW_CLK_STATUS_hbm_pll_lock 0
  let s := (s.bump R.BLW_BANKS).setBlw { s.blw with bankedFrom := s.blw.state, banking := none }
  let s : State := { s with hrt := { s.hrt with selfRefresh := true }, heldOst := [] }
  (s.enter .banked).wakePending

/-- BANK_SAVE_DONE (R403). -/
def execBankSaveDone (s : State) : Host.Outcome State Fault Refusal :=
  .next (if s.blw.banking.isSome && s.inStates [.ready, .armed] && s.bankReady then s.enterBanked else s)

/-- BANK ends BUSY (R403): every block stopped in step 2 restarts. (DEDUCED, unsafe: log 81) -/
def State.bankFails (s : State) : State :=
  let s := s.setBlw { s.blw with banking := none }
  let s : State := { s with ost := s.heldOst, heldOst := [] }
  let s := upTo 8 (fun u s => s.setOst u (s.ostUnit u)) s
  (s.resumeLinks.blwFlag 3).endCommand 1 0

/-- BANK_TIMEOUT (R403): the saves have not finished within 100 ms. -/
def execBankTimeout (s : State) : Host.Outcome State Fault Refusal :=
  .next (match s.blw.banking with
    | some t => if !s.bankReady && s.passedUs t 100000 then s.bankFails else s
    | none => s)

/-- A deferred BAR access completes after the wake (R405). (DEDUCED, safe: log 82) -/
def State.completeAccess (s : State) (a : BusAccess) : State :=
  match a with
  | .read off => s.hostRead off
  | .write off v => s.busWrite .host (regKey off) v
  | .bulkRead off n ecc => s.bar2Read off n ecc
  | .bulkWrite off bs => s.bar2Write off bs

/-- Step 5 of R407: the cores resume and the kept links restart once the retraining of the wake has ended. (DEDUCED, unsafe: log 81) -/
def State.wakeCores (s : State) : State :=
  match s.blw.wake with
  | some w => if !w.resumed && s.tmp.hbmStart.isNone then
      (s.setBlw { s.blw with wake := some { w with resumed := true } }).resumeLinks else s
  | none => s

/-- Step 7 of R407: the state is restored, the cause recorded, lantern_wake set (R361), deferred accesses complete. (DEDUCED, unsafe: log 81) -/
def State.finishWake (s : State) (w : WakeRun) : State :=
  let l := s.blw.deferred
  let s := s.setBlw { s.blw with wake := none, deferred := [] }
  let s := s.enter (if s.blw.bankedFrom = .armed then .armed else .ready)
  let s := s.setFld R.EVT_LTN_CAUSE F.EVT_LTN_CAUSE_source w.cause
  let s := s.setFld R.BLW_WAKE_US F.BLW_WAKE_US_wake_us (min 65535 ((s.ticks - w.tick) / 125))
  let s := s.flagRaise R.EVT_FLAGS 0 R.EVT_EVCNT_0 511
  l.foldl State.completeAccess s

/-- WAKE_COMPLETE (R407): every kept link is UP or in DISCOVER. -/
def execWakeComplete (s : State) : Host.Outcome State Fault Refusal :=
  .next (match s.blw.wake with
    | some w => if s.blw.state = .banked ∧ w.resumed ∧ s.lan.links.all (fun p => !p.2.resuming) then s.finishWake w else s
    | none => s)

end Sys2Proof.Machine
end

