-- ==== Sys2Proof/Machine/WickAlu.lean ====
section
/-! DEFINITION. Wick register and immediate arithmetic, branches, calls and stream register moves (R300 to R303). -/
namespace Sys2Proof.Machine

/-- A register arithmetic instruction of format R (R300): g d = f (g a) (g b). -/
def State.wickRRR (s : State) (n : Nat) (op : Nat) (w : BitVec 24) (f : Word64 → Word64 → Word64) : State :=
  s.wickRun n op w fun c s =>
    s.legal n (isG (fd w) && isG (fa w) && isG (fb w) && fc w == 0) fun s =>
      s.wickWrite n c (fd w) (f (c.getG (fa w)) (c.getG (fb w)))

/-- An immediate instruction of format I (R301). -/
def State.wickRRI (s : State) (n : Nat) (op : Nat) (w : BitVec 24) (f : Word64 → Word64) : State :=
  s.wickRun n op w fun c s =>
    s.legal n (isG (fd w) && isG (fa w)) fun s => s.wickWrite n c (fd w) (f (c.getG (fa w)))

/-- An immediate shift: imm12[11:6] zero (R301). -/
def State.wickShiftI (s : State) (n : Nat) (op : Nat) (w : BitVec 24) (f : Word64 → Nat → Word64) : State :=
  s.wickRun n op w fun c s =>
    s.legal n (isG (fd w) && isG (fa w) && insF w 11 6 == 0) fun s =>
      s.wickWrite n c (fd w) (f (c.getG (fa w)) (insF w 5 0))

/-- 1 or 0. -/
def flag64 (b : Bool) : Word64 := if b then 1 else 0

/-- sext(imm12) and zext(imm12). -/
def sext12 (w : BitVec 24) : Word64 := BitVec.ofInt 64 (imm12 w)
def zext12 (w : BitVec 24) : Word64 := BitVec.ofNat 64 (insF w 11 0)

/-- The signed and unsigned minimum and maximum. -/
def minS (a b : Word64) : Word64 := if a.slt b then a else b
def maxS (a b : Word64) : Word64 := if a.slt b then b else a
def minU (a b : Word64) : Word64 := if a.ult b then a else b
def maxU (a b : Word64) : Word64 := if a.ult b then b else a

/-- The high halves of the signed and unsigned products. -/
def mulHS (a b : Word64) : Word64 := BitVec.ofInt 64 (a.toInt * b.toInt / 2 ^ 64)
def mulHU (a b : Word64) : Word64 := BitVec.ofNat 64 (a.toNat * b.toNat / 2 ^ 64)

/-- Quotients and remainders (R300): by zero all ones and a. -/
def quoS (a b : Word64) : Word64 := if b = 0 then BitVec.ofInt 64 (-1) else BitVec.ofInt 64 (a.toInt.tdiv b.toInt)
def quoU (a b : Word64) : Word64 := if b = 0 then BitVec.ofInt 64 (-1) else BitVec.ofNat 64 (a.toNat / b.toNat)
def remS (a b : Word64) : Word64 := if b = 0 then a else BitVec.ofInt 64 (a.toInt.tmod b.toInt)
def remU (a b : Word64) : Word64 := if b = 0 then a else BitVec.ofNat 64 (a.toNat % b.toNat)

/-- A branch of format B (R302): pc = pc + 4 × sext(off12) where the comparison holds. -/
def State.wickBranch (s : State) (n : Nat) (op : Nat) (w : BitVec 24) (f : Word64 → Word64 → Bool) : State :=
  s.wickRun n op w fun c s =>
    s.legal n (isG (fd w) && isG (fa w)) fun s =>
      if f (c.getG (fd w)) (c.getG (fa w)) then
        s.setCore n { c with pc := c.pc + BitVec.ofInt 32 (4 * imm12 w), run := .running, stalled := none }
      else s.wickNext n c

/-- A stream register move of format R with b zero (R303). -/
def State.wickMove (s : State) (n : Nat) (op : Nat) (w : BitVec 24) (dStream aStream : Bool)
    (f : WickCore → WickCore) : State :=
  s.wickRun n op w fun c s =>
    s.legal n ((if dStream then isS (fd w) else isG (fd w)) && (if aStream then isS (fa w) else isG (fa w)) &&
      fb w == 0 && fc w == 0) fun s => s.wickNext n (f c)

/-- ADD (R300): g d = a + b. -/
def execAdd (n : Fin 4) (w : BitVec 24) (s : State) : Host.Outcome State Fault Refusal :=
  .next (s.wickRRR n 0x01 w fun a b => a + b)
/-- SUB (R300): g d = a − b. -/
def execSub (n : Fin 4) (w : BitVec 24) (s : State) : Host.Outcome State Fault Refusal :=
  .next (s.wickRRR n 0x02 w fun a b => a - b)
/-- AND (R300): g d = a & b. -/
def execAnd (n : Fin 4) (w : BitVec 24) (s : State) : Host.Outcome State Fault Refusal :=
  .next (s.wickRRR n 0x03 w fun a b => a &&& b)
/-- OR (R300): g d = a | b. -/
def execOr (n : Fin 4) (w : BitVec 24) (s : State) : Host.Outcome State Fault Refusal :=
  .next (s.wickRRR n 0x04 w fun a b => a ||| b)
/-- XOR (R300): g d = a ^ b. -/
def execXor (n : Fin 4) (w : BitVec 24) (s : State) : Host.Outcome State Fault Refusal :=
  .next (s.wickRRR n 0x05 w fun a b => a ^^^ b)
/-- SHL (R300): g d = a << b[5:0]. -/
def execShl (n : Fin 4) (w : BitVec 24) (s : State) : Host.Outcome State Fault Refusal :=
  .next (s.wickRRR n 0x06 w fun a b => a <<< (b.toNat % 64))
/-- SHR (R300): logical right shift by b[5:0]. -/
def execShr (n : Fin 4) (w : BitVec 24) (s : State) : Host.Outcome State Fault Refusal :=
  .next (s.wickRRR n 0x07 w fun a b => a >>> (b.toNat % 64))
/-- SHRA (R300): arithmetic right shift by b[5:0]. -/
def execShra (n : Fin 4) (w : BitVec 24) (s : State) : Host.Outcome State Fault Refusal :=
  .next (s.wickRRR n 0x08 w fun a b => a.sshiftRight (b.toNat % 64))
/-- CLT (R300): 1 if a < b signed. -/
def execClt (n : Fin 4) (w : BitVec 24) (s : State) : Host.Outcome State Fault Refusal :=
  .next (s.wickRRR n 0x09 w fun a b => flag64 (a.slt b))
/-- CLTU (R300): 1 if a < b unsigned. -/
def execCltu (n : Fin 4) (w : BitVec 24) (s : State) : Host.Outcome State Fault Refusal :=
  .next (s.wickRRR n 0x0A w fun a b => flag64 (a.ult b))
/-- MIN (R300): signed minimum. -/
def execMin (n : Fin 4) (w : BitVec 24) (s : State) : Host.Outcome State Fault Refusal :=
  .next (s.wickRRR n 0x0B w minS)
/-- MAX (R300): signed maximum. -/
def execMax (n : Fin 4) (w : BitVec 24) (s : State) : Host.Outcome State Fault Refusal :=
  .next (s.wickRRR n 0x0C w maxS)
/-- MINU (R300): unsigned minimum. -/
def execMinu (n : Fin 4) (w : BitVec 24) (s : State) : Host.Outcome State Fault Refusal :=
  .next (s.wickRRR n 0x0D w minU)
/-- MAXU (R300): unsigned maximum. -/
def execMaxu (n : Fin 4) (w : BitVec 24) (s : State) : Host.Outcome State Fault Refusal :=
  .next (s.wickRRR n 0x0E w maxU)
/-- MUL (R300): (a × b)[63:0]. -/
def execMul (n : Fin 4) (w : BitVec 24) (s : State) : Host.Outcome State Fault Refusal :=
  .next (s.wickRRR n 0x10 w fun a b => a * b)
/-- MULHS (R300): signed product [127:64]. -/
def execMulhs (n : Fin 4) (w : BitVec 24) (s : State) : Host.Outcome State Fault Refusal :=
  .next (s.wickRRR n 0x11 w mulHS)
/-- MULHU (R300): unsigned product [127:64]. -/
def execMulhu (n : Fin 4) (w : BitVec 24) (s : State) : Host.Outcome State Fault Refusal :=
  .next (s.wickRRR n 0x12 w mulHU)
/-- QUO (R300): signed quotient rounded toward zero. -/
def execQuo (n : Fin 4) (w : BitVec 24) (s : State) : Host.Outcome State Fault Refusal :=
  .next (s.wickRRR n 0x14 w quoS)
/-- QUOU (R300): unsigned quotient. -/
def execQuou (n : Fin 4) (w : BitVec 24) (s : State) : Host.Outcome State Fault Refusal :=
  .next (s.wickRRR n 0x15 w quoU)
/-- MOD (R300): remainder with the sign of a. -/
def execMod (n : Fin 4) (w : BitVec 24) (s : State) : Host.Outcome State Fault Refusal :=
  .next (s.wickRRR n 0x16 w remS)
/-- MODU (R300): unsigned remainder. -/
def execModu (n : Fin 4) (w : BitVec 24) (s : State) : Host.Outcome State Fault Refusal :=
  .next (s.wickRRR n 0x17 w remU)
/-- ADDI (R301): g d = a + sext(imm12). -/
def execAddi (n : Fin 4) (w : BitVec 24) (s : State) : Host.Outcome State Fault Refusal :=
  .next (s.wickRRI n 0x20 w fun a => a + sext12 w)
/-- ANDI (R301): g d = a & zext(imm12). -/
def execAndi (n : Fin 4) (w : BitVec 24) (s : State) : Host.Outcome State Fault Refusal :=
  .next (s.wickRRI n 0x21 w fun a => a &&& zext12 w)
/-- ORI (R301): g d = a | zext(imm12). -/
def execOri (n : Fin 4) (w : BitVec 24) (s : State) : Host.Outcome State Fault Refusal :=
  .next (s.wickRRI n 0x22 w fun a => a ||| zext12 w)
/-- XORI (R301): g d = a ^ zext(imm12). -/
def execXori (n : Fin 4) (w : BitVec 24) (s : State) : Host.Outcome State Fault Refusal :=
  .next (s.wickRRI n 0x23 w fun a => a ^^^ zext12 w)
/-- SHLI (R301): shift left by imm12[5:0]. -/
def execShli (n : Fin 4) (w : BitVec 24) (s : State) : Host.Outcome State Fault Refusal :=
  .next (s.wickShiftI n 0x24 w fun a k => a <<< k)
/-- SHRI (R301): logical shift right by imm12[5:0]. -/
def execShri (n : Fin 4) (w : BitVec 24) (s : State) : Host.Outcome State Fault Refusal :=
  .next (s.wickShiftI n 0x25 w fun a k => a >>> k)
/-- SHRAI (R301): arithmetic shift right by imm12[5:0]. -/
def execShrai (n : Fin 4) (w : BitVec 24) (s : State) : Host.Outcome State Fault Refusal :=
  .next (s.wickShiftI n 0x26 w fun a k => a.sshiftRight k)
/-- CLTI (R301): 1 if a < sext(imm12) signed. -/
def execClti (n : Fin 4) (w : BitVec 24) (s : State) : Host.Outcome State Fault Refusal :=
  .next (s.wickRRI n 0x27 w fun a => flag64 (a.slt (sext12 w)))
/-- CLTUI (R301): 1 if a < sext(imm12) unsigned. -/
def execCltui (n : Fin 4) (w : BitVec 24) (s : State) : Host.Outcome State Fault Refusal :=
  .next (s.wickRRI n 0x28 w fun a => flag64 (a.ult (sext12 w)))
/-- IHI (R301): g d = sext(imm18) << 12. -/
def execIhi (n : Fin 4) (w : BitVec 24) (s : State) : Host.Outcome State Fault Refusal :=
  .next (s.wickRun n 0x2F w fun c s =>
    s.legal n (isG (fd w)) fun s => s.wickWrite n c (fd w) (BitVec.ofInt 64 (imm18 w * 4096)))
/-- BEQ (R302): branch if g a and g b compare equal. -/
def execBeq (n : Fin 4) (w : BitVec 24) (s : State) : Host.Outcome State Fault Refusal :=
  .next (s.wickBranch n 0x48 w (fun a b => a == b))
/-- BNE (R302): branch if g a and g b compare not equal. -/
def execBne (n : Fin 4) (w : BitVec 24) (s : State) : Host.Outcome State Fault Refusal :=
  .next (s.wickBranch n 0x49 w (fun a b => a != b))
/-- BLT (R302): branch if g a and g b compare less, signed. -/
def execBlt (n : Fin 4) (w : BitVec 24) (s : State) : Host.Outcome State Fault Refusal :=
  .next (s.wickBranch n 0x4A w (fun a b => a.slt b))
/-- BGE (R302): branch if g a and g b compare greater or equal, signed. -/
def execBge (n : Fin 4) (w : BitVec 24) (s : State) : Host.Outcome State Fault Refusal :=
  .next (s.wickBranch n 0x4B w (fun a b => !a.slt b))
/-- BLTU (R302): branch if g a and g b compare less, unsigned. -/
def execBltu (n : Fin 4) (w : BitVec 24) (s : State) : Host.Outcome State Fault Refusal :=
  .next (s.wickBranch n 0x4C w (fun a b => a.ult b))
/-- BGEU (R302): branch if g a and g b compare greater or equal, unsigned. -/
def execBgeu (n : Fin 4) (w : BitVec 24) (s : State) : Host.Outcome State Fault Refusal :=
  .next (s.wickBranch n 0x4D w (fun a b => !a.ult b))
/-- CALL (R302): g d = pc + 4; pc = pc + 4 × sext(off18). -/
def execCall (n : Fin 4) (w : BitVec 24) (s : State) : Host.Outcome State Fault Refusal :=
  .next (s.wickRun n 0x4E w fun c s =>
    s.legal n (isG (fd w)) fun s =>
      let c' := c.setG (fd w) ((c.pc + 4).setWidth 64)
      s.setCore n { c' with pc := c.pc + BitVec.ofInt 32 (4 * imm18 w), run := .running, stalled := none })
/-- CALLR (R302): g d = pc + 4; pc = (g a + sext(imm12)) with bits [1:0] cleared. -/
def execCallr (n : Fin 4) (w : BitVec 24) (s : State) : Host.Outcome State Fault Refusal :=
  .next (s.wickRun n 0x4F w fun c s =>
    s.legal n (isG (fd w) && isG (fa w)) fun s =>
      let t := (c.getG (fa w) + sext12 w).setWidth 32 &&& 0xFFFFFFFC#32
      let c' := c.setG (fd w) ((c.pc + 4).setWidth 64)
      s.setCore n { c' with pc := t, run := .running, stalled := none })
/-- SLO (R303): s d [63:0] = g a; s d [71:64] unchanged. -/
def execSlo (n : Fin 4) (w : BitVec 24) (s : State) : Host.Outcome State Fault Refusal :=
  .next (s.wickMove n 0x50 w true false fun c => c.setS (fd w - 32) (BitVec.ofNat 72 ((c.getS (fd w - 32)).toNat / 2 ^ 64 * 2 ^ 64 + (c.getG (fa w)).toNat)))
/-- SHI (R303): s d [71:64] = g a [7:0]. -/
def execShi (n : Fin 4) (w : BitVec 24) (s : State) : Host.Outcome State Fault Refusal :=
  .next (s.wickMove n 0x51 w true false fun c => c.setS (fd w - 32) (BitVec.ofNat 72 ((c.getG (fa w)).toNat % 256 * 2 ^ 64 + (c.getS (fd w - 32)).toNat % 2 ^ 64)))
/-- GLO (R303): g d = s a [63:0]. -/
def execGlo (n : Fin 4) (w : BitVec 24) (s : State) : Host.Outcome State Fault Refusal :=
  .next (s.wickMove n 0x52 w false true fun c => c.setG (fd w) ((c.getS (fa w - 32)).setWidth 64))
/-- GHI (R303): g d = zero-extended s a [71:64]. -/
def execGhi (n : Fin 4) (w : BitVec 24) (s : State) : Host.Outcome State Fault Refusal :=
  .next (s.wickMove n 0x53 w false true fun c => c.setG (fd w) (BitVec.ofNat 64 ((c.getS (fa w - 32)).toNat / 2 ^ 64)))
/-- SMV (R303): s d = s a. -/
def execSmv (n : Fin 4) (w : BitVec 24) (s : State) : Host.Outcome State Fault Refusal :=
  .next (s.wickMove n 0x54 w true true fun c => c.setS (fd w - 32) (c.getS (fa w - 32)))

end Sys2Proof.Machine
end

