-- ==== Sys2Proof/Machine/WickMem.lean ====
section
/-! DEFINITION. Wick loads, stores and atomics over the core's address map (R294, R295, R301), block commands (R307, R308) and
the bulk port instructions (R309). -/
namespace Sys2Proof.Machine

/-! ### The address map (R294) -/

/-- What an access does: a load, a store or an atomic. -/
inductive MemOp where
  | load | store | atomic
deriving DecidableEq, Repr

/-- May core `n` make the access (R294, R295)? `word`: it is one of LD32, LD32U and ST32. -/
def State.mayAccess (s : State) (n : Nat) (op : MemOp) (word : Bool) (a : Nat) (p : Place) : Bool :=
  match p with
  | .localMem => true
  | .sharedMem => true
  | .device =>
    match op with
    | .load => word && coreMayRead n (a % 0x4000000)
    | .store => word && s.coreMayWrite n (a % 0x4000000)
    | .atomic => false
  | .rom => n == 0 && op != .atomic

/-- The effective address g a + sext(imm12) of a load or store (R301). -/
def WickCore.address (c : WickCore) (w : BitVec 24) : Nat := (c.getG (fa w) + sext12 w).toNat

/-- An access checked (R301, R310): misaligned 0x03, outside the map or forbidden 0x04, otherwise `f` with its range. (DEDUCED, unsafe: log 35) -/
def State.wickAccess (s : State) (n : Nat) (op : MemOp) (word : Bool) (a size align : Nat) (f : Place → State) : State :=
  if a % align ≠ 0 then s.wickExc n 3 (BitVec.ofNat 32 a)
  else match placeOf a size with
    | none => s.wickExc n 4 (BitVec.ofNat 32 a)
    | some p => if s.mayAccess n op word a p then f p else s.wickExc n 4 (BitVec.ofNat 32 a)

/-- The value of `size` bytes read at an address, and what the read does; the BAR0 offset and the place in the ROM are the low
bits of the address (R294). (DEDUCED, unsafe: log 41) -/
def State.coreRead (s : State) (n : Nat) (p : Place) (a size : Nat) : Nat × State :=
  match p with
  | .device => ((s.busRead (regKey (a % 0x4000000))).1.toNat, (s.busRead (regKey (a % 0x4000000))).2)
  | .rom => (ofBytes (romBytes a size), s)
  | _ => (ofBytes (Memory.reads (s.coreMem n p) a size), s)

/-- Bytes stored at an address by core `n`; a store to the ROM changes nothing. (DEDUCED, unsafe: log 41) -/
def State.coreWrite (s : State) (n : Nat) (p : Place) (a : Nat) (bs : List Byte) : State :=
  match p with
  | .device => s.busWrite (.core (Fin.ofNat 4 n)) (regKey (a % 0x4000000)) (BitVec.ofNat 32 (ofBytes bs))
  | .rom => s
  | _ => s.setCoreMem n p (Memory.writes (s.coreMem n p) a bs)

/-- A read by a load or an atomic (R311): exception 0x05 for a lasting error of local or shared memory. (DESIGN CHOICE, safe: log 42) -/
def State.guardedRead (s : State) (n : Nat) (p : Place) (a size : Nat) (ecc : EccResult) (f : Nat → State → State) : State :=
  let ram := p == .localMem || p == .sharedMem
  if ram && ecc == .lasting then s.wickExc n 5 (BitVec.ofNat 32 a)
  else
    let (v, t) := (if ram then s.wickEcc ecc else s).coreRead n p a size
    f v t

/-! ### Loads and stores (R301) -/

/-- A load of `size` bytes into a general register, sign-extended where `sign` holds. -/
def State.wickLoad (s : State) (n op : Nat) (w : BitVec 24) (size : Nat) (sign : Bool) (ecc : EccResult) : State :=
  s.wickRun n op w fun c s =>
    s.legal n (isG (fd w) && isG (fa w)) fun s =>
      let a := c.address w
      s.wickAccess n .load (size == 4) a size size fun p =>
        s.guardedRead n p a size ecc fun v s =>
          s.wickWrite n (s.core n) (fd w) (if sign then BitVec.ofInt 64 (signed (8 * size) v) else BitVec.ofNat 64 v)

/-- A store of the low `size` bytes of g v. -/
def State.wickStore (s : State) (n op : Nat) (w : BitVec 24) (size : Nat) : State :=
  s.wickRun n op w fun c s =>
    s.legal n (isG (fd w) && isG (fa w)) fun s =>
      let a := c.address w
      s.wickAccess n .store (size == 4) a size size fun p =>
        (s.wickNext n c).coreWrite n p a (toBytes size (c.getG (fd w)).toNat)

/-- LD8 (R301). (DESIGN CHOICE, safe: log 42) -/
def execLd8 (n : Fin 4) (w : BitVec 24) (ecc : EccResult) (s : State) : Host.Outcome State Fault Refusal :=
  .next (s.wickLoad n 0x30 w 1 true ecc)
/-- LD8U (R301). -/
def execLd8u (n : Fin 4) (w : BitVec 24) (ecc : EccResult) (s : State) : Host.Outcome State Fault Refusal :=
  .next (s.wickLoad n 0x31 w 1 false ecc)
/-- LD16 (R301). -/
def execLd16 (n : Fin 4) (w : BitVec 24) (ecc : EccResult) (s : State) : Host.Outcome State Fault Refusal :=
  .next (s.wickLoad n 0x32 w 2 true ecc)
/-- LD16U (R301). -/
def execLd16u (n : Fin 4) (w : BitVec 24) (ecc : EccResult) (s : State) : Host.Outcome State Fault Refusal :=
  .next (s.wickLoad n 0x33 w 2 false ecc)
/-- LD32 (R294, R301). (DESIGN CHOICE, safe: log 52) -/
def execLd32 (n : Fin 4) (w : BitVec 24) (ecc : EccResult) (s : State) : Host.Outcome State Fault Refusal :=
  .next (s.wickLoad n 0x34 w 4 true ecc)
/-- LD32U (R294, R301). -/
def execLd32u (n : Fin 4) (w : BitVec 24) (ecc : EccResult) (s : State) : Host.Outcome State Fault Refusal :=
  .next (s.wickLoad n 0x35 w 4 false ecc)
/-- LD64 (R301). -/
def execLd64 (n : Fin 4) (w : BitVec 24) (ecc : EccResult) (s : State) : Host.Outcome State Fault Refusal :=
  .next (s.wickLoad n 0x36 w 8 true ecc)
/-- ST8 (R301). -/
def execSt8 (n : Fin 4) (w : BitVec 24) (s : State) : Host.Outcome State Fault Refusal := .next (s.wickStore n 0x38 w 1)
/-- ST16 (R301). -/
def execSt16 (n : Fin 4) (w : BitVec 24) (s : State) : Host.Outcome State Fault Refusal := .next (s.wickStore n 0x39 w 2)
/-- ST32 (R294, R301). (DESIGN CHOICE, safe: log 52) -/
def execSt32 (n : Fin 4) (w : BitVec 24) (s : State) : Host.Outcome State Fault Refusal := .next (s.wickStore n 0x3A w 4)
/-- ST64 (R301). -/
def execSt64 (n : Fin 4) (w : BitVec 24) (s : State) : Host.Outcome State Fault Refusal := .next (s.wickStore n 0x3B w 8)

/-- LDS (R5, R301): the 72-bit word of the 16-byte slot at the address. (DESIGN CHOICE, safe: log 42) -/
def execLds (n : Fin 4) (w : BitVec 24) (ecc : EccResult) (s : State) : Host.Outcome State Fault Refusal :=
  .next (s.wickRun n 0x3C w fun c s =>
    s.legal n (isS (fd w) && isG (fa w)) fun s =>
      let a := c.address w
      s.wickAccess n .load false a 16 16 fun p =>
        s.guardedRead n p a 9 ecc fun v s => s.wickNext n ((s.core n).setS (fd w - 32) (BitVec.ofNat 72 v)))

/-- STS (R5, R301): s v in the 16-byte slot at the address, bytes 9 to 15 zero. -/
def execSts (n : Fin 4) (w : BitVec 24) (s : State) : Host.Outcome State Fault Refusal :=
  .next (s.wickRun n 0x3D w fun c s =>
    s.legal n (isS (fd w) && isG (fa w)) fun s =>
      let a := c.address w
      s.wickAccess n .store false a 16 16 fun p =>
        (s.wickNext n c).coreWrite n p a (packSlot (c.getS (fd w - 32))))

/-- An atomic on the 64-bit word at g a (R301): `f` gives the new word, from the core and the old one. -/
def State.wickAtomic (s : State) (n op : Nat) (w : BitVec 24) (ecc : EccResult) (f : WickCore → Word64 → Word64) : State :=
  s.wickRun n op w fun c s =>
    s.legal n (isG (fd w) && isG (fa w) && isG (fb w) && fc w == 0) fun s =>
      let a := (c.getG (fa w)).toNat
      s.wickAccess n .atomic false a 8 8 fun p =>
        s.guardedRead n p a 8 ecc fun v s =>
          (s.wickWrite n (s.core n) (fd w) (BitVec.ofNat 64 v)).coreWrite n p a (toBytes 8 (f c (BitVec.ofNat 64 v)).toNat)

/-- ATADD (R301): word = old + g b. -/
def execAtadd (n : Fin 4) (w : BitVec 24) (ecc : EccResult) (s : State) : Host.Outcome State Fault Refusal :=
  .next (s.wickAtomic n 0x40 w ecc fun c old => old + c.getG (fb w))
/-- ATSWP (R301): word = g b. -/
def execAtswp (n : Fin 4) (w : BitVec 24) (ecc : EccResult) (s : State) : Host.Outcome State Fault Refusal :=
  .next (s.wickAtomic n 0x41 w ecc fun c _ => c.getG (fb w))
/-- ATCAS (R301): word = g b where the old word equals g d. -/
def execAtcas (n : Fin 4) (w : BitVec 24) (ecc : EccResult) (s : State) : Host.Outcome State Fault Refusal :=
  .next (s.wickAtomic n 0x42 w ecc fun c old => if old = c.getG (fd w) then c.getG (fb w) else old)

/-! ### Block commands (R307, R308) -/

/-- The command register of a target and index; none where R307 lists neither. -/
def issRegister (n target index : Nat) : Option Nat :=
  let only (k : Nat) : Option Nat := if index = 0 then some k else none
  match target with
  | 0x01 => only R.INT_REINJ_CMD
  | 0x02 => only R.COR_LOAD_CMD
  | 0x03 => only R.COR_CAP_CMD
  | 0x04 => if index < 64 then some (R.COR_CTX_CMD index) else none
  | 0x05 => only R.STI_CMD
  | 0x06 => only R.ANV_LOAD_CMD
  | 0x07 => only R.ANV_CMD
  | 0x08 => if index < 8 then some (R.OST_CMD index) else none
  | 0x09 => only (R.HRT_AP_CMD (n + 1))
  | 0x0A => if index < 16 then some (R.LANE_CC_CMD index) else none
  | 0x0B => only R.BLM_CMD
  | 0x0C => if index < 16 then some (R.ENC_LAT_CMD index) else none
  | _ => none

/-- The index that names a block command among the pending tags: the allocation port for the target 0x09. -/
def issKey (n target index : Nat) : Nat := if target = 9 then n + 1 else index

/-- The status register of a target with a busy field: busy in bit [31], the result in bits [7:0]. -/
def busyStatus (n target index : Nat) : Option Nat :=
  match target with
  | 0x01 => some R.INT_REINJ_STATUS
  | 0x02 => some R.COR_LOAD_STATUS
  | 0x03 => some R.COR_CAP_STATUS
  | 0x06 => some R.ANV_LOAD_STATUS
  | 0x09 => some (R.HRT_AP_STATUS (n + 1))
  | 0x0A => some (R.LANE_CC_STATUS index)
  | _ => none

/-- The status register of a target that applies a set, with apply_pending in bit [31]. -/
def applyStatus (target index : Nat) : Option Nat :=
  match target with
  | 0x04 => some (R.COR_CTX_STATUS index)
  | 0x05 => some R.STI_STATUS
  | 0x07 => some R.ANV_STATUS
  | 0x08 => some (R.OST_STATUS index)
  | _ => none

/-- Is the apply that a value asks for refused by the checks of its block? (DEDUCED, unsafe: log 45) -/
def State.applyRefused (s : State) (target index : Nat) (v : BitVec 32) : Bool :=
  v.getLsbD 0 && match target with
    | 0x04 => s.corRefused index
    | 0x05 => !s.stiSetOk s.stiShadow
    | 0x07 => s.anvRefused
    | 0x08 => !s.ostSetOk index (s.ostShadow index)
    | _ => false

/-- A tag that still waits for its command ends with a result. (DEDUCED, unsafe: log 40; DEDUCED, unsafe: log 45) -/
def State.endTag (s : State) (n t result : Nat) : State :=
  match (s.core n).tag t with
  | .pending _ _ => s.setCore n ((s.core n).setTag t (.ended result))
  | _ => s

/-- A block command written under a tag (R307, R308). (DEDUCED, unsafe: log 45) -/
def State.issueCommand (s : State) (n t target index key : Nat) (v : BitVec 32) : State :=
  let write (s : State) : State :=
    (s.setCore n ((s.core n).setTag t (.pending target (issKey n target index)))).busWrite (.core (Fin.ofNat 4 n)) key v
  match busyStatus n target index with
  | some st =>
    if (s.rd st).getLsbD 31 then s.setCore n ((s.core n).setTag t (.ended 1))
    else
      let u := write s
      if (u.rd st).getLsbD 31 then u else u.endTag n t ((u.rd st).toNat % 256)
  | none =>
    match applyStatus target index with
    | some st =>
      let refused := s.applyRefused target index v
      let u := write s
      if refused then u.endTag n t 2
      else if (u.rd st).getLsbD 31 && !(target == 8 && !v.getLsbD 0) then u
      else u.endTag n t 0
    | none => (write s).endTag n t 0

/-- ISS (R307, R308): exception 0x01 for a target or index not listed, 0x06 for a tag in use. -/
def execIss (n : Fin 4) (w : BitVec 24) (s : State) : Host.Outcome State Fault Refusal :=
  .next (s.wickRun n 0x70 w fun c s =>
    s.legal n (isG (insF w 13 8) && insF w 1 0 == 0) fun s =>
      match issRegister n (insF w 19 14) (insF w 7 2) with
      | none => s.wickExc n 1
      | some key =>
        if c.tag (insF w 23 20) ≠ .free then s.wickExc n 6
        else (s.wickNext n c).issueCommand n (insF w 23 20) (insF w 19 14) (insF w 7 2) key ((c.getG (insF w 13 8)).setWidth 32))

/-! ### The bulk port (R309) -/

/-- The handle and the dense word that a bulk port instruction names. -/
def WickCore.bulkHandle (c : WickCore) (w : BitVec 24) : BitVec 32 := (c.getG (fa w)).setWidth 32
def WickCore.bulkWord (c : WickCore) (w : BitVec 24) : Nat := (c.getG (fb w)).toNat

/-- The byte offset of a dense word of a handle: one that does not lie within the buffer is out of range whole (R274, R309). (DEDUCED, unsafe: log 44) -/
def State.wordOffset (s : State) (h : BitVec 32) (w : Nat) : Nat :=
  match s.buffer h with
  | some b => if 9 * w + 9 ≤ b.size * 65536 then 9 * w else max (9 * w) (b.size * 65536)
  | none => 9 * w

/-- BLD (R309): s d = word w; exception 0x07 for a poisoned unit; stalls for a page-in. (DEDUCED, unsafe: log 44) -/
def execBld (n : Fin 4) (w : BitVec 24) (ecc : EccResult) (s : State) : Host.Outcome State Fault Refusal :=
  .next (s.wickRun n 0x74 w fun c s =>
    s.legal n (isS (fd w) && isG (fa w) && isG (fb w) && fc w == 0) fun s =>
      match s.bulkRead (c.bulkHandle w) (s.wordOffset (c.bulkHandle w) (c.bulkWord w)) 9 ecc with
      | (none, t) => t.wickStall n 0x74 w
      | (some (_, true, _), t) => t.wickExc n 7
      | (some (bytes, false, _), t) => t.wickNext n ((t.core n).setS (fd w - 32) (BitVec.ofNat 72 (ofBytes bytes))))

/-- BST (R309): word w = s v. (DEDUCED, unsafe: log 44) -/
def execBst (n : Fin 4) (w : BitVec 24) (s : State) : Host.Outcome State Fault Refusal :=
  .next (s.wickRun n 0x75 w fun c s =>
    s.legal n (isS (fd w) && isG (fa w) && isG (fb w) && fc w == 0) fun s =>
      match s.bulkWrite (c.bulkHandle w) (s.wordOffset (c.bulkHandle w) (c.bulkWord w)) (toBytes 9 (c.getS (fd w - 32)).toNat) with
      | (false, t) => t.wickStall n 0x75 w
      | (true, t) => t.wickNext n (t.core n))

/-- One word of a bulk move: the move after it, or none while it waits for Hearth. (DEDUCED, unsafe: log 43) -/
def State.moveWord (s : State) (m : BulkMove) (ecc : EccResult) : Option BulkMove × State :=
  let next : BulkMove := { m with word := m.word + 1, slot := m.slot + 16, left := m.left - 1 }
  if m.toHandle then
    let (v, s) := if ecc = .lasting then s.fresh else (ofBytes (Memory.reads (s.core m.core).mem m.slot 9), s.wickEcc ecc)
    let lim := match s.buffer m.handle with | some b => b.size * 65536 | none => 0
    match s.bulkWrite m.handle (s.wordOffset m.handle m.word) (toBytes 9 v) with
    | (false, t) => (none, t)
    | (true, t) => (some { next with bad := m.bad || decide (lim < 9 * m.word + 9) }, t)
  else
    match s.bulkRead m.handle (s.wordOffset m.handle m.word) 9 ecc with
    | (none, t) => (none, t)
    | (some (bytes, pois, bad), t) =>
      let c := t.core m.core
      (some { next with bad := m.bad || bad, poisoned := m.poisoned || pois },
       t.setCore m.core { c with mem := Memory.writes c.mem m.slot (bytes ++ List.replicate 7 0) })

/-- A bulk move runs until it ends, and its tag completes, or until it waits for Hearth; `fuel`: the words left. `ecc`: what
the check of the first word finds. (DEDUCED, unsafe: log 43) -/
def State.runMove (s : State) (m : BulkMove) (ecc : EccResult) : Nat → State
  | 0 => s.blockDone 0x10 m.tag (if m.poisoned then 6 else if m.bad then 2 else 0)
  | k + 1 =>
    match s.moveWord m ecc with
    | (none, t) => { t with wck := { t.wck with moves := t.wck.moves ++ [m] } }
    | (some m', t) => t.runMove m' .clean k

/-- The waiting bulk moves go on, in the order issued. -/
def State.runMoves (s : State) : State :=
  let ms := s.wck.moves
  ms.foldl (fun s m => s.runMove m .clean m.left) { s with wck := { s.wck with moves := [] } }

/-- A number that no waiting move has. -/
def State.moveNumber (s : State) : Nat := s.wck.moves.foldl (fun k m => max k (m.tag + 1)) 0

/-- BMV (R308, R309): exception 0x06 for a tag in use; the words are moved and the tag completes with OK, BADARG or FAULT. The
local slots follow the rules of any access. (DEDUCED, unsafe: log 43) -/
def execBmv (n : Fin 4) (w : BitVec 24) (ecc : EccResult) (s : State) : Host.Outcome State Fault Refusal :=
  .next (s.wickRun n 0x76 w fun c s =>
    s.legal n (insF w 18 18 == 0 && isG (fa w) && isG (fb w) && isG (fc w)) fun s =>
      let x := (c.getG (fc w)).toNat
      let count := bitsOf x 63 48 + 1
      let a := bitsOf x 31 0
      if c.tag (insF w 23 20) ≠ .free then s.wickExc n 6
      else if a % 16 ≠ 0 then s.wickExc n 3 (BitVec.ofNat 32 a)
      else if 0x80000 < a + 16 * count then s.wickExc n 4 (BitVec.ofNat 32 a)
      else
        let id := s.moveNumber
        let s := s.wickNext n (c.setTag (insF w 23 20) (.pending 0x10 id))
        s.runMove ⟨n, id, insF w 19 19 == 1, c.bulkHandle w, c.bulkWord w, a, count, false, false⟩ ecc count)

end Sys2Proof.Machine
end

