-- ==== Sys2Proof/Machine/WickQueue.lean ====
section
/-! DEFINITION. Wick queue instructions and AWT (R305, R306, R308). -/
namespace Sys2Proof.Machine

/-- The fields of a queue instruction (R305). -/
def qS (w : BitVec 24) : Nat := insF w 11 9
def qW (w : BitVec 24) : Bool := insF w 8 8 == 1
def qLtag (w : BitVec 24) : Nat := insF w 5 0

/-- The encoding check of a queue instruction: s, w and ltag are zero where the instruction does not use them. -/
def queueLegal (w : BitVec 24) (usesS usesW usesL : Bool) : Bool :=
  isG (fd w) && isG (fa w) && insF w 7 6 == 0 && (usesS || qS w == 0) && (usesW || !qW w) && (usesL || qLtag w == 0)

/-- The queue that g a names. -/
def WickCore.queueOf (c : WickCore) (w : BitVec 24) : Nat := (c.getG (fa w)).toNat % 64

/-- A queue status written to g d, the core going on. -/
def State.queueStatus (s : State) (n : Nat) (w : BitVec 24) (st : Nat) : State :=
  s.wickWrite n (s.core n) (fd w) (BitVec.ofNat 64 st)

/-- QPOP (R305, R331, R333): the next visible word; BUSY with the idle item where there is none or the queue is drained
by a ring or port; with w set it stalls instead. -/
def execQpop (n : Fin 4) (w : BitVec 24) (ecc : EccResult) (s : State) : Host.Outcome State Fault Refusal :=
  .next (s.wickRun n 0x68 w fun c s =>
    s.legal n (queueLegal w true true false) fun s =>
      let q := c.queueOf w
      let (r, t) := if s.queueBound q then (none, s) else s.popWord q ecc
      match r with
      | some x => (t.setCore n ((t.core n).setS (qS w) x)).queueStatus n w 0
      | none =>
        if qW w then t.wickStall n 0x68 w
        else (t.setCore n ((t.core n).setS (qS w) idleWord)).queueStatus n w 1)

/-- The words of a producer's open packet. (DEDUCED, unsafe: log 47) -/
def openWords (p : Nat) : List QSlot → Option (List Word)
  | .opened q ws :: l => if q = p then some ws else openWords p l
  | _ :: l => openWords p l
  | [] => none

/-- The slots with a producer's open packet replaced. -/
def mapOpen (p : Nat) (f : List Word → QSlot) : List QSlot → List QSlot
  | .opened q ws :: l => if q = p then f ws :: l else .opened q ws :: mapOpen p f l
  | x :: l => x :: mapOpen p f l
  | [] => []

/-- A full queue: no room for one more word. A disabled queue takes words until its packet closes (R333). (DEDUCED, unsafe: log 46) -/
def State.queueFull (s : State) (q : Nat) : Bool := s.queueOn q && !s.queueRoom q 1

/-- QPUSH (R305, R306): appends s to the core's open packet. (DEDUCED, unsafe: log 46) -/
def execQpush (n : Fin 4) (w : BitVec 24) (s : State) : Host.Outcome State Fault Refusal :=
  .next (s.wickRun n 0x69 w fun c s =>
    s.legal n (queueLegal w true true false) fun s =>
      let q := c.queueOf w
      let p := 0x40 + n.val
      let x := s.queue q
      match openWords p x.slots with
      | none => if x.cut.contains p then (s.queueDrop q 1).queueStatus n w 4 else s.queueStatus n w 2
      | some ws =>
        if s.queueFull q ∨ 4095 ≤ ws.length then
          (if qW w then s.wickStall n 0x69 w else s.queueStatus n w 5)
        else (s.setQueue q { x with slots := mapOpen p (fun ws => .opened p (ws ++ [c.getS (qS w)])) x.slots }).queueStatus n w 0)

/-- The packets that a producer holds open. -/
def State.openCount (s : State) (p : Nat) : Nat :=
  upTo 64 (fun q k => if (openWords p (s.queue q).slots).isSome then k + 1 else k) 0

/-- QOPEN (R305, R306): reserves the length slot of a new packet; BADARG with a packet open on the queue or four open. (DEDUCED, unsafe: log 47) -/
def execQopen (n : Fin 4) (w : BitVec 24) (s : State) : Host.Outcome State Fault Refusal :=
  .next (s.wickRun n 0x6A w fun c s =>
    s.legal n (queueLegal w false false false) fun s =>
      let q := c.queueOf w
      let p := 0x40 + n.val
      let x := s.queue q
      if (openWords p x.slots).isSome ∨ 4 ≤ s.openCount p then s.queueStatus n w 2
      else if s.queueFull q then s.queueStatus n w 5
      else (s.setQueue q ⟨x.slots ++ [.opened p []], x.cut.filter (· ≠ p)⟩).queueStatus n w 0)

/-- QCLOSE (R305, R306): the length word with tag 0x80 + ltag and the word count; on a disabled queue the packet is
discarded and counted (R333). (DEDUCED, unsafe: log 47) -/
def execQclose (n : Fin 4) (w : BitVec 24) (s : State) : Host.Outcome State Fault Refusal :=
  .next (s.wickRun n 0x6B w fun c s =>
    s.legal n (queueLegal w false false true) fun s =>
      let q := c.queueOf w
      let p := 0x40 + n.val
      let x := s.queue q
      match openWords p x.slots with
      | none => s.queueStatus n w (if x.cut.contains p then 4 else 2)
      | some ws =>
        if s.queueOn q then
          (s.setQueue q { x with slots := mapOpen p (fun ws => .closed p (lengthWord p (qLtag w) ws.length :: ws)) x.slots }).queueStatus n w 0
        else
          ((s.setQueue q { x with slots := x.slots.filter fun y => match y with | .opened r _ => r ≠ p | _ => true }).queueDrop
            q (ws.length + 1)).queueStatus n w 0)

/-- QLVL (R305): the words readable in the queue. -/
def execQlvl (n : Fin 4) (w : BitVec 24) (s : State) : Host.Outcome State Fault Refusal :=
  .next (s.wickRun n 0x6C w fun c s =>
    s.legal n (queueLegal w false false false) fun s =>
      s.queueStatus n w (slotsVisible (s.queue (c.queueOf w)).slots).length)

/-- AWT (R308): the result of a completed tag, which it frees; BUSY or a stall while it has not completed; BADARG for a
tag not in use. (DEDUCED, unsafe: log 40) -/
def execAwt (n : Fin 4) (w : BitVec 24) (s : State) : Host.Outcome State Fault Refusal :=
  .next (s.wickRun n 0x71 w fun c s =>
    s.legal n (isG (fd w) && insF w 12 0 == 0) fun s =>
      match c.tag (insF w 17 14) with
      | .free => s.wickWrite n c (fd w) 2
      | .done r => s.wickWrite n (c.setTag (insF w 17 14) .free) (fd w) (BitVec.ofNat 64 r)
      | _ => if insF w 13 13 = 1 then s.wickStall n 0x71 w else s.wickWrite n c (fd w) 1)

end Sys2Proof.Machine
end

