-- ==== Sys2Proof/Machine/Dispatch.lean ====
section
/-! DEFINITION. exec: one arm per command, each a direct call of the command's meaning. -/
namespace Sys2Proof.Machine

def exec (i : Instr) (s : State) : Host.Outcome State Fault Refusal :=
  match i with
  | .registerWrite ag offset size v => Sys2Proof.Machine.execRegisterWrite ag offset size v s
  | .rcRead ag offset collide => Sys2Proof.Machine.execRcRead ag offset collide s
  | .snapshotRead ag offset => Sys2Proof.Machine.execSnapshotRead ag offset s
  | .powerUp => Sys2Proof.Machine.execPowerUp s
  | .powerDown => Sys2Proof.Machine.execPowerDown s
  | .undervoltage rail => Sys2Proof.Machine.execUndervoltage rail s
  | .supplyWarn rail below => Sys2Proof.Machine.execSupplyWarn rail below s
  | .porNAssert => Sys2Proof.Machine.execPorNAssert s
  | .porNDeassert straps => Sys2Proof.Machine.execPorNDeassert straps s
  | .perstNAssert => Sys2Proof.Machine.execPerstNAssert s
  | .conventionalReset => Sys2Proof.Machine.execConventionalReset s
  | .functionLevelReset => Sys2Proof.Machine.execFunctionLevelReset s
  | .d3hot enter => Sys2Proof.Machine.execD3hot enter s
  | .faultReset => Sys2Proof.Machine.execFaultReset s
  | .deviceReset v => Sys2Proof.Machine.execDeviceReset v s
  | .thermalSample sensors => Sys2Proof.Machine.execThermalSample sensors s
  | .hbmTempSample reading => Sys2Proof.Machine.execHbmTempSample reading s
  | .clockLoss clock => Sys2Proof.Machine.execClockLoss clock s
  | .firmwareVerified image => Sys2Proof.Machine.execFirmwareVerified image s
  | .bootReady hbm tdc readable => Sys2Proof.Machine.execBootReady hbm tdc s readable
  | .restoreHoldExpiry => Sys2Proof.Machine.execRestoreHoldExpiry s
  | .ackCheckpoint => Sys2Proof.Machine.execAckCheckpoint s
  | .journalWrite items result => Sys2Proof.Machine.execJournalWrite items result s
  | .identify => Sys2Proof.Machine.execIdentify s
  | .reset => Sys2Proof.Machine.execReset s
  | .bootPush => Sys2Proof.Machine.execBootPush s
  | .badCommandPacket => Sys2Proof.Machine.execBadCommandPacket s
  | .load => Sys2Proof.Machine.execLoad s
  | .recipeVerified signatureOk => Sys2Proof.Machine.execRecipeVerified signatureOk s
  | .loadDrainDone => Sys2Proof.Machine.execLoadDrainDone s
  | .loadDrainTimeout => Sys2Proof.Machine.execLoadDrainTimeout s
  | .loadLinksUp => Sys2Proof.Machine.execLoadLinksUp s
  | .linkWaitTimeout => Sys2Proof.Machine.execLinkWaitTimeout s
  | .unload => Sys2Proof.Machine.execUnload s
  | .unloadDrainDone => Sys2Proof.Machine.execUnloadDrainDone s
  | .start => Sys2Proof.Machine.execStart s
  | .stop => Sys2Proof.Machine.execStop s
  | .hold => Sys2Proof.Machine.execHold s
  | .resume => Sys2Proof.Machine.execResume s
  | .bank => Sys2Proof.Machine.execBank s
  | .bankSaveDone => Sys2Proof.Machine.execBankSaveDone s
  | .bankTimeout => Sys2Proof.Machine.execBankTimeout s
  | .hrtAlloc => Sys2Proof.Machine.execHrtAlloc s
  | .hrtAllocPin => Sys2Proof.Machine.execHrtAllocPin s
  | .hrtFree => Sys2Proof.Machine.execHrtFree s
  | .hrtPin => Sys2Proof.Machine.execHrtPin s
  | .hrtUnpin => Sys2Proof.Machine.execHrtUnpin s
  | .hrtQuery => Sys2Proof.Machine.execHrtQuery s
  | .timeRestep => Sys2Proof.Machine.execTimeRestep s
  | .attest => Sys2Proof.Machine.execAttest s
  | .attestDone => Sys2Proof.Machine.execAttestDone s
  | .snuff => Sys2Proof.Machine.execSnuff s
  | .wakeComplete => Sys2Proof.Machine.execWakeComplete s
  | .quench => Sys2Proof.Machine.execQuench s
  | .quenchNAssert asserted => Sys2Proof.Machine.execQuenchNAssert asserted s
  | .quenchRelease => Sys2Proof.Machine.execQuenchRelease s
  | .quenchDatagram port frame => Sys2Proof.Machine.execQuenchDatagram port frame s
  | .quadratureEdge enc a b tap => Sys2Proof.Machine.execQuadratureEdge enc a b tap s
  | .pulseTrainEdge enc b tap => Sys2Proof.Machine.execPulseTrainEdge enc b tap s
  | .reference enc tap level => Sys2Proof.Machine.execReference enc tap s level
  | .standstill enc => Sys2Proof.Machine.execStandstill enc s
  | .presetNow enc v => Sys2Proof.Machine.execPresetNow enc v s
  | .armRef enc v => Sys2Proof.Machine.execArmRef enc v s
  | .encCfgWrite enc v => Sys2Proof.Machine.execEncCfgWrite enc v s
  | .gpioEdge ball level tap => Sys2Proof.Machine.execGpioEdge ball level tap s
  | .latchNow unit v => Sys2Proof.Machine.execLatchNow unit v s
  | .latchCfgWrite unit v => Sys2Proof.Machine.execLatchCfgWrite unit v s
  | .triggerFire unit sample => Sys2Proof.Machine.execTriggerFire unit sample s
  | .triggerNextWrite unit v => Sys2Proof.Machine.execTriggerNextWrite unit v s
  | .triggerCfgWrite unit v => Sys2Proof.Machine.execTriggerCfgWrite unit v s
  | .triggerPeriodWrite unit v => Sys2Proof.Machine.execTriggerPeriodWrite unit v s
  | .ltrigPulseEnd unit => Sys2Proof.Machine.execLtrigPulseEnd unit s
  | .triggerPacketStart lane ended => Sys2Proof.Machine.execTriggerPacketStart lane ended s
  | .portStart port v => Sys2Proof.Machine.execPortStart port v s
  | .portStop port v => Sys2Proof.Machine.execPortStop port v s
  | .portRestart port v => Sys2Proof.Machine.execPortRestart port v s
  | .portCfgWrite port v => Sys2Proof.Machine.execPortCfgWrite port v s
  | .laneLock lane skew => Sys2Proof.Machine.execLaneLock lane skew s
  | .controlAck link ack => Sys2Proof.Machine.execControlAck link ack s
  | .controlAckTimeout link => Sys2Proof.Machine.execControlAckTimeout link s
  | .discoveryTimeout link => Sys2Proof.Machine.execDiscoveryTimeout link s
  | .retuneTimeout link => Sys2Proof.Machine.execRetuneTimeout link s
  | .wimenSwitch link => Sys2Proof.Machine.execWimenSwitch link s
  | .wimenLockTimeout link => Sys2Proof.Machine.execWimenLockTimeout link s
  | .blockLockGain lane skew => Sys2Proof.Machine.execBlockLockGain lane skew s
  | .blockLockLoss lane => Sys2Proof.Machine.execBlockLockLoss lane s
  | .linkLoss lane signal => Sys2Proof.Machine.execLinkLoss lane s signal
  | .resumeTimeout link => Sys2Proof.Machine.execResumeTimeout link s
  | .dfeUpdate lane ePos d1 d2 d3 d4 d5 => Sys2Proof.Machine.execDfeUpdate lane ePos d1 d2 d3 d4 d5 s
  | .streamPacket lane packet => Sys2Proof.Machine.execStreamPacket lane packet s
  | .cameraEventPacket lane words tap codeErrors => Sys2Proof.Machine.execCameraEventPacket lane words tap s codeErrors
  | .triggerAckPacket lane codeErrors => Sys2Proof.Machine.execTriggerAckPacket lane s codeErrors
  | .unsupportedPacket lane codeErrors => Sys2Proof.Machine.execUnsupportedPacket lane s codeErrors
  | .laneMarker lane count skew => Sys2Proof.Machine.execLaneMarker lane count skew s
  | .deskewMove lane => Sys2Proof.Machine.execDeskewMove lane s
  | .mailboxRead port v => Sys2Proof.Machine.execMailboxRead port v s
  | .mailboxWrite port v => Sys2Proof.Machine.execMailboxWrite port v s
  | .eyeScanStart lane v => Sys2Proof.Machine.execEyeScanStart lane v s
  | .eyeScanDone lane errors => Sys2Proof.Machine.execEyeScanDone lane errors s
  | .lineTimeout ctx => Sys2Proof.Machine.execLineTimeout ctx s
  | .ringWriteDone ctx => Sys2Proof.Machine.execRingWriteDone ctx s
  | .lineSent lane ecc => Sys2Proof.Machine.execLineSent lane ecc s
  | .contextEnable ctx v => Sys2Proof.Machine.execContextEnable ctx v s
  | .contextDisable ctx v => Sys2Proof.Machine.execContextDisable ctx v s
  | .reinjectGo v => Sys2Proof.Machine.execReinjectGo v s
  | .reinjectAbort v => Sys2Proof.Machine.execReinjectAbort v s
  | .reinjectDone => Sys2Proof.Machine.execReinjectDone s
  | .correctionApply ctx v => Sys2Proof.Machine.execCorrectionApply ctx v s
  | .snapshotWaitEnd lane => Sys2Proof.Machine.execSnapshotWaitEnd lane s
  | .coefStoreAccess v => Sys2Proof.Machine.execCoefStoreAccess v s
  | .correctionLutAccess v => Sys2Proof.Machine.execCorrectionLutAccess v s
  | .coefLoadGo v => Sys2Proof.Machine.execCoefLoadGo v s
  | .coefLoadDone failed ecc => Sys2Proof.Machine.execCoefLoadDone failed s ecc
  | .captureGo v => Sys2Proof.Machine.execCaptureGo v s
  | .captureAbort v => Sys2Proof.Machine.execCaptureAbort v s
  | .captureDone => Sys2Proof.Machine.execCaptureDone s
  | .lineLeavesCorrection ctx => Sys2Proof.Machine.execLineLeavesCorrection ctx s
  | .segmentWaitTimeout segment => Sys2Proof.Machine.execSegmentWaitTimeout segment s
  | .referenceLoss => Sys2Proof.Machine.execReferenceLoss s
  | .stitchApply v => Sys2Proof.Machine.execStitchApply v s
  | .knotAccess v => Sys2Proof.Machine.execKnotAccess v s
  | .stitchedLinePass cyc => Sys2Proof.Machine.execStitchedLinePass cyc s
  | .wordDispatch slice corrected => Sys2Proof.Machine.execWordDispatch slice corrected s
  | .maxBundlesReached slice engine => Sys2Proof.Machine.execMaxBundlesReached slice engine s
  | .anvilNop slice engine slot bits close => Sys2Proof.Machine.execAnvilNop slice engine slot bits close s
  | .anvilAdd slice engine slot bits close => Sys2Proof.Machine.execAnvilAdd slice engine slot bits close s
  | .anvilSub slice engine slot bits close => Sys2Proof.Machine.execAnvilSub slice engine slot bits close s
  | .anvilAvg slice engine slot bits close => Sys2Proof.Machine.execAnvilAvg slice engine slot bits close s
  | .anvilAbsd slice engine slot bits close => Sys2Proof.Machine.execAnvilAbsd slice engine slot bits close s
  | .anvilMin slice engine slot bits close => Sys2Proof.Machine.execAnvilMin slice engine slot bits close s
  | .anvilMax slice engine slot bits close => Sys2Proof.Machine.execAnvilMax slice engine slot bits close s
  | .anvilAnd slice engine slot bits close => Sys2Proof.Machine.execAnvilAnd slice engine slot bits close s
  | .anvilOr slice engine slot bits close => Sys2Proof.Machine.execAnvilOr slice engine slot bits close s
  | .anvilXor slice engine slot bits close => Sys2Proof.Machine.execAnvilXor slice engine slot bits close s
  | .anvilShl slice engine slot bits close => Sys2Proof.Machine.execAnvilShl slice engine slot bits close s
  | .anvilShr slice engine slot bits close => Sys2Proof.Machine.execAnvilShr slice engine slot bits close s
  | .anvilSel slice engine slot bits close => Sys2Proof.Machine.execAnvilSel slice engine slot bits close s
  | .anvilMov slice engine slot bits close => Sys2Proof.Machine.execAnvilMov slice engine slot bits close s
  | .anvilCls slice engine slot bits close => Sys2Proof.Machine.execAnvilCls slice engine slot bits close s
  | .anvilPk6 slice engine slot bits close => Sys2Proof.Machine.execAnvilPk6 slice engine slot bits close s
  | .anvilCmpeq slice engine slot bits close => Sys2Proof.Machine.execAnvilCmpeq slice engine slot bits close s
  | .anvilCmplt slice engine slot bits close => Sys2Proof.Machine.execAnvilCmplt slice engine slot bits close s
  | .anvilCmple slice engine slot bits close => Sys2Proof.Machine.execAnvilCmple slice engine slot bits close s
  | .anvilAddi slice engine slot bits close => Sys2Proof.Machine.execAnvilAddi slice engine slot bits close s
  | .anvilShli slice engine slot bits close => Sys2Proof.Machine.execAnvilShli slice engine slot bits close s
  | .anvilShri slice engine slot bits close => Sys2Proof.Machine.execAnvilShri slice engine slot bits close s
  | .anvilMovi slice engine slot bits close => Sys2Proof.Machine.execAnvilMovi slice engine slot bits close s
  | .anvilCmplti slice engine slot bits close => Sys2Proof.Machine.execAnvilCmplti slice engine slot bits close s
  | .anvilCmpgei slice engine slot bits close => Sys2Proof.Machine.execAnvilCmpgei slice engine slot bits close s
  | .anvilMul slice engine slot bits close => Sys2Proof.Machine.execAnvilMul slice engine slot bits close s
  | .anvilMac slice engine slot bits close => Sys2Proof.Machine.execAnvilMac slice engine slot bits close s
  | .anvilLut slice engine slot bits close => Sys2Proof.Machine.execAnvilLut slice engine slot bits close s
  | .anvilSumh slice engine slot bits close => Sys2Proof.Machine.execAnvilSumh slice engine slot bits close s
  | .anvilWin slice engine slot bits close => Sys2Proof.Machine.execAnvilWin slice engine slot bits close s
  | .anvilLdp slice engine slot bits close => Sys2Proof.Machine.execAnvilLdp slice engine slot bits close s
  | .anvilEmc slice engine slot bits close => Sys2Proof.Machine.execAnvilEmc slice engine slot bits close s
  | .anvilEmi slice engine slot bits close => Sys2Proof.Machine.execAnvilEmi slice engine slot bits close s
  | .anvilBr slice engine slot bits close => Sys2Proof.Machine.execAnvilBr slice engine slot bits close s
  | .anvilPand slice engine slot bits close => Sys2Proof.Machine.execAnvilPand slice engine slot bits close s
  | .anvilPor slice engine slot bits close => Sys2Proof.Machine.execAnvilPor slice engine slot bits close s
  | .anvilPxor slice engine slot bits close => Sys2Proof.Machine.execAnvilPxor slice engine slot bits close s
  | .anvilPandn slice engine slot bits close => Sys2Proof.Machine.execAnvilPandn slice engine slot bits close s
  | .anvilPset slice engine slot bits close => Sys2Proof.Machine.execAnvilPset slice engine slot bits close s
  | .classLineEnter => Sys2Proof.Machine.execClassLineEnter s
  | .endOfFlow => Sys2Proof.Machine.execEndOfFlow s
  | .anvilApply v => Sys2Proof.Machine.execAnvilApply v s
  | .paramWordWrite v => Sys2Proof.Machine.execParamWordWrite v s
  | .bundleStoreWrite v => Sys2Proof.Machine.execBundleStoreWrite v s
  | .anvilLutAccess v => Sys2Proof.Machine.execAnvilLutAccess v s
  | .anvilLoadGo v => Sys2Proof.Machine.execAnvilLoadGo v s
  | .anvilLoadDone failed ecc => Sys2Proof.Machine.execAnvilLoadDone failed s ecc
  | .intervalCommit found => Sys2Proof.Machine.execIntervalCommit found s
  | .drainCommit found => Sys2Proof.Machine.execDrainCommit found s
  | .bloomLine => Sys2Proof.Machine.execBloomLine s
  | .flush v => Sys2Proof.Machine.execFlush v s
  | .cropCut ecc => Sys2Proof.Machine.execCropCut s ecc
  | .cropDone => Sys2Proof.Machine.execCropDone s
  | .recordPush => Sys2Proof.Machine.execRecordPush s
  | .feederLine ecc => Sys2Proof.Machine.execFeederLine s ecc
  | .markSend mark => Sys2Proof.Machine.execMarkSend mark s
  | .markFired mark => Sys2Proof.Machine.execMarkFired mark s
  | .fireFrame link => Sys2Proof.Machine.execFireFrame link s
  | .cancelFrame link => Sys2Proof.Machine.execCancelFrame link s
  | .syncDue link => Sys2Proof.Machine.execSyncDue link s
  | .syncFrame link => Sys2Proof.Machine.execSyncFrame link s
  | .configFrame link => Sys2Proof.Machine.execConfigFrame link s
  | .markerLinkEnable link v => Sys2Proof.Machine.execMarkerLinkEnable link v s
  | .markerLinkDisable link v => Sys2Proof.Machine.execMarkerLinkDisable link v s
  | .channelWidthWrite ch v => Sys2Proof.Machine.execChannelWidthWrite ch v s
  | .streamApply unit v => Sys2Proof.Machine.execStreamApply unit v s
  | .streamStop unit v => Sys2Proof.Machine.execStreamStop unit v s
  | .compressionJob engine ecc badWord => Sys2Proof.Machine.execCompressionJob engine ecc badWord s
  | .jobComplete engine ecc => Sys2Proof.Machine.execJobComplete engine s ecc
  | .completionPush engine => Sys2Proof.Machine.execCompletionPush engine s
  | .jobAbort v => Sys2Proof.Machine.execJobAbort v s
  | .saveAll v => Sys2Proof.Machine.execSaveAll v s
  | .tableSetAccess v => Sys2Proof.Machine.execTableSetAccess v s
  | .stateHandleWrite v => Sys2Proof.Machine.execStateHandleWrite v s
  | .apAllocate port => Sys2Proof.Machine.execApAllocate port s
  | .apAllocatePinned port => Sys2Proof.Machine.execApAllocatePinned port s
  | .apFree port => Sys2Proof.Machine.execApFree port s
  | .apPin port => Sys2Proof.Machine.execApPin port s
  | .apUnpin port => Sys2Proof.Machine.execApUnpin port s
  | .apQuery port => Sys2Proof.Machine.execApQuery port s
  | .bar2Read offset length ecc metadata => Sys2Proof.Machine.execBar2Read offset length ecc s metadata
  | .bar2Write offset bytes => Sys2Proof.Machine.execBar2Write offset bytes s
  | .bulkPortBaseCommit v => Sys2Proof.Machine.execBulkPortBaseCommit v s
  | .pageOutDone handle frame passed => Sys2Proof.Machine.execPageOutDone handle frame passed s
  | .pageInDone handle frame crc => Sys2Proof.Machine.execPageInDone handle frame crc s
  | .retireDone handle frame unreadable => Sys2Proof.Machine.execRetireDone handle frame unreadable s
  | .scrubRead handle frame ecc => Sys2Proof.Machine.execScrubRead handle frame ecc s
  | .starvation cls => Sys2Proof.Machine.execStarvation cls s
  | .reservedOpcode core op w => Sys2Proof.Machine.execReservedOpcode core op w s
  | .nop core w => Sys2Proof.Machine.execNop core w s
  | .add core w => Sys2Proof.Machine.execAdd core w s
  | .sub core w => Sys2Proof.Machine.execSub core w s
  | .and core w => Sys2Proof.Machine.execAnd core w s
  | .or core w => Sys2Proof.Machine.execOr core w s
  | .xor core w => Sys2Proof.Machine.execXor core w s
  | .shl core w => Sys2Proof.Machine.execShl core w s
  | .shr core w => Sys2Proof.Machine.execShr core w s
  | .shra core w => Sys2Proof.Machine.execShra core w s
  | .clt core w => Sys2Proof.Machine.execClt core w s
  | .cltu core w => Sys2Proof.Machine.execCltu core w s
  | .min core w => Sys2Proof.Machine.execMin core w s
  | .max core w => Sys2Proof.Machine.execMax core w s
  | .minu core w => Sys2Proof.Machine.execMinu core w s
  | .maxu core w => Sys2Proof.Machine.execMaxu core w s
  | .mul core w => Sys2Proof.Machine.execMul core w s
  | .mulhs core w => Sys2Proof.Machine.execMulhs core w s
  | .mulhu core w => Sys2Proof.Machine.execMulhu core w s
  | .quo core w => Sys2Proof.Machine.execQuo core w s
  | .quou core w => Sys2Proof.Machine.execQuou core w s
  | .mod core w => Sys2Proof.Machine.execMod core w s
  | .modu core w => Sys2Proof.Machine.execModu core w s
  | .addi core w => Sys2Proof.Machine.execAddi core w s
  | .andi core w => Sys2Proof.Machine.execAndi core w s
  | .ori core w => Sys2Proof.Machine.execOri core w s
  | .xori core w => Sys2Proof.Machine.execXori core w s
  | .shli core w => Sys2Proof.Machine.execShli core w s
  | .shri core w => Sys2Proof.Machine.execShri core w s
  | .shrai core w => Sys2Proof.Machine.execShrai core w s
  | .clti core w => Sys2Proof.Machine.execClti core w s
  | .cltui core w => Sys2Proof.Machine.execCltui core w s
  | .ihi core w => Sys2Proof.Machine.execIhi core w s
  | .ld8 core w ecc => Sys2Proof.Machine.execLd8 core w ecc s
  | .ld8u core w ecc => Sys2Proof.Machine.execLd8u core w ecc s
  | .ld16 core w ecc => Sys2Proof.Machine.execLd16 core w ecc s
  | .ld16u core w ecc => Sys2Proof.Machine.execLd16u core w ecc s
  | .ld32 core w ecc => Sys2Proof.Machine.execLd32 core w ecc s
  | .ld32u core w ecc => Sys2Proof.Machine.execLd32u core w ecc s
  | .ld64 core w ecc => Sys2Proof.Machine.execLd64 core w ecc s
  | .st8 core w => Sys2Proof.Machine.execSt8 core w s
  | .st16 core w => Sys2Proof.Machine.execSt16 core w s
  | .st32 core w => Sys2Proof.Machine.execSt32 core w s
  | .st64 core w => Sys2Proof.Machine.execSt64 core w s
  | .lds core w ecc => Sys2Proof.Machine.execLds core w ecc s
  | .sts core w => Sys2Proof.Machine.execSts core w s
  | .atadd core w ecc => Sys2Proof.Machine.execAtadd core w ecc s
  | .atswp core w ecc => Sys2Proof.Machine.execAtswp core w ecc s
  | .atcas core w ecc => Sys2Proof.Machine.execAtcas core w ecc s
  | .beq core w => Sys2Proof.Machine.execBeq core w s
  | .bne core w => Sys2Proof.Machine.execBne core w s
  | .blt core w => Sys2Proof.Machine.execBlt core w s
  | .bge core w => Sys2Proof.Machine.execBge core w s
  | .bltu core w => Sys2Proof.Machine.execBltu core w s
  | .bgeu core w => Sys2Proof.Machine.execBgeu core w s
  | .call core w => Sys2Proof.Machine.execCall core w s
  | .callr core w => Sys2Proof.Machine.execCallr core w s
  | .slo core w => Sys2Proof.Machine.execSlo core w s
  | .shi core w => Sys2Proof.Machine.execShi core w s
  | .glo core w => Sys2Proof.Machine.execGlo core w s
  | .ghi core w => Sys2Proof.Machine.execGhi core w s
  | .smv core w => Sys2Proof.Machine.execSmv core w s
  | .mfc core w => Sys2Proof.Machine.execMfc core w s
  | .mtc core w => Sys2Proof.Machine.execMtc core w s
  | .di core w => Sys2Proof.Machine.execDi core w s
  | .ei core w => Sys2Proof.Machine.execEi core w s
  | .wfi core w => Sys2Proof.Machine.execWfi core w s
  | .wfiWake core => Sys2Proof.Machine.execWfiWake core s
  | .reti core w ecc => Sys2Proof.Machine.execReti core w ecc s
  | .rete core w => Sys2Proof.Machine.execRete core w s
  | .swi core w => Sys2Proof.Machine.execSwi core w s
  | .fence core w => Sys2Proof.Machine.execFence core w s
  | .brk core w => Sys2Proof.Machine.execBrk core w s
  | .svc core w => Sys2Proof.Machine.execSvc core w s
  | .qpop core w ecc => Sys2Proof.Machine.execQpop core w ecc s
  | .qpush core w => Sys2Proof.Machine.execQpush core w s
  | .qopen core w => Sys2Proof.Machine.execQopen core w s
  | .qclose core w => Sys2Proof.Machine.execQclose core w s
  | .qlvl core w => Sys2Proof.Machine.execQlvl core w s
  | .iss core w => Sys2Proof.Machine.execIss core w s
  | .awt core w => Sys2Proof.Machine.execAwt core w s
  | .bld core w ecc => Sys2Proof.Machine.execBld core w ecc s
  | .bst core w => Sys2Proof.Machine.execBst core w s
  | .bmv core w ecc => Sys2Proof.Machine.execBmv core w ecc s
  | .tagComplete core tag => Sys2Proof.Machine.execTagComplete core tag s
  | .timerMatch core => Sys2Proof.Machine.execTimerMatch core s
  | .watchdogTimeout core => Sys2Proof.Machine.execWatchdogTimeout core s
  | .interruptEntry core => Sys2Proof.Machine.execInterruptEntry core s
  | .wckSwiWrite ag core v => Sys2Proof.Machine.execWckSwiWrite ag core v s
  | .serviceDone core v => Sys2Proof.Machine.execServiceDone core v s
  | .svcVersion => Sys2Proof.Machine.execSvcVersion s
  | .svcDevstate => Sys2Proof.Machine.execSvcDevstate s
  | .svcRoute => Sys2Proof.Machine.execSvcRoute s
  | .svcNotify => Sys2Proof.Machine.execSvcNotify s
  | .doorbell ring v size => Sys2Proof.Machine.execDoorbell ring v s size
  | .queueInPush ring length words pcieOk => Sys2Proof.Machine.execQueueInPush ring length words pcieOk s
  | .queueOutMove ring ecc badWord pcieOk => Sys2Proof.Machine.execQueueOutMove ring ecc badWord pcieOk s
  | .receiveItem ring desc pcieOk ecc => Sys2Proof.Machine.execReceiveItem ring desc pcieOk s ecc
  | .copyDescriptor ring desc hostBytes pcieOk ecc => Sys2Proof.Machine.execCopyDescriptor ring desc hostBytes pcieOk s ecc
  | .ringEnable ring v => Sys2Proof.Machine.execRingEnable ring v s
  | .ringDisable ring v => Sys2Proof.Machine.execRingDisable ring v s
  | .queueEnable queue v => Sys2Proof.Machine.execQueueEnable queue v s
  | .queueDisable queue v => Sys2Proof.Machine.execQueueDisable queue v s
  | .queueSnuff queue v => Sys2Proof.Machine.execQueueSnuff queue v s
  | .pcieLinkTrained speed width flit => Sys2Proof.Machine.execPcieLinkTrained speed width flit s
  | .vectorUnmask write => Sys2Proof.Machine.execVectorUnmask write s
  | .gateOpen group => Sys2Proof.Machine.execGateOpen group s
  | .sourceConfigWrite source v => Sys2Proof.Machine.execSourceConfigWrite source v s
  | .ptpSync m => Sys2Proof.Machine.execPtpSync m s
  | .followUp m => Sys2Proof.Machine.execFollowUp m s
  | .delayReq port tap => Sys2Proof.Machine.execDelayReq port tap s
  | .delayResp m => Sys2Proof.Machine.execDelayResp m s
  | .announce m data => Sys2Proof.Machine.execAnnounce m data s
  | .heldEnd => Sys2Proof.Machine.execHeldEnd s
  | .masterLost => Sys2Proof.Machine.execMasterLost s
  | .hostOffset hi => Sys2Proof.Machine.execHostOffset hi s
  | .sourceChange v => Sys2Proof.Machine.execSourceChange v s
  | .datagramSend port tap => Sys2Proof.Machine.execDatagramSend port tap s
  | .arpRequest port ip vlan => Sys2Proof.Machine.execArpRequest port ip vlan s
  | .echoRequest port ip vlan => Sys2Proof.Machine.execEchoRequest port ip vlan s
  | .frameDiscard port frame => Sys2Proof.Machine.execFrameDiscard port frame s
  | .plantLinkChange port up => Sys2Proof.Machine.execPlantLinkChange port up s
  | .retrainDue => Sys2Proof.Machine.execRetrainDue s
  | .runHbm => Sys2Proof.Machine.execRunHbm s
  | .retrainStart => Sys2Proof.Machine.execRetrainStart s
  | .retrainEnd result => Sys2Proof.Machine.execRetrainEnd result s
  | .retrainOverdue => Sys2Proof.Machine.execRetrainOverdue s
  | .tdcDue => Sys2Proof.Machine.execTdcDue s
  | .runTdc => Sys2Proof.Machine.execRunTdc s
  | .tdcEnd result => Sys2Proof.Machine.execTdcEnd result s
  | .coefDataRead => Sys2Proof.Machine.execCoefDataRead s
  | .programCustomerKey v => Sys2Proof.Machine.execProgramCustomerKey v s
  | .raiseFwSvnMin v => Sys2Proof.Machine.execRaiseFwSvnMin v s
  | .raiseRcpSvnMin v => Sys2Proof.Machine.execRaiseRcpSvnMin v s
  | .disableDebug v => Sys2Proof.Machine.execDisableDebug v s
  | .provisionDone result => Sys2Proof.Machine.execProvisionDone result s
  | .registerUnlock v => Sys2Proof.Machine.execRegisterUnlock v s
  | .tapUnlock level => Sys2Proof.Machine.execTapUnlock level s
  | .unlockDone signer => Sys2Proof.Machine.execUnlockDone signer s
  | .measurementRead => Sys2Proof.Machine.execMeasurementRead s
  | .pubkeyRead => Sys2Proof.Machine.execPubkeyRead s
  | .bypass tdi => Sys2Proof.Machine.execBypass tdi s
  | .idcode => Sys2Proof.Machine.execIdcode s
  | .samplePreload levels => Sys2Proof.Machine.execSamplePreload levels s
  | .extest levels => Sys2Proof.Machine.execExtest levels s
  | .clamp => Sys2Proof.Machine.execClamp s
  | .highz => Sys2Proof.Machine.execHighz s
  | .wickDebugAccess core op => Sys2Proof.Machine.execWickDebugAccess core op s
  | .smbusReadWord command => Sys2Proof.Machine.execSmbusReadWord command s
  | .reinjectLine ctx ecc => Sys2Proof.Machine.execReinjectLine ctx s ecc
  | .receivedDelayReq m => Sys2Proof.Machine.execReceivedDelayReq m s
  | .resetAfterResponse => Sys2Proof.Machine.execResetAfterResponse s
  | .bar0Read offset size => Sys2Proof.Machine.execBar0Read offset size s

end Sys2Proof.Machine
end

