-- ==== Sys2Proof/Machine/Tick.lean ====
section
/-! DEFINITION. One CLK_TIME tick of 8 ns (R15, R223, R362): what the block does by itself while no command waits. -/
namespace Sys2Proof.Machine

/-- The core cycle counts (R297): five CLK_CTL cycles in a tick, for every core that has left reset and is clocked. (DEDUCED, unsafe: log 48; DEDUCED, unsafe: log 53) -/
def State.tickCores (s : State) : State :=
  if s.coresStopped then s
  else upTo 4 (fun n s =>
    if (s.core n).run = .reset then s else s.setCore n { s.core n with cycle := (s.core n).cycle + 5 }) s

/-- The event clock stands still in BANKED (R360). (DEDUCED, unsafe: log 32) -/
def State.tickEvents (s : State) : State :=
  if s.inStates [.banked] then s else { s with evt := { s.evt with clock := s.evt.clock + 1 } }

/-- The commands whose end a later command brings: LOAD, UNLOAD, BANK and BOOT_PUSH. (DEDUCED, unsafe: log 59) -/
def lastingOpcode (op : Nat) : Bool := op == 0x010 || op == 0x011 || op == 0x016 || op == 0x003

/-- A command whose transition lost to the entry to FAULT ends with STATE and no effect (R26): a load lets its image go, and the
rings that it has taken. (DEDUCED, unsafe: log 104) -/
def State.loseTransition (s : State) : State :=
  match s.hst.cmd with
  | some c =>
    if s.inStates [.fault] && c.result.isNone && lastingOpcode c.opcode then
      let s := match s.rcp.run with
        | some r => (if r.step = 6 then s.clearRecipe else s).releaseImage r
        | none => s
      let s : State := { s with rcp := { s.rcp with run := none }, blw := { s.blw with pushing := false } }
      (s.setSec { s.sec with jobs := s.sec.jobs.filter fun j => j != .recipe }).endCommand 3 0
    else s
  | none => s

/-- What waits for Hearth goes on: pins, moves, bulk accesses, streams of the engines; a scrub period ends (R264, R273, R327, R255).
(DEDUCED, unsafe: log 43; DESIGN CHOICE, unsafe: log 89) -/
def State.tickHearth (s : State) : State :=
  (State.drainBulk s.hst.bulkWait.length s.endPins.runMoves).scrubPeriod.tickCompression

/-- What waits for Hearth, for a queue or for the wake goes on. (DEDUCED, unsafe: log 43; DESIGN CHOICE, unsafe: log 89) -/
def State.tickWaiting (s : State) : State :=
  (s.loseTransition.tickHearth.endHearthCmd.pushResponse (devCode s.blw.state)).recoveryAnswer.wakeCores

/-- One CLK_TIME tick: none in OFF or while POR_N is asserted; RESET ends with it (R394). (DESIGN CHOICE, unsafe: log 2; DEDUCED, unsafe: log 53) -/
def State.tick (s : State) : State :=
  if s.inStates [.off] || s.blw.porAsserted then s
  else
    let s := (({ s with ticks := s.ticks + 1 } : State).tickEvents).tickTime
    if s.inStates [.reset] then s.leaveReset
    else s.tickTdc.trigTick.stallTick.tickCores.tickWaiting

end Sys2Proof.Machine
end

