-- ==== Sys2Proof/Machine/Step.lean ====
section
/-! DEFINITION. The step: the command at the front of the queue, or a tick of CLK_TIME while none waits. -/
namespace Sys2Proof.Machine

/-- One step: the front command taken and executed with the queue's rest; on an empty queue one CLK_TIME tick. (DESIGN CHOICE, unsafe: log 2; DESIGN CHOICE, safe: log 3) -/
def step (s : State) : Host.Outcome State Fault Refusal :=
  match s.pending with
  | [] => .next s.tick
  | c :: rest => exec c { s with pending := rest }

/-- The state with the command that a word spells put at the front of the queue. -/
def State.withFetchWord (s : State) (nbits w : Nat) : State :=
  match decodeTableWord nbits w with
  | some c => { s with pending := c :: s.pending }
  | none => s

end Sys2Proof.Machine
end

