-- ==== Sys2Proof/Safety.lean ====
section
/-! DEFINITION. What a safe run keeps, in the terms the statements use: memories and registers in canonical form, legal changes
of the device state (R25), permanent fuses (R417). -/
namespace Sys2Proof.Machine

/-- The local memory of every listed core is in canonical form. -/
def coresWf (l : List (Nat × WickCore)) : Bool := l.all fun p => Memory.wf p.2.mem

/-- The canonical form of everything that is held as a sparse store of words or bytes: the BAR0 registers, the bytes of Hearth's
handles, the shared memory and the cores' local memories. -/
def State.canonical (s : State) : Bool :=
  swf regReset s.regs && Memory.wf s.hrt.bytes && Memory.wf s.wck.shared && coresWf s.wck.cores

/-- Fuses `b` hold everything that `a` hold (R417: all operations are permanent). -/
def Fuses.within (a b : Fuses) : Bool :=
  (a.custKey.isNone || b.custKey == a.custKey) && (!a.slotDead || b.slotDead) && (!a.debugDisabled || b.debugDisabled) &&
    decide (a.fwSvnMin ≤ b.fwSvnMin) && decide (a.rcpSvnMin ≤ b.rcpSvnMin)

/-- A change that no command of its own is needed for: none, or the entry to FAULT from a state in which the device runs
(R25, R311, R402). (DEDUCED, unsafe: log 80) -/
def devFault (a b : DevState) : Bool :=
  b == a || (b == .fault && !(a == .off || a == .reset))

/-- The changes of device state in one step: the edges of R25's table, with FAULT entered from every state in which the device
runs, RESET and OFF from every state, and a bank, run, hold or load that a later cause of the same step ends in FAULT. (DEDUCED, unsafe: log 80) -/
def devEdge (a b : DevState) : Bool :=
  devFault a b || b == .reset || b == .off ||
    match a, b with
    | .reset, .boot => true
    | .boot, .ready => true
    | .ready, .armed => true
    | .ready, .banked => true
    | .armed, .run => true
    | .armed, .ready => true
    | .armed, .banked => true
    | .run, .hold => true
    | .run, .armed => true
    | .hold, .run => true
    | .hold, .armed => true
    | .banked, .ready => true
    | .banked, .armed => true
    | _, _ => false

end Sys2Proof.Machine
end

