-- ==== Sys2Proof/Safety/Terms.lean ====
section
/-! DEFINITION. The words in which the statements are said: what a command leaves, and where it applies. -/
namespace Sys2Proof.Machine

/-! ### Wick: what an instruction of a core leaves (R297, R299, R310) -/

/-- Core `n` issues the instruction of this opcode and these bits: it runs, or is stalled on this very instruction, is clocked and not
stopped, and its pc lies where it may fetch (R294, R317). -/
def State.issues (s : State) (n : Fin 4) (op : Nat) (w : BitVec 24) : Prop :=
  s.wickReady n op w = true ∧ s.fetchable n (s.core n).pc.toNat = true

/-- What a program sees of a core: its pc, its general and stream registers, its local memory and the shared memory. -/
structure CoreView where
  pc : BitVec 32
  general : Nat → Word64
  stream : Nat → Word
  localMem : Nat → Byte
  shared : Nat → Byte

/-- The view of core `n` with the pc at the next instruction. -/
def State.nextView (s : State) (n : Nat) : CoreView :=
  { pc := (s.core n).pc + 4, general := (s.core n).getG, stream := (s.core n).getS, localMem := Memory.read (s.core n).mem
    shared := Memory.read s.wck.shared }

/-- A core without what its view shows and without what ends a stall. -/
def WickCore.hidden (c : WickCore) : WickCore :=
  { c with pc := 0, g := [], s := [], mem := [], run := .running, stalled := none, entry := none, debugStep := false }

/-- An instruction of core `n` leads from `s` to `t`: the core runs on with the view `v` and with the control registers, tags and
marks of `c`; the other cores and everything else of the block are as before. -/
structure WickStepTo (s t : State) (n : Nat) (v : CoreView) (c : WickCore) : Prop where
  pc : (t.core n).pc = v.pc
  run : (t.core n).run = .running
  stalled : (t.core n).stalled = none
  general : ∀ r, (t.core n).getG r = v.general r
  stream : ∀ r, (t.core n).getS r = v.stream r
  localMem : ∀ a, Memory.read (t.core n).mem a = v.localMem a
  shared : ∀ a, Memory.read t.wck.shared a = v.shared a
  hidden : (t.core n).hidden = c.hidden
  cores : ∀ m, m ≠ n → t.core m = s.core m
  rest : { t with wck := { t.wck with cores := s.wck.cores, shared := s.wck.shared } } = s

/-- An instruction that leaves the core's control registers and tags as they were. -/
abbrev WickStep (s t : State) (n : Nat) (v : CoreView) : Prop := WickStepTo s t n v (s.core n)

/-- A view with a result in general register `d`; g0 keeps zero (R297). -/
def CoreView.setG (v : CoreView) (d : Nat) (x : Word64) : CoreView :=
  { v with general := fun r => if r = d ∧ r ≠ 0 then x else v.general r }

/-- A view with a result in stream register `d`. -/
def CoreView.setS (v : CoreView) (d : Nat) (x : Word) : CoreView := { v with stream := fun r => if r = d then x else v.stream r }

/-- Core `n` has taken an exception (R310): epc, cause and badaddr written, ex set, the pc at the address in vector entry 512; its
registers, its memory and everything else as before. -/
structure ExceptionTaken (s t : State) (n code : Nat) (bad epc : BitVec 32) : Prop where
  epc : (t.core n).epc = epc
  cause : (t.core n).cause = BitVec.ofNat 8 code
  badaddr : (t.core n).badaddr = bad
  ex : (t.core n).ex = true
  pc : s.entryWord n ((s.core n).vbase.toNat + 0x800) = some (t.core n).pc
  run : (t.core n).run = .running
  general : ∀ r, (t.core n).getG r = (s.core n).getG r
  stream : ∀ r, (t.core n).getS r = (s.core n).getS r
  localMem : (t.core n).mem = (s.core n).mem
  frame : (t.core n).ie = (s.core n).ie ∧ (t.core n).rp = (s.core n).rp ∧ (t.core n).ifsp = (s.core n).ifsp ∧
    (t.core n).tags = (s.core n).tags ∧ (t.core n).vbase = (s.core n).vbase
  cores : ∀ m, m ≠ n → t.core m = s.core m
  rest : { t with wck := { t.wck with cores := s.wck.cores } } = s

/-- The command `i` raises an exception of core `n` with a return pc: taken where vector entry 512 can be read; where the map gives
none, that read is an exception with ex set, and the core halts with cause 0x01 (R294, R310). -/
def Excepts (i : Instr) (s : State) (n : Fin 4) (code : Nat) (bad epc : BitVec 32) : Prop :=
  let handler := s.entryWord n ((s.core n).vbase.toNat + 0x800)
  (handler.isSome = true → ∃ t, exec i s = .next t ∧ ExceptionTaken s t n code bad epc) ∧
  (handler = none → ∃ t, exec i s = .next t ∧ (t.core n).run = .halted ∧ (t.core n).haltCause = 0x01)

/-- The instruction `i` with these bits raises an exception. -/
def Raises (i : Instr) (s : State) (n : Fin 4) (code : Nat) (bad : BitVec 32) : Prop := Excepts i s n code bad (s.core n).pc

/-- The instruction `i` with bits that are not as its encoding admits raises 0x01 (R299). -/
def Illegal (i : Fin 4 → BitVec 24 → Instr) (op : Nat) (ok : BitVec 24 → Prop) : Prop :=
  ∀ (n : Fin 4) (w : BitVec 24) (s : State), s.issues n op w → (s.core n).ex = false → ¬ ok w → Raises (i n w) s n 0x01 0

/-- The instruction `i` fetched at a pc outside the memory that the core may fetch from raises 0x04 with epc and badaddr the pc
(R294, R302). -/
def FetchFails (i : Fin 4 → BitVec 24 → Instr) (op : Nat) : Prop :=
  ∀ (n : Fin 4) (w : BitVec 24) (s : State), s.wickReady n op w = true → s.fetchable n (s.core n).pc.toNat = false →
    (s.core n).ex = false → Raises (i n w) s n 0x04 (s.core n).pc

/-- Format R with field c zero and general registers in d, a and b (R299). -/
def formatR (w : BitVec 24) : Prop := fd w < 32 ∧ fa w < 32 ∧ fb w < 32 ∧ fc w = 0

/-- The instruction `i` of format R puts `f (g a) (g b)` into g d (R300), and raises 0x01 where a field names no general register or
the unused field is not zero. -/
def ArithResult (i : Fin 4 → BitVec 24 → Instr) (op : Nat) (f : Word64 → Word64 → Word64) : Prop :=
  (∀ (n : Fin 4) (w : BitVec 24) (s : State), s.issues n op w → formatR w →
    ∃ t, exec (i n w) s = .next t ∧
      WickStep s t n ((s.nextView n).setG (fd w) (f ((s.core n).getG (fa w)) ((s.core n).getG (fb w))))) ∧
  Illegal i op formatR

/-- The instruction `i` of format I puts `f (g a) w` into g d, where `ok` holds of its immediate (R301). -/
def ImmResult (i : Fin 4 → BitVec 24 → Instr) (op : Nat) (ok : BitVec 24 → Prop) (f : Word64 → BitVec 24 → Word64) : Prop :=
  ∀ (n : Fin 4) (w : BitVec 24) (s : State), s.issues n op w → fd w < 32 → fa w < 32 → ok w →
    ∃ t, exec (i n w) s = .next t ∧ WickStep s t n ((s.nextView n).setG (fd w) (f ((s.core n).getG (fa w)) w))

/-- sext(imm12) as R299 has it: bit [11] repeated. -/
def immS (w : BitVec 24) : Word64 := (BitVec.extractLsb 11 0 w).signExtend 64
/-- zext(imm12). -/
def immZ (w : BitVec 24) : Word64 := (BitVec.extractLsb 11 0 w).setWidth 64
/-- A shift immediate: imm12[11:6] zero; its distance imm12[5:0]. -/
def shiftImm (w : BitVec 24) : Prop := BitVec.extractLsb 11 6 w = 0
def shiftBy (w : BitVec 24) : Nat := (BitVec.extractLsb 5 0 w).toNat

/-- A branch of format B: to pc + 4 × sext(off12) where `f (g a) (g b)` holds, else to the next instruction (R302); a field that
names no general register raises 0x01, and a pc outside local memory 0x04 at the fetch. -/
def BranchResult (i : Fin 4 → BitVec 24 → Instr) (op : Nat) (f : Word64 → Word64 → Bool) : Prop :=
  (∀ (n : Fin 4) (w : BitVec 24) (s : State), s.issues n op w → fd w < 32 → fa w < 32 →
    ∃ t, exec (i n w) s = .next t ∧
      WickStep s t n (if f ((s.core n).getG (fd w)) ((s.core n).getG (fa w)) then
        { s.nextView n with pc := (s.core n).pc + 4 * (BitVec.extractLsb 11 0 w).signExtend 32 } else s.nextView n)) ∧
  Illegal i op (fun w => fd w < 32 ∧ fa w < 32) ∧ FetchFails i op

/-! ### Wick: loads, stores and exceptions (R294, R301, R310) -/

/-- The address g a + sext(imm12) (R301). -/
def State.wickAddress (s : State) (n : Nat) (w : BitVec 24) : Nat := ((s.core n).getG (fa w) + immS w).toNat

/-- The number that `size` bytes hold, least significant first, in local memory, the shared memory or the ROM. -/
def State.loaded (s : State) (n : Nat) (p : Place) (a size : Nat) : Nat :=
  match p with
  | .localMem => ofBytes (Memory.reads (s.core n).mem a size)
  | .rom => ofBytes ((List.range size).map fun i => Config.romByte (a % 0x40000 + i))
  | _ => ofBytes (Memory.reads s.wck.shared a size)

/-- A view after a store of the low `size` bytes of `x`, least significant first; a store to the ROM changes nothing. -/
def CoreView.stored (v : CoreView) (p : Place) (a size x : Nat) : CoreView :=
  let put (m : Nat → Byte) : Nat → Byte := fun k => if a ≤ k ∧ k < a + size then BitVec.ofNat 8 (x / 256 ^ (k - a)) else m k
  match p with
  | .localMem => { v with localMem := put v.localMem }
  | .sharedMem => { v with shared := put v.shared }
  | _ => v

/-- The load `i` of `size` bytes puts `ext` of the bytes at its address into g d. -/
def LoadsInto (i : Fin 4 → BitVec 24 → EccResult → Instr) (op size : Nat) (ext : Nat → Word64) : Prop :=
  ∀ (n : Fin 4) (w : BitVec 24) (s : State) (p : Place), s.issues n op w → fd w < 32 → fa w < 32 →
    s.wickAddress n w % size = 0 → placeOf (s.wickAddress n w) size = some p → p ≠ .device → (p = .rom → n = 0) →
    ∃ t, exec (i n w .clean) s = .next t ∧
      WickStep s t n ((s.nextView n).setG (fd w) (ext (s.loaded n p (s.wickAddress n w) size)))

/-- The store `i` writes the low `size` bytes of g v at its address. -/
def StoresFrom (i : Fin 4 → BitVec 24 → Instr) (op size : Nat) : Prop :=
  ∀ (n : Fin 4) (w : BitVec 24) (s : State) (p : Place), s.issues n op w → fd w < 32 → fa w < 32 →
    s.wickAddress n w % size = 0 → placeOf (s.wickAddress n w) size = some p → p ≠ .device → (p = .rom → n = 0) →
    ∃ t, exec (i n w) s = .next t ∧
      WickStep s t n ((s.nextView n).stored p (s.wickAddress n w) size ((s.core n).getG (fd w)).toNat)

/-- The atomic `i` on the 64-bit word at g a of local or shared memory: g d takes the old word, the word takes `f`. -/
def AtomicOn (i : Fin 4 → BitVec 24 → EccResult → Instr) (op : Nat) (f : (d b old : Word64) → Word64) : Prop :=
  ∀ (n : Fin 4) (w : BitVec 24) (s : State) (p : Place), s.issues n op w → formatR w →
    ((s.core n).getG (fa w)).toNat % 8 = 0 → placeOf ((s.core n).getG (fa w)).toNat 8 = some p →
    p = .localMem ∨ p = .sharedMem →
    let a := ((s.core n).getG (fa w)).toNat
    let old := BitVec.ofNat 64 (s.loaded n p a 8)
    ∃ t, exec (i n w .clean) s = .next t ∧
      WickStep s t n (((s.nextView n).setG (fd w) old).stored p a 8
        (f ((s.core n).getG (fd w)) ((s.core n).getG (fb w)) old).toNat)

/-- The load, store or atomic `i` at address `a` of `size` bytes raises 0x03 misaligned and 0x04 where the map has no such place
or the core may not reach it. -/
def ChecksAccess (i : Instr) (s : State) (n : Fin 4) (op : MemOp) (word : Bool) (a size : Nat) : Prop :=
  (a % size ≠ 0 → Raises i s n 0x03 (BitVec.ofNat 32 a)) ∧
  (a % size = 0 → placeOf a size = none → Raises i s n 0x04 (BitVec.ofNat 32 a)) ∧
  (∀ p, a % size = 0 → placeOf a size = some p → s.mayAccess n op word a p = false → Raises i s n 0x04 (BitVec.ofNat 32 a))

/-! ### Wick: control registers, sources and waiting (R297, R304, R312 to R317) -/

/-- An MFC of control register `k` gives `v` (R297, R304). -/
def ControlReads (k : BitVec 12) (v : Nat → WickCore → Word64) : Prop :=
  ∀ (n : Fin 4) (w : BitVec 24) (s : State), s.issues n 0x58 w → fd w < 32 → fa w = 0 → BitVec.extractLsb 11 0 w = k →
    ∃ t, exec (.mfc n w) s = .next t ∧ WickStep s t n ((s.nextView n).setG (fd w) (v n (s.core n)))

/-- An MTC of control register `k` on the cores that `may` names leaves `c' core (g a)` (R297, R304). -/
def ControlWrites (k : BitVec 12) (may : Fin 4 → Prop) (c' : State → WickCore → Word64 → WickCore) : Prop :=
  ∀ (n : Fin 4) (w : BitVec 24) (s : State), s.issues n 0x59 w → fd w = 0 → fa w < 32 → BitVec.extractLsb 11 0 w = k → may n →
    ∃ t, exec (.mtc n w) s = .next t ∧ WickStepTo s t n (s.nextView n) (c' s (s.core n) ((s.core n).getG (fa w)))

/-- Some source targeted at core `n` is pending and enabled (WFI). -/
def State.awaits (s : State) (n : Nat) : Prop :=
  ∃ src, src < 512 ∧ s.bit (R.EVT_SRC src) F.EVT_SRC_pending = true ∧ s.bit (R.EVT_SRC src) F.EVT_SRC_enable = true ∧
    s.fld (R.EVT_SRC src) F.EVT_SRC_target = n

/-- Core `n` waits on the instruction, which runs again; nothing else has changed. -/
structure Stalled (s t : State) (n op : Nat) (w : BitVec 24) : Prop where
  run : (t.core n).run = .waiting
  stalled : (t.core n).stalled = some (op, w)
  pc : (t.core n).pc = (s.core n).pc
  general : ∀ r, (t.core n).getG r = (s.core n).getG r
  stream : ∀ r, (t.core n).getS r = (s.core n).getS r
  hidden : (t.core n).hidden = (s.core n).hidden
  localMem : (t.core n).mem = (s.core n).mem
  cores : ∀ m, m ≠ n → t.core m = s.core m

/-- A source that may be delivered to core `n` below priority `rp`: released, enabled, unmasked, targeted, of lower priority value,
ie set and ex clear (R313, R352). -/
def State.eligible (s : State) (n rp src : Nat) : Prop :=
  src < 512 ∧ (s.core n).ie = true ∧ (s.core n).ex = false ∧ s.bit (R.EVT_SRC src) F.EVT_SRC_released = true ∧
    s.bit (R.EVT_SRC src) F.EVT_SRC_enable = true ∧ s.bit (R.EVT_SRC src) F.EVT_SRC_mask = false ∧
    s.fld (R.EVT_SRC src) F.EVT_SRC_target = n ∧ s.fld (R.EVT_SRC src) F.EVT_SRC_priority < rp

/-- The winner among the eligible sources: the lowest priority value, within it the lowest number (R313). -/
def State.wins (s : State) (n rp src : Nat) : Prop :=
  s.eligible n rp src ∧ ∀ o, s.eligible n rp o →
    s.fld (R.EVT_SRC src) F.EVT_SRC_priority < s.fld (R.EVT_SRC o) F.EVT_SRC_priority ∨
    (s.fld (R.EVT_SRC src) F.EVT_SRC_priority = s.fld (R.EVT_SRC o) F.EVT_SRC_priority ∧ src ≤ o)

/-! ### Shared words -/

/-- The command is answered with a next state of which `P` holds. -/
def Leads (i : Instr) (s : State) (P : State → Prop) : Prop := ∃ t, exec i s = .next t ∧ P t

/-- Host software's BAR0 accesses are served at once: the device is powered, out of RESET, not in BANKED, and the BARs are enabled
(R324, R405). -/
def State.hostOpen (s : State) : Prop := s.inStates [.off, .reset, .banked] = false ∧ s.hst.d3hot = false

/-- Every register but those listed reads as before. -/
def SameRegsBut (ks : List Nat) (s t : State) : Prop := ∀ k, k ∉ ks → t.rd k = s.rd k

/-- A flag register's bit is set and its event counter has gone up by one (R7). -/
def FlagSet (s t : State) (flags bit counter : Nat) : Prop :=
  t.fld flags ⟨bit, bit⟩ = 1 ∧ t.rd counter = s.rd counter + 1

/-- An enabled source becomes pending (R349). -/
def Raised (s t : State) (src : Nat) : Prop :=
  s.bit (R.EVT_SRC src) F.EVT_SRC_enable = true → t.bit (R.EVT_SRC src) F.EVT_SRC_pending = true

/-! ### Wick: queues, bulk port and services (R305 to R309, R321, R322) -/

/-- A queue instruction is well-formed: g registers in d and a, bits [7:6] zero, and s, w and ltag zero where it does not use them. -/
def queueForm (w : BitVec 24) (usesS usesW usesL : Bool) : Prop :=
  fd w < 32 ∧ fa w < 32 ∧ BitVec.extractLsb 7 6 w = 0 ∧ (usesS = false → BitVec.extractLsb 11 9 w = 0) ∧
    (usesW = false → w.getLsbD 8 = false) ∧ (usesL = false → BitVec.extractLsb 5 0 w = 0)

/-- The queue that g a names and the stream register that field s names. -/
def State.namedQueue (s : State) (n : Nat) (w : BitVec 24) : Nat := ((s.core n).getG (fa w)).toNat % 64
def namedStream (w : BitVec 24) : Nat := (BitVec.extractLsb 11 9 w).toNat

/-- Core `n` runs on at the next instruction with a status in g d; its other general registers and the other cores are as before. -/
def StatusIn (s t : State) (n : Nat) (w : BitVec 24) (st : Nat) : Prop :=
  (t.core n).pc = (s.core n).pc + 4 ∧ (t.core n).run = .running ∧
    (∀ r, (t.core n).getG r = if r = fd w ∧ r ≠ 0 then BitVec.ofNat 64 st else (s.core n).getG r) ∧
    (∀ m, m ≠ n → t.core m = s.core m)

/-- Core `n` has a service call of this number in front, and core 0 serves it (R321). -/
def State.calls (s : State) (n : Fin 4) (number : Nat) : Prop :=
  s.wck.svc.head? = some n ∧ (s.core n).run = .waiting ∧ s.coresStopped = false ∧ (s.core 0).run ≠ .halted ∧
    s.blw.state ≠ .fault ∧ s.fld (R.WCK_SVC_NUM n) F.WCK_SVC_NUM_number = number

/-- Core `n` resumes with g1 the status and g2 the value, and its call is no longer in line (R321). -/
def ServiceEnded (s t : State) (n : Fin 4) (status value : Nat) : Prop :=
  (t.core n).run = .running ∧ (t.core n).pc = (s.core n).pc + 4 ∧ (t.core n).getG 1 = BitVec.ofNat 64 status ∧
    (t.core n).getG 2 = BitVec.ofNat 64 value ∧ t.wck.svc = s.wck.svc.drop 1 ∧
    t.fld (R.WCK_SVC_NUM n) F.WCK_SVC_NUM_pending = 0


/-! ### Registers, commands and frames -/

/-- Every register outside the windows listed (bits [25:20] of its offset, R12) reads as before. -/
def RegsOutside (ws : List Nat) (s t : State) : Prop := ∀ k, k / 0x100000 ∉ ws → t.rd k = s.rd k

/-- A value with the fields apart and inside 32 bits. -/
def fieldsApart (l : List FieldInfo) : Prop :=
  (∀ f ∈ l, f.field.lo ≤ f.field.hi ∧ f.field.hi < 32) ∧
    l.Pairwise fun f g => f.field.hi < g.field.lo ∨ g.field.hi < f.field.lo

/-- The registers whose write or whose present settings do more than R6 to R10 say: (first key, stride, count). -/
def effectArrays : List (Nat × Nat × Nat) :=
  [(R.LANE_PORT_CFG 0, 0x1000, 16), (R.LANE_PORT_CMD 0, 0x1000, 16), (R.LANE_CC_CMD 0, 0x1000, 16), (R.LANE_EYE_CTRL 0, 0x100, 64),
   (R.INT_CTX_CFG 0, 64, 64), (R.INT_CTX_WIDTH 0, 64, 64), (R.INT_CTX_FILL 0, 64, 64), (R.INT_CTX_PAIR 0, 64, 64),
   (R.INT_REINJ_CMD, 4, 1), (R.INT_REINJ_MASK_LO, 4, 5), (R.COR_CTX_CMD 0, 64, 64), (R.COR_STORE_DATA, 4, 1), (R.COR_LUT_DATA, 4, 1),
   (R.COR_LOAD_CMD, 4, 1), (R.COR_CAP_CMD, 4, 1), (R.STI_CMD, 4, 1), (R.STI_KNOT_DATA, 4, 1), (R.ANV_CMD, 4, 1),
   (R.ANV_PARAM_D2, 4, 1), (R.ANV_KS_D3, 4, 1), (R.ANV_LUT_DATA, 4, 1), (R.ANV_LOAD_CMD, 4, 1), (R.BLM_CMD, 4, 1), (R.BLM_CFG, 4, 7),
   (R.ENC_CFG 0, 0x100, 4), (R.ENC_STILL 0, 0x100, 4), (R.ENC_CMD 0, 0x100, 4), (R.ENC_TRG_CFG 0, 64, 16),
   (R.ENC_TRG_NEXT_LO 0, 64, 16), (R.ENC_TRG_NEXT_HI 0, 64, 16), (R.ENC_TRG_PERIOD 0, 64, 16), (R.ENC_TRG_MININT 0, 64, 16),
   (R.ENC_LAT_CFG 0, 16, 16), (R.ENC_LAT_CMD 0, 16, 16), (R.TNG_LINK_CFG 0, 32, 8), (R.TNG_CH_WIDTH 0, 32, 1024),
   (R.OST_CMD 0, 0x100, 8), (R.CMP_STATE_HANDLE, 4, 1), (R.CMP_CMD, 4, 1), (R.CMP_TBL_DATA, 4, 1), (R.CMP_ENG_CFG 0, 64, 8),
   (R.HRT_AP_CMD 0, 32, 5), (R.HRT_WM, 4, 1), (R.HRT_SPILL_LO, 4, 3), (R.WCK_SWI 0, 0x100, 4), (R.WCK_SVC_DONE 0, 0x100, 4),
   (R.WCK_SVC_RET_LO 0, 0x100, 4), (R.WCK_SVC_RET_HI 0, 0x100, 4), (R.WCK_WDOG 0, 0x100, 4), (R.HST_QUENCH, 4, 1),
   (R.HST_BP_BASE_HI, 4, 1), (R.HST_BP_CFG, 4, 1), (R.HST_BP_HANDLE, 4, 1), (R.HST_Q_CFG 0, 64, 64), (R.HST_Q_CTRL 0, 64, 64), (R.HST_RING_CFG 0, 64, 64),
   (R.HST_RING_BASE_LO 0, 64, 64), (R.HST_RING_BASE_HI 0, 64, 64), (R.HST_RING_WB_LO 0, 64, 64), (R.HST_RING_WB_HI 0, 64, 64),
   (R.EVT_SRC 0, 4, 512), (R.EVT_LTN_CFG, 4, 1), (R.BLW_CMD, 4, 1), (R.BLW_THERM, 4, 1), (R.TIM_CFG, 4, 1), (R.TIM_HOST_OFS_HI, 4, 1),
   (R.TIM_QKEY, 4, 1), (R.TIM_PP_CFG 0, 0x100, 2), (R.TMP_CMD, 4, 1), (R.SEC_PROV_DATA 0, 4, 16), (R.SEC_PROV_CMD, 4, 1),
   (R.SEC_DBG_CMD, 4, 1)]

/-- A register that R6 to R10 describe whole. -/
def plainRegister (k : Nat) : Prop := ∀ e ∈ effectArrays, regIdx e.1 e.2.1 e.2.2 k = none

/-- The registers with a read-clear field but HRT_FREE_LW (R6): (first key, stride, count, field). -/
def readClear : List (Nat × Nat × Nat × Field) :=
  [(R.INT_LANE_LEVEL 0, 32, 16, F.INT_LANE_LEVEL_high_water), (R.STI_STORE_HW, 4, 1, F.STI_STORE_HW_high_water),
   (R.BLM_OPEN_HW, 4, 1, F.BLM_OPEN_HW_high_water), (R.ENC_UNCERT 0, 0x100, 4, F.ENC_UNCERT_uncert),
   (R.TNG_PEND_HW, 4, 1, F.TNG_PEND_HW_high_water), (R.HRT_STARVE, 4, 1, F.HRT_STARVE_classes),
   (R.HST_Q_LEVEL 0, 64, 64, F.HST_Q_LEVEL_high_water)]

/-- The LO registers whose read leaves the other parts of the value in HI registers (R6): (first key, stride, count, the value of the
n-th, its HI registers). -/
def State.loRegisters (s : State) : List (Nat × Nat × Nat × (Nat → Nat) × (Nat → List Nat)) :=
  [(R.ENC_COUNT_LO 0, 0x100, 4, fun n => (s.enc n).count.toNat, fun n => [R.ENC_COUNT_HI n]),
   (R.INT_CTX_SEQ_LO 0, 64, 64, fun c => (s.ictx c).seq, fun c => [R.INT_CTX_SEQ_HI c]),
   (R.BLM_SERIAL_LO, 4, 1, fun _ => s.blm.serial, fun _ => [R.BLM_SERIAL_HI]),
   (R.BLM_SEQ_LO, 4, 1, fun _ => s.blm.lastSeq, fun _ => [R.BLM_SEQ_HI]),
   (R.OST_SEQ_LO 0, 0x100, 8, fun u => (s.ostUnit u).run.outSeq, fun u => [R.OST_SEQ_HI u]),
   (R.HST_CMD_SEQ_LO, 4, 1, fun _ => s.hst.lastSeq, fun _ => [R.HST_CMD_SEQ_HI]),
   (R.HST_BP_PTR_LO, 4, 1, fun _ => s.hst.bpPtr, fun _ => [R.HST_BP_PTR_HI]),
   (R.TIM_NOW_LO, 4, 1, fun _ => s.tim.counter, fun _ => [R.TIM_NOW_MID, R.TIM_NOW_HI]),
   (R.TIM_OFS_LO, 4, 1, fun _ => (s.tim.offset % 2 ^ 64).toNat, fun _ => [R.TIM_OFS_HI])]

/-- The registers of which a read does more, or gives another value, than R6 says of the stored fields: (first key, stride, count). -/
def shownArrays : List (Nat × Nat × Nat) :=
  [(R.BLW_REV, 4, 1), (R.BLW_STATE, 4, 1), (R.BLW_BOOT, 4, 1), (R.ENC_COUNT_LO 0, 0x100, 4), (R.ENC_TRG_NEXT_LO 0, 64, 16),
   (R.ENC_TRG_NEXT_HI 0, 64, 16), (R.ENC_UNCERT 0, 0x100, 4), (R.LANE_CDR 0, 0x100, 64), (R.INT_CTX_SEQ_LO 0, 64, 64),
   (R.INT_LANE_LEVEL 0, 32, 16), (R.COR_CTX_STATUS 0, 64, 64), (R.COR_STORE_DATA, 4, 1), (R.COR_LUT_DATA, 4, 1),
   (R.STI_KNOT_DATA, 4, 1), (R.STI_STORE_HW, 4, 1), (R.ANV_PARAM_D0, 4, 3), (R.ANV_STATUS, 4, 1), (R.ANV_LUT_DATA, 4, 1),
   (R.BLM_SERIAL_LO, 4, 1), (R.BLM_SEQ_LO, 4, 1), (R.BLM_OPEN_HW, 4, 1), (R.TNG_PEND_HW, 4, 1), (R.OST_SEQ_LO 0, 0x100, 8),
   (R.CMP_STATUS, 4, 1), (R.CMP_ENG_STATUS 0, 64, 8), (R.CMP_TBL_DATA, 4, 1), (R.HRT_FREE_LW, 4, 1), (R.HRT_STARVE, 4, 1),
   (R.EMB_JNL_STATUS, 4, 1), (R.EMB_JNL_WEAR, 4, 1), (R.EMB_JNL_BACKLOG, 4, 1), (R.EMB_ACK_DATA, 4, 1), (R.EMB_SUSPECT, 4, 1),
   (R.WCK_CORE_STATUS 0, 0x100, 4), (R.WCK_PC 0, 0x100, 4), (R.WCK_EPC 0, 0x100, 4), (R.WCK_BADADDR 0, 0x100, 4),
   (R.HST_CMD_SEQ_LO, 4, 1), (R.HST_BP_PTR_LO, 4, 1), (R.HST_Q_LEVEL 0, 64, 64), (R.HST_QUENCH, 4, 1), (R.EVT_GRP_STATUS 0, 32, 32),
   (R.TIM_NOW_LO, 4, 1), (R.TIM_OFS_LO, 4, 1), (R.TIM_STATUS, 4, 1), (R.TIM_RATE, 4, 1), (R.TIM_MPD, 4, 1), (R.TIM_GPIO_IN, 4, 1),
   (R.TIM_QKEY, 4, 1), (R.TMP_STATUS, 4, 1), (R.TMP_COEF_DATA, 4, 1), (R.SEC_STATUS, 4, 1), (R.SEC_BOOT_FAILS, 4, 1),
   (R.SEC_DEVID 0, 4, 4), (R.SEC_DBG_CHAL 0, 4, 8), (R.SEC_MEAS_DATA, 4, 1), (R.SEC_PUBKEY_DATA, 4, 1)]

/-- A register that reads as its stored fields, without an effect of the read. -/
def shownPlain (k : Nat) : Prop := ∀ e ∈ shownArrays, regIdx e.1 e.2.1 e.2.2 k = none

/-- A completer abort has left, logged by AER as bar_error (R324, R325). -/
def Aborted (s t : State) : Prop :=
  t.out = .completerAbort :: s.out ∧ FlagSet s t R.HST_FLAGS 6 (R.HST_EVCNT 6) ∧ Raised s t 486 ∧ RegsOutside [0xE, 0xF] s t ∧
    { t with regs := s.regs, evt := s.evt, out := s.out } = s

/-- Host software reads a register: the value goes out, and the state is `s` but for `P`. -/
def ReadsAs (i : Instr) (s : State) (v : Reg32) : Prop := Leads i s fun t => t.out = .readData v :: s.out

/-- The first word of a response (R342): type 0x21, opcode, state code, status, the sequence number of the command. -/
def responseW0 (op code status : Nat) (w : Word) : Word :=
  (0x21 : BitVec 8) ++ BitVec.ofNat 12 op ++ BitVec.ofNat 4 code ++ BitVec.ofNat 8 status ++ BitVec.extractLsb 39 0 w

/-- A command packet with first word `w` and arguments `args` is at the head of Q0 and core 0 takes it; `rest` follows it (R343). -/
structure State.commandWaits (s : State) (op : Nat) (w : Word) (args : List Word) (rest : List QSlot) : Prop where
  packet : ∃ p len, (s.queue 0).slots = .closed p (len :: w :: args) :: rest
  type : BitVec.extractLsb 71 64 w = 0x20
  opcode : (BitVec.extractLsb 63 52 w).toNat = op
  open0 : s.queueOn 0 = true
  open1 : s.queueOn 1 = true
  room : slotsLevel (s.queue 1).slots + 3 ≤ s.queueDepth 1
  core0 : (s.core 0).run ≠ .halted
  served : s.blw.state ∈ ([.boot, .ready, .armed, .run, .hold, .fault] : List DevState)
  rom : s.blw.state = .boot → s.blw.firmware = false
  pushing : s.blw.pushing = false
  idle : s.hst.cmd = none
  recovered : s.rcv.answers = []

/-- The command has been taken and answered on Q1 (R342, R343). -/
structure Answered (s t : State) (op status value : Nat) (w : Word) (rest : List QSlot) : Prop where
  taken : (t.queue 0).slots = rest
  response : (t.queue 1).slots = (s.queue 1).slots ++
    [.closed 0x40 [(0x80 : BitVec 8) ++ (0x40 : BitVec 8) ++ (0 : BitVec 40) ++ (2 : BitVec 16),
      responseW0 op (devCode t.blw.state) status w, BitVec.ofNat 72 value]]
  idle : t.hst.cmd = none
  seq : t.hst.lastSeq = (BitVec.extractLsb 39 0 w).toNat

/-- The host command in execution has ended with a status and a result value (R342, R343): its response stands on Q1, where that has room. -/
def CmdEnded (s t : State) (status value : Nat) : Prop :=
  ∀ c, s.hst.cmd = some c → s.queueOn 1 = true → s.queueRoom 1 3 = true → t.hst.cmd = none ∧ ∃ x w0 : Word,
    (t.queue 1).slots = (s.queue 1).slots ++ [.closed 0x40 [x, w0, BitVec.ofNat 72 (value % 2 ^ 64)]] ∧
      BitVec.extractLsb 71 64 w0 = 0x21 ∧ (BitVec.extractLsb 63 52 w0).toNat = c.opcode % 4096 ∧
      (BitVec.extractLsb 51 48 w0).toNat = devCode t.blw.state ∧ (BitVec.extractLsb 47 40 w0).toNat = status % 256 ∧
      (BitVec.extractLsb 39 0 w0).toNat = c.seq % 2 ^ 40

/-- Beside the host interface, the journal and their events a command has changed nothing. -/
def OnlyAnswers (s t : State) : Prop :=
  { t with regs := s.regs, evt := s.evt, hst := s.hst, jnl := s.jnl } = s ∧ RegsOutside [0xC, 0xE, 0xF] s t

/-- The host commands with their opcodes, argument counts and legal states (R344). -/
def hostCommands : List (Instr × Nat × Nat × List DevState) :=
  [(.identify, 0x001, 0, [.boot, .ready, .armed, .run, .hold, .fault]), (.reset, 0x002, 0, [.boot, .ready, .armed, .run, .hold, .fault]),
   (.bootPush, 0x003, 2, [.boot]), (.load, 0x010, 1, [.ready, .armed]), (.unload, 0x011, 0, [.armed]), (.start, 0x012, 0, [.armed]),
   (.stop, 0x013, 0, [.run, .hold]), (.hold, 0x014, 0, [.run]), (.resume, 0x015, 0, [.hold]), (.bank, 0x016, 0, [.ready, .armed]),
   (.hrtAlloc, 0x020, 1, [.ready, .armed, .run, .hold]), (.hrtAllocPin, 0x021, 1, [.ready, .armed, .run, .hold]),
   (.hrtFree, 0x022, 1, [.ready, .armed, .run, .hold]), (.hrtPin, 0x023, 1, [.ready, .armed, .run, .hold]),
   (.hrtUnpin, 0x024, 1, [.ready, .armed, .run, .hold]), (.hrtQuery, 0x025, 1, [.ready, .armed, .run, .hold]),
   (.timeRestep, 0x030, 0, [.ready, .armed, .run, .hold]), (.attest, 0x040, 5, [.ready, .armed, .run, .hold]),
   (.snuff, 0x050, 1, [.ready, .armed, .run, .hold])]


/-! ### Resets, power and the device state -/

/-- The command has written registers of the windows listed and raised sources, and outside BANKED has done nothing else. -/
def OnlySignals (ws : List Nat) (s t : State) : Prop :=
  s.blw.state ≠ .banked → RegsOutside (0xF :: ws) s t ∧ { t with regs := s.regs, evt := s.evt } = s

/-- A DEVICE reset with a cause (R11, R393): RESET; the POR domain, the encoder counts, the time counter, the journal's durable
items and the fuses kept; every other register at its reset value, unless QUENCH_N is asserted; the cores in reset, no queue, no mark, no buffer. -/
structure DeviceResetTo (s t : State) (cause : Nat) : Prop where
  state : t.blw.state = .reset
  cause : t.fld R.BLW_RESET_CAUSE F.BLW_RESET_CAUSE_cause = cause
  links : t.fld R.BLW_RESET_CAUSE F.BLW_RESET_CAUSE_link_resets = s.fld R.BLW_RESET_CAUSE F.BLW_RESET_CAUSE_link_resets
  por : ∀ k r, regInfo k = some r → r.domain = .por → k ≠ R.BLW_RESET_CAUSE → t.rd k = s.rd k
  device : s.hst.quenchPin = false → ∀ k, (∀ r, regInfo k = some r → r.domain ≠ .por) → k ≠ R.TNG_CAP → t.rd k = regReset k
  quench : s.hst.quenchPin = true → t.bit R.HST_QUENCH F.HST_QUENCH_quench = true
  kept : t.pos.enc = s.pos.enc ∧ t.tim.counter = s.tim.counter ∧ t.jnl.items = s.jnl.items ∧ t.sec.fuses = s.sec.fuses ∧
    t.sec.bootFails = s.sec.bootFails ∧ t.blw.pushed = s.blw.pushed ∧ t.ticks = s.ticks ∧ t.pending = s.pending
  cores : ∀ n, t.core n = {}
  empty : t.hst.queues = [] ∧ t.hst.cmd = none ∧ t.tng.marks = [] ∧ t.buffers = [] ∧ t.rcp.loaded = false

/-- A reset of the POR domain with a cause (R11, R393): every register at its reset value, but for the cause and the grade's
temperatures; the journal's durable items and the fuses kept. -/
structure PorResetTo (s t : State) (cause : Nat) (d : DevState) : Prop where
  state : t.blw.state = d
  por : t.blw.porAsserted = true
  cause : t.fld R.BLW_RESET_CAUSE F.BLW_RESET_CAUSE_cause = cause
  regs : s.hst.quenchPin = false ∨ d = .off → ∀ k, k ∉ [R.BLW_RESET_CAUSE, R.BLW_STATE, R.BLW_THERM, R.TNG_CAP] → t.rd k = regReset k
  therm : s.grade = .commercial → s.hst.quenchPin = false ∨ d = .off → t.rd R.BLW_THERM = regReset R.BLW_THERM
  kept : t.jnl.items = s.jnl.items ∧ t.sec.fuses = s.sec.fuses ∧ t.grade = s.grade ∧ t.pending = s.pending
  cores : ∀ n, t.core n = {}
  fresh : t.ticks = 0 ∧ t.pos.enc = [] ∧ t.tim.counter = 0 ∧ t.hst.queues = [] ∧ t.tng.marks = [] ∧ t.buffers = []

/-- A reset of the LINK domain alone (R324, R393): counted, the device state as it was, every register of the domain outside Hearth at
its reset value, those of the other domains outside the global, Hearth, events and Temper windows as before. -/
structure LinkResetTo (s t : State) : Prop where
  state : t.blw.state = s.blw.state
  count : t.fld R.BLW_RESET_CAUSE F.BLW_RESET_CAUSE_link_resets =
    min 65535 (s.fld R.BLW_RESET_CAUSE F.BLW_RESET_CAUSE_link_resets + 1)
  cause : t.fld R.BLW_RESET_CAUSE F.BLW_RESET_CAUSE_cause = s.fld R.BLW_RESET_CAUSE F.BLW_RESET_CAUSE_cause
  link : ∀ k r, regInfo k = some r → r.domain = .link → k / 0x100000 ≠ 0xB → t.rd k = regReset k
  others : ∀ k r, regInfo k = some r → r.domain ≠ .link → k / 0x100000 ∉ [0, 0xB, 0xF, 0x11] → t.rd k = s.rd k
  bars : t.hst.d3hot = false ∧ t.hst.linkUp = false
  queues : t.hst.queues = s.hst.queues

/-- The device has entered FAULT with a cause (R25, R402): the tick and the cause recorded, cores 1 to 3 stopped, the pixel path
empty. -/
structure FaultEntered (s t : State) (cause : Nat) : Prop where
  state : t.blw.state = .fault
  cause : t.blw.faultCause = cause
  tick : t.blw.faultTick = some s.ticks
  code : t.fld R.BLW_STATE F.BLW_STATE_state = 8
  cores : ∀ n, 0 < n → n < 4 → (t.core n).run = .reset ∨ (t.core n).run = .halted
  path : t.int.ringWrites = [] ∧ t.int.eligible = [] ∧ t.cor.out = [] ∧ t.sti.ivals = [] ∧ t.blm.buffer = [] ∧ t.fed.running = false

/-- The states from which an error takes the device to FAULT. -/
def State.mayFault (s : State) : Prop := s.blw.state ∉ ([.off, .reset, .fault] : List DevState)

/-- Allocation port 0 takes an operation now: the device in READY to HOLD, the port not busy (R262). -/
def State.apFree (s : State) : Prop :=
  s.blw.state ∈ ([.ready, .armed, .run, .hold] : List DevState) ∧ s.bit (R.HRT_AP_STATUS 0) F.HRT_AP_STATUS_busy = false


/-- A firmware image does not pass R411, with the reason code: 1 without a header or with a bad format, 4 for an svn below fw_svn_min. -/
def State.imageFails (s : State) (i : FirmwareImage) (reason : Nat) : Prop :=
  (i.header = false ∧ reason = 1) ∨
  (i.header = true ∧ i.check = .accepted ∧ i.svn.toNat < s.sec.fuses.fwSvnMin ∧ reason = 4) ∨
  (∃ r : Fin 7, i.header = true ∧ i.check = .rejected r ∧ r ≠ 0 ∧ reason = r)

/-- The firmware of an accepted image runs on core 0 (R412): its entry state, register 1 extended, boot_fails cleared. -/
structure FirmwareStarted (s t : State) (i : FirmwareImage) (pushed : Bool) : Prop where
  state : t.blw.state = .boot
  firmware : t.blw.firmware = true ∧ t.blw.pushed = pushed ∧ t.blw.pushing = false
  core : (t.core 0).run = .running ∧ (t.core 0).pc = i.entry ∧ (t.core 0).vbase = i.vbase &&& ~~~0xFFF ∧
    (t.core 0).ifsp = i.ifsp &&& ~~~0xF ∧ (t.core 0).iflim = i.iflim ∧ (t.core 0).ie = false ∧ (t.core 0).ex = false ∧
    (t.core 0).rp = 16 ∧ ∀ r, (t.core 0).getG r = (s.core 0).getG r
  security : t.sec.bootFails = 0 ∧ t.sec.fwSvn = i.svn.toNat ∧
    t.meas 1 = Config.shake256 (toBytes 64 (s.meas 1).toNat ++ toBytes 64 i.digest.toNat)
  cores : ∀ m, m ≠ 0 → t.core m = s.core m

/-- Queue `q` is enabled, or has free pages for the firmware to enable it with 32 (R329, R395, R397). -/
def State.mayOpen (s : State) (q : Nat) : Prop := s.queueOn q = true ∨ s.pagesUsed q ≤ 960

/-! ### Loads, queues and rings -/

/-- A load or unload is in a step of R319, the device READY or ARMED. -/
def State.loadIn (s : State) (r : LoadRun) (step : Nat) : Prop :=
  s.rcp.run = some r ∧ r.step = step ∧ s.blw.state ∈ ([.ready, .armed] : List DevState)

/-- A ring is enabled with a kind and a queue, in a device that serves rings (R338, R339). -/
def State.ringServes (s : State) (d kind : Nat) : Prop :=
  s.bit (R.HST_RING_CFG d) F.HST_RING_CFG_enable = true ∧ s.fld (R.HST_RING_CFG d) F.HST_RING_CFG_kind = kind ∧
    s.blw.state ∉ ([.off, .reset, .banked] : List DevState)

/-- The entries in a ring between the device pointer and the host pointer (R338). -/
def State.ringEntries (s : State) (d : Nat) : Nat := (s.rd (R.HST_RING_HOST d) - s.rd (R.HST_RING_DEV d)).toNat

/-- A ring's device pointer has moved by `n` entries and been written back (R338). -/
def Advanced (s t : State) (d n : Nat) (cls : DmaClass) : Prop :=
  t.rd (R.HST_RING_DEV d) = s.rd (R.HST_RING_DEV d) + BitVec.ofNat 32 n ∧
    t.out.head? = some (.hostWrite cls false (s.ringWb d) (toBytes 8 (s.rd (R.HST_RING_DEV d) + BitVec.ofNat 32 n).toNat))

/-- A ring has stopped with an error code (R338); an error of PCI Express is also logged by AER (R324, R341). -/
def RingStopped (s t : State) (d code : Nat) : Prop :=
  t.rd (R.HST_RING_ERR d) = BitVec.ofNat 32 code ∧ t.fld (R.HST_RING_CFG d) F.HST_RING_CFG_enable = 0 ∧
    FlagSet s t R.HST_FLAGS 3 (R.HST_EVCNT 3) ∧ Raised s t 483 ∧ t.rd (R.HST_RING_DEV d) = s.rd (R.HST_RING_DEV d) ∧
    t.hst = s.hst ∧ t.out = s.out ∧ (code = 3 → FlagSet s t R.HST_FLAGS 6 (R.HST_EVCNT 6) ∧ Raised s t 486)


/-! ### Time, the plant ports, the security root -/

/-- Plant port `k` is enabled in a device that runs (R374). -/
def State.portRuns (s : State) (k : Nat) : Prop :=
  s.bit (R.TIM_PP_CFG k) F.TIM_PP_CFG_enable = true ∧ s.blw.state ∉ ([.off, .reset, .banked] : List DevState)

/-- The ordinary clock follows a message's sender on its port, in its domain (R366, R372); nothing is forwarded. -/
def State.follows (s : State) (m : PtpMsg) : Prop :=
  s.portRuns m.port ∧ s.bit R.TIM_CFG F.TIM_CFG_tc_en = false ∧ s.fld R.TIM_CFG F.TIM_CFG_source = m.port.val + 1 ∧
    s.fld R.TIM_CFG F.TIM_CFG_domain = m.domain.toNat ∧ ∃ d, s.tim.master = some (m.source, d)

/-- A frame has been received on a port and counted; beside registers and the time base nothing has changed. -/
def Received (s t : State) (k : Nat) : Prop :=
  t.rd (R.TIM_PP_RX_FRAMES k) = s.rd (R.TIM_PP_RX_FRAMES k) + 1 ∧ { t with regs := s.regs, tim := s.tim, evt := s.evt } = s

/-- The clamp of R363 and R368: 34,359,738 × 2^−32 ns per tick. -/
def clampRate (i : Int) : Int := max (-34359738) (min 34359738 i)

/-- The servo has taken an offset `o` (R368). -/
def ServoTook (s t : State) (o : Int) : Prop :=
  let i := clampRate (s.tim.integral - o / 2 ^ s.fld R.TIM_SERVO F.TIM_SERVO_ki)
  t.tim.state = .tracking ∧ t.tim.integral = i ∧ t.tim.rate = clampRate (i - o / 2 ^ s.fld R.TIM_SERVO F.TIM_SERVO_kp) ∧
    t.tim.counter = s.tim.counter ∧ t.tim.offset = o

/-- A step by an offset is decided (R367). -/
def StepDecided (s t : State) (o : Int) : Prop :=
  t.tim.stepOffset = some o ∧ t.tim.offset = o ∧ t.tim.state = s.tim.state ∧ t.tim.counter = s.tim.counter ∧ t.tim.restep = false

/-- What an offset formed does (R365, R367 to R370). -/
def OffsetTaken (s t : State) (o : Int) : Prop :=
  let near := o.natAbs ≤ s.fld R.TIM_CFG F.TIM_CFG_step_thresh * 65536
  (s.tim.state = .unset → StepDecided s t o) ∧
  (s.tim.state = .tracking → near → ServoTook s t o) ∧
  (s.tim.state = .tracking → ¬near → t.tim.state = .holdover ∧ t.tim.rate = s.tim.integral ∧ t.tim.integral = s.tim.integral ∧
    t.fld R.TIM_FLAGS ⟨1, 1⟩ = 1) ∧
  (s.tim.state = .holdover → s.tim.restep = true → StepDecided s t o) ∧
  (s.tim.state = .holdover → s.tim.restep = false → near → ServoTook s t o) ∧
  (s.tim.state = .holdover → s.tim.restep = false → ¬near → t.tim.state = .holdover ∧ t.tim.rate = s.tim.rate)

/-! ### Encoders, latches, triggers -/

/-- Outside BANKED the command has written registers of the encoder, Tongs, Ember, host and event windows alone, and has changed only
positions, marks, journal, queues and gates. -/
def OnlyMotion (s t : State) : Prop :=
  s.blw.state ≠ .banked → RegsOutside [7, 8, 0xC, 0xE, 0xF] s t ∧
    { t with regs := s.regs, pos := s.pos, tng := s.tng, jnl := s.jnl, hst := s.hst, evt := s.evt } = s

/-- Input `n` has counted an edge (R55, R56): `cnt` counts up or down, its instant and direction recorded; after a reversal the period
is invalid, and with edges enough before it the period is the interval between the edges divided by the counts. That a change of B between
the edges (`flipped`) is such a reversal is the model's reading (log 174), and that the division truncates its choice (log 173). -/
def Counted (s t : State) (n : Nat) (up flipped : Bool) (cnt tq smp lt : Nat) : Prop :=
  let e := s.enc n
  (t.enc n).count = (if up then e.count + BitVec.ofNat 56 cnt else e.count - BitVec.ofNat 56 cnt) ∧ (t.enc n).edge = some (tq, smp) ∧
    (t.enc n).edgeLt = lt ∧
    (t.enc n).up = some up ∧ t.bit (R.ENC_STATUS n) F.ENC_STATUS_moving = true ∧ t.bit (R.ENC_STATUS n) F.ENC_STATUS_dir_up = up ∧
    (e.up = some (!up) ∨ (flipped = true ∧ e.up.isSome = true) → t.bit (R.ENC_PERIOD n) F.ENC_PERIOD_valid = false ∧
      FlagSet s t (R.ENC_STATUS n) 2 (R.ENC_EVCNT n 2) ∧ Raised s t (168 + n)) ∧
    (∀ te p, e.edge = some (te, p) → tq - te ≤ 0x7FFFFFFF → (e.up = some up → flipped = false → e.need ≤ 1 → t.bit (R.ENC_PERIOD n) F.ENC_PERIOD_valid = true ∧ t.period n = (tq - te) / cnt)) ∧
    (∀ m, m ≠ n → (t.enc m).count = (s.enc m).count ∧ (t.enc m).edge = (s.enc m).edge)

/-- Input `n` has seen a reference (R51) and no count has changed. -/
def ReferenceSeen (s t : State) (n : Nat) : Prop :=
  FlagSet s t (R.ENC_STATUS n) 3 (R.ENC_EVCNT n 3) ∧ Raised s t (172 + n)

/-- No latch unit is enabled with a source. -/
def State.noLatchOn (s : State) (code : Nat) : Prop :=
  ∀ j, j < 16 → s.bit (R.ENC_LAT_CFG j) F.ENC_LAT_CFG_enable = true → s.fld (R.ENC_LAT_CFG j) F.ENC_LAT_CFG_source ≠ code

/-- Latch unit `j` has captured (R60, R61): with room its three-word packet, of producer 0x81, stands at the end of its queue, and the
next sequence number follows; without room the drop is counted. That a dropped capture takes its sequence number and clears the uncertain
bits is the model's choice (log 170). -/
def Captured (s t : State) (j code lt sample counter : Nat) : Prop :=
  let n := s.fld (R.ENC_LAT_CFG j) F.ENC_LAT_CFG_encoder
  let q := s.fld (R.ENC_LAT_CFG j) F.ENC_LAT_CFG_queue
  sget (fun _ => 0) t.pos.latSeq j = (sget (fun _ => 0) s.pos.latSeq j + 1) % 2 ^ 32 ∧
    (∀ m, m < 4 → (t.enc m).uncertain.getLsbD j = false) ∧
    (s.queueOn q = false → t.rd (R.HST_Q_DROP q) = s.rd (R.HST_Q_DROP q) + 4 ∧ t.rd (R.ENC_LAT_DROP j) = s.rd (R.ENC_LAT_DROP j)) ∧
    (s.queueOn q = true → s.queueRoom q 4 = true → ∃ len w0 : Word, (t.queue q).slots = (s.queue q).slots ++
        [.closed 0x81 [len, w0, s.posAt n lt sample, timeWord counter]] ∧ t.rd (R.ENC_LAT_DROP j) = s.rd (R.ENC_LAT_DROP j) ∧
      BitVec.extractLsb 15 0 len = 3 ∧ (BitVec.extractLsb 71 40 w0).toNat = sget (fun _ => 0) s.pos.latSeq j % 2 ^ 32 ∧
      (BitVec.extractLsb 39 36 w0).toNat = j % 16 ∧ (BitVec.extractLsb 35 34 w0).toNat = n ∧
      (BitVec.extractLsb 33 26 w0).toNat = code % 256 ∧ w0.getLsbD 25 = s.periodValid n ∧ w0.getLsbD 24 = (s.enc n).uncertain.getLsbD j) ∧
    (s.queueOn q = true → s.queueRoom q 4 = false → t.hst = s.hst ∧ t.rd (R.ENC_LAT_DROP j) = s.rd (R.ENC_LAT_DROP j) + 1)

/-- A late point (R64): NEXT has skipped to the first point strictly ahead, the points skipped are counted, and the flag and the source
tell. -/
def TriggerLate (s t : State) (k behind : Nat) : Prop :=
  let u := s.trig k
  let n := behind / u.period + 1
  (t.trig k).next = (if s.trigUp k then u.next + BitVec.ofNat 72 (n * u.period) else u.next - BitVec.ofNat 72 (n * u.period)) ∧
    (t.trig k).late = true ∧ FlagSet s t (R.ENC_TRG_STATUS k) 0 (R.ENC_TRG_LATE_EVT k) ∧
    t.rd (R.ENC_TRG_LATE_PTS k) = s.rd (R.ENC_TRG_LATE_PTS k) + BitVec.ofNat 32 n ∧ t.rd (R.ENC_TRG_FIRED k) = s.rd (R.ENC_TRG_FIRED k) ∧
    Raised s t (192 + k) ∧ t.out = s.out ∧ (s.blw.state ≠ .banked → RegsOutside [7, 0xF] s t ∧
      { t with regs := s.regs, pos := s.pos, evt := s.evt } = s)

/-! ### Camera links -/

/-- A link's bring-up has begun a step: its control packet leaves on the master uplink as the first attempt (R77 to R80). -/
def Asks (s t : State) (l : Nat) (st : BringStep) (write : Bool) (a d : BitVec 32) : Prop :=
  (t.camLink l).step = st ∧ (t.camLink l).sent = some s.ticks ∧ (t.camLink l).second = false ∧
    t.out = .controlPacket (l / 4) (l % 4) (s.camLink l).fast write a d :: s.out

/-- The first `n` lanes from `l` are set to a rate and have no lock. -/
def Receives (t : State) (l n rate : Nat) : Prop :=
  ∀ c, c < n → t.fld (R.LANE_RX_STATUS (l + c)) F.LANE_RX_STATUS_rate = rate ∧ t.laneLocked (l + c) = false

/-- The ConnectionReset of a link at an uplink rate (R77). -/
def connectionReset (l : Nat) (fast : Bool) : Out :=
  .controlPacket (l / 4) (l % 4) fast true (Config.bootstrapAddress 7) Config.connectionReset

/-- A link has entered DISCOVER (R77, R87): ConnectionReset sent at 41.667 Mbit/s and then at 20.833 Mbit/s, receivers at CXP-1 without lock; link_down if it was UP. -/
structure Rediscovers (s t : State) (l : Nat) (excluded : Bool) (since : Nat) : Prop where
  link : t.camLink l = { state := .discover, wimenExcluded := excluded, since := since }
  others : ∀ m, m ≠ l → t.camLink m = s.camLink m
  reset : t.out = connectionReset l false :: connectionReset l true :: s.out
  receivers : Receives t l (s.slotLanes l) 1
  shown : t.fld (R.LANE_LINK_STATUS (l / 4) (l % 4)) F.LANE_LINK_STATUS_state = 1
  lost : (s.camLink l).state = .up → FlagSet s t (R.LANE_PORT_FLAGS (l / 4)) 1 (R.LANE_PORT_EVCNT (l / 4) 1) ∧ Raised s t (208 + l / 4)

/-- A link's bring-up transaction has failed (R77, R79, R80, R83): DISCOVER, in which a link that was there stays; after a switch to the
Wimen rate with that rate excluded and fallback signalled. -/
def StepFailed (s t : State) (l : Nat) : Prop :=
  let x := s.camLink l
  let wimen := x.state = .retune ∧ x.rate = 8 ∧ x.switched = true
  (wimen → Rediscovers s t l true s.ticks ∧ FlagSet s t (R.LANE_PORT_FLAGS (l / 4)) 2 (R.LANE_PORT_EVCNT (l / 4) 2)) ∧
  (¬wimen → Rediscovers s t l x.wimenExcluded (if x.state = .discover then x.since else s.ticks))

/-- A link has entered DOWN (R77): receivers idle; link_down if it was UP. -/
structure GoesDown (s t : State) (l : Nat) : Prop where
  link : t.camLink l = { state := .down, wimenExcluded := (s.camLink l).wimenExcluded, since := s.ticks }
  others : ∀ m, m ≠ l → t.camLink m = s.camLink m
  quiet : t.out = s.out
  receivers : Receives t l (s.slotLanes l) 0
  shown : t.fld (R.LANE_LINK_STATUS (l / 4) (l % 4)) F.LANE_LINK_STATUS_state = 0
  lost : (s.camLink l).state = .up → FlagSet s t (R.LANE_PORT_FLAGS (l / 4)) 1 (R.LANE_PORT_EVCNT (l / 4) 1) ∧ Raised s t (208 + l / 4)

/-- A link has entered UP (R77, R93). -/
def GoesUp (s t : State) (l : Nat) : Prop :=
  (t.camLink l).state = .up ∧ (t.camLink l).rate = (s.camLink l).rate ∧ (t.camLink l).conns = (s.camLink l).conns ∧
    t.fld (R.LANE_LINK_STATUS (l / 4) (l % 4)) F.LANE_LINK_STATUS_state = 4 ∧
    FlagSet s t (R.LANE_PORT_FLAGS (l / 4)) 0 (R.LANE_PORT_EVCNT (l / 4) 0) ∧ Raised s t (208 + l / 4) ∧
    (∀ m, m ≠ l → t.camLink m = s.camLink m)

/-- A connection count that slot, camera and discovery admit (R76). -/
def State.countFits (s : State) (l n : Nat) : Prop :=
  n ∈ [1, 2, 4] ∧ n ≤ s.slotLanes l ∧ n ∈ (s.camLink l).camConns ∧ ∀ c, c < n → (s.camLink l).found.testBit c = true

/-- Every connection of a link's chosen configuration but `lane` has lock. -/
def State.othersLocked (s : State) (l lane : Nat) : Prop :=
  ∀ c, c < (s.camLink l).conns → l + c = lane ∨ s.laneLocked (l + c) = true

/-- A mailbox transaction has ended with a result (R88): the status shows it, and the tags that wait on it have it. -/
def MailEnded (s t : State) (p result code : Nat) : Prop :=
  t.mail p = none ∧ t.rd (R.LANE_CC_STATUS p) = BitVec.ofNat 32 (code * 256 + result) ∧
    (∀ n k, n < 4 → k < 16 → (s.core n).tag k = .pending 10 p → (t.core n).tag k = .ended result) ∧
    (∀ q, q ≠ p → t.mail q = s.mail q)

/-- The lane carries data: it is a connection of an UP link (R77). -/
def State.carries (s : State) (lane : Nat) : Prop :=
  (s.camLink (s.linkOf lane)).state = .up ∧ lane < s.linkOf lane + (s.camLink (s.linkOf lane)).conns

/-! ### Intake and correction -/

/-- The tags that wait on a block command have its result (R307, R308). -/
def TagsEnded (s t : State) (target index result : Nat) : Prop :=
  ∀ n k, n < 4 → k < 16 → (s.core n).tag k = .pending target index → (t.core n).tag k = .ended result

/-- The open line `o` of a context has ended (R97, R98, R101, R103): the next sequence number follows; its flags are set; with a ring the
line waits for its ring write, padded to the width and tagged; without one it is discarded and counted. -/
structure LineEnds (s t : State) (c : Nat) (o : OpenLine) : Prop where
  closed : (t.ictx c).line = none
  next : (t.ictx c).seq = ((s.ictx c).seq + 1) % 2 ^ 40
  latches : (t.ictx c).latches = (s.ictx c).latches
  short : o.px.length < o.width → FlagSet s t (R.INT_CTX_FLAGS c) 0 (R.INT_CTX_EVCNT c 0)
  long : 0 < o.excess → FlagSet s t (R.INT_CTX_FLAGS c) 1 (R.INT_CTX_EVCNT c 1)
  crc : o.crc = true → FlagSet s t (R.INT_CTX_FLAGS c) 2 (R.INT_CTX_EVCNT c 2)
  gated : o.gated = true ∨ s.ringLog2 c = 0 → t.rd (R.INT_CTX_GATED c) = s.rd (R.INT_CTX_GATED c) + 1
  noRing : s.ringLog2 c = 0 → t.int.ringWrites = s.int.ringWrites
  ring : 0 < s.ringLog2 c → ∃ l : Line, t.int.ringWrites = s.int.ringWrites ++ [l] ∧ l.ctx = c ∧ l.seq = (s.ictx c).seq ∧
    l.px = o.px ++ List.replicate (o.width - o.px.length) (o.fill % 2 ^ sampleBits o.fmt) ∧ l.w1 = o.latch.pos ∧
    l.w2 = timeWord o.latch.time ∧ (BitVec.extractLsb 71 32 l.w0).toNat = (s.ictx c).seq % 2 ^ 40 ∧
    (BitVec.extractLsb 31 26 l.w0).toNat = c % 64 ∧ (BitVec.extractLsb 25 22 l.w0).toNat = o.lane ∧
    l.w0.getLsbD 21 = decide (o.px.length < o.width) ∧ l.w0.getLsbD 20 = decide (0 < o.excess) ∧ l.w0.getLsbD 19 = o.crc ∧
    l.w0.getLsbD 17 = o.latch.late ∧
    (l.dropped = true ↔ o.gated = false ∧ (s.deferring || s.backPressed o.lane) = false ∧ 2 ≤ s.heldLines c) ∧
    (l.dropped = true → FlagSet s t (R.INT_CTX_FLAGS c) 3 (R.INT_CTX_EVCNT c 3))

/-- Hearth reaches `n` bytes from `off` of a live buffer at once (R267, R269, R275): in range, no frame of them spilled or under retirement,
the stack neither retraining nor in self-refresh. -/
def State.reaches (s : State) (h : BitVec 32) (b : Buffer) (off n : Nat) : Prop :=
  s.buffer h = some b ∧ off + n ≤ b.size * 65536 ∧ s.hbmBusy = false ∧
    ∀ i ∈ framesOf off n, (b.frame i).isSpilled = false ∧ (h.toNat, i) ∉ s.hrt.retiring

/-- A read of the bytes is granted and finds no poisoned unit (R269, R274). -/
def State.grantsRead (s : State) (h : BitVec 32) (b : Buffer) (off n : Nat) : Prop :=
  s.reaches h b off n ∧ ∀ i, i < n → s.unitPoisoned (byteKey h (off + i)) = false

/-- A write of the bytes is granted (R264, R414): the buffer is not held, and the pool has frames for those not yet backed. -/
def State.grantsWrite (s : State) (h : BitVec 32) (b : Buffer) (off n : Nat) : Prop :=
  s.reaches h b off n ∧ b.held = false ∧
    (b.pinned = true ∨ ((framesOf off n).filter fun i => !(b.frame i).isResident).length ≤ s.fld R.HRT_FREE F.HRT_FREE_free)

/-- A stream data packet on a lane that carries data, with a valid header and CRC, for the one context `c`. -/
def State.takesPacket (s : State) (lane : Fin 64) (x : StreamPacket) (c : Nat) : Prop :=
  s.carries lane ∧ x.headerOk = true ∧ x.crcOk = true ∧
    s.receivers (s.linkOf lane * 256 + x.streamId.toNat) = [c]

/-- The stream of a packet. -/
def State.packetStream (s : State) (lane : Fin 64) (x : StreamPacket) : Nat := s.linkOf lane * 256 + x.streamId.toNat

/-- A re-injection is stopped, or has nothing left to send (R108). -/
def State.reinjOver (s : State) (r : Reinjection) : Prop :=
  (∀ p ∈ s.int.lanes, ∀ o, p.2 = some o → o.line.reinjected = false) ∧
    (r.abort = true ∨ s.blw.state ≠ .armed ∨ (r.todo = [] ∧ ∀ l ∈ s.int.eligible, l.reinjected = false))

/-- The line on a lane can leave it: not held, the stitcher not stalled (R102, R126). -/
def State.laneMoves (s : State) (L : Nat) (o : OnLane) : Prop :=
  s.onLane L = some o ∧ o.held = false ∧ s.anv.stallFrom = none

/-- No stage of a correction set is on, and the context has no fence. -/
def CorSet.allOff (p : CorSet) : Prop :=
  getField p.nr F.COR_CTX_NR_sp_kernel = 0 ∧ p.tnrEn = false ∧ p.usesCoef = false ∧ getField p.lin F.COR_CTX_LIN_lin_en = 0

/-! ### The stitcher -/

/-- The oldest line of a context out of correction, and the segment that the map gives it; the stitcher is not stalled (R130, R160). -/
def State.arrives (s : State) (c : Nat) (l : Line) (i : Nat) : Prop :=
  s.anv.stallFrom = none ∧ s.cor.out.find? (fun l => l.ctx == c) = some l ∧
    i < 16 ∧ ∃ g, (enabledSegs (s.lineSegs l)).find? (fun p => p.2.ctx == c) = some (i, g)

/-- The oldest unformed stitched line `k` is founded as `f` in interval `v`, whose map has the reference segment `r`, which a single
stored line serves, and one other segment `i`, not yet served; line `k + 1` is not founded. -/
structure State.oneSegmentOpen (s : State) (k : Nat) (v : Ival) (f : Founded) (r q i : Nat) (gr gi : SegSet) : Prop where
  next : s.sti.nextForm = k
  founded : s.founded k = some f
  interval : s.ival (k / 16) = some v
  segments : enabledSegs v.segs = [(r, gr), (i, gi)]
  apart : r ≠ i
  reference : r = s.refSeg
  serves : f.serves = [(r, .single q)]
  stored : (s.storedLine r q).isSome = true
  last : s.founded (k + 1) = none

/-- A stitched line has been formed as the next one (R43, R142): its sequence number, position and time come from its founding. -/
def Formed (s t : State) (f : Founded) (k : Nat) (P : StLine → Prop) : Prop :=
  ∃ x : StLine, t.sti.formed = s.sti.formed ++ [x] ∧ t.sti.nextForm = k + 1 ∧ x.k = f.k ∧ x.w1 = f.g ∧ x.w2 = f.w2 ∧
    (BitVec.extractLsb 71 32 x.w0).toNat = f.k % 2 ^ 40 ∧ x.px.length = s.lineWidth ∧ P x

/-- A waiting interval set is in force (R144, R151, R166): what was pending, or what was active. -/
def takesPending (pending : Option α) (active now : α) : Prop :=
  (∀ m, pending = some m → now = m) ∧ (pending = none → now = active)

/-! ### Anvil kernels -/

/-- An Anvil instruction awaiting its place: slice, engine, slot, bits [33:0] of the slot, and the header that closes the bundle. -/
abbrev AnvilCtor := Fin 16 → Fin 8 → Fin 3 → BitVec 34 → Option (BitVec 8) → Instr

/-- The 40 bits of a slot (R175). -/
def anvilSlot (op : Nat) (bits : BitVec 34) : Nat := op * 2 ^ 34 + bits.toNat

/-- Engine `i` of slice `n` runs `e`, whose bundle holds nothing beside place `p` (R174, R183), no pending write, cycles left for one
more bundle, and more bundles before the end of its region (R179 to R182). -/
structure State.assembling (s : State) (n i p : Nat) (e : Engine) : Prop where
  engine : s.engine n i = some e
  slots : e.slots = []
  alone : ∀ q, q < 3 → q ≠ p → s.storedSlot e.pc q = 0
  pend : e.pend = []
  time : e.cycles + 1 < (s.lineSet e.k).maxBundles
  more : e.pc < (s.lineSet e.k).last

/-- A bundle has issued alone in engine `i` of slice `n`: one cycle, the next bundle, nothing outside the engine changed. -/
structure Issued (s t : State) (n i : Nat) (e e' : Engine) : Prop where
  engine : t.engine n i = some e'
  word : e'.k = e.k ∧ e'.w = e.w
  cycles : e'.cycles = e.cycles + 1
  bundles : e'.bundles = e.bundles + 1
  slots : e'.slots = []
  others : ∀ m j, m < 16 → j < 8 → m ≠ n ∨ j ≠ i → t.engine m j = s.engine m j
  frame : { t with anv := { t.anv with engines := s.anv.engines } } = s

/-- A legal instruction of opcode `op` at its place, under `ok`, alone in a bundle: lane `j` of v d takes `f` where the guard admits it and
keeps its value elsewhere; nothing else of the engine changes (R176 to R178, R184 to R192). -/
def VectorResult (c : AnvilCtor) (op : Nat) (ok : WordEnv → Engine → Nat → Prop) (f : WordEnv → Engine → Nat → Nat → Nat) : Prop :=
  ∀ (s : State) (n : Fin 16) (i : Fin 8) (p : Fin 3) (bits : BitVec 34) (e : Engine),
    let x := anvilSlot op bits
    let w := viewWidth (sView x)
    let env := s.wordEnv n e
    s.assembling n i p e → slotLegal p x = true → sD x < 56 → ok env e x → Leads (c n i p bits (some 0)) s fun t => ∃ e',
      Issued s t n i e e' ∧ e'.pc = e.pc + 1 ∧ (∀ r, r ≠ sD x → e'.vreg env r = e.vreg env r) ∧
      (∀ j, j < viewLanes (sView x) → lane w j (e'.vreg env (sD x)) =
        if (e.guard x).getLsbD j then f env e x j % 2 ^ w else lane w j (e.vreg env (sD x))) ∧
      e'.p = e.p ∧ e'.cls = e.cls ∧ e'.img = e.img

/-- The same for an instruction that writes predicate p d: bit `j` below `lanes` takes `f` under the guard, bits above are cleared
(R178, R185, R194). -/
def PredicateResult (c : AnvilCtor) (op : Nat) (lanes : Nat → Nat) (f : WordEnv → Engine → Nat → Nat → Bool) : Prop :=
  ∀ (s : State) (n : Fin 16) (i : Fin 8) (p : Fin 3) (bits : BitVec 34) (e : Engine),
    let x := anvilSlot op bits
    let env := s.wordEnv n e
    s.assembling n i p e → slotLegal p x = true → Leads (c n i p bits (some 0)) s fun t => ∃ e',
      Issued s t n i e e' ∧ e'.pc = e.pc + 1 ∧ (∀ q, q < 8 → q ≠ sD x → e'.preg q = e.preg q) ∧
      (∀ j, j < 6 → (e'.preg (sD x)).getLsbD j =
        if j < lanes x then (if (e.guard x).getLsbD j then f env e x j else (e.preg (sD x)).getLsbD j) else false) ∧
      e'.v = e.v ∧ e'.cls = e.cls ∧ e'.img = e.img

/-- Lane `j` of the sources v a, v b and of v d, unsigned, and as a number under the mod bit s of a form. -/
def laneA (env : WordEnv) (e : Engine) (x j : Nat) : Nat := lane (viewWidth (sView x)) j (e.vreg env (sA x))
def laneB (env : WordEnv) (e : Engine) (x j : Nat) : Nat := lane (viewWidth (sView x)) j (e.vreg env (sB x))
def laneD (env : WordEnv) (e : Engine) (x j : Nat) : Nat := lane (viewWidth (sView x)) j (e.vreg env (sD x))
def asNumber (m : SlotForm) (x v : Nat) : Int := if (sMod m x).testBit 2 then signed (viewWidth (sView x)) v else v

/-- A result as it fits its lane (R177): with sat limited to the lane's range, otherwise wrapped. -/
def fitted (m : SlotForm) (x : Nat) (sg : Bool) (v : Int) : Nat := fit sg ((sMod m x).testBit 1) (viewWidth (sView x)) v

/-- A right shift, rounded to nearest where the mod bit r says so (R177). -/
def rounded (m : SlotForm) (x : Nat) (v : Int) (k : Nat) : Int :=
  (if (sMod m x).testBit 0 ∧ 0 < k then v + 2 ^ (k - 1) else v) / 2 ^ k

/-- No further condition. -/
def always (_ : WordEnv) (_ : Engine) (_ : Nat) : Prop := True

/-- A word has ended with a fault (R168): counted, flagged, its class word zero, its engine free. -/
structure WordFaulted (s t : State) (n i : Nat) (e : Engine) (code : Nat) : Prop where
  free : t.engine n i = none
  count : t.rd (R.ANV_SL_KFAULT n) = s.rd (R.ANV_SL_KFAULT n) + 1
  flag : FlagSet s t R.ANV_FLAGS 4 (R.ANV_EVCNT 4)
  source : Raised s t 356
  first : s.bit R.ANV_FLAGS F.ANV_FLAGS_kfault = false → t.rd (R.ANV_SL_KFINFO n) = BitVec.ofNat 32 (code * 2 ^ 24 + 6 * e.w)
  word : ∀ x, s.anv.work.find? (fun x => x.line.k == e.k) = some x → ∃ y, t.anv.work.find? (fun x => x.line.k == e.k) = some y ∧
    sget (fun _ => (0 : Word)) y.cls (4096 * n + e.w) = 0 ∧ y.endedBy n = x.endedBy n + 1

/-! ### Commit and Bloom -/

/-- The segments of a map are numbered 0 to 15 (R130). -/
def segsNumbered (m : List (Nat × SegSet)) : Prop := ∀ p ∈ m, p.1 < 16

/-- The oldest uncommitted interval `v` has all of its lines in the commit buffer (R196, R197). -/
def State.heldWhole (s : State) (v : Ival) : Prop :=
  (∃ rest, s.sti.ivals = v :: rest) ∧ segsNumbered v.segs ∧ v.committed + (s.bufferOf v.num).length = 16 ∧ s.bufferOf v.num ≠ []

/-- The slice `n` alone is not clean, on this attempt's correction (R169, R197). -/
def State.oneSliceBad (s : State) (v : Ival) (n : Nat) : Prop :=
  v.corNow = [] ∧ n < s.stripes ∧ s.sliceFenced n (16 * v.num) = false

/-- The lines held of interval `v` have committed as `lines` (R197, R198, R218): they are Bloom's next and have left the buffer; lines that
complete a partly committed interval close the open blooms behind them. -/
def Committed (s t : State) (v : Ival) (lines : List CommitLine) : Prop :=
  t.blm.committed = s.blm.committed ++ commitItems v.num lines ++ (if 0 < v.committed then [.closeAll true] else []) ∧
    t.blm.buffer = s.blm.buffer.filter (fun l => l.line.k / 16 != v.num)

/-- Bloom can take the next committed line `l`, which is not the first of its interval; a line follows it, or nothing (R199, R214). -/
def State.bloomTakes (s : State) (l : CommitLine) (rest : List BloomItem) : Prop :=
  s.blw.state ∈ ([.armed, .run, .hold] : List DevState) ∧ s.blm.fifo.length < 4096 ∧ s.blm.stalled = [] ∧
    (∃ j, s.blm.committed = .line l j false :: rest) ∧ ∀ p r, rest ≠ .closeAll p :: r

/-- Bloom has taken a line (R199). -/
def TakenByBloom (s t : State) (l : CommitLine) (rest : List BloomItem) : Prop :=
  t.blm.committed = rest ∧ t.blm.lines = s.blm.lines + 1 ∧ t.blm.lastSeq = l.line.k ∧ t.rd R.BLM_LINES = s.rd R.BLM_LINES + 1 ∧
    t.blm.buffer = s.blm.buffer

/-- The dominant class of a bloom (R206): the lowest of those with the most pixels. -/
def OpenBloom.dominant (b : OpenBloom) (c : Nat) : Prop :=
  1 ≤ c ∧ c ≤ 15 ∧ (∀ i, 1 ≤ i → i ≤ 15 → b.count i ≤ b.count c) ∧ ∀ i, 1 ≤ i → i < c → b.count i < b.count c

/-! ### Tongs -/

/-- The mark `id` waits, marks are not held, and the prediction of R224 fires it at `t` (0.25 ns of link time): the period of the master
is valid, its last counted edge moved downstream and the position is still ahead. -/
structure State.waits (s : State) (id : Nat) (m : Mark) (n te : Nat) (t : Int) : Prop where
  mark : s.tng.marks.lookup id = some (m, .waiting)
  free : s.marksHeld = false
  master : s.master = some n
  edge : (s.enc n).edge.isSome ∧ (s.enc n).edgeLt = te
  valid : s.periodValid n = true
  down : (s.enc n).up = some s.downUp
  ahead : s.passed n m.pos = false
  at' : t = (te : Int) +
    ((m.pos - BitVec.ofInt 72 ((s.enc n).count.toInt * 65536)).toInt.natAbs * (s.enc n).periodLt / 65536 : Nat) - 4 * m.act

/-- A frame has joined the frames due of its link in order (R225, R231): by instant, then by channel, after those that tie. -/
def Joined (s t : State) (f : DueFrame) : Prop :=
  (∃ a b, (s.link (f.ch / 128)).due = a ++ b ∧ (t.link (f.ch / 128)).due = a ++ f :: b ∧ (∀ g ∈ a, f.before g = false) ∧
    ∀ g, b.head? = some g → f.before g = true) ∧
  (t.link (f.ch / 128)).sync = (s.link (f.ch / 128)).sync ∧ (t.link (f.ch / 128)).config = (s.link (f.ch / 128)).config ∧
  ∀ m, m ≠ f.ch / 128 → t.link m = s.link m

/-- A mark's state is replaced, and no other mark changes. -/
def MarkIs (s t : State) (id : Nat) (m : MarkState) : Prop :=
  t.tng.marks = s.tng.marks.map fun x => if x.1 = id then (id, x.2.1, m) else x

/-- A mark is gone, and no other mark changes (R224, R286). -/
def MarkGone (s t : State) (id : Nat) : Prop :=
  t.tng.marks = s.tng.marks.filter (fun x => x.1 != id) ∧ t.fld R.TNG_PEND F.TNG_PEND_pending = t.tng.marks.length % 2 ^ 17

/-- Link `m` has sent a frame of a K character and four octets, with their CRC-8, and counted it (R231). -/
def FrameSent (s t : State) (m k : Nat) (o : List Nat) (counter : Nat) : Prop :=
  t.out = .markerFrame m ((k :: o ++ [crc8 o]).map (BitVec.ofNat 8)) :: s.out ∧ t.rd counter = s.rd counter + 1 ∧
    SameRegsBut [counter] s t ∧ t.tng.marks = s.tng.marks ∧ ∀ j, j ≠ m → t.link j = s.link j

/-! ### Output streams and compression -/

/-- The next packet of the job queue of engine `e` is a job that the engine can take (R246, R247); no engine that took a job of its stream
before still waits (R255). -/
structure State.jobWaits (s : State) (e : Nat) (j : CmpJob) (rest : List QSlot) : Prop where
  enabled : s.bit (R.CMP_ENG_CFG e) F.CMP_ENG_CFG_enable = true
  idle : (s.cmpEngine e).job = none ∧ (s.cmpEngine e).waits = none ∧ (s.cmpEngine e).completion = none
  first : ∀ f ∈ s.cmp.waiting, ∀ i, (s.cmpEngine f).waits = some i → i.stream ≠ j.stream
  state : s.blw.state ∈ ([.ready, .armed, .run, .hold] : List DevState) ∧ s.blw.banking = none
  packet : ∃ p len, (s.queue (s.fld (R.CMP_ENG_CFG e) F.CMP_ENG_CFG_jobq)).slots = .closed p [len, j.w0, j.w1, j.w2, j.w3] :: rest
  type : BitVec.extractLsb 71 64 j.w0 = 0x10

/-- A job has left its queue (R246). -/
def JobTaken (s t : State) (e : Nat) (rest : List QSlot) : Prop :=
  (t.queue (s.fld (R.CMP_ENG_CFG e) F.CMP_ENG_CFG_jobq)).slots = rest

/-- A job of engine `e` has ended with a status (R249, R256): its completion waits with the bytes written, the engine is free, and the job
is counted. -/
structure JobEnded (s t : State) (e : Nat) (j : CmpJob) (status out : Nat) : Prop where
  free : (t.cmpEngine e).job = none
  completion : ∃ a b : Word, (t.cmpEngine e).completion = some (j.doneQ, [a, b]) ∧ BitVec.extractLsb 71 64 a = 0x11 ∧
    (BitVec.extractLsb 63 56 a).toNat = j.stream ∧ (BitVec.extractLsb 55 48 a).toNat = status ∧
    (BitVec.extractLsb 47 45 a).toNat = e ∧ BitVec.extractLsb 39 0 a = BitVec.extractLsb 39 0 j.w0 ∧ (BitVec.extractLsb 71 40 b).toNat = out
  last : t.fld (R.CMP_ENG_STATUS e) F.CMP_ENG_STATUS_last = status
  jobs : t.rd (R.CMP_ENG_JOBS e) = s.rd (R.CMP_ENG_JOBS e) + (if status = 0 then 1 else 0)
  fails : t.rd (R.CMP_ENG_FAIL e) = s.rd (R.CMP_ENG_FAIL e) + (if status = 0 then 0 else 1)

/-- Every resident stream can be saved: the state buffer is pinned and Hearth reaches the slots, or its handle is stale (R255). -/
def State.savesAll (s : State) : Prop :=
  let h := s.rd R.CMP_STATE_HANDLE
  s.buffer h = none ∨ ∃ b, b.pinned = true ∧ b.held = false ∧
    ∀ e n, e < 8 → (s.cmpEngine e).resident = some n → s.reaches h b (34848 * n) 34848

/-- Engine `e` runs a job, in a device that lets it work (R246, R276); no other job waits for its stream (R255). -/
def State.jobRuns (s : State) (e : Nat) (j : CmpJob) : Prop :=
  (s.cmpEngine e).job = some j ∧ s.blw.state ∈ ([.ready, .armed, .run, .hold] : List DevState) ∧ s.cmp.waiting = [] ∧
    s.hbmBusy = false

/-! ### Hearth -/

/-- The agent of an allocation port reaches it: host software port 0, core n − 1 port n (R262). -/
def State.portOpen (s : State) (p : Nat) : Prop := p = 0 → s.hostOpen

/-- An operation of a port has ended with a status (R262, R307). -/
def PortEnded (s t : State) (p status : Nat) : Prop :=
  t.bit (R.HRT_AP_STATUS p) F.HRT_AP_STATUS_busy = false ∧ t.fld (R.HRT_AP_STATUS p) F.HRT_AP_STATUS_result = status ∧ TagsEnded s t 9 p status

/-- The operation has done nothing beside its end. -/
def OnlyEnded (s t : State) (p : Nat) : Prop := SameRegsBut [R.HRT_AP_STATUS p] s t ∧ t.hrt = s.hrt

/-- The generation that the next issue of an index takes (R261). -/
def State.nextGen (s : State) (i : Nat) : Nat := if (s.hslot i).gen = 4095 then 1 else (s.hslot i).gen + 1

/-- The handle that the next allocation issues. -/
def State.nextHandle (s : State) : BitVec 32 := mkHandle s.lowestIndex (s.nextGen s.lowestIndex)

/-- A buffer of `n` frames has been issued at the lowest free index, with the next generation of the index (R261). -/
def NewBuffer (s t : State) (n : Nat) (pinned : Bool) (base : FrameState) : Prop :=
  let i := s.lowestIndex
  t.hslot i = { gen := s.nextGen i, buf := some { size := n, pinned := pinned, base := base } } ∧
    (∀ j, j ≠ i → t.hslot j = s.hslot j) ∧ t.hrt.bytes = s.hrt.bytes

/-- One frame of a live buffer has changed (R266, R267). -/
def FrameIs (t : State) (h : BitVec 32) (b : Buffer) (f : Nat) (x : FrameState) : Prop :=
  ∃ c, t.buffer h = some c ∧ c.frame f = x ∧ (∀ i, i ≠ f → c.frame i = b.frame i) ∧ c.size = b.size ∧ c.kind = b.kind

end Sys2Proof.Machine
end

