-- ==== Sys2Proof/Certificates/Slice0/Obligations.lean ====
section
/-! DEFINITION. The statements for the provers. -/
open Sys2Proof Sys2Proof.Machine

/-! ### Wick: arithmetic, branches and moves -/


/-- Register arithmetic (R297, R300): each instruction of the table writes g d, the pc goes to the next instruction, and nothing else
changes. Quotients by zero give all ones, remainders by zero the dividend; the most negative number divided by −1 gives itself and
remainder 0. A field that names no general register, a field c that is not zero and the reserved opcodes 0x0F and 0x13 raise 0x01. -/
def Obligations.WickArithmeticWritesOneRegister : Prop :=
  ArithResult .add 0x01 (fun a b => a + b) ∧ ArithResult .sub 0x02 (fun a b => a - b) ∧
  ArithResult .and 0x03 (fun a b => a &&& b) ∧ ArithResult .or 0x04 (fun a b => a ||| b) ∧
  ArithResult .xor 0x05 (fun a b => a ^^^ b) ∧
  ArithResult .shl 0x06 (fun a b => a <<< (BitVec.extractLsb 5 0 b)) ∧
  ArithResult .shr 0x07 (fun a b => a >>> (BitVec.extractLsb 5 0 b)) ∧
  ArithResult .shra 0x08 (fun a b => a.sshiftRight' (BitVec.extractLsb 5 0 b)) ∧
  ArithResult .clt 0x09 (fun a b => if a.toInt < b.toInt then 1 else 0) ∧
  ArithResult .cltu 0x0A (fun a b => if a.toNat < b.toNat then 1 else 0) ∧
  ArithResult .min 0x0B (fun a b => if a.toInt < b.toInt then a else b) ∧
  ArithResult .max 0x0C (fun a b => if a.toInt < b.toInt then b else a) ∧
  ArithResult .minu 0x0D (fun a b => if a.toNat < b.toNat then a else b) ∧
  ArithResult .maxu 0x0E (fun a b => if a.toNat < b.toNat then b else a) ∧
  ArithResult .mul 0x10 (fun a b => a * b) ∧
  ArithResult .mulhs 0x11 (fun a b => BitVec.extractLsb 127 64 (a.signExtend 128 * b.signExtend 128)) ∧
  ArithResult .mulhu 0x12 (fun a b => BitVec.extractLsb 127 64 (a.setWidth 128 * b.setWidth 128)) ∧
  ArithResult .quo 0x14 (fun a b => if b = 0 then BitVec.allOnes 64 else BitVec.sdiv a b) ∧
  ArithResult .quou 0x15 (fun a b => if b = 0 then BitVec.allOnes 64 else a / b) ∧
  ArithResult .mod 0x16 (fun a b => if b = 0 then a else BitVec.srem a b) ∧
  ArithResult .modu 0x17 (fun a b => if b = 0 then a else a % b) ∧
  Illegal (fun n w => .reservedOpcode n 0x0F w) 0x0F (fun _ => False) ∧
  Illegal (fun n w => .reservedOpcode n 0x13 w) 0x13 (fun _ => False)

/-- Immediate arithmetic, immediate shifts, IHI and NOP (R299, R301). -/
def Obligations.WickImmediatesWriteOneRegister : Prop :=
  ImmResult .addi 0x20 (fun _ => True) (fun a w => a + immS w) ∧
  ImmResult .andi 0x21 (fun _ => True) (fun a w => a &&& immZ w) ∧
  ImmResult .ori 0x22 (fun _ => True) (fun a w => a ||| immZ w) ∧
  ImmResult .xori 0x23 (fun _ => True) (fun a w => a ^^^ immZ w) ∧
  ImmResult .shli 0x24 shiftImm (fun a w => a <<< shiftBy w) ∧
  ImmResult .shri 0x25 shiftImm (fun a w => a >>> shiftBy w) ∧
  ImmResult .shrai 0x26 shiftImm (fun a w => a.sshiftRight (shiftBy w)) ∧
  ImmResult .clti 0x27 (fun _ => True) (fun a w => if a.toInt < (immS w).toInt then 1 else 0) ∧
  ImmResult .cltui 0x28 (fun _ => True) (fun a w => if a.toNat < (immS w).toNat then 1 else 0) ∧
  (∀ (n : Fin 4) (w : BitVec 24) (s : State), s.issues n 0x2F w → fd w < 32 →
    ∃ t, exec (.ihi n w) s = .next t ∧
      WickStep s t n ((s.nextView n).setG (fd w) ((BitVec.extractLsb 17 0 w).signExtend 64 <<< 12))) ∧
  (∀ (n : Fin 4) (s : State), s.issues n 0x00 0 → ∃ t, exec (.nop n 0) s = .next t ∧ WickStep s t n (s.nextView n))

/-- Branches and calls (R302): a branch moves the pc alone; CALL and CALLR also write the return address to g d. Every field names a
general register, or 0x01 is raised; what is fetched outside local memory raises 0x04 with epc the target. -/
def Obligations.WickBranchesMoveThePc : Prop :=
  BranchResult .beq 0x48 (fun a b => decide (a = b)) ∧ BranchResult .bne 0x49 (fun a b => decide (a ≠ b)) ∧
  BranchResult .blt 0x4A (fun a b => decide (a.toInt < b.toInt)) ∧
  BranchResult .bge 0x4B (fun a b => decide (b.toInt ≤ a.toInt)) ∧
  BranchResult .bltu 0x4C (fun a b => decide (a.toNat < b.toNat)) ∧
  BranchResult .bgeu 0x4D (fun a b => decide (b.toNat ≤ a.toNat)) ∧
  (∀ (n : Fin 4) (w : BitVec 24) (s : State), s.issues n 0x4E w → fd w < 32 →
    ∃ t, exec (.call n w) s = .next t ∧
      WickStep s t n ({ s.nextView n with pc := (s.core n).pc + 4 * (BitVec.extractLsb 17 0 w).signExtend 32 }.setG (fd w)
        (((s.core n).pc + 4).setWidth 64))) ∧
  (∀ (n : Fin 4) (w : BitVec 24) (s : State), s.issues n 0x4F w → fd w < 32 → fa w < 32 →
    ∃ t, exec (.callr n w) s = .next t ∧
      WickStep s t n ({ s.nextView n with pc := ((s.core n).getG (fa w) + immS w).setWidth 32 &&& ~~~3 }.setG (fd w)
        (((s.core n).pc + 4).setWidth 64))) ∧
  Illegal .call 0x4E (fun w => fd w < 32) ∧ Illegal .callr 0x4F (fun w => fd w < 32 ∧ fa w < 32) ∧
  FetchFails .call 0x4E ∧ FetchFails .callr 0x4F ∧ FetchFails .nop 0x00

/-- Moves between general and stream registers (R303): s registers are named by codes 32 to 39; a field that names the other file or
none, or b not zero, raises 0x01. -/
def Obligations.WickStreamMovesCopyParts : Prop :=
  (∀ (n : Fin 4) (w : BitVec 24) (s : State), s.issues n 0x50 w → 32 ≤ fd w → fd w < 40 → fa w < 32 → fb w = 0 → fc w = 0 →
    ∃ t, exec (.slo n w) s = .next t ∧
      WickStep s t n ((s.nextView n).setS (fd w - 32)
        (BitVec.extractLsb 71 64 ((s.core n).getS (fd w - 32)) ++ (s.core n).getG (fa w)))) ∧
  (∀ (n : Fin 4) (w : BitVec 24) (s : State), s.issues n 0x51 w → 32 ≤ fd w → fd w < 40 → fa w < 32 → fb w = 0 → fc w = 0 →
    ∃ t, exec (.shi n w) s = .next t ∧
      WickStep s t n ((s.nextView n).setS (fd w - 32)
        (BitVec.extractLsb 7 0 ((s.core n).getG (fa w)) ++ BitVec.extractLsb 63 0 ((s.core n).getS (fd w - 32))))) ∧
  (∀ (n : Fin 4) (w : BitVec 24) (s : State), s.issues n 0x52 w → fd w < 32 → 32 ≤ fa w → fa w < 40 → fb w = 0 → fc w = 0 →
    ∃ t, exec (.glo n w) s = .next t ∧
      WickStep s t n ((s.nextView n).setG (fd w) (BitVec.extractLsb 63 0 ((s.core n).getS (fa w - 32))))) ∧
  (∀ (n : Fin 4) (w : BitVec 24) (s : State), s.issues n 0x53 w → fd w < 32 → 32 ≤ fa w → fa w < 40 → fb w = 0 → fc w = 0 →
    ∃ t, exec (.ghi n w) s = .next t ∧
      WickStep s t n ((s.nextView n).setG (fd w) ((BitVec.extractLsb 71 64 ((s.core n).getS (fa w - 32))).setWidth 64))) ∧
  (∀ (n : Fin 4) (w : BitVec 24) (s : State), s.issues n 0x54 w → 32 ≤ fd w → fd w < 40 → 32 ≤ fa w → fa w < 40 →
    fb w = 0 → fc w = 0 →
    ∃ t, exec (.smv n w) s = .next t ∧ WickStep s t n ((s.nextView n).setS (fd w - 32) ((s.core n).getS (fa w - 32)))) ∧
  Illegal .slo 0x50 (fun w => (32 ≤ fd w ∧ fd w < 40) ∧ fa w < 32 ∧ fb w = 0 ∧ fc w = 0) ∧
  Illegal .shi 0x51 (fun w => (32 ≤ fd w ∧ fd w < 40) ∧ fa w < 32 ∧ fb w = 0 ∧ fc w = 0) ∧
  Illegal .glo 0x52 (fun w => fd w < 32 ∧ (32 ≤ fa w ∧ fa w < 40) ∧ fb w = 0 ∧ fc w = 0) ∧
  Illegal .ghi 0x53 (fun w => fd w < 32 ∧ (32 ≤ fa w ∧ fa w < 40) ∧ fb w = 0 ∧ fc w = 0) ∧
  Illegal .smv 0x54 (fun w => (32 ≤ fd w ∧ fd w < 40) ∧ (32 ≤ fa w ∧ fa w < 40) ∧ fb w = 0 ∧ fc w = 0)

/-! ### Wick: loads, stores, atomics and exceptions -/

/-- Loads from local memory, the shared memory and, on core 0, the boot ROM (R5, R294, R301). -/
def Obligations.WickLoadsReadBytes : Prop :=
  LoadsInto .ld8 0x30 1 (fun v => (BitVec.ofNat 8 v).signExtend 64) ∧ LoadsInto .ld8u 0x31 1 (fun v => BitVec.ofNat 64 v) ∧
  LoadsInto .ld16 0x32 2 (fun v => (BitVec.ofNat 16 v).signExtend 64) ∧ LoadsInto .ld16u 0x33 2 (fun v => BitVec.ofNat 64 v) ∧
  LoadsInto .ld32 0x34 4 (fun v => (BitVec.ofNat 32 v).signExtend 64) ∧ LoadsInto .ld32u 0x35 4 (fun v => BitVec.ofNat 64 v) ∧
  LoadsInto .ld64 0x36 8 (fun v => BitVec.ofNat 64 v) ∧
  (∀ (n : Fin 4) (w : BitVec 24) (s : State) (p : Place), s.issues n 0x3C w → 32 ≤ fd w → fd w < 40 → fa w < 32 →
    s.wickAddress n w % 16 = 0 → placeOf (s.wickAddress n w) 16 = some p → p ≠ .device → (p = .rom → n = 0) →
    ∃ t, exec (.lds n w .clean) s = .next t ∧
      WickStep s t n ((s.nextView n).setS (fd w - 32) (BitVec.ofNat 72 (s.loaded n p (s.wickAddress n w) 9))))

/-- Stores to local and shared memory (R5, R294, R301): exactly the bytes of the stored width change; STS writes the 16 bytes of its
slot, bytes 9 to 15 zero. -/
def Obligations.WickStoresWriteExactlyTheirBytes : Prop :=
  StoresFrom .st8 0x38 1 ∧ StoresFrom .st16 0x39 2 ∧ StoresFrom .st32 0x3A 4 ∧ StoresFrom .st64 0x3B 8 ∧
  (∀ (n : Fin 4) (w : BitVec 24) (s : State) (p : Place), s.issues n 0x3D w → 32 ≤ fd w → fd w < 40 → fa w < 32 →
    s.wickAddress n w % 16 = 0 → placeOf (s.wickAddress n w) 16 = some p → p ≠ .device → (p = .rom → n = 0) →
    ∃ t, exec (.sts n w) s = .next t ∧
      WickStep s t n ((s.nextView n).stored p (s.wickAddress n w) 16 ((s.core n).getS (fd w - 32)).toNat))

/-- Atomics (R301): the old word goes to g d and the new one to memory, and nothing else changes. -/
def Obligations.WickAtomicsExchangeOneWord : Prop :=
  AtomicOn .atadd 0x40 (fun _ b old => old + b) ∧ AtomicOn .atswp 0x41 (fun _ b _ => b) ∧
  AtomicOn .atcas 0x42 (fun d b old => if old = d then b else old)

/-- A core's accesses to device registers (R294, R295, R296): LD32 and LD32U give what a read of the register returns, ST32 is the write
of the register by that core after its pc has moved on. -/
def Obligations.WickDeviceAccessesReachRegisters : Prop :=
  (∀ (n : Fin 4) (w : BitVec 24) (s : State), s.issues n 0x34 w → fd w < 32 → fa w < 32 → s.wickAddress n w % 4 = 0 →
    placeOf (s.wickAddress n w) 4 = some .device → s.mayAccess n .load true (s.wickAddress n w) .device = true →
    ∃ t, exec (.ld32 n w .clean) s = .next t ∧ (t.core n).pc = (s.core n).pc + 4 ∧
      (fd w ≠ 0 → (t.core n).getG (fd w) = (((s.setCore n { s.core n with entry := none, debugStep := false }).busRead
        (regKey (s.wickAddress n w % 0x4000000))).1).signExtend 64)) ∧
  (∀ (n : Fin 4) (w : BitVec 24) (s : State), s.issues n 0x35 w → fd w < 32 → fa w < 32 → s.wickAddress n w % 4 = 0 →
    placeOf (s.wickAddress n w) 4 = some .device → s.mayAccess n .load true (s.wickAddress n w) .device = true →
    ∃ t, exec (.ld32u n w .clean) s = .next t ∧ (t.core n).pc = (s.core n).pc + 4 ∧
      (fd w ≠ 0 → (t.core n).getG (fd w) = (((s.setCore n { s.core n with entry := none, debugStep := false }).busRead
        (regKey (s.wickAddress n w % 0x4000000))).1).setWidth 64)) ∧
  (∀ (n : Fin 4) (w : BitVec 24) (s : State), s.issues n 0x3A w → fd w < 32 → fa w < 32 → s.wickAddress n w % 4 = 0 →
    placeOf (s.wickAddress n w) 4 = some .device → s.mayAccess n .store true (s.wickAddress n w) .device = true →
    ∃ t, exec (.st32 n w) s = .next t ∧
      exec (.registerWrite (.core n) (BitVec.ofNat 26 (s.wickAddress n w)) 4 (((s.core n).getG (fd w)).setWidth 32))
        (s.setCore n { s.core n with pc := (s.core n).pc + 4, run := .running, stalled := none, entry := none, debugStep := false })
        = .next t)

/-- Accesses that the map does not admit (R294, R295, R301, R310): every load, store and atomic checks its alignment, then its place. -/
def Obligations.WickAccessesAreChecked : Prop :=
  ∀ (n : Fin 4) (w : BitVec 24) (s : State) (ecc : EccResult), (s.core n).ex = false → fa w < 32 →
    let a := s.wickAddress n w
    let b := ((s.core n).getG (fa w)).toNat
    (fd w < 32 →
      (s.issues n 0x30 w → ChecksAccess (.ld8 n w ecc) s n .load false a 1) ∧
      (s.issues n 0x31 w → ChecksAccess (.ld8u n w ecc) s n .load false a 1) ∧
      (s.issues n 0x32 w → ChecksAccess (.ld16 n w ecc) s n .load false a 2) ∧
      (s.issues n 0x33 w → ChecksAccess (.ld16u n w ecc) s n .load false a 2) ∧
      (s.issues n 0x34 w → ChecksAccess (.ld32 n w ecc) s n .load true a 4) ∧
      (s.issues n 0x35 w → ChecksAccess (.ld32u n w ecc) s n .load true a 4) ∧
      (s.issues n 0x36 w → ChecksAccess (.ld64 n w ecc) s n .load false a 8) ∧
      (s.issues n 0x38 w → ChecksAccess (.st8 n w) s n .store false a 1) ∧
      (s.issues n 0x39 w → ChecksAccess (.st16 n w) s n .store false a 2) ∧
      (s.issues n 0x3A w → ChecksAccess (.st32 n w) s n .store true a 4) ∧
      (s.issues n 0x3B w → ChecksAccess (.st64 n w) s n .store false a 8) ∧
      (fb w < 32 → fc w = 0 →
        (s.issues n 0x40 w → ChecksAccess (.atadd n w ecc) s n .atomic false b 8) ∧
        (s.issues n 0x41 w → ChecksAccess (.atswp n w ecc) s n .atomic false b 8) ∧
        (s.issues n 0x42 w → ChecksAccess (.atcas n w ecc) s n .atomic false b 8))) ∧
    (32 ≤ fd w → fd w < 40 →
      (s.issues n 0x3C w → ChecksAccess (.lds n w ecc) s n .load false a 16) ∧
      (s.issues n 0x3D w → ChecksAccess (.sts n w) s n .store false a 16))

/-- Exceptions (R299, R310): BRK raises 0x09 and a reserved opcode 0x01; an exception while ex is set halts the core with cause 0x01,
and frees its tags (R308). -/
def Obligations.WickExceptionsEnterTheHandler : Prop :=
  (∀ (n : Fin 4) (s : State), s.issues n 0x61 0 → (s.core n).ex = false → Raises (.brk n 0) s n 0x09 0) ∧
  (∀ (n : Fin 4) (op : BitVec 8) (w : BitVec 24) (s : State), listedOpcode op.toNat = false → s.issues n op.toNat w →
    (s.core n).ex = false → Raises (.reservedOpcode n op w) s n 0x01 0) ∧
  (∀ (n : Fin 4) (s : State), s.issues n 0x61 0 → (s.core n).ex = true → ∃ t, exec (.brk n 0) s = .next t ∧
    (t.core n).run = .halted ∧ (t.core n).haltCause = 0x01 ∧ ((t.core n).tags = []))

/-! ### Wick: control registers, system instructions and interrupts -/

/-- MFC and MTC (R297, R304): what each control register reads as and what a write of it leaves. In recipe mode every register
but epc, tcmp and wdkick is read-only: 0x02; a number that the table does not list: 0x01. The fields that supervisor mode may write
are the model's reading (assumption 38). -/
def Obligations.WickControlRegistersReadAndWrite : Prop :=
  ControlReads 0x00 (fun n c => BitVec.ofNat 64 ((if n = 0 then 2 ^ 31 else 0) + (if c.ex then 2 ^ 30 else 0) +
    (if c.ie then 2 ^ 29 else 0) + c.rp % 32 * 2 ^ 16)) ∧
  ControlReads 0x01 (fun _ c => c.epc.setWidth 64) ∧ ControlReads 0x02 (fun _ c => c.cause.setWidth 64) ∧
  ControlReads 0x03 (fun _ c => c.badaddr.setWidth 64) ∧ ControlReads 0x04 (fun _ c => c.vbase.setWidth 64) ∧
  ControlReads 0x05 (fun _ c => c.ifsp.setWidth 64) ∧ ControlReads 0x06 (fun _ c => c.iflim.setWidth 64) ∧
  ControlReads 0x07 (fun _ c => c.cycle) ∧ ControlReads 0x08 (fun _ c => c.tcmp) ∧
  ControlReads 0x09 (fun n _ => BitVec.ofNat 64 n) ∧ ControlReads 0x0B (fun _ _ => 0) ∧
  ControlReads 0x0A (fun _ c => (List.range 16).foldl (fun v t => if c.tag t = .free then v else v ||| (1 <<< t)) 0) ∧
  ControlWrites 0x01 (fun _ => True) (fun _ c v => { c with epc := v.setWidth 32 }) ∧
  ControlWrites 0x08 (fun _ => True) (fun _ c v => { c with tcmp := v, tcmpArmed := true }) ∧
  ControlWrites 0x0B (fun _ => True) (fun s c _ => { c with kicked := s.ticks }) ∧
  ControlWrites 0x04 (· = 0) (fun _ c v => { c with vbase := v.setWidth 32 &&& ~~~0xFFF }) ∧
  ControlWrites 0x05 (· = 0) (fun _ c v => { c with ifsp := v.setWidth 32 &&& ~~~0xF }) ∧
  ControlWrites 0x06 (· = 0) (fun _ c v => { c with iflim := v.setWidth 32 }) ∧
  (∀ (n : Fin 4) (w : BitVec 24) (s : State), s.issues n 0x58 w → (s.core n).ex = false → fd w < 32 → fa w = 0 →
    0x0B < (BitVec.extractLsb 11 0 w).toNat → Raises (.mfc n w) s n 0x01 0) ∧
  (∀ (n : Fin 4) (w : BitVec 24) (s : State), s.issues n 0x59 w → (s.core n).ex = false → fd w = 0 → fa w < 32 →
    (0x0B < (BitVec.extractLsb 11 0 w).toNat → Raises (.mtc n w) s n 0x01 0) ∧
    (n ≠ 0 → BitVec.extractLsb 11 0 w ∈ ([0, 2, 3, 4, 5, 6, 7, 9, 10] : List (BitVec 12)) → Raises (.mtc n w) s n 0x02 0))

/-- DI, EI, RETE, FENCE, WFI and its end, SWI (R304, R312). -/
def Obligations.WickSystemInstructionsTakeEffect : Prop :=
  (∀ (n : Fin 4) (s : State), s.issues n 0x5A 0 → ∃ t, exec (.di n 0) s = .next t ∧
    WickStepTo s t n (s.nextView n) { s.core n with ie := false }) ∧
  (∀ (n : Fin 4) (s : State), s.issues n 0x5B 0 → ∃ t, exec (.ei n 0) s = .next t ∧
    WickStepTo s t n (s.nextView n) { s.core n with ie := true }) ∧
  (∀ (n : Fin 4) (s : State), s.issues n 0x5E 0 → (s.core n).ex = true → ∃ t, exec (.rete n 0) s = .next t ∧
    WickStepTo s t n { s.nextView n with pc := (s.core n).epc } { s.core n with ex := false }) ∧
  (∀ (n : Fin 4) (s : State), s.issues n 0x5E 0 → (s.core n).ex = false → Raises (.rete n 0) s n 0x01 0) ∧
  (∀ (n : Fin 4) (s : State), s.issues n 0x60 0 → (∀ m ∈ s.wck.moves, m.core ≠ n) → ∃ t, exec (.fence n 0) s = .next t ∧
    WickStep s t n (s.nextView n)) ∧
  (∀ (n : Fin 4) (s : State), s.issues n 0x60 0 → (∃ m ∈ s.wck.moves, m.core = n) → ∃ t, exec (.fence n 0) s = .next t ∧
    Stalled s t n 0x60 0) ∧
  (∀ (n : Fin 4) (s : State), s.issues n 0x5C 0 → s.awaits n → ∃ t, exec (.wfi n 0) s = .next t ∧ WickStep s t n (s.nextView n)) ∧
  (∀ (n : Fin 4) (s : State), s.issues n 0x5C 0 → ¬ s.awaits n → ∃ t, exec (.wfi n 0) s = .next t ∧ Stalled s t n 0x5C 0) ∧
  (∀ (n : Fin 4) (s : State), (s.core n).run = .waiting → (s.core n).stalled = some (0x5C, 0) → s.coresStopped = false → s.awaits n →
    ∃ t, exec (.wfiWake n) s = .next t ∧ (t.core n).run = .running ∧ (t.core n).stalled = none ∧
      (t.core n).pc = (s.core n).pc + 4 ∧ (∀ r, (t.core n).getG r = (s.core n).getG r) ∧ (∀ m, m ≠ n.val → t.core m = s.core m) ∧
      { t with wck := { t.wck with cores := s.wck.cores } } = s) ∧
  (∀ (n : Fin 4) (w : BitVec 24) (s : State), s.issues n 0x5F w → fd w = 0 → fa w < 32 → fb w < 32 → fc w = 0 →
    let src := 32 * (((s.core n).getG (fa w)).toNat % 4) + ((s.core n).getG (fb w)).toNat % 8
    ∃ t, exec (.swi n w) s = .next t ∧ (t.core n).pc = (s.core n).pc + 4 ∧ (t.core n).run = .running ∧
      (∀ r, (t.core n).getG r = (s.core n).getG r) ∧ t.wck.shared = s.wck.shared ∧
      (s.bit (R.EVT_SRC src) F.EVT_SRC_enable = true → t.bit (R.EVT_SRC src) F.EVT_SRC_pending = true) ∧
      (s.bit (R.EVT_SRC src) F.EVT_SRC_enable = false → t.regs = s.regs))

/-- Interrupt entry (R294, R313, R314): the winner's delivery commits, the frame is written 16 bytes below ifsp in the memory that the map
has there, and the handler at its vector entry runs at its priority; a frame below iflim raises 0x08 with epc the return pc and leaves
the source pending; a frame or a vector where the map has no memory raises 0x04 (assumption 191). -/
def Obligations.WickInterruptEntryWritesAFrame : Prop :=
  ∀ (n : Fin 4) (s : State) (src : Nat), s.coresStopped = false → (s.core n).inService = false → (s.core n).debugHalt = false →
    (s.core n).run = .running ∨ (s.core n).run = .waiting → (s.core n).entry = none → s.wins n (s.core n).rp src →
    let c := s.core n
    let fp := c.ifsp - 16
    (∀ v p, c.iflim.toNat + 16 ≤ c.ifsp.toNat → s.entryWord n (c.vbase.toNat + 4 * src) = some v → framePlace fp.toNat = some p →
      ∃ t, exec (.interruptEntry n) s = .next t ∧
      (t.core n).ifsp = fp ∧ (t.core n).rp = s.fld (R.EVT_SRC src) F.EVT_SRC_priority ∧ (t.core n).run = .running ∧
      t.bit (R.EVT_SRC src) F.EVT_SRC_pending = false ∧
      Memory.reads (t.coreMem n p) fp.toNat 16 = toBytes 4 c.returnPc.toNat ++ toBytes 4 (c.status n).toNat ++
        toBytes 2 src ++ [0, 0, 0, 0, 0, 0] ∧
      (∀ q a, q ≠ p ∨ a < fp.toNat ∨ fp.toNat + 16 ≤ a → (q = .localMem ∨ q = .sharedMem) →
        Memory.read (t.coreMem n q) a = Memory.read (s.coreMem n q) a) ∧
      (t.core n).pc = v ∧ (∀ r, (t.core n).getG r = c.getG r) ∧ (∀ m, m ≠ n.val → t.core m = s.core m)) ∧
    (c.ifsp.toNat < c.iflim.toNat + 16 → Excepts (.interruptEntry n) s n 0x08 0 c.returnPc) ∧
    (c.iflim.toNat + 16 ≤ c.ifsp.toNat → framePlace fp.toNat = none → Excepts (.interruptEntry n) s n 0x04 fp c.returnPc) ∧
    (∀ p, c.iflim.toNat + 16 ≤ c.ifsp.toNat → framePlace fp.toNat = some p → s.entryWord n (c.vbase.toNat + 4 * src) = none →
      Excepts (.interruptEntry n) s n 0x04 (BitVec.ofNat 32 (c.vbase.toNat + 4 * src)) c.returnPc)

/-- RETI (R294, R316): with no source eligible below the saved priority the pc, ie and rp come back from the frame and ifsp rises by 16;
with one, its handler is entered in the same frame; at rp 16 it raises 0x01, and with a frame where the map has no memory 0x04
(assumption 191). -/
def Obligations.WickInterruptExitRestoresOrChains : Prop :=
  ∀ (n : Fin 4) (s : State), s.issues n 0x5D 0 →
    let c := s.core n
    ((s.core n).rp = 16 → (s.core n).ex = false → Raises (.reti n 0 .clean) s n 0x01 0) ∧
    ((s.core n).rp ≠ 16 → (s.core n).ex = false → s.entryWord n c.ifsp.toNat = none → Raises (.reti n 0 .clean) s n 0x04 c.ifsp) ∧
    (∀ pc st, (s.core n).rp ≠ 16 → s.entryWord n c.ifsp.toNat = some pc → s.entryWord n (c.ifsp.toNat + 4) = some st →
      let saved := st.toNat
      ((∀ src, ¬ s.eligible n (saved / 65536 % 32) src) → ∃ t, exec (.reti n 0 .clean) s = .next t ∧
        (t.core n).pc = pc ∧ (t.core n).ie = decide (saved / 2 ^ 29 % 2 = 1) ∧
        (t.core n).rp = saved / 65536 % 32 ∧ (t.core n).ifsp = c.ifsp + 16 ∧ (∀ r, (t.core n).getG r = c.getG r) ∧
        (t.core n).mem = c.mem ∧ t.wck.shared = s.wck.shared ∧ t.regs = s.regs ∧ (∀ m, m ≠ n.val → t.core m = s.core m)) ∧
      (∀ src v, s.wins n (saved / 65536 % 32) src → s.entryWord n (c.vbase.toNat + 4 * src) = some v →
        ∃ t, exec (.reti n 0 .clean) s = .next t ∧ (t.core n).pc = v ∧
        (t.core n).rp = s.fld (R.EVT_SRC src) F.EVT_SRC_priority ∧
        (t.core n).ifsp = c.ifsp ∧ t.bit (R.EVT_SRC src) F.EVT_SRC_pending = false))

/-- Tags (R308): a command that has ended raises the tag's private source and the tag stays in use until an AWT reads it; AWT gives
the result and frees the tag, gives BUSY or stalls while the command runs, gives BADARG for a tag not in use. -/
def Obligations.WickTagsCompleteAndAreAwaited : Prop :=
  (∀ (n : Fin 4) (tg : Fin 16) (s : State) (r : Nat), (s.core n).tag tg = .ended r → ∃ t, exec (.tagComplete n tg) s = .next t ∧
    (t.core n).tag tg = .done r ∧
    (s.bit (R.EVT_SRC (32 * n + 8 + tg)) F.EVT_SRC_enable = true → t.bit (R.EVT_SRC (32 * n + 8 + tg)) F.EVT_SRC_pending = true)) ∧
  (∀ (n : Fin 4) (w : BitVec 24) (s : State), s.issues n 0x71 w → fd w < 32 → BitVec.extractLsb 12 0 w = 0 →
    let tg := (BitVec.extractLsb 17 14 w).toNat
    (∀ r, (s.core n).tag tg = .done r → ∃ t, exec (.awt n w) s = .next t ∧
      WickStepTo s t n ((s.nextView n).setG (fd w) (BitVec.ofNat 64 r)) ((s.core n).setTag tg .free)) ∧
    ((s.core n).tag tg = .free → ∃ t, exec (.awt n w) s = .next t ∧ WickStep s t n ((s.nextView n).setG (fd w) 2)) ∧
    (∀ k i, (s.core n).tag tg = .pending k i →
      (w.getLsbD 13 = false → ∃ t, exec (.awt n w) s = .next t ∧ WickStep s t n ((s.nextView n).setG (fd w) 1)) ∧
      (w.getLsbD 13 = true → ∃ t, exec (.awt n w) s = .next t ∧ Stalled s t n 0x71 w)))

/-- ISS (R307, R308): a busy target completes its tag with BUSY and is not written; a latch command completes at once with OK; a tag
in use raises 0x06, a target or an index that is not listed 0x01. -/
def Obligations.WickIssTiesACommandToATag : Prop :=
  ∀ (n : Fin 4) (w : BitVec 24) (s : State), s.issues n 0x70 w → (BitVec.extractLsb 13 8 w).toNat < 32 →
    BitVec.extractLsb 1 0 w = 0 →
    let tg := (BitVec.extractLsb 23 20 w).toNat
    let target := (BitVec.extractLsb 19 14 w).toNat
    let index := (BitVec.extractLsb 7 2 w).toNat
    (∀ st, (s.core n).tag tg = .free → issRegister n target index ≠ none → busyStatus n target index = some st →
      s.bit st ⟨31, 31⟩ = true → ∃ t, exec (.iss n w) s = .next t ∧ (t.core n).tag tg = .ended 1 ∧ t.regs = s.regs ∧
        (t.core n).pc = (s.core n).pc + 4) ∧
    ((s.core n).tag tg = .free → target = 0x0C → index < 16 → ∃ t, exec (.iss n w) s = .next t ∧ (t.core n).tag tg = .ended 0 ∧
      (t.core n).pc = (s.core n).pc + 4) ∧
    ((s.core n).ex = false → (s.core n).tag tg ≠ .free → issRegister n target index ≠ none → Raises (.iss n w) s n 0x06 0) ∧
    ((s.core n).ex = false → target = 0 ∨ 0x0C < target → Raises (.iss n w) s n 0x01 0)

/-- The cores' timers, software sources and watchdogs (R311, R312): tcmp raises private source 24 once a write, WCK_SWI_n raises the
sources of its set bits, a watchdog that runs out halts its core with cause 0x02. -/
def Obligations.WickTimersAndWatchdogsAct : Prop :=
  (∀ (n : Fin 4) (s : State), (s.core n).tcmpArmed = true → (s.core n).run ≠ .reset → (s.core n).tcmp ≤ (s.core n).cycle →
    ∃ t, exec (.timerMatch n) s = .next t ∧ (t.core n).tcmpArmed = false ∧
      (s.bit (R.EVT_SRC (32 * n + 24)) F.EVT_SRC_enable = true → t.bit (R.EVT_SRC (32 * n + 24)) F.EVT_SRC_pending = true) ∧
      (∀ m, m ≠ n.val → t.core m = s.core m)) ∧
  (∀ (n : Fin 4) (v : Reg32) (i : Fin 8) (s : State), v.getLsbD i = true →
    s.bit (R.EVT_SRC (32 * n + i)) F.EVT_SRC_enable = true →
    (∃ t, exec (.wckSwiWrite (.core 0) n v) s = .next t ∧ t.bit (R.EVT_SRC (32 * n + i)) F.EVT_SRC_pending = true ∧ t.wck = s.wck) ∧
    (s.inStates [.off, .reset, .banked] = false → s.hst.d3hot = false → ∃ t, exec (.wckSwiWrite .host n v) s = .next t ∧
      t.bit (R.EVT_SRC (32 * n + i)) F.EVT_SRC_pending = true ∧ t.wck = s.wck)) ∧
  (∀ (n : Fin 4) (s : State), s.bit (R.WCK_WDOG n) F.WCK_WDOG_enable = true →
    (s.core n).run = .running ∨ (s.core n).run = .waiting → s.coresStopped = false →
    s.fld (R.WCK_WDOG n) F.WCK_WDOG_timeout_us * 125 ≤ s.ticks - (s.core n).kicked →
    ∃ t, exec (.watchdogTimeout n) s = .next t ∧ (t.core n).run = .halted ∧ (t.core n).haltCause = 0x02 ∧ (t.core n).tags = [] ∧
      (t.core n).mem = (s.core n).mem ∧ (t.core n).g = (s.core n).g ∧
      t.fld R.WCK_FLAGS ⟨n, n⟩ = 1 ∧ t.fld R.WCK_FLAGS ⟨4 + n, 4 + n⟩ = 1 ∧
      (n = 0 → s.blw.state ≠ .fault → t.blw.state = .fault) ∧ (n ≠ 0 → t.blw.state = s.blw.state))

/-! ### Wick: queues, the bulk port and services -/

/-- QOPEN, QPUSH, QCLOSE, QPOP and QLVL (R305, R306, R331, R333): the packet of core `n` on an enabled queue grows by a reserved length
slot, by words, and becomes visible with its length word; a pop gives the next visible word, and BUSY with the idle item where
there is none. -/
def Obligations.WickQueueInstructionsMovePackets : Prop :=
  (∀ (n : Fin 4) (w : BitVec 24) (s : State), s.issues n 0x6A w → queueForm w false false false →
    let q := s.namedQueue n w
    openWords (0x40 + n) (s.queue q).slots = none → s.openCount (0x40 + n) < 4 → s.queueFull q = false →
    Leads (.qopen n w) s fun t => StatusIn s t n w 0 ∧ (t.queue q).slots = (s.queue q).slots ++ [.opened (0x40 + n) []]) ∧
  (∀ (n : Fin 4) (w : BitVec 24) (s : State), s.issues n 0x6A w → queueForm w false false false →
    let q := s.namedQueue n w
    (openWords (0x40 + n) (s.queue q).slots ≠ none → Leads (.qopen n w) s fun t => StatusIn s t n w 2 ∧ t.queue q = s.queue q) ∧
    (openWords (0x40 + n) (s.queue q).slots = none → s.openCount (0x40 + n) < 4 → s.queueFull q = true →
      Leads (.qopen n w) s fun t => StatusIn s t n w 5 ∧ t.queue q = s.queue q)) ∧
  (∀ (n : Fin 4) (w : BitVec 24) (s : State) (ws : List Word), s.issues n 0x69 w → queueForm w true true false →
    let q := s.namedQueue n w
    openWords (0x40 + n) (s.queue q).slots = some ws → s.queueFull q = false → ws.length < 4095 →
    Leads (.qpush n w) s fun t => StatusIn s t n w 0 ∧
      openWords (0x40 + n) (t.queue q).slots = some (ws ++ [(s.core n).getS (namedStream w)])) ∧
  (∀ (n : Fin 4) (w : BitVec 24) (s : State), s.issues n 0x69 w → queueForm w true true false →
    let q := s.namedQueue n w
    openWords (0x40 + n) (s.queue q).slots = none →
    ((0x40 + n.val) ∉ (s.queue q).cut → Leads (.qpush n w) s fun t => StatusIn s t n w 2 ∧ t.queue q = s.queue q) ∧
    ((0x40 + n.val) ∈ (s.queue q).cut → Leads (.qpush n w) s fun t => StatusIn s t n w 4 ∧
      t.rd (R.HST_Q_DROP q) = s.rd (R.HST_Q_DROP q) + 1)) ∧
  (∀ (n : Fin 4) (w : BitVec 24) (s : State) (a b : List QSlot) (ws : List Word), s.issues n 0x6B w → queueForm w false false true →
    let q := s.namedQueue n w
    s.queueOn q = true → (s.queue q).slots = a ++ .opened (0x40 + n) ws :: b → openWords (0x40 + n) a = none →
    Leads (.qclose n w) s fun t => StatusIn s t n w 0 ∧ (t.queue q).slots = a ++
      .closed (0x40 + n) (((0x80 : BitVec 8) + (BitVec.extractLsb 5 0 w).setWidth 8 ++ BitVec.ofNat 8 (0x40 + n) ++ (0 : BitVec 40) ++
        BitVec.ofNat 16 ws.length) :: ws) :: b) ∧
  (∀ (n : Fin 4) (w : BitVec 24) (s : State), s.issues n 0x68 w → queueForm w true true false →
    let q := s.namedQueue n w
    s.queueBound q = false →
    (∀ p x xs l, (s.queue q).slots = .closed p (x :: xs) :: l → Leads (.qpop n w .clean) s fun t => StatusIn s t n w 0 ∧
      (t.core n).getS (namedStream w) = x ∧ slotsVisible (t.queue q).slots = (slotsVisible (s.queue q).slots).drop 1) ∧
    ((s.queue q).slots = [] → w.getLsbD 8 = false → Leads (.qpop n w .clean) s fun t => StatusIn s t n w 1 ∧
      (t.core n).getS (namedStream w) = 0xFF_0000_0000_0000_0000 ∧ t.queue q = s.queue q) ∧
    ((s.queue q).slots = [] → w.getLsbD 8 = true → Leads (.qpop n w .clean) s fun t => Stalled s t n 0x68 w)) ∧
  (∀ (n : Fin 4) (w : BitVec 24) (s : State), s.issues n 0x6C w → queueForm w false false false →
    Leads (.qlvl n w) s fun t => WickStep s t n ((s.nextView n).setG (fd w)
      (BitVec.ofNat 64 (slotsVisible (s.queue (s.namedQueue n w)).slots).length)))

/-- BLD, BST and BMV (R274, R309): a word of a resident buffer is read and written whole; a stale handle, and a word that does not lie
within the buffer (assumption 44), reads as all ones and discards a write; a bulk move of one word moves it between its local slot and
the handle and completes its tag. -/
def Obligations.WickBulkPortMovesWords : Prop :=
  (∀ (n : Fin 4) (w : BitVec 24) (s : State) (b : Buffer), s.issues n 0x74 w → 32 ≤ fd w → fd w < 40 → fa w < 32 → fb w < 32 →
    fc w = 0 →
    let h := ((s.core n).getG (fa w)).setWidth 32
    let x := ((s.core n).getG (fb w)).toNat
    s.grantsRead h b (9 * x) 9 → Leads (.bld n w .clean) s fun t => (t.core n).pc = (s.core n).pc + 4 ∧
      (t.core n).getS (fd w - 32) = BitVec.ofNat 72 (ofBytes (Memory.reads s.hrt.bytes (byteKey h (9 * x)) 9)) ∧
      t.hrt.bytes = s.hrt.bytes) ∧
  (∀ (n : Fin 4) (w : BitVec 24) (s : State), s.issues n 0x74 w → 32 ≤ fd w → fd w < 40 → fa w < 32 → fb w < 32 → fc w = 0 →
    s.buffer (((s.core n).getG (fa w)).setWidth 32) = none →
    Leads (.bld n w .clean) s fun t => (t.core n).pc = (s.core n).pc + 4 ∧ (t.core n).getS (fd w - 32) = BitVec.allOnes 72 ∧
      FlagSet s t R.HRT_FLAGS 8 (R.HRT_EVCNT 8)) ∧
  (∀ (n : Fin 4) (w : BitVec 24) (s : State) (b : Buffer), 32 ≤ fd w → fd w < 40 → fa w < 32 → fb w < 32 → fc w = 0 →
    s.buffer (((s.core n).getG (fa w)).setWidth 32) = some b → b.size * 65536 < 9 * ((s.core n).getG (fb w)).toNat + 9 →
    (s.issues n 0x74 w → Leads (.bld n w .clean) s fun t => (t.core n).pc = (s.core n).pc + 4 ∧
      (t.core n).getS (fd w - 32) = BitVec.allOnes 72 ∧ FlagSet s t R.HRT_FLAGS 8 (R.HRT_EVCNT 8)) ∧
    (s.issues n 0x75 w → Leads (.bst n w) s fun t => (t.core n).pc = (s.core n).pc + 4 ∧ t.hrt.bytes = s.hrt.bytes ∧
      FlagSet s t R.HRT_FLAGS 8 (R.HRT_EVCNT 8))) ∧
  (∀ (n : Fin 4) (w : BitVec 24) (s : State), s.issues n 0x75 w → 32 ≤ fd w → fd w < 40 → fa w < 32 → fb w < 32 → fc w = 0 →
    s.buffer (((s.core n).getG (fa w)).setWidth 32) = none →
    Leads (.bst n w) s fun t => (t.core n).pc = (s.core n).pc + 4 ∧ t.hrt.bytes = s.hrt.bytes ∧
      FlagSet s t R.HRT_FLAGS 8 (R.HRT_EVCNT 8)) ∧
  (∀ (n : Fin 4) (w : BitVec 24) (s : State) (b : Buffer), s.issues n 0x75 w → 32 ≤ fd w → fd w < 40 → fa w < 32 → fb w < 32 →
    fc w = 0 →
    let h := ((s.core n).getG (fa w)).setWidth 32
    let x := ((s.core n).getG (fb w)).toNat
    s.grantsWrite h b (9 * x) 9 → Leads (.bst n w) s fun t => (t.core n).pc = (s.core n).pc + 4 ∧
      Memory.reads t.hrt.bytes (byteKey h (9 * x)) 9 = toBytes 9 ((s.core n).getS (fd w - 32)).toNat ∧
      (∀ k, k < byteKey h (9 * x) ∨ byteKey h (9 * x) + 9 ≤ k → Memory.read t.hrt.bytes k = Memory.read s.hrt.bytes k)) ∧
  (∀ (n : Fin 4) (w : BitVec 24) (s : State) (b : Buffer), s.issues n 0x76 w → w.getLsbD 18 = false → w.getLsbD 19 = false →
    fa w < 32 → fb w < 32 → fc w < 32 →
    let tg := (BitVec.extractLsb 23 20 w).toNat
    let h := ((s.core n).getG (fa w)).setWidth 32
    let x := ((s.core n).getG (fb w)).toNat
    let a := (BitVec.extractLsb 31 0 ((s.core n).getG (fc w))).toNat
    BitVec.extractLsb 63 48 ((s.core n).getG (fc w)) = 0 → (s.core n).tag tg = .free → a % 16 = 0 → a + 16 ≤ 0x80000 →
    s.wck.moves = [] → s.grantsRead h b (9 * x) 9 → Leads (.bmv n w .clean) s fun t => (t.core n).tag tg = .ended 0 ∧ (t.core n).pc = (s.core n).pc + 4 ∧
      Memory.reads (t.core n).mem a 16 = Memory.reads s.hrt.bytes (byteKey h (9 * x)) 9 ++ List.replicate 7 0) ∧
  (∀ (n : Fin 4) (w : BitVec 24) (s : State) (b : Buffer), s.issues n 0x76 w → w.getLsbD 18 = false → w.getLsbD 19 = true →
    fa w < 32 → fb w < 32 → fc w < 32 →
    let tg := (BitVec.extractLsb 23 20 w).toNat
    let h := ((s.core n).getG (fa w)).setWidth 32
    let x := ((s.core n).getG (fb w)).toNat
    let a := (BitVec.extractLsb 31 0 ((s.core n).getG (fc w))).toNat
    BitVec.extractLsb 63 48 ((s.core n).getG (fc w)) = 0 → (s.core n).tag tg = .free → a % 16 = 0 → a + 16 ≤ 0x80000 →
    s.wck.moves = [] → s.grantsWrite h b (9 * x) 9 → Leads (.bmv n w .clean) s fun t => (t.core n).tag tg = .ended 0 ∧ (t.core n).pc = (s.core n).pc + 4 ∧
      Memory.reads t.hrt.bytes (byteKey h (9 * x)) 9 = Memory.reads (s.core n).mem a 9 ∧ (t.core n).mem = (s.core n).mem)

/-- SVC and the services (R321, R322): the call is recorded and raises private source 30 of core 0; a service of core 0 resumes the
caller with g1 the status and g2 the value; SERVICE_DONE does so with the values that core 0 has written, and leaves a core halted that
the loader has halted meanwhile (assumption 192). -/
def Obligations.WickServiceCallsAreAnswered : Prop :=
  (∀ (n : Fin 4) (w : BitVec 24) (s : State), s.issues n 0x62 w → n ≠ 0 → fd w = 0 → BitVec.extractLsb 17 16 w = 0 →
    Leads (.svc n w) s fun t => (t.core n).run = .waiting ∧ t.wck.svc = s.wck.svc ++ [n] ∧ Raised s t 30 ∧
      t.fld (R.WCK_SVC_NUM n) F.WCK_SVC_NUM_number = (BitVec.extractLsb 15 0 w).toNat ∧
      t.fld (R.WCK_SVC_NUM n) F.WCK_SVC_NUM_pending = 1 ∧
      (∀ i, i < 4 → t.rd (R.WCK_SVC_ARG n (2 * i)) = ((s.core n).getG (1 + i)).setWidth 32 ∧
        t.rd (R.WCK_SVC_ARG n (2 * i + 1)) = BitVec.extractLsb 63 32 ((s.core n).getG (1 + i)))) ∧
  (∀ (w : BitVec 24) (s : State), s.issues 0 0x62 w → (s.core 0).ex = false → Raises (.svc 0 w) s 0 0x01 0) ∧
  (∀ (n : Fin 4) (v : Reg32) (s : State), s.wck.svc.head? = some n →
    let st := (BitVec.extractLsb 7 0 v).toNat
    let x := (s.rd (R.WCK_SVC_RET_HI n)).toNat * 2 ^ 32 + (s.rd (R.WCK_SVC_RET_LO n)).toNat
    ((s.core n).run ≠ .halted → Leads (.serviceDone n v) s fun t => ServiceEnded s t n st x) ∧
    ((s.core n).run = .halted → Leads (.serviceDone n v) s fun t => (t.core n).run = .halted ∧ (t.core n).pc = (s.core n).pc + 4 ∧
      (t.core n).getG 1 = BitVec.ofNat 64 st ∧ (t.core n).getG 2 = BitVec.ofNat 64 x ∧ t.wck.svc = s.wck.svc.drop 1)) ∧
  (∀ (n : Fin 4) (s : State), n ≠ 0 → s.calls n 0 → Leads .svcVersion s fun t => ServiceEnded s t n 0 Config.firmwareVersion.toNat) ∧
  (∀ (n : Fin 4) (k : Nat) (s : State), n ≠ 0 → s.calls n k → 3 < k → Leads .svcVersion s fun t => ServiceEnded s t n 2 0) ∧
  (∀ (n : Fin 4) (s : State), n ≠ 0 → s.calls n 1 → s.serviceArg n 0 = 1 →
    (s.blw.state = .run → Leads .svcDevstate s fun t => ServiceEnded s t n 0 0 ∧ t.blw.state = .hold) ∧
    (s.blw.state ≠ .run → Leads .svcDevstate s fun t => ServiceEnded s t n 3 (devCode s.blw.state) ∧ t.blw.state = s.blw.state)) ∧
  (∀ (n : Fin 4) (s : State), n ≠ 0 → s.calls n 2 →
    let src := s.serviceArg n 0
    128 ≤ src → src < 512 → s.serviceArg n 1 < 16 → s.serviceArg n 2 < 2 →
    (s.fld (R.EVT_SRC src) F.EVT_SRC_target = n → Leads .svcRoute s fun t => ServiceEnded s t n 0 0 ∧
      t.fld (R.EVT_SRC src) F.EVT_SRC_priority = s.serviceArg n 1 ∧ t.fld (R.EVT_SRC src) F.EVT_SRC_enable = s.serviceArg n 2 ∧
      t.fld (R.EVT_SRC src) F.EVT_SRC_target = n) ∧
    (s.fld (R.EVT_SRC src) F.EVT_SRC_target ≠ n → Leads .svcRoute s fun t => ServiceEnded s t n 4 0 ∧
      t.rd (R.EVT_SRC src) = s.rd (R.EVT_SRC src))) ∧
  (∀ (n : Fin 4) (s : State), n ≠ 0 → s.calls n 3 → s.queueOn 1 = true →
    (s.canPush 1 2 = true → Leads .svcNotify s fun t => ServiceEnded s t n 0 0 ∧
      (t.queue 1).slots = (s.queue 1).slots ++ [.closed 0x40 [BitVec.ofNat 72 (0x80 * 2 ^ 64 + 0x40 * 2 ^ 56 + 2),
        BitVec.ofNat 72 (0x22 * 2 ^ 64 + n * 2 ^ 62), BitVec.ofNat 72 (s.serviceArg n 0)]]) ∧
    (s.canPush 1 2 = false → Leads .svcNotify s fun t => ServiceEnded s t n 5 0 ∧ t.queue 1 = s.queue 1))

/-! ### Registers -/

/-- The register map (R6): the fields of every register lie apart and inside its 32 bits. -/
def Obligations.RegisterFieldsLieApart : Prop := ∀ k r, regInfo k = some r → fieldsApart r.fields

/-- A host write of a register without an effect of its own (R6, R8, R9, R10): an RW field takes a value that is no reserved encoding
and keeps the old one otherwise, W1C clears and W1S sets the bits written as 1, RO and RC fields keep theirs; no other register and
nothing else changes. A write of an unassigned offset changes nothing; an access that is not one aligned word only sets bar_error
(R325). -/
def Obligations.RegisterWritesFollowAccessCodes : Prop :=
  (∀ (s : State) (off : BitVec 26) (v : Reg32) (r : RegInfo), s.hostOpen → off.toNat % 4 = 0 →
    let k := regKey off.toNat
    regInfo k = some r → fieldsApart r.fields → plainRegister k →
    Leads (.registerWrite .host off 4 v) s fun t => { t with regs := s.regs } = s ∧ SameRegsBut [k] s t ∧ ∀ f ∈ r.fields,
      (f.access = .rw → f.legal = [] → t.fld k f.field = getField v f.field) ∧
      (f.access = .rw → (∃ p ∈ f.legal, p.1 ≤ getField v f.field ∧ getField v f.field ≤ p.2) → t.fld k f.field = getField v f.field) ∧
      (f.access = .rw → f.legal ≠ [] → (∀ p ∈ f.legal, ¬(p.1 ≤ getField v f.field ∧ getField v f.field ≤ p.2)) →
        t.fld k f.field = s.fld k f.field) ∧
      (f.access = .w1c → t.fld k f.field = s.fld k f.field - (s.fld k f.field &&& getField v f.field)) ∧
      (f.access = .w1s → t.fld k f.field = s.fld k f.field ||| getField v f.field) ∧
      (f.access = .ro ∨ f.access = .rc → t.fld k f.field = s.fld k f.field)) ∧
  (∀ (s : State) (off : BitVec 26) (v : Reg32), s.hostOpen → off.toNat % 4 = 0 → regInfo (regKey off.toNat) = none →
    plainRegister (regKey off.toNat) → ∃ t, exec (.registerWrite .host off 4 v) s = .next t ∧ ∀ k, t.rd k = s.rd k) ∧
  (∀ (s : State) (off : BitVec 26) (size : Nat) (v : Reg32), s.hostOpen → size ≠ 4 ∨ off.toNat % 4 ≠ 0 →
    Leads (.registerWrite .host off size v) s fun t => FlagSet s t R.HST_FLAGS 6 (R.HST_EVCNT 6) ∧ Raised s t 486 ∧
      RegsOutside [0xE, 0xF] s t ∧ { t with regs := s.regs, evt := s.evt } = s)

/-- Reads (R6, R7, R9, R69, R325, R405): a read of a LO register gives the low part and leaves the matching other parts in its HI
registers (of ENC_TRG_NEXT for the next read of HI: assumption 178); a read of a read-clear field by host software or a core gives its
value and clears it, but for what the hardware sets in the same cycle, and HRT_FREE_LW starts again at the free count (assumption 25); a
register reads as its fields, a WO field and an unassigned offset as zero; a misaligned read ends with completer abort; in BANKED a read
outside the served windows wakes the device and waits. -/
def Obligations.RegisterReadsSnapshotAndClear : Prop :=
  (∀ (s : State) (off : BitVec 26) (n : Nat), s.hostOpen → n < 4 → off.toNat = R.ENC_COUNT_LO n →
    Leads (.snapshotRead .host off) s fun t => t.out = .readData ((s.enc n).count.setWidth 32) :: s.out ∧
      t.rd (R.ENC_COUNT_HI n) = (BitVec.extractLsb 55 32 (s.enc n).count).setWidth 32 ∧ SameRegsBut [R.ENC_COUNT_HI n] s t ∧
      { t with regs := s.regs, out := s.out } = s) ∧
  (∀ (s : State) (off : BitVec 26), s.hostOpen → off.toNat = R.TIM_NOW_LO →
    Leads (.snapshotRead .host off) s fun t => t.out = .readData (BitVec.ofNat 32 s.tim.counter) :: s.out ∧
      t.rd R.TIM_NOW_MID = BitVec.ofNat 32 (s.tim.counter / 2 ^ 32) ∧ t.rd R.TIM_NOW_HI = BitVec.ofNat 32 (s.tim.counter / 2 ^ 64) ∧
      SameRegsBut [R.TIM_NOW_MID, R.TIM_NOW_HI] s t ∧ { t with regs := s.regs, out := s.out } = s) ∧
  (∀ (s : State) (off : BitVec 26) (l : Nat) (c : Option Reg32), s.hostOpen → l < 16 → off.toNat = R.INT_LANE_LEVEL l →
    Leads (.rcRead .host off c) s fun t => (∃ v, t.out = .readData v :: s.out ∧
        getField v F.INT_LANE_LEVEL_high_water = s.fld off.toNat F.INT_LANE_LEVEL_high_water ∧
        getField v F.INT_LANE_LEVEL_occupancy = s.fld off.toNat F.INT_LANE_LEVEL_occupancy) ∧
      t.fld off.toNat F.INT_LANE_LEVEL_high_water = (c.map fun x => getField x F.INT_LANE_LEVEL_high_water).getD 0 ∧
      t.fld off.toNat F.INT_LANE_LEVEL_occupancy = s.fld off.toNat F.INT_LANE_LEVEL_occupancy ∧
      SameRegsBut [off.toNat] s t ∧ { t with regs := s.regs, out := s.out } = s) ∧
  (∀ (s : State), ∀ e ∈ s.loRegisters, ∀ (off : BitVec 26) (n : Nat), s.hostOpen → n < e.2.2.1 → off.toNat = e.1 + e.2.1 * n →
    Leads (.snapshotRead .host off) s fun t => t.out = .readData (BitVec.ofNat 32 (e.2.2.2.1 n)) :: s.out ∧
      (∀ i k, (e.2.2.2.2 n)[i]? = some k → t.rd k = BitVec.ofNat 32 (e.2.2.2.1 n / 2 ^ (32 * (i + 1)))) ∧
      SameRegsBut (e.2.2.2.2 n) s t ∧ { t with regs := s.regs, out := s.out } = s) ∧
  (∀ (s : State) (off : BitVec 26) (i : Nat), s.hostOpen → i < 16 →
    (off.toNat = R.ENC_TRG_NEXT_LO i → Leads (.snapshotRead .host off) s fun t =>
      t.out = .readData ((s.trig i).next.setWidth 32) :: s.out ∧
      t.trig i = { s.trig i with snap := some (BitVec.extractLsb 63 32 (s.trig i).next) } ∧ t.regs = s.regs) ∧
    (∀ v, off.toNat = R.ENC_TRG_NEXT_HI i → (s.trig i).snap = some v → Leads (.bar0Read off 4) s fun t =>
      t.out = .readData v :: s.out ∧ t.trig i = { s.trig i with snap := none } ∧ t.regs = s.regs)) ∧
  (∀ (s : State), ∀ e ∈ readClear, ∀ (off : BitVec 26) (n : Nat) (c : Option Reg32), n < e.2.2.1 → off.toNat = e.1 + e.2.1 * n →
    let Cleared (t : State) : Prop := t.fld off.toNat e.2.2.2 = (c.map fun x => getField x e.2.2.2).getD 0 ∧
      (∀ f : Field, f.hi < e.2.2.2.lo ∨ e.2.2.2.hi < f.lo → t.fld off.toNat f = s.fld off.toNat f) ∧
      SameRegsBut [off.toNat] s t ∧ { t with regs := s.regs, out := s.out } = s
    (s.hostOpen → Leads (.rcRead .host off c) s fun t => Cleared t ∧
      ∃ v, t.out = .readData v :: s.out ∧ getField v e.2.2.2 = s.fld off.toNat e.2.2.2) ∧
    (∀ m : Fin 4, s.coresStopped = false → Leads (.rcRead (.core m) off c) s fun t => Cleared t ∧ t.out = s.out)) ∧
  (∀ (s : State) (off : BitVec 26) (c : Option Reg32), s.hostOpen → off.toNat = R.HRT_FREE_LW →
    let free := s.fld R.HRT_FREE F.HRT_FREE_free
    Leads (.rcRead .host off c) s fun t => (∃ v, t.out = .readData v :: s.out ∧
        getField v F.HRT_FREE_LW_low_water = s.fld R.HRT_FREE_LW F.HRT_FREE_LW_low_water) ∧
      t.fld R.HRT_FREE_LW F.HRT_FREE_LW_low_water = (match c with
        | some x => min free (getField x F.HRT_FREE_LW_low_water)
        | none => free) ∧
      SameRegsBut [R.HRT_FREE_LW] s t ∧ { t with regs := s.regs, out := s.out } = s) ∧
  (∀ (s : State) (off : BitVec 26) (r : RegInfo), s.hostOpen → off.toNat % 4 = 0 →
    let k := regKey off.toNat
    regInfo k = some r → fieldsApart r.fields → shownPlain k → Leads (.bar0Read off 4) s fun t => { t with out := s.out } = s ∧
      ∃ v, t.out = .readData v :: s.out ∧ ∀ f ∈ r.fields, getField v f.field = if f.access = .wo then 0 else s.fld k f.field) ∧
  (∀ (s : State) (off : BitVec 26), s.hostOpen → off.toNat % 4 = 0 → regInfo (regKey off.toNat) = none →
    s.wide (regKey off.toNat) = none → ReadsAs (.bar0Read off 4) s 0) ∧
  (∀ (s : State) (off : BitVec 26) (n : Nat), s.hostOpen → n < 64 → off.toNat = R.INT_CTX_WIDTH n →
    ReadsAs (.bar0Read off 4) s (s.rd (R.INT_CTX_WIDTH n) &&& BitVec.ofNat 32 0xFFFF)) ∧
  (∀ (s : State) (off : BitVec 26) (size : Nat), s.hostOpen → size ≠ 4 ∨ off.toNat % 4 ≠ 0 →
    Leads (.bar0Read off size) s (Aborted s)) ∧
  (∀ (s : State) (off : BitVec 26), s.blw.state = .banked → s.hst.d3hot = false → off.toNat % 4 = 0 →
    off.toNat / 0x100000 ≠ 0 → off.toNat / 0x100000 ≠ 15 →
    Leads (.bar0Read off 4) s fun t => t.blw.state = .banked ∧ t.out = s.out ∧ t.blw.deferred = s.blw.deferred ++ [.read off.toNat] ∧
      t.blw.wake = some (s.blw.wake.getD ⟨s.ticks, 0x3FF, false⟩))

/-- SMBus Read Word (R437): the words of the table from a powered device, nothing for another code or without power; it
changes nothing else. -/
def Obligations.SmbusReadsStatusWords : Prop :=
  ∀ (s : State), s.blw.porAsserted = false →
    (s.blw.state ≠ .off →
      exec (.smbusReadWord 0x00) s = .next (s.emit (.smbusWord ((s.view R.BLW_ID).setWidth 16))) ∧
      exec (.smbusReadWord 0x01) s = .next (s.emit (.smbusWord ((s.view R.BLW_STATE).setWidth 16))) ∧
      exec (.smbusReadWord 0x02) s = .next (s.emit (.smbusWord
        ((BitVec.ofNat 12 (s.fld R.BLW_TEMP F.BLW_TEMP_die)).signExtend 16))) ∧
      exec (.smbusReadWord 0x03) s = .next (s.emit (.smbusWord
        ((BitVec.ofNat 12 (s.fld R.BLW_TEMP F.BLW_TEMP_hbm)).signExtend 16))) ∧
      exec (.smbusReadWord 0x04) s = .next (s.emit (.smbusWord
        (BitVec.ofNat 16 (s.fld R.BLW_SUPPLY F.BLW_SUPPLY_below_warn)))) ∧
      exec (.smbusReadWord 0x05) s = .next (s.emit (.smbusWord ((s.view R.BLW_RESET_CAUSE).setWidth 16))) ∧
      (∀ c : BitVec 8, 5 < c.toNat → exec (.smbusReadWord c) s = .next s)) ∧
    (s.blw.state = .off → ∀ c : BitVec 8, exec (.smbusReadWord c) s = .next s)

/-! ### Power, resets and supervision -/

/-- Power and the resets (R11, R25, R324, R391 to R394, R402): which domain each resets, its cause code, what is kept. -/
def Obligations.ResetsClearTheirDomains : Prop :=
  (∀ s : State, s.blw.state = .off → Leads .powerUp s fun t => PorResetTo s t 1 .reset) ∧
  (∀ s : State, Leads .powerDown s fun t => PorResetTo s t 1 .off) ∧
  (∀ (s : State) (rail : Fin 13), Leads (.undervoltage rail) s fun t => PorResetTo s t 1 .off) ∧
  (∀ s : State, s.blw.state ≠ .off → Leads .porNAssert s fun t => PorResetTo s t 2 .reset) ∧
  (∀ (s : State) (b : BitVec 2), s.blw.state = .reset → s.blw.porAsserted = true → Leads (.porNDeassert b) s fun t =>
    t.blw = { s.blw with porAsserted := false, bootSel := b } ∧
      t.fld R.BLW_CLK_STATUS F.BLW_CLK_STATUS_root_ok = 1 ∧ SameRegsBut [R.BLW_CLK_STATUS] s t) ∧
  (∀ s : State, s.blw.state ∉ ([.off, .reset] : List DevState) →
    Leads .conventionalReset s (LinkResetTo s) ∧ Leads .functionLevelReset s (LinkResetTo s) ∧
    Leads .perstNAssert s fun t => LinkResetTo s t ∧ t.blw.perstAsserted = true ∧ (s.blw.state = .banked → t.blw.wake.isSome)) ∧
  (∀ s : State, (∃ t, s.blw.faultTick = some t ∧ 1250000 ≤ s.ticks - t) → s.blw.state = .fault →
    s.bit R.BLW_CTRL F.BLW_CTRL_auto_reset = true → Leads .faultReset s fun t => DeviceResetTo s t 3 ∧ t.blw.wasFaultReset = true) ∧
  (∀ (s : State) (v : Reg32), s.hostOpen → BitVec.extractLsb 31 16 v = 0x5A5A → v.getLsbD 0 = true →
    Leads (.deviceReset v) s fun t => DeviceResetTo s t 5) ∧
  (∀ (s : State) (v : Reg32), s.hostOpen → BitVec.extractLsb 31 16 v ≠ 0x5A5A → exec (.deviceReset v) s = .next s) ∧
  (∀ (s : State) (d : Nat), s.blw.resetDue = some d → 1250 ≤ s.ticks - d → Leads .resetAfterResponse s fun t => DeviceResetTo s t 4) ∧
  (∀ (s : State) (e : Bool), exec (.d3hot e) s = .next { s with hst := { s.hst with d3hot := e } })

/-- Supervision (R326, R392, R400, R401): temperatures are reported and warned of, three die readings above trip, or a stack above
105 °C, end in FAULT with cause 3; a lost root or system clock ends in FAULT with cause 2; a low rail is shown and signalled. -/
def Obligations.SupervisionReportsAndFaults : Prop :=
  (∀ (s : State) (l : List (BitVec 12)) (m : BitVec 12), s.mayFault → l.length = 16 → m ∈ l → (∀ v ∈ l, v.toInt ≤ m.toInt) →
    Leads (.thermalSample l) s fun t => t.fld R.BLW_TEMP F.BLW_TEMP_die = m.toNat ∧
      t.fld R.BLW_TEMP F.BLW_TEMP_hbm = s.fld R.BLW_TEMP F.BLW_TEMP_hbm ∧
      (4 * ((s.fld R.BLW_THERM F.BLW_THERM_trip : Nat) : Int) < m.toInt → 2 ≤ s.blw.dieOver → FaultEntered s t 3) ∧
      (m.toInt ≤ 4 * ((s.fld R.BLW_THERM F.BLW_THERM_trip : Nat) : Int) → t.blw.dieOver = 0 ∧ t.blw.state = s.blw.state) ∧
      (s.blw.dieWarned = false → 4 * ((s.fld R.BLW_THERM F.BLW_THERM_warn : Nat) : Int) ≤ m.toInt → t.blw.dieWarned = true ∧
        t.fld R.BLW_FLAGS F.BLW_FLAGS_therm_warn = 1 ∧ Raised s t 505)) ∧
  (∀ (s : State) (v : BitVec 12), s.mayFault → Leads (.hbmTempSample v) s fun t => t.fld R.BLW_TEMP F.BLW_TEMP_hbm = v.toNat ∧
      t.fld R.BLW_TEMP F.BLW_TEMP_die = s.fld R.BLW_TEMP F.BLW_TEMP_die ∧
      (420 < v.toInt → FaultEntered s t 3) ∧ (v.toInt ≤ 420 → t.blw.state = s.blw.state)) ∧
  (∀ s : State, s.mayFault →
    (Leads (.clockLoss .root) s fun t => FaultEntered s t 2 ∧ t.fld R.BLW_CLK_STATUS F.BLW_CLK_STATUS_root_ok = 0 ∧
      t.fld R.BLW_FLAGS F.BLW_FLAGS_clk_loss = 1 ∧ Raised s t 504) ∧
    (Leads (.clockLoss .systemPll) s fun t => FaultEntered s t 2 ∧ t.fld R.BLW_CLK_STATUS F.BLW_CLK_STATUS_sys_pll_lock = 0 ∧
      t.fld R.BLW_CLK_STATUS F.BLW_CLK_STATUS_hbm_pll_lock = 0) ∧
    (Leads (.clockLoss .pciePll) s fun t => t.blw.state = s.blw.state ∧ t.hst.linkUp = false ∧
      t.fld R.BLW_CLK_STATUS F.BLW_CLK_STATUS_pcie_pll_lock = 0)) ∧
  (∀ (s : State) (rail : Fin 13), s.blw.state ≠ .off → (s.rd R.BLW_SUPPLY).getLsbD rail = false →
    Leads (.supplyWarn rail true) s fun t => (t.rd R.BLW_SUPPLY).getLsbD rail = true ∧ FlagSet s t R.BLW_FLAGS 2 (R.BLW_EVCNT 2) ∧
      Raised s t 506 ∧ OnlySignals [0] s t) ∧
  (∀ (s : State) (rail : Fin 13), s.blw.state ≠ .off → Leads (.supplyWarn rail false) s fun t =>
    t.rd R.BLW_SUPPLY = s.rd R.BLW_SUPPLY &&& ~~~BitVec.ofNat 32 (2 ^ rail.val) ∧ SameRegsBut [R.BLW_SUPPLY] s t ∧
      { t with regs := s.regs } = s) ∧
  (∀ (s : State) (sp : Fin 7) (w : Fin 9) (fl : Bool), s.blw.state ∉ ([.off, .reset] : List DevState) → sp.val ≠ 0 →
    w.val ∈ [1, 2, 4, 8] → Leads (.pcieLinkTrained sp w fl) s fun t => t.fld R.HST_LINK F.HST_LINK_speed = sp ∧
      t.fld R.HST_LINK F.HST_LINK_width = w ∧ t.hst.linkUp = true ∧ t.blw.state = s.blw.state ∧
      (sp.val < 6 ∨ w.val < 8 → FlagSet s t R.HST_FLAGS 2 (R.HST_EVCNT 2) ∧ Raised s t 482) ∧
      (sp.val = 6 → w.val = 8 → t.rd R.HST_FLAGS = s.rd R.HST_FLAGS))

/-- Boot (R290, R395 to R397, R412, R413): an accepted image starts the firmware on core 0 and clears boot_fails; a first failure from
flash enters FAULT with its reason recorded, a later one serves host push, as does flash without an image header under BOOT_SEL 0b10; a
pushed image is answered, and one that fails leaves the device in BOOT. READY opens Q0 and Q1; after a fault reset it recovers what the
journal holds, all is lost without it, and after another reset nothing is recovered. The restore list lapses after its time. -/
def Obligations.BootStartsVerifiedFirmware : Prop :=
  (∀ (s : State) (i : FirmwareImage), s.blw.state = .boot → s.blw.firmware = false → s.blw.pushing = false → s.queueOn 0 = false →
    (i.header = true → i.check = .accepted → s.sec.fuses.fwSvnMin ≤ i.svn.toNat →
      Leads (.firmwareVerified i) s fun t => FirmwareStarted s t i false) ∧
    (∀ r, s.imageFails i r → ¬(i.header = false ∧ s.blw.bootSel = 2) →
      (s.sec.bootFails = 0 → Leads (.firmwareVerified i) s fun t => FaultEntered s t 1 ∧ t.sec.bootFails = 1 ∧
        t.rd R.SEC_LAST_FAIL = BitVec.ofNat 32 (256 + r)) ∧
      (s.sec.bootFails ≠ 0 → s.mayOpen 0 → s.mayOpen 1 → Leads (.firmwareVerified i) s fun t => t.blw = s.blw ∧ t.sec.bootFails = 2 ∧
        t.rd R.SEC_LAST_FAIL = BitVec.ofNat 32 (256 + r) ∧ t.queueOn 0 = true ∧ t.queueOn 1 = true)) ∧
    (i.header = false → s.blw.bootSel = 2 → s.mayOpen 0 → s.mayOpen 1 → Leads (.firmwareVerified i) s fun t => t.blw = s.blw ∧
      t.sec = s.sec ∧ t.queueOn 0 = true ∧ t.queueOn 1 = true)) ∧
  (∀ (s : State) (i : FirmwareImage) (c : HostCmd), s.blw.state = .boot → s.blw.firmware = false → s.blw.pushing = true →
    s.hst.cmd = some c → s.queueOn 1 = true → slotsLevel (s.queue 1).slots + 3 ≤ s.queueDepth 1 →
    let Answer (t : State) (st v : Nat) : Prop := t.hst.cmd = none ∧ t.hst.lastSeq = c.seq ∧
      (t.queue 1).slots = (s.queue 1).slots ++ [.closed 0x40 (lengthWord 0x40 0 2 :: responseWords c.opcode 2 st c.seq v)]
    (i.header = true → i.check = .accepted → s.sec.fuses.fwSvnMin ≤ i.svn.toNat →
      Leads (.firmwareVerified i) s fun t => FirmwareStarted s t i true ∧ Answer t 0 0) ∧
    (∀ r, s.imageFails i r → Leads (.firmwareVerified i) s fun t => t.blw = { s.blw with pushing := false } ∧ Answer t 4 r ∧
      t.sec.bootFails = s.sec.bootFails ∧ t.rd R.SEC_LAST_FAIL = BitVec.ofNat 32 (256 + r))) ∧
  (∀ (s : State) (h : HbmResult) (d : TdcResult) (readable : Bool), s.blw.state = .boot → s.blw.firmware = true →
    (s.core 0).run ≠ .halted → s.mayOpen 0 → s.mayOpen 1 → Leads (.bootReady h d readable) s fun t => t.blw.state = .ready ∧
      t.queueOn 0 = true ∧ t.queueOn 1 = true ∧ t.fld R.BLW_STATE F.BLW_STATE_state = 3 ∧
      t.fld R.BLW_BOOT F.BLW_BOOT_boot_ms = min 65535 ((s.ticks - s.blw.bootTick) / 125000) ∧
      (s.blw.wasFaultReset = false → t.rcv = {}) ∧
      (s.blw.wasFaultReset = true → t.fld R.EMB_REC_STATUS F.EMB_REC_STATUS_valid = 1 ∧
        (s.jnl.enabled = true → readable = true → t.rcv.marks = s.jnl.pendingMarks ∧ t.rcv.since = some s.ticks ∧
          t.rcv.answers = s.jnl.openCommands ∧ t.rcv.digest = s.jnl.lastDigest ∧ FlagSet s t R.EMB_FLAGS 8 (R.EMB_EVCNT 8)) ∧
        (s.jnl.enabled = false ∨ readable = false → t.rcv = {} ∧ t.fld R.EMB_REC_STATUS F.EMB_REC_STATUS_lost = 1))) ∧
  (∀ (s : State) (d : Nat), s.rcv.since = some d → s.blw.state ∈ ([.ready, .armed, .run, .hold] : List DevState) →
    (s.fld R.EMB_CFG F.EMB_CFG_restore_hold_ms * 125000 ≤ s.ticks - d → Leads .restoreHoldExpiry s fun t =>
      t.rcv = { s.rcv with marks := [], since := none } ∧ t.tng.marks = s.tng.marks ∧
      t.fld R.EMB_REC_LOST F.EMB_REC_LOST_lost = min 131071 (s.fld R.EMB_REC_LOST F.EMB_REC_LOST_lost + s.rcv.marks.length)) ∧
    (s.ticks - d < s.fld R.EMB_CFG F.EMB_CFG_restore_hold_ms * 125000 → exec .restoreHoldExpiry s = .next s))

/-! ### Host commands -/

/-- The checks of R343 and R344: with another number of arguments a command is answered BADARG, outside its legal states STATE, and has
no other effect; a packet of another type is counted and not answered; an unknown opcode is answered BADARG. -/
def Obligations.HostCommandsAreChecked : Prop :=
  (∀ c ∈ hostCommands, ∀ (s : State) (w : Word) (args : List Word) (rest : List QSlot), s.commandWaits c.2.1 w args rest →
    (args.length ≠ c.2.2.1 → Leads c.1 s fun t => Answered s t c.2.1 2 0 w rest ∧ OnlyAnswers s t) ∧
    (args.length = c.2.2.1 → s.blw.state ∉ c.2.2.2 → Leads c.1 s fun t => Answered s t c.2.1 3 0 w rest ∧ OnlyAnswers s t)) ∧
  (∀ (s : State) (w : Word) (args : List Word) (rest : List QSlot) (op : Nat), s.commandWaits op w args rest →
    op ∉ hostCommands.map (fun c => c.2.1) → Leads .badCommandPacket s fun t => Answered s t op 2 0 w rest ∧ OnlyAnswers s t) ∧
  (∀ (s : State) (p : Nat) (len w : Word) (args : List Word) (rest : List QSlot),
    (s.queue 0).slots = .closed p (len :: w :: args) :: rest → BitVec.extractLsb 71 64 w ≠ 0x20 → s.queueOn 0 = true →
    s.queueOn 1 = true → slotsLevel (s.queue 1).slots + 3 ≤ s.queueDepth 1 → (s.core 0).run ≠ .halted →
    s.blw.state ∈ ([.ready, .armed, .run, .hold, .fault] : List DevState) → s.hst.cmd = none → s.rcv.answers = [] →
    Leads .badCommandPacket s fun t => t.rd R.HST_CMD_BAD = s.rd R.HST_CMD_BAD + 1 ∧ (t.queue 0).slots = rest ∧
      t.queue 1 = s.queue 1 ∧ t.hst.cmd = none ∧ OnlyAnswers s t)

/-- The transitions by command (R25, R344, R345, R370): START, STOP, HOLD and RESUME move the device and are answered with its new
state; while Quench holds START and RESUME are DENIED; IDENTIFY, RESET and TIME_RESTEP answer. -/
def Obligations.HostCommandsMoveTheDevice : Prop :=
  (∀ (s : State) (w : Word) (rest : List QSlot), s.commandWaits 0x012 w [] rest → s.blw.state = .armed →
    (s.bit R.HST_QUENCH F.HST_QUENCH_quench = false → Leads .start s fun t => Answered s t 0x012 0 0 w rest ∧ t.blw.state = .run ∧
      t.tng.frozen = false ∧ t.rcv.marks = (if s.rcv.since.isSome then [] else s.rcv.marks)) ∧
    (s.bit R.HST_QUENCH F.HST_QUENCH_quench = true → Leads .start s fun t => Answered s t 0x012 4 0 w rest ∧ OnlyAnswers s t)) ∧
  (∀ (s : State) (w : Word) (rest : List QSlot), s.commandWaits 0x013 w [] rest → s.blw.state = .run ∨ s.blw.state = .hold →
    Leads .stop s fun t => Answered s t 0x013 0 0 w rest ∧ t.blw.state = .armed ∧ t.fld R.BLW_STATE F.BLW_STATE_state = 4 ∧
      (∀ m ∈ t.tng.marks, ∃ i, m.2.2 = .sent i)) ∧
  (∀ (s : State) (w : Word) (rest : List QSlot), s.commandWaits 0x014 w [] rest → s.blw.state = .run →
    Leads .hold s fun t => Answered s t 0x014 0 0 w rest ∧ t.blw.state = .hold ∧ t.fld R.BLW_STATE F.BLW_STATE_state = 6 ∧
      t.tng = s.tng) ∧
  (∀ (s : State) (w : Word) (rest : List QSlot), s.commandWaits 0x015 w [] rest → s.blw.state = .hold →
    (s.bit R.HST_QUENCH F.HST_QUENCH_quench = false → Leads .resume s fun t => Answered s t 0x015 0 0 w rest ∧ t.blw.state = .run ∧
      t.tng.frozen = false) ∧
    (s.bit R.HST_QUENCH F.HST_QUENCH_quench = true → Leads .resume s fun t => Answered s t 0x015 4 0 w rest ∧ OnlyAnswers s t)) ∧
  (∀ (s : State) (w : Word) (rest : List QSlot), s.commandWaits 0x001 w [] rest →
    Leads .identify s fun t => Answered s t 0x001 0
      (if s.blw.firmware then Config.firmwareVersion.toNat else Config.romVersion.toNat) w rest ∧ OnlyAnswers s t) ∧
  (∀ (s : State) (w : Word) (rest : List QSlot), s.commandWaits 0x002 w [] rest →
    s.blw.state ≠ .ready ∨ s.ballsDriven = false → Leads .reset s fun t => Answered s t 0x002 0 0 w rest ∧
      t.blw = { s.blw with resetDue := some s.ticks }) ∧
  (∀ (s : State) (w : Word) (rest : List QSlot), s.commandWaits 0x030 w [] rest →
    s.blw.state ∈ ([.ready, .armed, .run, .hold] : List DevState) →
    (s.tim.state = .holdover → Leads .timeRestep s fun t => Answered s t 0x030 0 0 w rest ∧ t.tim = { s.tim with restep := true }) ∧
    (s.tim.state ≠ .holdover → Leads .timeRestep s fun t => Answered s t 0x030 4 0 w rest ∧ OnlyAnswers s t))

/-- The commands on Hearth, queues and the security root (R262, R264, R334, R344, R396, R416): a buffer is allocated with the next
generation of its index, freed, pinned, unpinned, described; SNUFF answers with the words discarded; ATTEST starts and ends with its
report or FAULT; BOOT_PUSH starts. That a busy port is answered BUSY and a response waits for frames is the model's choice (logs 60 and 90). -/
def Obligations.HostCommandsServeHearthAndSecurity : Prop :=
  (∀ (s : State) (w a : Word) (rest : List QSlot), s.commandWaits 0x020 w [a] rest → s.apFree →
    let n := (BitVec.extractLsb 18 0 a).toNat
    0 < n → n ≤ s.fld R.HRT_CAP F.HRT_CAP_cap → s.buffers.length < 1048576 → s.hearthBounds n 0 = true →
    let i := s.lowestIndex
    let g := if (s.hslot i).gen = 4095 then 1 else (s.hslot i).gen + 1
    Leads .hrtAlloc s fun t => Answered s t 0x020 0 (mkHandle i g).toNat w rest ∧
      t.hslot i = { gen := g, buf := some { size := n, pinned := false, base := .unbacked } } ∧ (∀ j, j ≠ i → t.hslot j = s.hslot j) ∧
      t.rd (R.HRT_AP_HANDLE 0) = mkHandle i g) ∧
  (∀ (s : State) (w a : Word) (rest : List QSlot), s.commandWaits 0x021 w [a] rest → s.apFree →
    let n := (BitVec.extractLsb 18 0 a).toNat
    0 < n → n ≤ s.fld R.HRT_CAP F.HRT_CAP_cap → s.buffers.length < 1048576 → s.hearthBounds n n = true →
    let i := s.lowestIndex
    let g := if (s.hslot i).gen = 4095 then 1 else (s.hslot i).gen + 1
    let Taken (t : State) : Prop := (∀ j, j ≠ i → t.hslot j = s.hslot j) ∧
      t.hslot i = { gen := g, buf := some { size := n, pinned := true, base := .resident false true none } }
    (s.sumBuffers Buffer.residentCount + n ≤ s.fld R.HRT_CAP F.HRT_CAP_cap → Leads .hrtAllocPin s fun t =>
      Answered s t 0x021 0 (mkHandle i g).toNat w rest ∧ Taken t ∧ t.rd (R.HRT_AP_HANDLE 0) = mkHandle i g) ∧
    (s.fld R.HRT_CAP F.HRT_CAP_cap < s.sumBuffers Buffer.residentCount + n → Leads .hrtAllocPin s fun t => Taken t ∧
      t.bit (R.HRT_AP_STATUS 0) F.HRT_AP_STATUS_busy = true ∧ t.hrt.pagingOut = true ∧ t.queue 1 = s.queue 1 ∧
      (t.queue 0).slots = rest)) ∧
  (∀ (s : State) (w a : Word) (rest : List QSlot) (c : Instr × Nat), s.commandWaits c.2 w [a] rest →
    s.blw.state ∈ ([.ready, .armed, .run, .hold] : List DevState) →
    c ∈ [(.hrtAlloc, 0x020), (.hrtAllocPin, 0x021), (.hrtFree, 0x022), (.hrtPin, 0x023), (.hrtUnpin, 0x024), (.hrtQuery, 0x025)] →
    (s.bit (R.HRT_AP_STATUS 0) F.HRT_AP_STATUS_busy = true → Leads c.1 s fun t => Answered s t c.2 1 0 w rest ∧ OnlyAnswers s t) ∧
    (s.bit (R.HRT_AP_STATUS 0) F.HRT_AP_STATUS_busy = false → 0x022 ≤ c.2 → s.buffer (a.setWidth 32) = none →
      Leads c.1 s fun t => Answered s t c.2 2 0 w rest ∧ t.hrt = s.hrt)) ∧
  (∀ (s : State) (w a : Word) (rest : List QSlot) (b : Buffer), s.apFree → s.buffer (a.setWidth 32) = some b → b.kind = .ordinary →
    b.held = false →
    (s.commandWaits 0x022 w [a] rest → Leads .hrtFree s fun t => Answered s t 0x022 0 0 w rest ∧ t.buffer (a.setWidth 32) = none) ∧
    (s.commandWaits 0x024 w [a] rest → Leads .hrtUnpin s fun t => Answered s t 0x024 0 0 w rest ∧
      t.buffer (a.setWidth 32) = some { b with pinned := false }) ∧
    (s.commandWaits 0x023 w [a] rest → (b.pinned = true → Leads .hrtPin s fun t => Answered s t 0x023 0 0 w rest ∧
        t.buffer (a.setWidth 32) = some b) ∧
      (b.pinned = false → s.hearthBounds 0 b.size = false → Leads .hrtPin s fun t => Answered s t 0x023 5 0 w rest ∧ t.hrt = s.hrt) ∧
      (b.pinned = false → s.hearthBounds 0 b.size = true → (∀ p ∈ b.frames, p.2.isSpilled = false) →
        (s.setBuffer (a.setWidth 32) b.backAll).framesOwed = false → Leads .hrtPin s fun t => Answered s t 0x023 0 0 w rest ∧
          t.buffer (a.setWidth 32) = some b.backAll)) ∧
    (s.commandWaits 0x025 w [a] rest → Leads .hrtQuery s fun t => Answered s t 0x025 0 b.info.toNat w rest ∧
      t.rd (R.HRT_AP_INFO 0) = b.info ∧ t.buffer (a.setWidth 32) = some b)) ∧
  (∀ (s : State) (w a : Word) (rest : List QSlot), s.commandWaits 0x050 w [a] rest →
    s.blw.state ∈ ([.ready, .armed, .run, .hold] : List DevState) →
    let q := (BitVec.extractLsb 5 0 a).toNat
    (2 ≤ q → Leads .snuff s fun t => Answered s t 0x050 0 ((flushSlots 1 (s.queue q).slots).2.1 % 2 ^ 64) w rest ∧
      (t.queue q).slots = (flushSlots 1 (s.queue q).slots).1 ∧ t.fld (R.HST_Q_FLAGS q) F.HST_Q_FLAGS_snuffed = 1) ∧
    (q < 2 → Leads .snuff s fun t => Answered s t 0x050 2 0 w rest ∧ OnlyAnswers s t)) ∧
  (∀ (s : State) (w : Word) (args : List Word) (rest : List QSlot), s.commandWaits 0x040 w args rest → args.length = 5 →
    s.blw.state ∈ ([.ready, .armed, .run, .hold] : List DevState) →
    (s.attestCheck ((args.getD 4 0).setWidth 32) = none → Leads .attest s fun t => t.sec = { s.sec with jobs := s.sec.jobs ++ [.attest] } ∧
      t.hst.cmd.any (fun c => c.opcode == 0x040 && c.args == args) = true ∧ (t.queue 0).slots = rest ∧ t.queue 1 = s.queue 1) ∧
    (∀ st, s.attestCheck ((args.getD 4 0).setWidth 32) = some st → Leads .attest s fun t => Answered s t 0x040 st 0 w rest)) ∧
  (∀ (s : State) (jobs : List SecJob) (c : HostCmd), s.sec.jobs = .attest :: jobs → s.hst.cmd = some c →
    s.attestCheck ((c.args.getD 4 0).setWidth 32) ≠ none → Leads .attestDone s fun t => t.sec.jobs = jobs ∧ CmdEnded s t 6 0) ∧
  (∀ (s : State) (jobs : List SecJob) (c : HostCmd) (b : Buffer), s.sec.jobs = .attest :: jobs → s.hst.cmd = some c →
    let h := (c.args.getD 4 0).setWidth 32
    s.grantsWrite h b 0 50208 → b.poisoned = false → Leads .attestDone s fun t => t.sec.jobs = jobs ∧ CmdEnded s t 0 50208 ∧
      Memory.reads t.hrt.bytes (byteKey h 0) 6 = [0x16, 0x00, 0x4B, 0x1F, 0x03, 0x01] ∧
      ∀ k, k < byteKey h 0 ∨ byteKey h 50208 ≤ k → Memory.read t.hrt.bytes k = Memory.read s.hrt.bytes k) ∧
  (∀ (s : State) (w a b : Word) (rest : List QSlot), s.commandWaits 0x003 w [a, b] rest → s.blw.state = .boot →
    let n := (BitVec.extractLsb 31 0 b).toNat
    29872 ≤ n → n ≤ 1078432 → n % 16 = 0 → Leads .bootPush s fun t => t.blw = { s.blw with pushing := true } ∧
      t.hst.cmd.any (fun c => c.opcode == 0x003) = true ∧ (t.queue 0).slots = rest ∧ t.queue 1 = s.queue 1)

/-! ### Recipes, BANKED, Quench, queues, rings, events -/

/-- LOAD and UNLOAD (R319, R344, R414): LOAD pins and holds the image and asks for its verification; a rejected image is answered DENIED
with the reason; a verified one halts cores 1 to 3 with cause 0x04; the sections take effect once the path has drained, and a rejected one
leaves READY without a recipe; ARMED follows when the required links are up and the rings have their frames (log 90); the timeouts
answer BUSY and FAULT; UNLOAD drains and returns to READY. -/
def Obligations.RecipesLoadStepByStep : Prop :=
  (∀ (s : State) (w a : Word) (rest : List QSlot) (b : Buffer), s.commandWaits 0x010 w [a] rest →
    s.blw.state ∈ ([.ready, .armed] : List DevState) → s.buffer (a.setWidth 32) = some b →
    (s.blw.state = .ready → s.ballsDriven = true → Leads .load s fun t => Answered s t 0x010 4 0 w rest ∧ OnlyAnswers s t) ∧
    (s.blw.state = .armed ∨ s.ballsDriven = false →
      (b.pinned = true ∨ s.hearthBounds 0 b.size = true → Leads .load s fun t =>
        t.buffer (a.setWidth 32) = some { (if b.pinned then b else b.backAll) with held := true } ∧
        t.sec.jobs = s.sec.jobs ++ [.recipe] ∧ (t.queue 0).slots = rest ∧ t.rcp.run.any (fun r => r.handle == a.setWidth 32 &&
          r.step == 1 && !r.unload && r.wasPinned == b.pinned) = true ∧ t.blw = s.blw ∧ t.queue 1 = s.queue 1) ∧
      (b.pinned = false → s.hearthBounds 0 b.size = false → Leads .load s fun t => Answered s t 0x010 5 0 w rest ∧ OnlyAnswers s t))) ∧
  (∀ (s : State) (w a : Word) (rest : List QSlot), s.commandWaits 0x010 w [a] rest →
    s.blw.state ∈ ([.ready, .armed] : List DevState) → s.buffer (a.setWidth 32) = none →
    Leads .load s fun t => Answered s t 0x010 2 0 w rest ∧ OnlyAnswers s t) ∧
  (∀ (s : State) (r : LoadRun) (jobs : List SecJob) (ok : Bool), s.loadIn r 1 → s.sec.jobs = .recipe :: jobs → (∀ p ∈ s.hrt.pinWait, p.1 ≠ 5) →
    (s.recipeReason r.handle r.keys ok = 0 → Leads (.recipeVerified ok) s fun t => t.sec.jobs = jobs ∧
      t.rcp.run.any (fun x => x.step == 3 && x.digest == Config.shake256 (s.imageMessage r.handle)) = true ∧
      (∀ n, 0 < n → n < 4 → (s.core n).run = .running ∨ (s.core n).run = .waiting → (t.core n).run = .halted ∧ (t.core n).haltCause = 0x04 ∧
        (t.core n).g = (s.core n).g ∧ (t.core n).tags = (s.core n).tags) ∧ t.blw.state = s.blw.state ∧
      t.meas 2 = Config.shake256 (toBytes 64 (s.meas 2).toNat ++ toBytes 64 (Config.shake256 (s.imageMessage r.handle)).toNat)) ∧
    (s.recipeReason r.handle r.keys ok ≠ 0 → Leads (.recipeVerified ok) s fun t => t.sec.jobs = jobs ∧ t.rcp.run = none ∧
      t.rd R.SEC_LAST_FAIL = BitVec.ofNat 32 (2 * 256 + s.recipeReason r.handle r.keys ok) ∧ t.wck = s.wck ∧
      t.blw.state = s.blw.state ∧ CmdEnded s t 4 (s.recipeReason r.handle r.keys ok) ∧
      ∀ b, s.buffer r.handle = some b → r.unload = false → t.buffer r.handle = some { b with held := false, pinned := r.wasPinned })) ∧
  (∀ (s e : State) (r : LoadRun) (l : List Section) (u : State), s.loadIn r 3 → r.unload = false →
    s.blw.state = .ready ∨ s.pathDrained = true →
    e = { s.freeRecipeTags.clearRecipe.emptyPipeline with rcp := { s.freeRecipeTags.clearRecipe.emptyPipeline.rcp with run := none } } →
    let sections := parseSections (s.imageLength r.handle / 16 + 1) (e.readBuffer r.handle 29856 (s.imageLength r.handle)).1
    let Fails (t : State) : Prop := t.blw.state = .ready ∧ t.rcp.run = none ∧ t.rcp.loaded = false ∧ t.rcp.rings = []
    (sections = some l → l.all Section.ok = true → e.loadSections l = (0, u) → Leads .loadDrainDone s fun t => { t with rcp := u.rcp } = u ∧ ∃ x,
      t.rcp = { u.rcp with run := some x } ∧ x.step = 6 ∧ x.tick = u.ticks ∧ x.ports = (portsOf l).1 ∧ x.linkWait = (portsOf l).2 ∧
      x.starts = startsOf l ∧ x.digest = r.digest ∧ x.svn = r.svn ∧ x.handle = r.handle) ∧
    (∀ st, sections = some l → l.all Section.ok = true → e.loadSections l = (st, u) → st ≠ 0 → Leads .loadDrainDone s Fails) ∧
    (sections = some l → l.all Section.ok = false → Leads .loadDrainDone s fun t => Fails t ∧ CmdEnded s t 2 0) ∧
    (sections = none → Leads .loadDrainDone s fun t => Fails t ∧ CmdEnded s t 2 0)) ∧
  (∀ (s : State) (r : LoadRun), s.loadIn r 3 → s.blw.state = .armed → s.pathDrained = false → 12500000 ≤ s.ticks - r.tick →
    Leads .loadDrainTimeout s fun t => t.rcp = { s.rcp with run := none } ∧ t.blw.state = .armed ∧ CmdEnded s t 1 0 ∧
      (r.cores = [] → t.wck = s.wck) ∧
      (∀ n c, r.cores = [(n, c)] → (t.core n).haltCause = c.haltCause ∧ (t.core n).pc = (s.core n).pc ∧ (t.core n).g = (s.core n).g ∧
        (t.core n).run = (if c.inService && !(s.core n).inService then .running else c.run))) ∧
  (∀ (s : State) (r : LoadRun), s.loadIn r 6 → s.framesOwed = false →
    (∀ p, p < 16 → r.ports.getLsbD p = true → (s.camLink (4 * p)).state = .up) →
    Leads .loadLinksUp s fun t => t.blw.state = .armed ∧ t.rcp.loaded = true ∧ t.rcp.digest = r.digest ∧ t.rcp.run = none ∧
      t.sec.rcpSvn = some r.svn ∧ (s.jnl.enabled = true → .digest r.digest ∈ t.jnl.backlog ++ t.jnl.waiting) ∧ CmdEnded s t 0 0 ∧ (r.starts = [] → t.wck = s.wck) ∧
      (∀ n pc vbase ifsp iflim, r.starts = [(n, [pc, vbase, ifsp, iflim])] → (t.core n).run = .running ∧
        (t.core n).pc = BitVec.ofNat 32 pc ∧ (t.core n).vbase = BitVec.ofNat 32 vbase &&& ~~~0xFFF ∧
        (t.core n).ifsp = BitVec.ofNat 32 ifsp &&& ~~~0xF ∧ (t.core n).iflim = BitVec.ofNat 32 iflim ∧ (t.core n).ie = false ∧
        (t.core n).rp = 16)) ∧
  (∀ (s : State) (r : LoadRun) (p : Nat), s.loadIn r 6 → p < 16 → r.ports.getLsbD p = true → (s.camLink (4 * p)).state ≠ .up →
    12500000 * r.linkWait ≤ s.ticks - r.tick → Leads .linkWaitTimeout s fun t => t.blw.state = .ready ∧ t.rcp.run = none ∧
      t.rcp.loaded = false ∧ t.rcp.rings = [] ∧ CmdEnded s t 6 0) ∧
  (∀ (s : State) (w : Word) (rest : List QSlot), s.commandWaits 0x011 w [] rest → s.blw.state = .armed → Leads .unload s fun t =>
    t.rcp = { s.rcp with run := some { unload := true, step := 3, tick := s.ticks } } ∧ t.blw = s.blw ∧ (t.queue 0).slots = rest ∧
      t.queue 1 = s.queue 1) ∧
  (∀ (s : State) (r : LoadRun), s.loadIn r 3 → r.unload = true → s.pathDrained = true → Leads .unloadDrainDone s fun t =>
    t.blw.state = .ready ∧ t.rcp.loaded = false ∧ t.rcp.run = none ∧ t.sec.rcpSvn = none ∧ t.wck.svc = [] ∧ CmdEnded s t 0 0 ∧
      (∀ n, 0 < n → n < 4 → (t.core n).tags = [] ∧ (t.core n).run ≠ .running))

/-- BANKED (R171, R320, R403, R405, R407): BANK stops the trigger path and saves the streams, is answered BUSY while a recipe core runs,
and DENIED while the TAP drives the balls; saved, the device enters BANKED with its state kept and its array empty, CLK_HBM gated; a
timeout restarts what was stopped; a completed wake restores the state, records the cause, signals, and completes the accesses deferred. -/
def Obligations.BankedKeepsTheDeviceState : Prop :=
  (∀ (s : State) (w : Word) (rest : List QSlot), s.commandWaits 0x016 w [] rest → s.blw.state ∈ ([.ready, .armed] : List DevState) →
    s.ballsDriven = false →
    (s.coreBanks 1 = true → s.coreBanks 2 = true → s.coreBanks 3 = true → Leads .bank s fun t => t.blw.banking = some s.ticks ∧
      t.blw.state = s.blw.state ∧ t.heldOst = s.ost ∧ (t.queue 0).slots = rest ∧ t.queue 1 = s.queue 1 ∧
      (∀ l, l < 64 → (t.camLink l).state = .down)) ∧
    ((∃ n, 0 < n ∧ n < 4 ∧ s.coreBanks n = false) → Leads .bank s fun t => Answered s t 0x016 1 0 w rest ∧
      FlagSet s t R.BLW_FLAGS 3 (R.BLW_EVCNT 3) ∧ Raised s t 507 ∧ t.blw = s.blw)) ∧
  (∀ (s : State) (w : Word) (rest : List QSlot), s.commandWaits 0x016 w [] rest → s.blw.state = .ready → s.ballsDriven = true →
    Leads .bank s fun t => Answered s t 0x016 4 0 w rest ∧ OnlyAnswers s t) ∧
  (∀ (s : State) (b : Nat), s.blw.banking = some b → s.blw.state ∈ ([.ready, .armed] : List DevState) → s.bankReady = true →
    Leads .bankSaveDone s fun t => t.blw.state = .banked ∧
    t.blw.bankedFrom = s.blw.state ∧ t.blw.banking = none ∧ t.anv.lines = [] ∧ t.anv.engines = [] ∧
    (t.blw.wake = none → t.hrt.selfRefresh = true ∧ t.bit R.BLW_CLK_STATUS F.BLW_CLK_STATUS_hbm_pll_lock = false) ∧
    (s.tim.state = .tracking → t.tim.state = .holdover) ∧ ((∀ d, d < 64 → s.ringIs d 1 = false) → CmdEnded s t 0 0)) ∧
  (∀ (s : State) (b : Nat), s.blw.banking = some b → s.bankReady = false → 12500000 ≤ s.ticks - b → Leads .bankTimeout s fun t =>
    t.blw.banking = none ∧ t.blw.state = s.blw.state ∧ FlagSet s t R.BLW_FLAGS 3 (R.BLW_EVCNT 3) ∧ CmdEnded s t 1 0 ∧
    (∀ u, u < 8 → (t.ostUnit u).run = (sget (fun _ => ({} : OstUnit)) s.heldOst u).run)) ∧
  (∀ (s : State) (w : WakeRun), s.blw.wake = some w → s.blw.state = .banked → w.resumed = true →
    (∀ p ∈ s.lan.links, p.2.resuming = false) → s.blw.bankedFrom ∈ ([.ready, .armed] : List DevState) →
    Leads .wakeComplete s fun t => ∃ u, t = s.blw.deferred.foldl State.completeAccess u ∧ u.blw.state = s.blw.bankedFrom ∧
      u.blw.wake = none ∧ u.blw.deferred = [] ∧ u.fld R.EVT_LTN_CAUSE F.EVT_LTN_CAUSE_source = w.cause % 1024 ∧
      FlagSet s u R.EVT_FLAGS 0 R.EVT_EVCNT_0 ∧ Raised s u 511 ∧
      u.fld R.BLW_WAKE_US F.BLW_WAKE_US_wake_us = min 65535 ((s.ticks - w.tick) / 125))

/-- Quench (R222, R230, R345, R346, R378, R406): set by host software, the ball or a plant-port datagram: the bit set, RUN becomes HOLD,
enabled marker links send K23.7 and every SENT mark waits again; a datagram that may not set it is counted; released only with the ball
deasserted, and the device stays in HOLD. -/
def Obligations.QuenchHoldsTheDevice : Prop :=
  (∀ s : State, s.bit R.HST_QUENCH F.HST_QUENCH_quench = false →
    let Q (s t : State) : Prop := t.bit R.HST_QUENCH F.HST_QUENCH_quench = true ∧
      t.blw.state = (if s.blw.state = .run then .hold else s.blw.state) ∧ FlagSet s t R.HST_FLAGS 0 (R.HST_EVCNT 0) ∧ Raised s t 480 ∧
      t.tng.frozen = true ∧ (s.blw.state = .run → t.tng.byQuench = true) ∧ (s.blw.state ≠ .run → t.tng.byQuench = s.tng.byQuench) ∧
      t.tng.marks = s.tng.marks.map (fun m => (m.1, m.2.1, match m.2.2 with | .sent _ => .waiting | x => x)) ∧
      (∀ m, m < 8 → (t.link m).due = []) ∧
      (∀ m, m < 8 → s.bit (R.TNG_LINK_CFG m) F.TNG_LINK_CFG_enable = true → Out.markerQuench m ∈ t.out)
    (s.hostOpen → Leads .quench s (Q s)) ∧
    (s.blw.state ≠ .off → Leads (.quenchNAssert true) s fun t => Q s t ∧ t.hst = { s.hst with quenchPin := true }) ∧
    (∀ (k : Fin 2) (f : PlantFrame), s.bit (R.TIM_PP_CFG k) F.TIM_PP_CFG_enable = true → s.blw.state ∉ ([.off, .reset, .banked] : List DevState) →
      s.isQuenchDatagram k f = true → Leads (.quenchDatagram k f) s fun t =>
        t.rd (R.TIM_PP_QUENCH_RX k) = s.rd (R.TIM_PP_QUENCH_RX k) + 1 ∧ t.fld R.TIM_FLAGS ⟨7, 7⟩ = 1 ∧
        (s.bit R.TIM_CFG F.TIM_CFG_quench_en = true → Q s t) ∧
        (s.bit R.TIM_CFG F.TIM_CFG_quench_en = false → OnlySignals [0x10] s t))) ∧
  (∀ s : State, s.bit R.HST_QUENCH F.HST_QUENCH_quench = true → (s.hostOpen → exec .quench s = .next s) ∧
    (s.blw.state ≠ .off → exec (.quenchNAssert true) s = .next { s with hst := { s.hst with quenchPin := true } }) ∧
    (s.hostOpen → s.hst.quenchPin = true → exec .quenchRelease s = .next s) ∧
    (s.hostOpen → s.hst.quenchPin = false → Leads .quenchRelease s fun t => t.bit R.HST_QUENCH F.HST_QUENCH_quench = false ∧
      t.blw.state = s.blw.state ∧ FlagSet s t R.HST_FLAGS 1 (R.HST_EVCNT 1) ∧ Raised s t 481 ∧ t.tng.marks = s.tng.marks ∧
      (∀ m, m < 8 → s.bit (R.TNG_LINK_CFG m) F.TNG_LINK_CFG_enable = true → (t.link m).config.length = 128))) ∧
  (∀ s : State, exec (.quenchNAssert false) s = .next { s with hst := { s.hst with quenchPin := false } })

/-- Rings (R325, R338 to R341): doorbells, the start and the end of a ring, packets from and to host memory, receive buffers, copies, and
the stop of a ring on an error. That the data alone carries relaxed ordering is the model's reading (log 180). -/
def Obligations.RingsMoveBetweenHostAndDevice : Prop :=
  (∀ (s : State) (d : Fin 64) (v : Reg32), s.hostOpen → s.bit (R.HST_RING_CFG d) F.HST_RING_CFG_enable = true →
    ((v - s.rd (R.HST_RING_DEV d)).toNat ≤ 2 ^ s.fld (R.HST_RING_CFG d) F.HST_RING_CFG_size_log2 → Leads (.doorbell d v 4) s fun t =>
      t.rd (R.HST_RING_HOST d) = v ∧ SameRegsBut [R.HST_RING_HOST d] s t ∧ { t with regs := s.regs } = s) ∧
    (2 ^ s.fld (R.HST_RING_CFG d) F.HST_RING_CFG_size_log2 < (v - s.rd (R.HST_RING_DEV d)).toNat → Leads (.doorbell d v 4) s fun t =>
      RingStopped s t d 1)) ∧
  (∀ (s : State) (d : Fin 64) (v : Reg32), s.bit (R.HST_RING_CFG d) F.HST_RING_CFG_enable = false → exec (.doorbell d v 4) s = .next s) ∧
  (∀ (s : State) (d : Fin 64) (size : Nat) (v : Reg32), s.hostOpen → size ≠ 4 → Leads (.doorbell d v size) s fun t =>
    FlagSet s t R.HST_FLAGS 6 (R.HST_EVCNT 6) ∧ Raised s t 486 ∧ OnlySignals [0xE] s t) ∧
  (∀ (s : State) (d : Fin 64) (v : Reg32), s.hostOpen → s.bit (R.HST_RING_CFG d) F.HST_RING_CFG_enable = false →
    getField v F.HST_RING_CFG_enable = 1 → Leads (.ringEnable d v) s fun t => t.bit (R.HST_RING_CFG d) F.HST_RING_CFG_enable = true ∧
      t.rd (R.HST_RING_DEV d) = 0 ∧ t.rd (R.HST_RING_HOST d) = 0 ∧ t.rd (R.HST_RING_ERR d) = 0 ∧
      t.fld (R.HST_RING_CFG d) F.HST_RING_CFG_kind = getField v F.HST_RING_CFG_kind ∧
      SameRegsBut [R.HST_RING_CFG d, R.HST_RING_DEV d, R.HST_RING_HOST d, R.HST_RING_ERR d] s t ∧ { t with regs := s.regs } = s) ∧
  (∀ (s : State) (d : Fin 64) (v : Reg32), s.hostOpen → s.bit (R.HST_RING_CFG d) F.HST_RING_CFG_enable = true →
    getField v F.HST_RING_CFG_enable = 0 → Leads (.ringDisable d v) s fun t => t.bit (R.HST_RING_CFG d) F.HST_RING_CFG_enable = false ∧
      SameRegsBut [R.HST_RING_CFG d] s t ∧ { t with regs := s.regs } = s) ∧
  (∀ (s : State) (d : Fin 64) (len : Word) (ws : List Word), s.ringServes d 0 →
    let q := s.fld (R.HST_RING_CFG d) F.HST_RING_CFG_queue
    0x80 ≤ (BitVec.extractLsb 71 64 len).toNat → (BitVec.extractLsb 71 64 len).toNat ≤ 0xBF →
    (BitVec.extractLsb 15 0 len).toNat = ws.length → ws.length ≤ 4095 → ws.length + 1 ≤ s.ringEntries d → s.queueOn q = true →
    slotsLevel (s.queue q).slots + ws.length + 1 ≤ s.queueDepth q → Leads (.queueInPush d len ws true) s fun t =>
      Advanced s t d (ws.length + 1) .response ∧ (t.queue q).slots = (s.queue q).slots ++
        [.closed d (((0x80 : BitVec 8) ++ BitVec.ofNat 8 d ++ (0 : BitVec 40) ++ BitVec.ofNat 16 ws.length) :: ws)]) ∧
  (∀ (s : State) (d : Fin 64) (len : Word) (ws : List Word), s.ringServes d 0 → 0 < s.ringEntries d →
    Leads (.queueInPush d len ws false) s (RingStopped s · d 3) ∧
    ((BitVec.extractLsb 71 64 len).toNat < 0x80 → Leads (.queueInPush d len ws true) s (RingStopped s · d 2))) ∧
  (∀ (s : State) (d : Fin 64) (p : Nat) (ws : List Word) (rest : List QSlot) (bad : Nat), s.ringServes d 1 →
    let q := s.fld (R.HST_RING_CFG d) F.HST_RING_CFG_queue
    (s.queue q).slots = .closed p ws :: rest → ws.length ≤ s.ringEntries d →
    s.bit (R.HST_RING_CFG d) F.HST_RING_CFG_dense = false →
    (s.bit R.HST_QUENCH F.HST_QUENCH_quench = false ∨ q = 1 → Leads (.queueOutMove d .clean bad true) s fun t =>
      Advanced s t d ws.length (if q = 1 then .response else .records) ∧ (t.queue q).slots = rest ∧
      t.out.length = s.out.length + ws.length + 1) ∧
    (s.bit R.HST_QUENCH F.HST_QUENCH_quench = true → q ≠ 1 → exec (.queueOutMove d .clean bad true) s = .next s)) ∧
  (∀ (s : State) (d : Fin 64) (p : Nat) (len : Word) (ws : List Word) (rest : List QSlot) (bad : Nat), s.ringServes d 1 →
    let q := s.fld (R.HST_RING_CFG d) F.HST_RING_CFG_queue
    s.bit (R.HST_RING_CFG d) F.HST_RING_CFG_dense = true → (s.queue q).slots = .closed p (len :: ws) :: rest →
    s.bit R.HST_QUENCH F.HST_QUENCH_quench = false →
    (denseOk ws = true → ws.length ≤ s.ringEntries d → Leads (.queueOutMove d .clean bad true) s fun t =>
      Advanced s t d ws.length (if q = 1 then .response else .records) ∧ (t.queue q).slots = rest) ∧
    (denseOk ws = false → Leads (.queueOutMove d .clean bad true) s fun t => (t.queue q).slots = rest ∧ t.out = s.out ∧
      t.rd (R.HST_Q_DROP q) = s.rd (R.HST_Q_DROP q) + BitVec.ofNat 32 (ws.length + 1))) ∧
  (∀ (s : State) (d : Fin 64) (p : Nat) (w : Word) (rest : List QSlot) (bad : Nat), s.ringServes d 1 →
    let q := s.fld (R.HST_RING_CFG d) F.HST_RING_CFG_queue
    s.bit R.HST_QUENCH F.HST_QUENCH_quench = false → 0 < s.ringEntries d →
    ((s.queue q).slots = .void w :: rest → Leads (.queueOutMove d .clean bad true) s fun t =>
      Advanced s t d 1 (if q = 1 then .response else .records) ∧ (t.queue q).slots = rest) ∧
    ((s.queue q).slots = .closed p [w] :: rest → s.bit (R.HST_RING_CFG d) F.HST_RING_CFG_dense = false →
      Leads (.queueOutMove d .clean bad false) s (RingStopped s · d 3))) ∧
  (∀ (s : State) (d : Fin 64) (x : Descriptor) (it : RecvItem) (l : List RecvItem), s.ringServes d 2 → 0 < s.ringEntries d →
    s.ringItems d = it :: l → s.bit R.HST_QUENCH F.HST_QUENCH_quench = false →
    let n := min it.length x.length.toNat
    (s.hbmBusy = false → (∀ i ∈ framesOf it.offset n, (it.handle.toNat, i) ∉ s.hrt.retiring) →
      Leads (.receiveItem d x true .clean) s fun t => Advanced s t d 1 .streams ∧ t.ringItems d = l ∧
        Out.hostWrite .streams true x.addr.toNat (Memory.reads s.hrt.bytes (byteKey it.handle it.offset) n) ∈ t.out ∧
        (n < it.length → Out.hostWrite .streams false (s.ringBase d + s.ringIndex d * 32 + 24)
          (toBytes 4 n ++ [5, 0, 0, if s.ringEvenLap d then 1 else 0]) ∈ t.out)) ∧
    (∀ ecc, Leads (.receiveItem d x false ecc) s (RingStopped s · d 3))) ∧
  (∀ (s : State) (d : Fin 64) (x : Descriptor) (bs : List Byte), s.ringServes d 3 → 0 < s.ringEntries d →
    x.toHandle = true ∨ s.bit R.HST_QUENCH F.HST_QUENCH_quench = false →
    (∀ ecc, Leads (.copyDescriptor d x bs false ecc) s (RingStopped s · d 3)) ∧
    (s.buffer x.handle = none ∨ (∃ b, s.buffer x.handle = some b ∧ b.size * 65536 < x.offset.toNat + x.length.toNat) →
      ∀ ecc, Leads (.copyDescriptor d x bs true ecc) s fun t => Advanced s t d 1 .archive ∧
        FlagSet s t R.HRT_FLAGS 8 (R.HRT_EVCNT 8) ∧ t.hrt.bytes = s.hrt.bytes) ∧
    (∀ b, s.grantsRead x.handle b x.offset.toNat x.length.toNat → x.toHandle = false →
      Leads (.copyDescriptor d x bs true .clean) s fun t => Advanced s t d 1 .archive ∧ t.hrt.bytes = s.hrt.bytes ∧
        Out.hostWrite .archive true x.addr.toNat (Memory.reads s.hrt.bytes (byteKey x.handle x.offset.toNat) x.length.toNat) ∈ t.out) ∧
    (∀ b ecc, s.grantsWrite x.handle b x.offset.toNat x.length.toNat → x.toHandle = true → bs.length = x.length.toNat →
      Leads (.copyDescriptor d x bs true ecc) s fun t => Advanced s t d 1 .archive ∧
        Memory.reads t.hrt.bytes (byteKey x.handle x.offset.toNat) bs.length = bs ∧
        (∀ k, k < byteKey x.handle x.offset.toNat ∨ byteKey x.handle x.offset.toNat + bs.length ≤ k →
          Memory.read t.hrt.bytes k = Memory.read s.hrt.bytes k)))

/-- Queues and events (R329, R334, R349 to R354, R357): a queue is enabled with its pages and disabled with its words discarded,
Q0 and Q1 not from BAR0; a flush leaves void words for open packets; a gate opens on count or timer after hold-off and releases
its pending sources; a write of EVT_SRC keeps a locked route and withdraws; an unmasked vector sends its one message. -/
def Obligations.QueuesAndEventsFollowTheirRegisters : Prop :=
  (∀ (s : State) (q : Fin 64) (v : Reg32), s.hostOpen → 2 ≤ q.val → s.queueOn q = false → getField v F.HST_Q_CFG_enable = 1 →
    2 ≤ getField v F.HST_Q_CFG_pages → s.pagesUsed q + getField v F.HST_Q_CFG_pages ≤ 1024 → Leads (.queueEnable q v) s fun t =>
      t.queueOn q = true ∧ t.queueDepth q = 16 * getField v F.HST_Q_CFG_pages ∧ t.rd (R.HST_Q_ACK q) = 0 ∧ t.queue q = {} ∧
      (∀ j, j ≠ q.val → t.queue j = s.queue j) ∧ OnlyAnswers s t) ∧
  (∀ (s : State) (q : Fin 64) (v : Reg32), s.hostOpen → 2 ≤ q.val → s.queueOn q = true → getField v F.HST_Q_CFG_enable = 0 →
    Leads (.queueDisable q v) s fun t => t.queueOn q = false ∧ t.queue q = {} ∧ (∀ j, j ≠ q.val → t.queue j = s.queue j) ∧ OnlyAnswers s t) ∧
  (∀ (s : State) (q : Fin 64) (v : Reg32), q.val < 2 → s.hostOpen → exec (.queueEnable q v) s = .next s ∧
    exec (.queueDisable q v) s = .next s) ∧
  (∀ (s : State) (q : Fin 64) (v : Reg32) (p : Nat) (ws us : List Word), s.hostOpen → getField v F.HST_Q_CTRL_snuff = 1 →
    (s.queue q).slots = [.closed p us, .opened p ws] → Leads (.queueSnuff q v) s fun t => (t.queue q).slots =
      [.void ((0x7F : BitVec 8) ++ BitVec.ofNat 8 p ++ (0x01 : BitVec 8) ++ (0 : BitVec 32) ++ BitVec.ofNat 16 ws.length)] ∧
      (t.queue q).cut = p :: (s.queue q).cut ∧ t.fld (R.HST_Q_FLAGS q) F.HST_Q_FLAGS_snuffed = 1 ∧ OnlyAnswers s t) ∧
  (∀ (s : State) (g : Fin 32), s.blw.state ∉ ([.off, .reset, .banked] : List DevState) → s.gateDue g = true → s.gateFree g = true →
    Leads (.gateOpen g) s fun t => t.rd (R.EVT_GRP_OPENS g) = s.rd (R.EVT_GRP_OPENS g) + 1 ∧
      (∀ src, src < 512 → src / 16 ≠ g.val → t.rd (R.EVT_SRC src) = s.rd (R.EVT_SRC src)) ∧
      (∀ src, src / 16 = g.val → s.bit (R.EVT_SRC src) F.EVT_SRC_pending = true → s.fld (R.EVT_SRC src) F.EVT_SRC_target ≠ 4 →
        t.bit (R.EVT_SRC src) F.EVT_SRC_released = true ∧ t.bit (R.EVT_SRC src) F.EVT_SRC_pending = true) ∧
      { t with regs := s.regs, evt := s.evt, out := s.out } = s) ∧
  (∀ (s : State) (src : Fin 512) (v : Reg32), s.hostOpen → getField v F.EVT_SRC_enable = 0 →
    Leads (.sourceConfigWrite src v) s fun t => t.bit (R.EVT_SRC src) F.EVT_SRC_enable = false ∧
      t.bit (R.EVT_SRC src) F.EVT_SRC_pending = false ∧ t.bit (R.EVT_SRC src) F.EVT_SRC_released = false ∧
      (s.bit (R.EVT_SRC src) F.EVT_SRC_enable = true → t.fld (R.EVT_SRC src) F.EVT_SRC_target = s.fld (R.EVT_SRC src) F.EVT_SRC_target ∧
        t.fld (R.EVT_SRC src) F.EVT_SRC_vector = s.fld (R.EVT_SRC src) F.EVT_SRC_vector) ∧
      (s.bit (R.EVT_SRC src) F.EVT_SRC_enable = false → 128 ≤ src.val → getField v F.EVT_SRC_target ≤ 4 →
        t.fld (R.EVT_SRC src) F.EVT_SRC_target = getField v F.EVT_SRC_target) ∧
      SameRegsBut [R.EVT_SRC src] s t ∧ { t with regs := s.regs } = s) ∧
  (∀ (s : State) (src : Fin 512) (v : Reg32), s.hostOpen → getField v F.EVT_SRC_enable = 1 → getField v F.EVT_SRC_pending = 0 →
    getField v F.EVT_SRC_target < 4 → 128 ≤ src.val → s.bit (R.EVT_SRC src) F.EVT_SRC_enable = false →
    Leads (.sourceConfigWrite src v) s fun t => t.bit (R.EVT_SRC src) F.EVT_SRC_enable = true ∧
      t.fld (R.EVT_SRC src) F.EVT_SRC_target = getField v F.EVT_SRC_target ∧
      t.fld (R.EVT_SRC src) F.EVT_SRC_priority = getField v F.EVT_SRC_priority ∧
      t.fld (R.EVT_SRC src) F.EVT_SRC_mask = getField v F.EVT_SRC_mask ∧
      t.fld (R.EVT_SRC src) F.EVT_SRC_pending = s.fld (R.EVT_SRC src) F.EVT_SRC_pending ∧ SameRegsBut [R.EVT_SRC src] s t ∧
      { t with regs := s.regs } = s) ∧
  (∀ (s : State) (v : Fin 64), s.evt.functionMask = false →
    (s.hst.d3hot = true → exec (.vectorUnmask (.unmask v)) s = .next s) ∧
    (s.hst.d3hot = false → s.evt.pba.getLsbD v = true → Leads (.vectorUnmask (.unmask v)) s fun t => (t.msixEntry v).masked = false ∧
      t.evt.pba.getLsbD v = false ∧ t.out = .msix v (s.msixEntry v).addr (s.msixEntry v).data :: s.out) ∧
    (s.hst.d3hot = false → s.evt.pba.getLsbD v = false → Leads (.vectorUnmask (.unmask v)) s fun t => (t.msixEntry v).masked = false ∧
      t.out = s.out ∧ t.evt.pba = s.evt.pba))

/-! ### Time base, plant ports, Temper, security -/

/-- The time base (R362 to R373): exchanges and what an offset does, the choice of master, HELD's end, the loss and the change of the
source. -/
def Obligations.TimeBaseFollowsItsMaster : Prop :=
  (∀ (s : State) (m : PtpMsg), s.follows m → Leads (.ptpSync m) s fun t => Received s t m.port ∧ ∃ x, t.tim = { s.tim with
    lastSync := s.ticks, exchange := some x } ∧ x.seq = m.sequenceId.toNat ∧ x.source = m.source ∧ x.cS = m.correction ∧
    x.t1 = (if m.twoStep then none else some m.stamp) ∧ x.t2 = ((s.edgeCounter m.tap / 2 ^ 16 : Nat) : Int) ∧ x.t3 = none) ∧
  (∀ (s : State) (m : PtpMsg) (x : Exchange), s.follows m → s.tim.exchange = some x → x.t1 = none → x.seq = m.sequenceId.toNat →
    x.source = m.source → Leads (.followUp m) s fun t => Received s t m.port ∧
      t.tim = { s.tim with exchange := some { x with t1 := some m.stamp, cS := x.cS + m.correction } }) ∧
  (∀ (s : State) (k : Fin 2) (tap : Fin 32) (x : Exchange), s.portRuns k → s.fld R.TIM_CFG F.TIM_CFG_source = k.val + 1 →
    s.tim.exchange = some x → x.t3 = none → s.tim.lastDelayReq = none → Leads (.delayReq k tap) s fun t =>
      t.tim.delaySeq = (s.tim.delaySeq + 1) % 65536 ∧ t.tim.lastDelayReq = some s.ticks ∧
      t.tim.exchange = some { x with t3 := some (((s.edgeCounter tap / 2 ^ 16 : Nat) : Int), s.tim.stretch) } ∧
      t.out = .delayReq k ((s.tim.delaySeq + 1) % 65536) (s.edgeTime tap) :: s.out ∧ { t with tim := s.tim, out := s.out } = s) ∧
  (∀ (s : State) (m : PtpMsg) (x : Exchange) (t1 t3 : Int), s.follows m → m.requester = ownIdentity m.port →
    s.tim.exchange = some x → x.t1 = some t1 → x.t3 = some (t3, s.tim.stretch) → x.stretch = s.tim.stretch →
    s.tim.delaySeq = m.sequenceId.toNat → s.tim.mpd = none → s.tim.stepOffset = none → s.tim.state ≠ .held →
    let ms := x.t2 - t1 - x.cS
    let d := (ms + (m.stamp - t3 - m.correction)) / 2
    Leads (.delayResp m) s fun t => Received s t m.port ∧ t.tim.mpd = some d ∧ t.tim.exchange = none ∧ OffsetTaken s t (ms - d)) ∧
  (∀ (s : State) (m : PtpMsg) (d : AnnounceData), s.portRuns m.port → s.bit R.TIM_CFG F.TIM_CFG_tc_en = false →
    s.fld R.TIM_CFG F.TIM_CFG_source = m.port.val + 1 → s.fld R.TIM_CFG F.TIM_CFG_domain = m.domain.toNat →
    Leads (.announce m d) s fun t => Received s t m.port ∧ (s.tim.master = none → t.tim = { s.tim with master := some (m.source, d) }) ∧
      (∀ o e, s.tim.master = some (o, e) → d.identity ≠ e.identity → o ≠ m.source →
        (d.priority1.toNat < e.priority1.toNat → t.tim = { s.tim with master := some (m.source, d) }) ∧
        (e.priority1.toNat < d.priority1.toNat → t.tim = s.tim))) ∧
  (∀ (s : State) (m : PtpMsg), s.portRuns m.port → s.portRuns (1 - m.port.val) → s.bit R.TIM_CFG F.TIM_CFG_tc_en = true →
    Leads (.receivedDelayReq m) s fun t => ∃ r : Nat, t.out = .ptpForward (1 - m.port.val) { m with correction := m.correction + r } :: s.out ∧
      t.rd (R.TIM_PP_TC_FWD (1 - m.port.val)) = s.rd (R.TIM_PP_TC_FWD (1 - m.port.val)) + 1 ∧
      t.rd (R.TIM_PP_RX_FRAMES m.port) = s.rd (R.TIM_PP_RX_FRAMES m.port) + 1 ∧ t.tim = s.tim) ∧
  (∀ s : State, s.tim.state = .held → s.tim.hold = 0 → Leads .heldEnd s fun t =>
    t.tim = { s.tim with state := .tracking, stretch := s.tim.stretch + 1 } ∧ Raised s t 499) ∧
  (∀ (s : State) (k : Nat), s.fld R.TIM_CFG F.TIM_CFG_source = k + 1 → k < 2 →
    s.fld R.TIM_SERVO F.TIM_SERVO_master_tmo * 12500000 ≤ s.ticks - s.tim.lastSync → Leads .masterLost s fun t =>
      t.tim.master = none ∧ t.tim.exchange = none ∧ t.tim.counter = s.tim.counter ∧ t.fld R.TIM_FLAGS ⟨3, 3⟩ = 1 ∧
      t.tim.state = (if s.tim.state = .tracking then .holdover else s.tim.state) ∧ (s.tim.state = .tracking → t.tim.rate = s.tim.integral)) ∧
  (∀ (s : State) (hi : Reg32), s.hostOpen → s.fld R.TIM_CFG F.TIM_CFG_source = 3 → s.tim.stepOffset = none → s.tim.state ≠ .held →
    Leads (.hostOffset hi) s fun t => OffsetTaken s t (hi ++ s.rd R.TIM_HOST_OFS_LO : BitVec 64).toInt) ∧
  (∀ (s : State) (v : Reg32), s.hostOpen → getField v F.TIM_CFG_source ≠ s.fld R.TIM_CFG F.TIM_CFG_source →
    Leads (.sourceChange v) s fun t => t.fld R.TIM_CFG F.TIM_CFG_source = getField v F.TIM_CFG_source ∧ t.tim.exchange = none ∧
      t.tim.master = none ∧ t.tim.lastSync = s.ticks ∧ t.tim.counter = s.tim.counter ∧
      t.tim.state = (if s.tim.state = .tracking then .holdover else s.tim.state) ∧
      (s.tim.state = .tracking → t.tim.rate = s.tim.integral ∧ t.fld R.TIM_FLAGS ⟨1, 1⟩ = 1))

/-- The plant ports (R374 to R377, R380): a packet leaves as a datagram with its words packed densely, one too long is dropped; ARP and
echo requests for the port's address are answered, other frames are discarded and counted; a change of link is shown and signalled. -/
def Obligations.PlantPortsExchangeFrames : Prop :=
  (∀ (s : State) (k : Fin 2) (tap : Fin 32) (p : Nat) (len : Word) (ws : List Word) (rest : List QSlot), s.portRuns k →
    s.bit (R.TIM_PP_STATUS k) F.TIM_PP_STATUS_link_up = true →
    let q := s.fld (R.TIM_PP_CFG k) F.TIM_PP_CFG_tx_q
    (s.queue q).slots = .closed p (len :: ws) :: rest → 0x80 ≤ (BitVec.extractLsb 71 64 len).toNat →
    (BitVec.extractLsb 71 64 len).toNat ≤ 0xBF → (∀ w, ws.head? = some w → BitVec.extractLsb 71 64 w ≠ 0x30) →
    let most := if s.bit (R.TIM_PP_CFG k) F.TIM_PP_CFG_jumbo then 992 else 159
    (ws.length ≤ most → Leads (.datagramSend k tap) s fun t => (t.queue q).slots = rest ∧
      t.rd (R.TIM_PP_TX_DGRAMS k) = s.rd (R.TIM_PP_TX_DGRAMS k) + 1 ∧
      ∃ head, t.out = .plantFrame k (s.fld (R.TIM_DST_MAC_HI 0) F.TIM_DST_MAC_HI_pcp) (head ++ packDense ws) :: s.out) ∧
    (most < ws.length → Leads (.datagramSend k tap) s fun t => (t.queue q).slots = rest ∧ t.out = s.out ∧
      t.rd (R.TIM_PP_TX_DROP k) = s.rd (R.TIM_PP_TX_DROP k) + 1 ∧ t.fld R.TIM_FLAGS ⟨6, 6⟩ = 1)) ∧
  (∀ (s : State) (k : Fin 2) (ip : BitVec 32) (vlan : Option (BitVec 12)), s.portRuns k → s.vlanOk k vlan = true →
    (ip = s.rd (R.TIM_PP_IP k) →
      (Leads (.arpRequest k ip vlan) s fun t => t.out = .arpReply k :: s.out ∧
        t.rd (R.TIM_PP_RX_FRAMES k) = s.rd (R.TIM_PP_RX_FRAMES k) + 1 ∧ SameRegsBut [R.TIM_PP_RX_FRAMES k] s t) ∧
      (Leads (.echoRequest k ip vlan) s fun t => t.out = .echoReply k :: s.out ∧
        t.rd (R.TIM_PP_RX_FRAMES k) = s.rd (R.TIM_PP_RX_FRAMES k) + 1 ∧ SameRegsBut [R.TIM_PP_RX_FRAMES k] s t)) ∧
    (ip ≠ s.rd (R.TIM_PP_IP k) →
      (Leads (.arpRequest k ip vlan) s fun t => t.out = s.out ∧ t.rd (R.TIM_PP_RX_DISCARD k) = s.rd (R.TIM_PP_RX_DISCARD k) + 1) ∧
      (Leads (.echoRequest k ip vlan) s fun t => t.out = s.out ∧ t.rd (R.TIM_PP_RX_DISCARD k) = s.rd (R.TIM_PP_RX_DISCARD k) + 1))) ∧
  (∀ (s : State) (k : Fin 2) (f : PlantFrame), s.portRuns k → s.isQuenchDatagram k f = false → Leads (.frameDiscard k f) s fun t =>
    t.rd (R.TIM_PP_RX_DISCARD k) = s.rd (R.TIM_PP_RX_DISCARD k) + 1 ∧ t.fld R.TIM_FLAGS ⟨8, 8⟩ = 1 ∧ Raised s t 498 ∧
      OnlySignals [0x10] s t) ∧
  (∀ (s : State) (k : Fin 2) (up : Bool), s.bit (R.TIM_PP_STATUS k) F.TIM_PP_STATUS_link_up ≠ up → Leads (.plantLinkChange k up) s fun t =>
    t.bit (R.TIM_PP_STATUS k) F.TIM_PP_STATUS_link_up = up ∧ t.fld R.TIM_FLAGS ⟨4 + k.val, 4 + k.val⟩ = 1 ∧ Raised s t 495 ∧
      OnlySignals [0x10] s t)

/-- Temper (R381 to R386): what makes a retraining or a calibration due, when it starts, that codes of a verified run take effect and
those of a first failure do not, and that a coefficient read advances its index. -/
def Obligations.TemperRetrainsAndCalibrates : Prop :=
  (∀ s : State, s.blw.state ∈ ([.ready, .armed, .run, .hold] : List DevState) → s.tmp.hbmDue = none → s.tmp.hbmStart = none →
    let D (t : State) : Prop := t.tmp = { s.tmp with hbmDue := some s.ticks, overdue := false, boundary := false } ∧
      t.fld R.TMP_STATUS F.TMP_STATUS_hbm_waiting = 1 ∧ SameRegsBut [R.TMP_STATUS] s t ∧ { t with regs := s.regs, tmp := s.tmp } = s
    (s.hostOpen → Leads .runHbm s D) ∧
    (s.bit R.TMP_CFG F.TMP_CFG_hbm_en = true → s.fld R.TMP_CFG F.TMP_CFG_hbm_period_ms * 125000 ≤ s.ticks - s.tmp.hbmEnd →
      Leads .retrainDue s D)) ∧
  (∀ (s : State) (d : Nat), s.tmp.hbmDue = some d → s.tmp.hbmStart = none → s.fed.running = false →
    s.tmp.boundary = true ∨ s.rcp.loaded = false → Leads .retrainStart s fun t =>
      t.tmp = { s.tmp with hbmDue := none, boundary := false, hbmStart := some s.ticks } ∧
      t.fld R.TMP_STATUS F.TMP_STATUS_hbm_waiting = 0 ∧ t.fld R.TMP_STATUS F.TMP_STATUS_hbm_busy = 1 ∧ SameRegsBut [R.TMP_STATUS] s t ∧
      (∀ l ∈ t.int.ringWrites, l.deferred = true)) ∧
  (∀ (s : State) (d : Nat), s.tmp.hbmDue = some d → s.tmp.overdue = false → 1250000 ≤ s.ticks - d → Leads .retrainOverdue s fun t =>
    t.tmp.overdue = true ∧ t.tmp.hbmDue = some d ∧ FlagSet s t R.TMP_FLAGS 2 (R.TMP_EVCNT 2) ∧ Raised s t 502) ∧
  (∀ (s : State) (r : HbmResult) (b : Nat), s.tmp.hbmStart = some b → 1000 ≤ s.ticks - b →
    (s.blw.state = .banked → s.blw.wake.isSome) → Leads (.retrainEnd r) s fun t =>
    t.tmp.hbmStart = none ∧ t.tmp.hbmEnd = s.ticks ∧ t.fld R.TMP_STATUS F.TMP_STATUS_hbm_busy = 0 ∧
      t.rd R.TMP_HBM_RUNS = s.rd R.TMP_HBM_RUNS + 1 ∧ t.fld R.TMP_HBM_LAST F.TMP_HBM_LAST_min_eye = r.minEye ∧
      (r.failed ≠ [] → s.tmp.hbmRetry = false → t.tmp.hbmRead = s.tmp.hbmRead ∧ t.tmp.hbmWrite = s.tmp.hbmWrite ∧
        t.tmp.hbmDue = some s.ticks ∧ t.fld R.TMP_FLAGS F.TMP_FLAGS_hbm_retry = 1) ∧
      (s.bit R.TMP_CFG F.TMP_CFG_hbm_freeze = true → t.tmp.hbmRead = s.tmp.hbmRead ∧ t.tmp.hbmWrite = s.tmp.hbmWrite) ∧
      (∀ i c, r.failed = [] → s.bit R.TMP_CFG F.TMP_CFG_hbm_freeze = false → r.read = [(i, c)] →
        sget (fun _ => 32) t.tmp.hbmRead i = c ∧ t.tmp.hbmDue = s.tmp.hbmDue ∧ t.tmp.hbmRetry = false)) ∧
  (∀ s : State, s.blw.state ∈ ([.ready, .armed, .run, .hold, .banked] : List DevState) → s.tmp.tdcStart = none →
    (s.bit R.TMP_CFG F.TMP_CFG_tdc_en = true → s.fld R.TMP_TDC_PERIOD F.TMP_TDC_PERIOD_tdc_period_ms * 125000 ≤ s.ticks - s.tmp.tdcEnd →
      exec .tdcDue s = .next { s with tmp := { s.tmp with tdcDue := some s.ticks, tdcAgain := none } }) ∧
    (s.hostOpen → exec .runTdc s = .next { s with tmp := { s.tmp with tdcDue := some s.ticks } })) ∧
  (∀ (s : State) (r : TdcResult) (b : Nat), s.tmp.tdcStart = some b → 2500 ≤ s.ticks - b → Leads (.tdcEnd r) s fun t =>
    t.tmp.tdcStart = none ∧ t.tmp.tdcEnd = s.ticks ∧ t.fld R.TMP_STATUS F.TMP_STATUS_tdc_busy = 0 ∧
      t.rd R.TMP_TDC_RUNS = s.rd R.TMP_TDC_RUNS + 1 ∧ (s.bit R.TMP_CFG F.TMP_CFG_tdc_freeze = true → t.tmp.trims = s.tmp.trims) ∧
      (∀ i c w, r.failed = [] → s.bit R.TMP_CFG F.TMP_CFG_tdc_freeze = false → r.trims = [(i, c, w)] →
        sget (fun _ => 32) t.tmp.trims i = c)) ∧
  (∀ s : State, s.hostOpen → Leads .coefDataRead s fun t => (∃ v, t.out = .readData v :: s.out ∧
      (s.fld R.TMP_COEF_SEL F.TMP_COEF_SEL_kind = 0 → getField v F.TMP_COEF_DATA_active =
        sget (fun _ => 32) s.tmp.hbmRead (s.fld R.TMP_COEF_SEL F.TMP_COEF_SEL_index) % 256)) ∧
    (s.fld R.TMP_COEF_SEL F.TMP_COEF_SEL_kind = 0 → t.fld R.TMP_COEF_SEL F.TMP_COEF_SEL_index =
      (if s.fld R.TMP_COEF_SEL F.TMP_COEF_SEL_index + 1 < 1152 then s.fld R.TMP_COEF_SEL F.TMP_COEF_SEL_index + 1 else 0)) ∧
    SameRegsBut [R.TMP_COEF_SEL] s t ∧ { t with regs := s.regs, out := s.out } = s)

/-- Ialdalis (R409, R415 to R420): provisioning operations start with their checks and program the fuses, an unlock needs an accepted
signer, every attempt draws a new challenge, the windows read word by word. -/
def Obligations.SecurityRootProvisionsAndUnlocks : Prop :=
  (∀ (s : State) (v : Reg32) (op : Nat), s.hostOpen → s.blw.state = .ready → getField v F.SEC_PROV_CMD_key = 0xC0DE →
    getField v F.SEC_PROV_CMD_op = op → s.bit R.SEC_PROV_STATUS F.SEC_PROV_STATUS_busy = false →
    let G (t : State) : Prop := t.sec = { s.sec with provOp := some op } ∧ t.fld R.SEC_PROV_STATUS F.SEC_PROV_STATUS_busy = 1 ∧
      SameRegsBut [R.SEC_PROV_STATUS] s t ∧ { t with regs := s.regs, sec := s.sec } = s
    let x := (BitVec.extractLsb 7 0 (s.provWord 0)).toNat
    (op = 1 → s.sec.fuses.custKey = none → s.sec.fuses.slotDead = false → Leads (.programCustomerKey v) s G) ∧
    (op = 1 → s.sec.fuses.custKey ≠ none → Leads (.programCustomerKey v) s fun t => t.sec = s.sec ∧
      t.fld R.SEC_PROV_STATUS F.SEC_PROV_STATUS_result = 4) ∧
    (op = 2 → s.sec.fuses.fwSvnMin < x → x ≤ 32 → x ≤ s.sec.fwSvn → Leads (.raiseFwSvnMin v) s G) ∧
    (op = 3 → s.sec.fuses.rcpSvnMin < x → x ≤ 32 → (∃ n, s.sec.rcpSvn = some n ∧ x ≤ n) → Leads (.raiseRcpSvnMin v) s G) ∧
    (op = 4 → Leads (.disableDebug v) s G)) ∧
  (∀ (s : State) (op : Nat), s.sec.provOp = some op →
    (Leads (.provisionDone .good) s fun t => t.sec.provOp = none ∧ t.fld R.SEC_PROV_STATUS F.SEC_PROV_STATUS_busy = 0 ∧
      t.fld R.SEC_PROV_STATUS F.SEC_PROV_STATUS_result = 0 ∧ FlagSet s t R.SEC_FLAGS 2 (R.SEC_EVCNT 2) ∧ Raised s t 510 ∧
      (op = 1 → s.sec.fuses.custKey = none → t.sec.fuses = { s.sec.fuses with custKey := some s.provKey }) ∧
      (op = 2 → t.sec.fuses = { s.sec.fuses with fwSvnMin := max s.sec.fuses.fwSvnMin (BitVec.extractLsb 7 0 (s.provWord 0)).toNat }) ∧
      (op = 3 → t.sec.fuses = { s.sec.fuses with rcpSvnMin := max s.sec.fuses.rcpSvnMin (BitVec.extractLsb 7 0 (s.provWord 0)).toNat }) ∧
      (op = 4 → t.sec.fuses = { s.sec.fuses with debugDisabled := true })) ∧
    (Leads (.provisionDone .mismatch) s fun t => t.sec.provOp = none ∧ t.fld R.SEC_PROV_STATUS F.SEC_PROV_STATUS_result = 6 ∧
      t.sec.fuses = (if op = 1 then { s.sec.fuses with slotDead := true } else s.sec.fuses))) ∧
  (∀ (s : State) (v : Reg32) (l : Nat), s.hostOpen → getField v F.SEC_DBG_CMD_go = 1 → getField v F.SEC_DBG_CMD_level = l →
    l = 1 ∨ l = 2 → (∀ j ∈ s.sec.jobs, j.isUnlock = false) →
    exec (.registerUnlock v) s = .next { s with sec := { s.sec with jobs := s.sec.jobs ++ [.registerUnlock l] } }) ∧
  (∀ (s : State) (l : BitVec 8), s.blw.state ≠ .off → l = 1 ∨ l = 2 →
    exec (.tapUnlock l) s = .next { s with sec := { s.sec with jobs := s.sec.jobs ++ [.tapUnlock l.toNat] } }) ∧
  (∀ (s : State) (g : UnlockSigner) (l : Nat) (jobs : List SecJob), s.sec.jobs = .tapUnlock l :: jobs ∨ s.sec.jobs = .registerUnlock l :: jobs →
    Leads (.unlockDone g) s fun t => t.sec.jobs = jobs ∧ t.sec.draws = s.sec.draws + 1 ∧ t.sec.fuses = s.sec.fuses ∧
      (s.sec.fuses.debugDisabled = false → g = .yalvan → t.sec.debugLevel = l ∧ FlagSet s t R.SEC_FLAGS 1 (R.SEC_EVCNT 1)) ∧
      (s.sec.fuses.debugDisabled = false → g = .customer → s.sec.fuses.custKey ≠ none → l = 1 → t.sec.debugLevel = 1) ∧
      (s.sec.fuses.debugDisabled = true ∨ g = .none ∨ (g = .customer ∧ l ≠ 1) → t.sec.debugLevel = s.sec.debugLevel ∧
        FlagSet s t R.SEC_FLAGS 0 (R.SEC_EVCNT 0) ∧ Raised s t 508)) ∧
  (∀ s : State, s.hostOpen →
    (Leads .measurementRead s fun t => t.out = .readData (BitVec.ofNat 32 ((s.meas (s.fld R.SEC_MEAS_SEL F.SEC_MEAS_SEL_reg)).toNat /
        2 ^ (32 * s.fld R.SEC_MEAS_SEL F.SEC_MEAS_SEL_word))) :: s.out ∧
      t.fld R.SEC_MEAS_SEL F.SEC_MEAS_SEL_word = (s.fld R.SEC_MEAS_SEL F.SEC_MEAS_SEL_word + 1) % 16 ∧
      t.fld R.SEC_MEAS_SEL F.SEC_MEAS_SEL_reg = s.fld R.SEC_MEAS_SEL F.SEC_MEAS_SEL_reg ∧ SameRegsBut [R.SEC_MEAS_SEL] s t ∧
      t.sec = s.sec) ∧
    (Leads .pubkeyRead s fun t => (s.fld R.SEC_PUBKEY_SEL F.SEC_PUBKEY_SEL_key = 1 → s.sec.fuses.custKey = none →
        t.out = .readData 0 :: s.out) ∧
      (s.fld R.SEC_PUBKEY_SEL F.SEC_PUBKEY_SEL_key = 0 → t.out = .readData (BitVec.ofNat 32 (Config.yalvanKey.toNat /
        2 ^ (32 * s.fld R.SEC_PUBKEY_SEL F.SEC_PUBKEY_SEL_word))) :: s.out) ∧
      t.fld R.SEC_PUBKEY_SEL F.SEC_PUBKEY_SEL_word = (s.fld R.SEC_PUBKEY_SEL F.SEC_PUBKEY_SEL_word + 1) % 16 ∧
      SameRegsBut [R.SEC_PUBKEY_SEL] s t ∧ t.sec = s.sec))

/-- The TAP (R418): its instructions in every powered state; the ball-driving ones act at level 2 in BOOT, READY and FAULT and
select BYPASS otherwise; debug accesses reach a core with its level. -/
def Obligations.TapInstructionsNeedTheirLevel : Prop :=
  ∀ s : State, s.blw.state ≠ .off →
    (∀ b : Bool, Leads (.bypass b) s fun t => t.sec = { s.sec with tap := .bypass, bypassBit := b } ∧
      t.out = .tdo (if s.sec.tap = .bypass ∧ s.sec.bypassBit then 1 else 0) :: s.out ∧ { t with sec := s.sec, out := s.out } = s) ∧
    (Leads .idcode s fun t => t.sec = { s.sec with tap := .idcode } ∧ ∃ n, t.out = .tdo n :: s.out ∧ n % 2 = 1 ∧ n / 2 ^ 12 % 2 ^ 16 = 0x0016 ∧
      n / 2 ^ 28 = 1 ∧ n / 2 % 2 ^ 11 = Config.idcodeMaker.toNat) ∧
    (∀ l : List (Nat × Bool), Leads (.samplePreload l) s fun t => t.sec = { s.sec with tap := .sample, preload := l } ∧
      (∃ n, t.out = .tdo n :: s.out) ∧ t.regs = s.regs) ∧
    (s.sec.debugLevel = 2 → s.blw.state ∈ ([.boot, .ready, .fault] : List DevState) →
      (∀ l : List (Nat × Bool), exec (.extest l) s = .next { s with sec := { s.sec with tap := .extest, balls := l, preload := l } }) ∧
      exec .clamp s = .next { s with sec := { s.sec with tap := .clamp, balls := s.sec.preload } } ∧
      exec .highz s = .next { s with sec := { s.sec with tap := .highz, balls := [] } }) ∧
    (s.sec.debugLevel ≠ 2 ∨ s.blw.state ∉ ([.boot, .ready, .fault] : List DevState) →
      let B : State := { s with sec := { s.sec with tap := .bypass, balls := [] } }
      (∀ l : List (Nat × Bool), exec (.extest l) s = .next B) ∧ exec .clamp s = .next B ∧ exec .highz s = .next B) ∧
    (∀ n : Fin 4, (n = 0 → s.sec.debugLevel = 2) → (n ≠ 0 → 1 ≤ s.sec.debugLevel) →
      (∀ r : Fin 32, Leads (.wickDebugAccess n (.readG r)) s fun t => t.out = .tdo ((s.core n).getG r).toNat :: s.out ∧ t.wck = s.wck) ∧
      (∀ (r : Fin 32) (v : Word64), Leads (.wickDebugAccess n (.writeG r v)) s fun t => t.out = s.out ∧
        (∀ q, (t.core n).getG q = if q = r.val ∧ q ≠ 0 then v else (s.core n).getG q) ∧ (∀ m, m ≠ n.val → t.core m = s.core m)) ∧
      (Leads (.wickDebugAccess n .halt) s fun t => (t.core n).debugHalt = true ∧ (t.core n).pc = (s.core n).pc ∧
        (∀ m, m ≠ n.val → t.core m = s.core m)) ∧
      (Leads (.wickDebugAccess n .resume) s fun t => (t.core n).debugHalt = false) ∧
      (∀ v : BitVec 32, Leads (.wickDebugAccess n (.writePc v)) s fun t => (t.core n).pc = v)) ∧
    (∀ (n : Fin 4) (o : DebugOp), s.sec.debugLevel = 0 → exec (.wickDebugAccess n o) s =
      .next { s with sec := { s.sec with tap := .bypass, balls := [] } })

/-! ### Encoders, latches, triggers -/

/-- Encoder inputs (R49 to R58, R69): a step of the quadrature sequence or a tooth counts, a jump of two is illegal, a gap counts its
teeth and is a reference as an extra tooth is, standstill drops the period, presets load the count but for the active master, and
the configuration is fixed while enabled. -/
def Obligations.EncodersCountTheirEdges : Prop :=
  (∀ (s : State) (n : Fin 4) (a b : Bool) (tap : Fin 32), s.encCounts n = true → s.fld (R.ENC_CFG n) F.ENC_CFG_mode = 0 →
    let d := (phase a b + 4 - phase (s.enc n).a (s.enc n).b) % 4
    Leads (.quadratureEdge n a b tap) s fun t => (t.enc n).a = a ∧ (t.enc n).b = b ∧ OnlyMotion s t ∧
      (d = 1 → Counted s t n (!s.bit (R.ENC_CFG n) F.ENC_CFG_invert_dir) false 1 (s.edgeTq tap) (s.edgeSample tap) (s.edgeLt tap)) ∧
      (d = 3 → Counted s t n (s.bit (R.ENC_CFG n) F.ENC_CFG_invert_dir) false 1 (s.edgeTq tap) (s.edgeSample tap) (s.edgeLt tap)) ∧
      (d = 2 → (t.enc n).count = (s.enc n).count ∧ (t.enc n).uncertain = BitVec.allOnes 16 ∧
        t.bit (R.ENC_PERIOD n) F.ENC_PERIOD_valid = false ∧ FlagSet s t (R.ENC_STATUS n) 0 (R.ENC_EVCNT n 0) ∧ Raised s t (160 + n) ∧
        t.fld (R.ENC_UNCERT n) F.ENC_UNCERT_uncert = min 65535 (s.fld (R.ENC_UNCERT n) F.ENC_UNCERT_uncert + 2)) ∧
      (d = 0 → t.regs = s.regs ∧ (t.enc n).count = (s.enc n).count)) ∧
  (∀ (s : State) (n : Fin 4) (a b : Bool) (tap : Fin 32), s.blw.porAsserted = false → s.blw.state ≠ .off →
    s.encCounts n = false ∨ s.fld (R.ENC_CFG n) F.ENC_CFG_mode ≠ 0 →
    exec (.quadratureEdge n a b tap) s = .next (s.setEnc n ((s.enc n).levels a b))) ∧
  (∀ (s : State) (n : Fin 4) (b : Bool) (tap : Fin 32), s.encCounts n = true → s.fld (R.ENC_CFG n) F.ENC_CFG_mode = 1 →
    let up := b != s.bit (R.ENC_CFG n) F.ENC_CFG_invert_dir
    let kind := s.fld (R.ENC_CFG n) F.ENC_CFG_gap_kind
    let ratio := s.fld (R.ENC_CFG n) F.ENC_CFG_gap_ratio
    let flipped := (s.enc n).flipped || b != (s.enc n).b
    let keeps := (s.enc n).armed = false ∨ s.master = some n.val
    let Preset (t : State) : Prop := (t.enc n).armed = false ∧ t.bit (R.ENC_PERIOD n) F.ENC_PERIOD_valid = false ∧
      (t.enc n).count = BitVec.setWidth 24 (s.rd (R.ENC_PRESET_HI n)) ++ s.rd (R.ENC_PRESET_LO n)
    ((kind ≠ 1 ∧ kind ≠ 2) ∨ s.periodValid n = false ∨ (s.enc n).up ≠ some up ∨ flipped = true → Leads (.pulseTrainEdge n b tap) s fun t =>
      Counted s t n up flipped 1 (s.edgeTq tap) (s.edgeSample tap) (s.edgeLt tap) ∧ OnlyMotion s t) ∧
    (∀ te p, (s.enc n).edge = some (te, p) → s.periodValid n = true → (s.enc n).up = some up → flipped = false →
      (kind = 1 → Leads (.pulseTrainEdge n b tap) s fun t => OnlyMotion s t ∧
        (16 * (s.edgeTq tap - te) ≤ ratio * s.period n → Counted s t n up false 1 (s.edgeTq tap) (s.edgeSample tap) (s.edgeLt tap)) ∧
        (ratio * s.period n < 16 * (s.edgeTq tap - te) → ReferenceSeen s t n ∧ (¬keeps → Preset t) ∧
          (keeps → Counted s t n up false (s.fld (R.ENC_CFG n) F.ENC_CFG_gap_teeth + 1) (s.edgeTq tap) (s.edgeSample tap)
            (s.edgeLt tap)))) ∧
      (kind = 2 → Leads (.pulseTrainEdge n b tap) s fun t => OnlyMotion s t ∧
        (16 * s.period n ≤ (s.edgeTq tap - te) * ratio → Counted s t n up false 1 (s.edgeTq tap) (s.edgeSample tap) (s.edgeLt tap)) ∧
        ((s.edgeTq tap - te) * ratio < 16 * s.period n → ReferenceSeen s t n ∧ (¬keeps → Preset t) ∧
          (keeps → (t.enc n).count = (s.enc n).count) ∧ (t.enc n).edge = (s.enc n).edge)))) ∧
  (∀ (s : State) (n : Fin 4) (level : Bool) (tap : Fin 32), s.blw.porAsserted = false → s.blw.state ≠ .off →
    ((s.enc n).z = level → exec (.reference n tap level) s = .next s) ∧
    ((s.enc n).z ≠ level → s.encCounts n = false ∨ s.fld (R.ENC_CFG n) F.ENC_CFG_mode ≠ 0 ∨
      level = s.bit (R.ENC_CFG n) F.ENC_CFG_z_active_low → exec (.reference n tap level) s = .next (s.setEnc n { s.enc n with z := level }))) ∧
  (∀ (s : State) (n : Fin 4) (level : Bool) (tap : Fin 32), s.encCounts n = true → s.fld (R.ENC_CFG n) F.ENC_CFG_mode = 0 →
    (s.enc n).z ≠ level → level ≠ s.bit (R.ENC_CFG n) F.ENC_CFG_z_active_low →
    Leads (.reference n tap level) s fun t => ReferenceSeen s t n ∧ OnlyMotion s t ∧ (t.enc n).armed = false ∧ (t.enc n).z = level ∧
      ((s.enc n).armed = false ∨ s.master = some n.val → (t.enc n).count = (s.enc n).count) ∧
      ((s.enc n).armed = true → s.master = some n.val → FlagSet s t (R.ENC_STATUS n) 4 (R.ENC_EVCNT n 4)) ∧
      ((s.enc n).armed = true → s.master ≠ some n.val → t.bit (R.ENC_PERIOD n) F.ENC_PERIOD_valid = false ∧
        (t.enc n).count = BitVec.setWidth 24 (s.rd (R.ENC_PRESET_HI n)) ++ s.rd (R.ENC_PRESET_LO n))) ∧
  (∀ (s : State) (n : Fin 4) (q : Nat), s.blw.porAsserted = false → s.blw.state ≠ .off → (s.enc n).quiet = some q →
    s.fld (R.ENC_STILL n) F.ENC_STILL_timeout_us * 125 ≤ s.ticks - q → Leads (.standstill n) s fun t => OnlyMotion s t ∧
      t.bit (R.ENC_PERIOD n) F.ENC_PERIOD_valid = false ∧ t.bit (R.ENC_STATUS n) F.ENC_STATUS_moving = false ∧
      FlagSet s t (R.ENC_STATUS n) 1 (R.ENC_EVCNT n 1) ∧ Raised s t (164 + n) ∧
      t.enc n = { s.enc n with need := 2, quiet := none } ∧ (s.master ≠ some n.val → t.tng = s.tng)) ∧
  (∀ (s : State) (n : Fin 4) (v : Reg32), s.hostOpen →
    (v.getLsbD 0 = true → Leads (.presetNow n v) s fun t => OnlyMotion s t ∧
      (s.master ≠ some n.val → t.bit (R.ENC_PERIOD n) F.ENC_PERIOD_valid = false ∧ ∃ c : BitVec 56,
        c = BitVec.setWidth 24 (s.rd (R.ENC_PRESET_HI n)) ++ s.rd (R.ENC_PRESET_LO n) ∧ t.enc n = { s.enc n with need := 2, count := c, armed := v.getLsbD 1 || (s.enc n).armed }) ∧
      (s.master = some n.val → t.pos = s.pos ∧ FlagSet s t (R.ENC_STATUS n) 4 (R.ENC_EVCNT n 4) ∧ Raised s t (176 + n))) ∧
    (v.getLsbD 1 = true → v.getLsbD 0 = true → exec (.armRef n v) s = exec (.presetNow n v) s) ∧
    (v.getLsbD 1 = true → v.getLsbD 0 = false → Leads (.armRef n v) s fun t => OnlyMotion s t ∧
      (s.master ≠ some n.val → t.regs = s.regs ∧ t.enc n = { s.enc n with armed := true }) ∧
      (s.master = some n.val → t.pos = s.pos ∧ FlagSet s t (R.ENC_STATUS n) 4 (R.ENC_EVCNT n 4)))) ∧
  (∀ (s : State) (n : Fin 4) (v : Reg32), s.hostOpen →
    (s.bit (R.ENC_CFG n) F.ENC_CFG_enable = true → v.getLsbD 31 = true → exec (.encCfgWrite n v) s = .next s) ∧
    (s.bit (R.ENC_CFG n) F.ENC_CFG_enable = true → v.getLsbD 31 = false → Leads (.encCfgWrite n v) s fun t =>
      t.rd (R.ENC_CFG n) = putField (s.rd (R.ENC_CFG n)) F.ENC_CFG_enable 0 ∧ t.bit (R.ENC_PERIOD n) F.ENC_PERIOD_valid = false ∧
      t.enc n = { s.enc n with need := 2 } ∧ SameRegsBut [R.ENC_CFG n, R.ENC_PERIOD n] s t ∧
      { t with regs := s.regs, pos := s.pos } = s) ∧
    (s.bit (R.ENC_CFG n) F.ENC_CFG_enable = false → Leads (.encCfgWrite n v) s fun t =>
      let x := plainValue (R.ENC_CFG n) false (s.rd (R.ENC_CFG n)) v
      t.rd (R.ENC_CFG n) = x ∧ SameRegsBut [R.ENC_CFG n, R.ENC_PERIOD n] s t ∧ { t with regs := s.regs, pos := s.pos } = s ∧
      (getField x F.ENC_CFG_enable = 1 →
        t.enc n = { s.enc n with edge := none, up := none, flipped := false, need := 2, quiet := some s.ticks } ∧
        t.bit (R.ENC_PERIOD n) F.ENC_PERIOD_valid = false) ∧
      (getField x F.ENC_CFG_enable = 0 → t.pos = s.pos)))

/-- Latch units and trigger units (R60 to R68, R87, R89): captures make packets, a firing moves NEXT by the period and pulses its
outputs, a point too soon or passed is late, and the settings of an enabled unit stand. -/
def Obligations.LatchesAndTriggersAct : Prop :=
  (∀ (s : State) (j : Fin 16) (v : Reg32), s.hostOpen → v.getLsbD 0 = true → s.bit (R.ENC_LAT_CFG j) F.ENC_LAT_CFG_enable = true →
    Leads (.latchNow j v) s fun t => Captured s t j 0xFF (s.sampleTq 0) (5 * s.ticks) s.tim.counter ∧ OnlyMotion s t) ∧
  (∀ (s : State) (m : Fin 32) (level : Bool) (tap : Fin 32), s.blw.state ∉ ([.off, .reset] : List DevState) →
    s.tim.gpio.getLsbD m = !level → (s.rd R.TIM_GPIO_DIR).getLsbD m = false →
    let code := if level then m.val else 0x20 + m.val
    Leads (.gpioEdge m level tap) s fun t => t.tim.gpio.getLsbD m = level ∧
      (∀ i, i < 32 → i ≠ m.val → t.tim.gpio.getLsbD i = s.tim.gpio.getLsbD i) ∧
      (s.noLatchOn code → t.regs = s.regs ∧ { t with tim := s.tim } = s) ∧
      (∀ j, j < 16 → s.bit (R.ENC_LAT_CFG j) F.ENC_LAT_CFG_enable = true → s.fld (R.ENC_LAT_CFG j) F.ENC_LAT_CFG_source = code →
        (∀ i, i < 16 → i ≠ j → s.bit (R.ENC_LAT_CFG i) F.ENC_LAT_CFG_enable = false ∨ s.fld (R.ENC_LAT_CFG i) F.ENC_LAT_CFG_source ≠ code) →
        Captured s t j code (s.edgeTq tap) (s.edgeSample tap) (s.edgeCounter tap))) ∧
  (∀ (s : State) (j : Fin 16) (v : Reg32), s.hostOpen →
    (s.bit (R.ENC_LAT_CFG j) F.ENC_LAT_CFG_enable = false → exec (.latchCfgWrite j v) s = .next (s.plainWrite (R.ENC_LAT_CFG j) v)) ∧
    (s.bit (R.ENC_LAT_CFG j) F.ENC_LAT_CFG_enable = true → v.getLsbD 31 = true → exec (.latchCfgWrite j v) s = .next s) ∧
    (s.bit (R.ENC_LAT_CFG j) F.ENC_LAT_CFG_enable = true → v.getLsbD 31 = false → Leads (.latchCfgWrite j v) s fun t =>
      t.rd (R.ENC_LAT_CFG j) = putField (s.rd (R.ENC_LAT_CFG j)) F.ENC_LAT_CFG_enable 0 ∧ SameRegsBut [R.ENC_LAT_CFG j] s t)) ∧
  (∀ (s : State) (k : Fin 16) (i : Fin 5), s.trigRuns k = true → (s.trig k).checked = true → s.trigAllowed k = true →
    let b := s.trigBehind k (s.sampleTq i) (s.sampleNo i)
    let soon := ∃ l, (s.trig k).last = some l ∧ s.sampleNo i - l < s.fld (R.ENC_TRG_MININT k) F.ENC_TRG_MININT_min_interval
    (b < 0 → exec (.triggerFire k i) s = .next s) ∧
    (0 ≤ b → b < (s.trig k).period → ¬soon → Leads (.triggerFire k i) s fun t =>
      let p := s.rd (R.ENC_TRG_PERIOD k)
      (t.trig k).period = p.toNat ∧ (t.trig k).last = some (s.sampleNo i) ∧ (t.trig k).late = false ∧
      (t.trig k).next = (if s.trigUp k then (s.trig k).next + p.setWidth 72 else (s.trig k).next - p.setWidth 72) ∧
      t.rd (R.ENC_TRG_FIRED k) = s.rd (R.ENC_TRG_FIRED k) + 1 ∧ t.rd (R.ENC_TRG_LATE_PTS k) = s.rd (R.ENC_TRG_LATE_PTS k) ∧
      (s.bit (R.ENC_TRG_CFG k) F.ENC_TRG_CFG_ltrig_en = true → t.out = .ltrig k true :: s.out ∧ (t.trig k).pulseEnd =
        some (s.sampleNo i + 4 + 5 * s.fld (R.ENC_TRG_CFG k) F.ENC_TRG_CFG_pulse_width)) ∧
      (s.bit (R.ENC_TRG_CFG k) F.ENC_TRG_CFG_ltrig_en = false → t.out = s.out) ∧
      (∀ p : Fin 16, s.bit (R.ENC_TRG_CFG k) F.ENC_TRG_CFG_cxp_en = true →
        (s.fld (R.ENC_TRG_CFG k) F.ENC_TRG_CFG_cxp_ports).testBit p = true → sget (fun _ => 0) s.lan.trigMade p ≠ s.sampleNo i + 1 →
        ∀ l ∈ s.portLinks p, (s.camLink l).state = .up → sget (fun _ => 0) s.lan.trigNow l = 0 → sget (fun _ => 0) s.lan.trigStart l = 0 →
          sget (fun _ => 0) t.lan.trigNow l = s.sampleNo i + 1)) ∧
    (0 ≤ b → (soon ∨ (s.trig k).period ≤ b) → Leads (.triggerFire k i) s fun t => TriggerLate s t k b.toNat)) ∧
  (∀ (s : State) (k : Fin 16) (i : Fin 5),
    (s.trigRuns k = false ∨ s.trigAllowed k = false → exec (.triggerFire k i) s = .next s) ∧
    (s.trigRuns k = true → s.trigAllowed k = true → (s.trig k).checked = false →
      (s.trigBehind k (s.sampleTq i) (s.sampleNo i) ≤ 0 → exec (.triggerFire k i) s = .next (s.setTrig k { s.trig k with checked := true })) ∧
      (0 < s.trigBehind k (s.sampleTq i) (s.sampleNo i) → Leads (.triggerFire k i) s fun t =>
        TriggerLate s t k (s.trigBehind k (s.sampleTq i) (s.sampleNo i)).toNat))) ∧
  (∀ (s : State) (k : Fin 16) (v : Reg32), s.hostOpen →
    let x := BitVec.signExtend 72 (v ++ (s.trig k).stage)
    let u : State := s.setTrig k { s.trig k with next := x, snap := none, checked := false }
    (s.trigRuns k = false ∨ s.trigAllowed k = false → exec (.triggerNextWrite k v) s = .next u) ∧
    (s.trigRuns k = true → s.trigAllowed k = true → u.trigBehind k (s.sampleTq 0) (5 * s.ticks) ≤ 0 → Leads (.triggerNextWrite k v) s fun t =>
      (t.trig k).next = x ∧ (t.trig k).checked = true ∧ t.regs = s.regs) ∧
    (s.trigRuns k = true → s.trigAllowed k = true → 0 < u.trigBehind k (s.sampleTq 0) (5 * s.ticks) → Leads (.triggerNextWrite k v) s fun t =>
      TriggerLate u t k (u.trigBehind k (s.sampleTq 0) (5 * s.ticks)).toNat)) ∧
  (∀ (s : State) (k : Fin 16) (v : Reg32), s.hostOpen →
    (s.bit (R.ENC_TRG_CFG k) F.ENC_TRG_CFG_enable = true → v.getLsbD 31 = true → exec (.triggerCfgWrite k v) s = .next s) ∧
    (s.bit (R.ENC_TRG_CFG k) F.ENC_TRG_CFG_enable = true → v.getLsbD 31 = false → Leads (.triggerCfgWrite k v) s fun t =>
      t.rd (R.ENC_TRG_CFG k) = putField (s.rd (R.ENC_TRG_CFG k)) F.ENC_TRG_CFG_enable 0 ∧ SameRegsBut [R.ENC_TRG_CFG k] s t ∧
      t.pos = s.pos) ∧
    (s.bit (R.ENC_TRG_CFG k) F.ENC_TRG_CFG_enable = false → (s.trig k).period = 0 → Leads (.triggerCfgWrite k v) s fun t =>
      t.rd (R.ENC_TRG_CFG k) = putField (plainValue (R.ENC_TRG_CFG k) false (s.rd (R.ENC_TRG_CFG k)) v) F.ENC_TRG_CFG_enable 0 ∧
      SameRegsBut [R.ENC_TRG_CFG k] s t) ∧
    (s.bit (R.ENC_TRG_CFG k) F.ENC_TRG_CFG_enable = false → (s.trig k).period ≠ 0 →
      s.blw.state ∉ ([.armed, .run, .hold] : List DevState) → Leads (.triggerCfgWrite k v) s fun t =>
      t.rd (R.ENC_TRG_CFG k) = plainValue (R.ENC_TRG_CFG k) false (s.rd (R.ENC_TRG_CFG k)) v ∧ SameRegsBut [R.ENC_TRG_CFG k] s t ∧
      t.trig k = { s.trig k with checked := false }) ∧
    (s.bit (R.ENC_TRG_CFG k) F.ENC_TRG_CFG_enable = false → (s.trig k).period ≠ 0 → Leads (.triggerCfgWrite k v) s fun t =>
      t.rd (R.ENC_TRG_CFG k) = plainValue (R.ENC_TRG_CFG k) false (s.rd (R.ENC_TRG_CFG k)) v ∧ RegsOutside [7, 0xF] s t ∧
      (t.trig k).period = (s.trig k).period ∧ t.out = s.out)) ∧
  (∀ (s : State) (k : Fin 16) (v : Reg32), s.hostOpen → (v = 0 → exec (.triggerPeriodWrite k v) s = .next s) ∧
    (v ≠ 0 → Leads (.triggerPeriodWrite k v) s fun t => t.rd (R.ENC_TRG_PERIOD k) = v ∧ SameRegsBut [R.ENC_TRG_PERIOD k] s t ∧
      (s.bit (R.ENC_TRG_CFG k) F.ENC_TRG_CFG_enable = true → t.pos = s.pos) ∧
      (s.bit (R.ENC_TRG_CFG k) F.ENC_TRG_CFG_enable = false → t.trig k = { s.trig k with period := v.toNat }))) ∧
  (∀ (s : State) (k : Fin 16) (e : Nat), (s.trig k).pulseEnd = some e →
    (e ≤ 5 * s.ticks → Leads (.ltrigPulseEnd k) s fun t => t.out = .ltrig k false :: s.out ∧
      t.trig k = { s.trig k with pulseEnd := none } ∧ t.regs = s.regs) ∧
    (5 * s.ticks < e → exec (.ltrigPulseEnd k) s = .next s)) ∧
  (∀ (s : State) (l : Fin 64) (w : Nat), (s.camLink l).state = .up → w ≠ 0 → w + 11 ≤ 5 * s.ticks →
    let start := sget (fun _ => 0) s.lan.trigStart l
    let Starts (t : State) : Prop := t.out = .triggerPacket (l / 4) (l % 4) (s.camLink l).fast (5 * s.ticks - (w - 1)) :: s.out ∧
      t.rd (R.LANE_TRG_SENT (l / 4)) = s.rd (R.LANE_TRG_SENT (l / 4)) + 1 ∧ SameRegsBut [R.LANE_TRG_SENT (l / 4)] s t ∧
      sget (fun _ => 0) t.lan.trigNow l = w ∧ sget (fun _ => 0) t.lan.trigStart l = s.ticks + 1
    (∀ ended, start = 0 → sget (fun _ => 0) s.lan.trigNow l = w → Leads (.triggerPacketStart l ended) s fun t => Starts t ∧
      sget (fun _ => 0) t.lan.trigWait l = sget (fun _ => 0) s.lan.trigWait l) ∧
    (start ≠ 0 → start - 1 + Config.triggerPacketCharacters * (if (s.camLink l).fast then 30 else 60) ≤ s.ticks →
      sget (fun _ => 0) s.lan.trigWait l = w → Leads (.triggerPacketStart l true) s fun t => Starts t ∧
        sget (fun _ => 0) t.lan.trigWait l = 0))

/-! ### Camera links -/

/-- The states of a port's links (R77 to R79, R81 to R83, R87, R92): start, stop, restart and the configuration of a port, and what the
timers and the loss of lock or of a link do. -/
def Obligations.LinksFollowTheirStates : Prop :=
  (∀ (s : State) (p : Fin 16) (v : Reg32), s.hostOpen → v.getLsbD 1 = false →
    (v.getLsbD 0 = true → v.getLsbD 2 = false →
      (s.portStarts p = false → exec (.portStart p v) s = .next s) ∧
      (s.portStarts p = true → Leads (.portStart p v) s fun t => ∀ l ∈ s.portLinks p,
        ((s.camLink l).state ≠ .down → t.camLink l = s.camLink l) ∧
        ((s.camLink l).state = .down → Receives t l (s.slotLanes l) 1 ∧ connectionReset l true ∈ t.out ∧ connectionReset l false ∈ t.out ∧
          t.camLink l = { state := .discover, wimenExcluded := (s.camLink l).wimenExcluded, since := s.ticks }))) ∧
    (v.getLsbD 2 = true →
      (s.portStarts p = false → exec (.portRestart p v) s = .next s) ∧
      (s.portStarts p = true → Leads (.portRestart p v) s fun t => ∀ l ∈ s.portLinks p, Receives t l (s.slotLanes l) 1 ∧
        connectionReset l true ∈ t.out ∧ connectionReset l false ∈ t.out ∧ t.camLink l = { state := .discover, since := s.ticks }))) ∧
  (∀ (s : State) (p : Fin 16) (v : Reg32), s.hostOpen →
    (v.getLsbD 1 = true → (v.getLsbD 0 = true → exec (.portStart p v) s = exec (.portStop p v) s) ∧
      (v.getLsbD 2 = true → exec (.portRestart p v) s = exec (.portStop p v) s)) ∧
    (v.getLsbD 2 = true → v.getLsbD 0 = true → exec (.portStart p v) s = exec (.portRestart p v) s)) ∧
  (∀ (s : State) (p : Fin 16) (v : Reg32), s.hostOpen → v.getLsbD 1 = true → Leads (.portStop p v) s fun t => t.out = s.out ∧
    (∀ l ∈ s.portLinks p, Receives t l (s.slotLanes l) 0 ∧
      t.camLink l = { state := .down, wimenExcluded := (s.camLink l).wimenExcluded, since := s.ticks }) ∧
    (∀ l, l ∉ s.portLinks p → t.camLink l = s.camLink l)) ∧
  (∀ (s : State) (p : Fin 16) (v : Reg32), s.hostOpen →
    ((∀ i, i < 4 → (s.camLink (4 * p + i)).state = .down) → Leads (.portCfgWrite p v) s fun t =>
      t.rd (R.LANE_PORT_CFG p) = plainValue (R.LANE_PORT_CFG p) false (s.rd (R.LANE_PORT_CFG p)) v) ∧
    (∀ i, i < 4 → (s.camLink (4 * p + i)).state ≠ .down → Leads (.portCfgWrite p v) s fun t =>
      t.fld (R.LANE_PORT_CFG p) F.LANE_PORT_CFG_layout = s.fld (R.LANE_PORT_CFG p) F.LANE_PORT_CFG_layout ∧
      t.fld (R.LANE_PORT_CFG p) F.LANE_PORT_CFG_evq = s.fld (R.LANE_PORT_CFG p) F.LANE_PORT_CFG_evq ∧
      (v.getLsbD 31 = false → s.bit (R.LANE_PORT_CFG p) F.LANE_PORT_CFG_enable = true → ∀ l ∈ s.portLinks p, (t.camLink l).state = .down) ∧
      (v.getLsbD 31 = true → t.lan = s.lan))) ∧
  (∀ (s : State) (l : Fin 64), (s.camLink l).state = .discover →
    12500000 * s.fld (R.LANE_PORT_CFG (l / 4)) F.LANE_PORT_CFG_disc_timeout ≤ s.ticks - (s.camLink l).since →
    Leads (.discoveryTimeout l) s fun t => GoesDown s t l) ∧
  (∀ (s : State) (l : Fin 64), (s.camLink l).state = .retune → (s.camLink l).switched = true → (s.camLink l).rate ≠ 8 →
    250000 ≤ s.ticks - (s.camLink l).since → Leads (.retuneTimeout l) s fun t => Rediscovers s t l (s.camLink l).wimenExcluded s.ticks) ∧
  (∀ (s : State) (l : Fin 64), (s.camLink l).state = .retune → (s.camLink l).rate = 8 → (s.camLink l).step = .locking →
    ((s.camLink l).switched = false → 125000 ≤ s.ticks - (s.camLink l).since → Leads (.wimenSwitch l) s fun t =>
      t.camLink l = { s.camLink l with switched := true, fast := true, since := s.ticks } ∧ Receives t l (s.slotLanes l) 8 ∧ t.out = s.out) ∧
    ((s.camLink l).switched = true → 2500000 ≤ s.ticks - (s.camLink l).since → Leads (.wimenLockTimeout l) s fun t =>
      Rediscovers s t l true s.ticks ∧ FlagSet s t (R.LANE_PORT_FLAGS (l / 4)) 2 (R.LANE_PORT_EVCNT (l / 4) 2))) ∧
  (∀ (s : State) (l : Fin 64), (s.camLink l).state = .down → (s.camLink l).resuming = true → 100000 ≤ s.ticks - (s.camLink l).since →
    Leads (.resumeTimeout l) s fun t => Rediscovers s t l (s.camLink l).wimenExcluded s.ticks) ∧
  (∀ (s : State) (lane : Fin 64) (signal : Bool),
    let l := s.linkOf lane
    (s.rxRate lane = 0 → exec (.linkLoss lane signal) s = .next s) ∧
    (s.rxRate lane ≠ 0 → s.carries lane →
      (s.bit (R.LANE_PORT_CFG (l / 4)) F.LANE_PORT_CFG_auto_restart = true → Leads (.linkLoss lane signal) s fun t =>
        Rediscovers s t l (s.camLink l).wimenExcluded s.ticks) ∧
      (s.bit (R.LANE_PORT_CFG (l / 4)) F.LANE_PORT_CFG_auto_restart = false → Leads (.linkLoss lane signal) s fun t => GoesDown s t l)) ∧
    (s.rxRate lane ≠ 0 → ¬s.carries lane → Leads (.linkLoss lane signal) s fun t => t.laneLocked lane = false ∧
      t.bit (R.LANE_RX_STATUS lane) F.LANE_RX_STATUS_signal_detect = signal ∧ t.bit (R.LANE_RX_STATUS lane) F.LANE_RX_STATUS_cdr_lock = false ∧
      t.lan.links = s.lan.links ∧ SameRegsBut [R.LANE_RX_STATUS lane] s t)) ∧
  (∀ (s : State) (lane : Fin 64), s.rxRate lane = 8 → s.laneLocked lane = true →
    Leads (.blockLockLoss lane) s fun t => t.laneLocked lane = false ∧ t.bit (R.LANE_RX_STATUS lane) F.LANE_RX_STATUS_block_lock = false ∧
      t.bit (R.LANE_RX_STATUS lane) F.LANE_RX_STATUS_aligned = false ∧
      t.bit (R.LANE_RX_STATUS lane) F.LANE_RX_STATUS_cdr_lock = s.bit (R.LANE_RX_STATUS lane) F.LANE_RX_STATUS_cdr_lock ∧
      t.lan.links = s.lan.links ∧ SameRegsBut [R.LANE_RX_STATUS lane] s t ∧ { t with regs := s.regs, lan := s.lan } = s)

/-- Bring-up (R75 to R83): a lock starts the step that waited for it, each acknowledgement leads to the next transaction, the
configuration chosen is the fastest and widest that camera, port and discovery admit (with none to choose the link is in DISCOVER again,
log 115), the verifying read brings the link UP, and a transaction is sent twice before it fails. -/
def Obligations.BringUpAsksStepByStep : Prop :=
  (∀ (s : State) (lane : Fin 64) (skew : BitVec 8),
    let l := s.linkOf lane
    let rate := s.rxRate lane
    let Locks (t : State) (block : Bool) : Prop := t.laneLocked lane = true ∧
      t.bit (R.LANE_RX_STATUS lane) F.LANE_RX_STATUS_aligned = true ∧ t.bit (R.LANE_RX_STATUS lane) F.LANE_RX_STATUS_block_lock = block ∧
      sget (fun _ => 0) t.tmp.measuredDeskew lane = skew.toNat
    (rate ≠ 0 → rate ≠ 8 → Leads (.laneLock lane skew) s fun t => Locks t false ∧
      ((s.camLink l).state = .discover → (s.camLink l).sent = none → l = lane.val → Asks s t l .standard false (Config.bootstrapAddress 0) 0) ∧
      ((s.camLink l).state = .retune → (s.camLink l).step = .locking → (s.camLink l).switched = true → s.othersLocked l lane →
        (s.camLink l).rate ≠ 8 → Asks s t l .verify false (Config.bootstrapAddress 6) 0) ∧
      ((s.camLink l).state = .down → (s.camLink l).resuming = true → (s.camLink l).sent = none → s.othersLocked l lane →
        Asks s t l .resumeRead false (Config.bootstrapAddress 6) 0) ∧
      ((s.camLink l).state = .config ∨ (s.camLink l).state = .up → t.out = s.out ∧ t.lan.links = s.lan.links)) ∧
    (rate = 8 → Leads (.blockLockGain lane skew) s fun t => Locks t true ∧
      ((s.camLink l).state = .retune → (s.camLink l).step = .locking → (s.camLink l).switched = true → s.othersLocked l lane →
        (s.camLink l).rate = 8 → Asks s t l .verify false 0x7F0C 0) ∧
      ((s.camLink l).state = .down → (s.camLink l).resuming = true → (s.camLink l).sent = none → s.othersLocked l lane →
        Asks s t l .resumeRead false (Config.bootstrapAddress 6) 0))) ∧
  (∀ (s : State) (l : Fin 64) (a : ControlAck), s.bringing l = true → a.crcOk = true → a.error = none →
    let x := s.camLink l
    Leads (.controlAck l a) s fun t => (∀ m, m ≠ l.val → t.camLink m = s.camLink m) ∧
      (x.step = .standard → (t.camLink l).state = .config ∧ Asks s t l .revision false (Config.bootstrapAddress 1) 0) ∧
      (∀ c, x.step = .revision → c < s.slotLanes l → s.laneLocked (l + c) = true → (∀ i, i < c → s.laneLocked (l + i) = false) →
        Asks s t l (.deviceConnectionId c) false (Config.bootstrapAddress 2) 0) ∧
      (x.step = .revision → (∀ i, i < s.slotLanes l → s.laneLocked (l + i) = false) →
        Asks s t l .connectionConfigDefault false (Config.bootstrapAddress 3) 0) ∧
      (∀ c, x.step = .deviceConnectionId c → (t.camLink l).found = (if a.data.toNat = c then x.found ||| 2 ^ c else x.found) ∧
        ((∀ i, c < i → i < s.slotLanes l → s.laneLocked (l + i) = false) →
          Asks s t l .connectionConfigDefault false (Config.bootstrapAddress 3) 0) ∧
        (∀ d, c < d → d < s.slotLanes l → s.laneLocked (l + d) = true → (∀ i, c < i → i < d → s.laneLocked (l + i) = false) →
          Asks s t l (.deviceConnectionId d) false (Config.bootstrapAddress 2) 0)) ∧
      (x.step = .connectionConfigDefault → (t.camLink l).camRates = a.rates.map (·.val) ∧ (t.camLink l).camConns = a.counts.map (·.val) ∧
        Asks s t l .controlPacketSizeMax false (Config.bootstrapAddress 4) 0) ∧
      (x.step = .controlPacketSizeMax → Asks s t l .wimenSig false 0x7F00 0) ∧
      (x.step = .wimenSig → a.data = 0x59574D4E → (t.camLink l).wimenSig = true ∧ Asks s t l .wimenCap false 0x7F04 0) ∧
      (x.step = .wimenSig → a.data ≠ 0x59574D4E → Asks s t l .streamPacketSizeMax true (Config.bootstrapAddress 5) 8192) ∧
      (x.step = .wimenCap → Asks s t l .streamPacketSizeMax true (Config.bootstrapAddress 5) 8192) ∧
      (∀ r n, x.step = .streamPacketSizeMax → s.wimenChosen l = false → r ∈ x.camRates → 1 ≤ r →
        r ≤ s.fld (R.LANE_PORT_CFG (l / 4)) F.LANE_PORT_CFG_max_rate →
        (∀ q ∈ x.camRates, q ≤ s.fld (R.LANE_PORT_CFG (l / 4)) F.LANE_PORT_CFG_max_rate → q ≤ r) → s.countFits l n →
        (∀ m, s.countFits l m → m ≤ n) → (t.camLink l).state = .retune ∧ (t.camLink l).rate = r ∧ (t.camLink l).conns = n ∧
          Asks s t l .connectionConfig true (Config.bootstrapAddress 6) (Config.connectionConfig r n)) ∧
      (∀ n, x.step = .streamPacketSizeMax → s.wimenChosen l = true → s.countFits l n → n ≤ x.wimenConns →
        (∀ m, s.countFits l m → m ≤ x.wimenConns → m ≤ n) → (t.camLink l).state = .retune ∧ (t.camLink l).rate = 8 ∧
          (t.camLink l).conns = n ∧ Asks s t l .wimenCtrl true 0x7F08 (BitVec.ofNat 32 (1000 * 65536 + n))) ∧
      (x.step = .streamPacketSizeMax → s.wimenChosen l = false →
        (∀ q ∈ x.camRates, q = 0 ∨ s.fld (R.LANE_PORT_CFG (l / 4)) F.LANE_PORT_CFG_max_rate < q) ∨ (∀ n, ¬s.countFits l n) →
        Rediscovers s t l x.wimenExcluded s.ticks) ∧
      (x.step = .connectionConfig →
        t.camLink l = { x with switched := true, fast := decide (6 ≤ x.rate), step := .locking, sent := none, since := s.ticks } ∧
        Receives t l (s.slotLanes l) (x.rate % 16) ∧ t.out = s.out) ∧
      (x.step = .wimenCtrl → t.camLink l = { x with step := .locking, sent := none, since := s.ticks } ∧ t.out = s.out) ∧
      (x.step = .verify ∨ x.step = .resumeRead → GoesUp s t l)) ∧
  (∀ (s : State) (l : Fin 64) (a : ControlAck), s.bringing l = true → a.crcOk = true → a.error.isSome = true →
    ((s.camLink l).step = .wimenSig ∨ (s.camLink l).step = .wimenCap → Leads (.controlAck l a) s fun t =>
      Asks s t l .streamPacketSizeMax true (Config.bootstrapAddress 5) 8192) ∧
    ((s.camLink l).step ≠ .wimenSig → (s.camLink l).step ≠ .wimenCap → Leads (.controlAck l a) s (StepFailed s · l))) ∧
  (∀ (s : State) (l : Fin 64) (a : ControlAck), s.bringing l = true →
    let x := s.camLink l
    let Again (t : State) : Prop := t.camLink l = { x with sent := some s.ticks, second := true } ∧
      t.out = .controlPacket (l / 4) (l % 4) x.fast (stepWrite x).isSome (stepAddr x) ((stepWrite x).getD 0) :: s.out
    (a.crcOk = false → Leads (.controlAck l a) s fun t => t.rd (R.LANE_CRCERR l) = s.rd (R.LANE_CRCERR l) + 1 ∧
      FlagSet s t (R.LANE_PORT_FLAGS (l / 4)) 3 (R.LANE_PORT_EVCNT (l / 4) 3) ∧
      (x.second = false → Again t) ∧ (x.second = true → StepFailed s t l)) ∧
    (∀ b, x.sent = some b → 1250000 ≤ s.ticks - b → Leads (.controlAckTimeout l) s fun t =>
      (x.second = false → Again t) ∧ (x.second = true → StepFailed s t l)) ∧
    (∀ b, x.sent = some b → s.ticks - b < 1250000 → exec (.controlAckTimeout l) s = .next s))

/-- The mailbox, packets and receivers (R71, R74, R75, R84, R86, R88, R91, R387). What a scan does on a lane that is no connection, and
which dwell is in force, is the model's choice (logs 176 and 177). -/
def Obligations.LanesCarryPackets : Prop :=
  (∀ (s : State) (p : Fin 16) (v : Reg32) (w : Bool), s.hostOpen → s.mail p = none → v.getLsbD 31 = true → v.getLsbD 30 = w →
    let i : Instr := if w then .mailboxWrite p v else .mailboxRead p v
    let link := getField v F.LANE_CC_CMD_link
    let a := s.rd (R.LANE_CC_ADDR p)
    (w = true → protectedAddr a = true → Leads i s fun t => MailEnded s t p 5 0 ∧ t.out = s.out) ∧
    (w = false ∨ protectedAddr a = false → s.slotLanes (4 * p + link) = 0 → Leads i s fun t => MailEnded s t p 4 0 ∧ t.out = s.out) ∧
    (w = false ∨ protectedAddr a = false → s.slotLanes (4 * p + link) ≠ 0 → Leads i s fun t =>
      t.rd (R.LANE_CC_STATUS p) = 0x80000000 ∧ SameRegsBut [R.LANE_CC_STATUS p] s t ∧
      ((s.camLink (4 * p + link)).state = .up → t.out = .controlPacket p link (s.camLink (4 * p + link)).fast w a
          (s.rd (R.LANE_CC_DATA p)) :: s.out ∧
        t.mail p = some ⟨link, w, a, s.rd (R.LANE_CC_DATA p), some s.ticks, false⟩) ∧
      ((s.camLink (4 * p + link)).state ≠ .up → t.out = s.out ∧
        t.mail p = some ⟨link, w, a, s.rd (R.LANE_CC_DATA p), none, false⟩))) ∧
  (∀ (s : State) (l : Fin 64) (a : ControlAck) (m : Mail) (b : Nat), s.bringing l = false → s.mail (l / 4) = some m →
    m.link = l % 4 → m.sent = some b →
    (a.crcOk = true → a.error = none → Leads (.controlAck l a) s fun t => MailEnded s t (l / 4) 0 0 ∧
      (m.write = false → t.rd (R.LANE_CC_DATA (l / 4)) = a.data) ∧ (m.write = true → t.rd (R.LANE_CC_DATA (l / 4)) =
        s.rd (R.LANE_CC_DATA (l / 4)))) ∧
    (∀ e : BitVec 8, a.crcOk = true → a.error = some e → Leads (.controlAck l a) s fun t => MailEnded s t (l / 4) 3 e.toNat) ∧
    (a.crcOk = false → m.second = true → Leads (.controlAck l a) s fun t => MailEnded s t (l / 4) 2 0) ∧
    (a.crcOk = false → m.second = false → Leads (.controlAck l a) s fun t => t.rd (R.LANE_CRCERR l) = s.rd (R.LANE_CRCERR l) + 1 ∧
      t.mail (l / 4) = some { m with sent := some s.ticks, second := true } ∧
      t.out = .controlPacket (l / 4) m.link (s.camLink l).fast m.write m.addr m.data :: s.out) ∧
    (1250000 ≤ s.ticks - b → m.second = true → Leads (.controlAckTimeout l) s fun t => MailEnded s t (l / 4) 1 0) ∧
    (1250000 ≤ s.ticks - b → m.second = false → Leads (.controlAckTimeout l) s fun t =>
      t.mail (l / 4) = some { m with sent := some s.ticks, second := true } ∧
      t.out = .controlPacket (l / 4) m.link (s.camLink l).fast m.write m.addr m.data :: s.out)) ∧
  (∀ (s : State) (lane : Fin 64), s.carries lane →
    let p := lane.val / 4
    let Errors (t : State) (n : Nat) : Prop := s.rxRate lane ≠ 0 → t.rd (R.LANE_CODEERR lane) = s.rd (R.LANE_CODEERR lane) + BitVec.ofNat 32 n
    (∀ x : StreamPacket, x.headerOk = false → Leads (.streamPacket lane x) s fun t =>
      t.rd (R.LANE_CRCERR lane) = s.rd (R.LANE_CRCERR lane) + 1 ∧ FlagSet s t (R.LANE_PORT_FLAGS p) 3 (R.LANE_PORT_EVCNT p 3) ∧
      t.int = s.int ∧ Raised s t (224 + p) ∧ Errors t x.codeErrors) ∧
    (∀ (ws : List Word) (n : Nat) (tap : Fin 32),
      let q := s.fld (R.LANE_PORT_CFG p) F.LANE_PORT_CFG_evq
      s.queueOn q = true →
      (s.queueRoom q (ws.length + 2) = true → Leads (.cameraEventPacket lane ws tap n) s fun t => Errors t n ∧ ∃ len : Word,
        (t.queue q).slots = (s.queue q).slots ++ [.closed 0x80 (len :: (ws ++ [s.edgeTime tap]))]) ∧
      (s.queueRoom q (ws.length + 2) = false → Leads (.cameraEventPacket lane ws tap n) s fun t => t.hst.queues = s.hst.queues ∧ Errors t n ∧
        FlagSet s t (R.LANE_PORT_FLAGS p) 5 (R.LANE_PORT_EVCNT p 5))) ∧
    (∀ n, Leads (.triggerAckPacket lane n) s fun t => t.rd (R.LANE_TRG_ACK p) = s.rd (R.LANE_TRG_ACK p) + 1 ∧ Errors t n ∧
      (n = 0 → SameRegsBut [R.LANE_TRG_ACK p] s t ∧ { t with regs := s.regs } = s)) ∧
    (∀ n, Leads (.unsupportedPacket lane n) s fun t => FlagSet s t (R.LANE_PORT_FLAGS p) 5 (R.LANE_PORT_EVCNT p 5) ∧ t.lan = s.lan ∧
      t.int = s.int ∧ Errors t n) ∧
    (s.fld (R.LANE_RX_STATUS lane) F.LANE_RX_STATUS_rate = 8 →
      let a := sget (fun _ => 0) s.tmp.deskew lane
      let m := sget (fun _ => 0) s.tmp.measuredDeskew lane
      (∀ (count : BitVec 40) (skew : BitVec 8), ((skew.toNat : Int) - a).natAbs ≤ 8 → Leads (.laneMarker lane count skew) s fun t =>
        sget (fun _ => 0) t.tmp.measuredDeskew lane = skew.toNat ∧ t.regs = s.regs ∧ t.lan.links = s.lan.links) ∧
      (∀ (count : BitVec 40) (skew : BitVec 8), 8 < ((skew.toNat : Int) - a).natAbs → Leads (.laneMarker lane count skew) s fun t =>
        FlagSet s t R.TMP_FLAGS 6 (R.TMP_EVCNT 6) ∧ (t.camLink (s.linkOf lane)).state ≠ .up) ∧
      (m ≠ a → Leads (.deskewMove lane) s fun t => sget (fun _ => 0) t.tmp.deskew lane = (if a < m then a + 1 else a - 1)) ∧
      (m = a → exec (.deskewMove lane) s = .next s))) ∧
  (∀ (s : State) (lane : Fin 64) (e d1 d2 d3 d4 d5 : Bool),
    (s.rxRate lane = 0 ∨ s.bit (R.LANE_RX_CFG lane) F.LANE_RX_CFG_dfe_freeze = true →
      exec (.dfeUpdate lane e d1 d2 d3 d4 d5) s = .next s) ∧
    (s.rxRate lane ≠ 0 → s.bit (R.LANE_RX_CFG lane) F.LANE_RX_CFG_dfe_freeze = false →
      Leads (.dfeUpdate lane e d1 d2 d3 d4 d5) s fun t => SameRegsBut [R.LANE_DFE lane] s t ∧ { t with regs := s.regs } = s ∧
      ∀ fd ∈ [(F.LANE_DFE_tap1, d1), (F.LANE_DFE_tap2, d2), (F.LANE_DFE_tap3, d3), (F.LANE_DFE_tap4, d4), (F.LANE_DFE_tap5, d5)],
        t.sfld (R.LANE_DFE lane) fd.1 = max (-32) (min 31 (s.sfld (R.LANE_DFE lane) fd.1 + (if e = fd.2 then 1 else -1))))) ∧
  (∀ (s : State) (lane : Fin 64) (v : Reg32), s.hostOpen → v.getLsbD 31 = true →
    (s.carries lane → Leads (.eyeScanStart lane v) s fun t => t.rd (R.LANE_EYE_RESULT lane) = 0 ∧
      sget (fun _ => 0) t.lan.scans lane = s.ticks + 1 ∧ t.bit (R.LANE_EYE_CTRL lane) F.LANE_EYE_CTRL_start = true ∧
      SameRegsBut [R.LANE_EYE_CTRL lane, R.LANE_EYE_RESULT lane] s t) ∧
    (¬s.carries lane → Leads (.eyeScanStart lane v) s fun t => t.rd (R.LANE_EYE_RESULT lane) = 0xFFFFFFFF ∧ t.lan = s.lan ∧
      t.bit (R.LANE_EYE_CTRL lane) F.LANE_EYE_CTRL_start = false)) ∧
  (∀ (s : State) (lane : Fin 64) (errors b : Nat), sget (fun _ => 0) s.lan.scans lane = b + 1 →
    2 ^ (20 + s.fld (R.LANE_EYE_CTRL lane) F.LANE_EYE_CTRL_dwell) * 1000000 ≤
      (s.ticks - b) * 8 * lineRate (s.fld (R.LANE_RX_STATUS lane) F.LANE_RX_STATUS_rate) →
    Leads (.eyeScanDone lane errors) s fun t => t.bit (R.LANE_EYE_RESULT lane) F.LANE_EYE_RESULT_done = true ∧
      t.fld (R.LANE_EYE_RESULT lane) F.LANE_EYE_RESULT_errors = min errors 0x7FFFFFFF ∧ sget (fun _ => 0) t.lan.scans lane = 0 ∧
      t.bit (R.LANE_EYE_CTRL lane) F.LANE_EYE_CTRL_start = false)

/-! ### Intake and correction -/

/-- Intake (R94 to R110): pixels join the open line, a latch is paired with a line, a marker or a timeout ends the line, the completed
ring write makes it eligible, contexts are enabled only under R95's checks, and a re-injection reads the retained lines. -/
def Obligations.IntakeAssemblesLines : Prop :=
  (∀ (s : State) (lane : Fin 64) (x : StreamPacket) (c n : Nat) (v : List (BitVec 16)), s.takesPacket lane x c → x.items = [.pixels n v] →
    n ≤ 8192 → v ≠ [] → (s.stream (s.packetStream lane x)).lines = 0 →
    v.length * formatBits ((s.stream (s.packetStream lane x)).format.getD 0) ≤ 8 * n →
    (∀ o, (s.ictx c).line = some o → cfgStream o.cfg = s.packetStream lane x → (s.ictx c).ready = false → o.px.length + v.length ≤ o.width →
      let y := { o with px := o.px ++ v.map BitVec.toNat }
      s.laneOccupancy o.lane + y.words - o.words ≤ 14563 → Leads (.streamPacket lane x) s fun t =>
        (t.ictx c).line = some { y with lastData := s.ticks } ∧ (t.ictx c).latches = (s.ictx c).latches ∧ t.cor = s.cor ∧ t.sti = s.sti) ∧
    (∀ l rest, (s.ictx c).line = none → (s.ictx c).ready = true → s.bit (R.INT_CTX_CFG c) F.INT_CTX_CFG_free_run = false →
      (s.ictx c).latches = l :: rest → (∀ a ∈ l :: rest, s.edgeTq x.tap - a.tg ≤ 4 * s.fld (R.INT_CTX_PAIR c) F.INT_CTX_PAIR_max_age_ns) →
      v.length ≤ s.ctxWidth c → s.laneOccupancy (s.ctxLane c) + lineWords v.length (samplesPerWord (s.ctxFmt c)) ≤ 14563 →
      Leads (.streamPacket lane x) s fun t => (t.ictx c).latches = rest ∧ ∃ o, (t.ictx c).line = some o ∧ o.latch = l ∧ o.taken = some l ∧
        o.px = v.map BitVec.toNat ∧ o.width = s.ctxWidth c ∧ o.cfg = s.rd (R.INT_CTX_CFG c) ∧ o.gated = s.gateClosed)) ∧
  (∀ (s : State) (lane : Fin 64) (x : StreamPacket) (c n : Nat) (o : OpenLine), s.takesPacket lane x c → x.items = [.lineMarker n] →
    n ≤ 8192 → (s.ictx c).line = some o → cfgStream o.cfg = s.packetStream lane x → Leads (.streamPacket lane x) s fun t =>
      LineEnds s t c o ∧ (t.ictx c).ready = (s.boundOn (s.packetStream lane x) c && s.assembles (s.packetStream lane x) c)) ∧
  (∀ (s : State) (c : Fin 64) (o : OpenLine), (s.ictx c).line = some o →
    s.fld R.INT_GLOBAL_CFG F.INT_GLOBAL_CFG_line_timeout_us * 125 ≤ s.ticks - o.lastData → Leads (.lineTimeout c) s fun t =>
      LineEnds s t c o ∧ (t.ictx c).ready = false ∧ t.cor = s.cor ∧ t.sti = s.sti ∧ t.hrt.bytes = s.hrt.bytes) ∧
  (∀ (s : State) (c : Fin 64), s.hbmBusy = true → exec (.ringWriteDone c) s = .next s) ∧
  (∀ (s : State) (c : Fin 64) (l : Line), s.hbmBusy = false →
    s.int.ringWrites.find? (fun l => l.ctx == c.val) = some l → Leads (.ringWriteDone c) s fun t =>
      t.int.ringWrites = s.int.ringWrites.erase l ∧
      (∀ b, s.reaches (s.ringHandle c) b (s.slotOffset c l.seq) (packDense l.slot).length → t.hrt.bytes =
        Memory.writes s.hrt.bytes (byteKey (s.ringHandle c) (s.slotOffset c l.seq)) (packDense l.slot)) ∧
      ((s.onLane l.lane).isSome = true → t.int.lanes = s.int.lanes ∧
        (l.gated = true ∨ l.dropped = true → t.int.eligible = s.int.eligible ∧ t.fed = s.fed) ∧
        (l.gated = false → l.dropped = false → s.fedLane l.lane = false → t.fed = s.fed ∧
          t.int.eligible = s.int.eligible ++ [{ l with deferred := false }]) ∧
        (l.gated = false → l.dropped = false → s.fedLane l.lane = true → t.int.eligible = s.int.eligible ∧
          t.fed.todo = s.fed.todo ++ [(c.val, l.seq, none)])) ∧
      (s.onLane l.lane = none → l.gated = false → l.dropped = false → l.reinjected = false → s.fedLane l.lane = false →
        (∀ e ∈ s.int.eligible, e.lane ≠ l.lane) → t.int.eligible = s.int.eligible ∧ ∃ o, t.onLane l.lane = some o ∧ o.line.ctx = l.ctx ∧ o.line.seq = l.seq ∧ o.line.px = l.px ∧
          o.line.interval = some (l.interval.getD s.sti.newest))) ∧
  (∀ (s : State) (c : Fin 64) (v : Reg32), s.hostOpen →
    (v.getLsbD 31 = true → s.ctxOn c = true → exec (.contextEnable c v) s = .next s) ∧
    (v.getLsbD 31 = true → s.ctxOn c = false → Leads (.contextEnable c v) s fun t =>
      let x := plainValue (R.INT_CTX_CFG c) false (s.rd (R.INT_CTX_CFG c)) (v &&& 0x7FFFFFFF)
      SameRegsBut [R.INT_CTX_CFG c] s t ∧ (s.enableOk c v = false → t.rd (R.INT_CTX_CFG c) = x ∧ t.int = s.int) ∧
      (s.enableOk c v = true → t.rd (R.INT_CTX_CFG c) = putField x F.INT_CTX_CFG_enable 1 ∧
        t.ictx c = { s.ictx c with latches := [], ready := false }) ∧
      (∀ d, d < 64 → d ≠ c.val → s.ctxOn d = true → BitVec.extractLsb 21 8 (s.rd (R.INT_CTX_CFG d)) = BitVec.extractLsb 21 8 v →
        t.rd (R.INT_CTX_CFG c) = x)) ∧
    (v.getLsbD 31 = false → s.ctxOn c = true → Leads (.contextDisable c v) s fun t => SameRegsBut [R.INT_CTX_CFG c] s t ∧
      t.rd (R.INT_CTX_CFG c) = plainValue (R.INT_CTX_CFG c) false (s.rd (R.INT_CTX_CFG c)) v ∧ t.ctxOn c = false ∧
      t.ictx c = { s.ictx c with latches := [], ready := false })) ∧
  (∀ (s : State) (v : Reg32), s.hostOpen →
    let m := s.reinjMask
    let n := s.fld R.INT_REINJ_COUNT F.INT_REINJ_COUNT_count
    let ok := m ≠ [] ∧ n ≠ 0 ∧ ∀ c ∈ m, s.ctxOn c = true ∧ n ≤ 2 ^ s.ringLog2 c
    (v.getLsbD 0 = true → v.getLsbD 1 = false →
      (s.int.reinj.isSome = true → exec (.reinjectGo v) s = .next s) ∧
      (s.int.reinj = none → s.blw.state ≠ .armed → exec (.reinjectGo v) s = .next (s.wr R.INT_REINJ_STATUS 3)) ∧
      (s.int.reinj = none → s.blw.state = .armed → ¬ok → exec (.reinjectGo v) s = .next (s.wr R.INT_REINJ_STATUS 2)) ∧
      (s.int.reinj = none → s.blw.state = .armed → ok → Leads (.reinjectGo v) s fun t => (∃ l, t.int = { s.int with reinj := some { todo := l } } ∧ l =
          m.map fun c => (c, s.fld R.INT_REINJ_SEQ_HI F.INT_REINJ_SEQ_HI_first_seq_hi * 2 ^ 32 + (s.rd R.INT_REINJ_SEQ_LO).toNat, n)) ∧
        t.rd R.INT_REINJ_STATUS = 0x80000000 ∧ t.rd R.INT_REINJ_DONE = 0 ∧ t.rd R.INT_REINJ_SKIP = 0 ∧
        SameRegsBut [R.INT_REINJ_STATUS, R.INT_REINJ_DONE, R.INT_REINJ_SKIP] s t)) ∧
    (v.getLsbD 1 = true → (s.int.reinj = none → exec (.reinjectAbort v) s = .next s) ∧
      (∀ r, s.int.reinj = some r → exec (.reinjectAbort v) s =
        .next { s with int := { s.int with reinj := some { r with todo := [], abort := true } } }))) ∧
  (∀ (s : State) (c : Fin 64) (ecc : EccResult), s.hbmBusy = true → exec (.reinjectLine c ecc) s = .next s) ∧
  (∀ (s : State) (c : Fin 64) (ecc : EccResult) (r : Reinjection) (seq n : Nat), s.int.reinj = some r → s.blw.state = .armed →
    r.todo.find? (fun t => t.1 == c.val) = some (c.val, seq, n) → s.hbmBusy = false → ecc ≠ .lasting →
    (∀ i ∈ framesOf (s.slotOffset c seq) (9 * lineWords (s.ctxWidth c) (samplesPerWord (s.ctxFmt c))),
      ((s.ringHandle c).toNat, i) ∉ s.hrt.retiring) → Leads (.reinjectLine c ecc) s fun t =>
      (∃ q, t.int.reinj = some q ∧ q.abort = r.abort ∧
        q.todo.find? (fun t => t.1 == c.val) = (if n ≤ 1 then none else some (c.val, (seq + 1) % 2 ^ 40, n - 1))) ∧
      (s.readSlot c seq = none → t.rd R.INT_REINJ_SKIP = s.rd R.INT_REINJ_SKIP + 1 ∧ t.int.eligible = s.int.eligible) ∧
      (∀ l, s.readSlot c seq = some l → (s.onLane l.lane).isSome = true → t.rd R.INT_REINJ_SKIP = s.rd R.INT_REINJ_SKIP ∧
        t.int.eligible = s.int.eligible ++ [{ l with reinjected := true }])) ∧
  (∀ (s : State) (r : Reinjection), s.int.reinj = some r → s.reinjOver r → Leads .reinjectDone s fun t => t.int.reinj = none ∧
    t.rd R.INT_REINJ_STATUS = (if s.blw.state = .armed then 0 else 3) ∧ Raised s t 288 ∧
    TagsEnded s t 1 0 (if s.blw.state = .armed then 0 else 3) ∧ (∀ l ∈ t.int.eligible, l.reinjected = false))

/-- Correction (R111 to R128): a line leaves its lane corrected, with all stages off unchanged, through dark and gain as R115 has it; a
misread entry is counted against the line's interval, fences its stages when it fails again, and stands as it is stored (assumption 123);
applies are checked and take effect when nothing of the context is in the pipeline and the reference is not lost; stores refuse entries in
use; loads and captures run once; a held line goes on when its snapshot is free. -/
def Obligations.CorrectionStagesAndStores : Prop :=
  (∀ (s : State) (L : Fin 16) (o : OnLane) (ecc : CorEcc), s.laneMoves L o → ecc.failed = [] → o.line.px.length = o.line.n →
    let c := o.line.ctx
    (s.corCtx c).fence2 = false → (s.corCtx c).fence35 = false → (s.corCtx c).fence6 = false →
    Leads (.lineSent L ecc) s fun t => t.rd R.COR_ECC_CORR = s.rd R.COR_ECC_CORR + BitVec.ofNat 32 ecc.corrected ∧
      ∃ x : Line, t.cor.out = s.cor.out ++ [x] ∧
      { x with px := o.line.px } = o.line ∧ x.px.length = o.line.n ∧
      (o.set.allOff → (∀ y ∈ o.line.px, y < 2 ^ o.line.bits) → x.px = o.line.px) ∧
      (getField o.set.nr F.COR_CTX_NR_sp_kernel = 0 → o.set.tnrEn = false → getField o.set.dfct F.COR_CTX_DEF_def_en = 0 →
        getField o.set.lin F.COR_CTX_LIN_lin_en = 0 → getField o.set.dark F.COR_CTX_DARK_dark_en = 1 →
        getField o.set.gain F.COR_CTX_GAIN_gain_en = 1 → o.line.bits = 12 → ∀ i y, o.line.px[i]? = some y →
          let k := (s.coefAt (o.set.base + i)).toNat
          let z : Int := y - (signed 18 (getField o.set.dark F.COR_CTX_DARK_offset_base) +
            signed 5 (k % 32) * 2 ^ getField o.set.dark F.COR_CTX_DARK_offset_step)
          x.px[i]? = some (max 0 (min 4095 ((z * (k / 32 : Nat) * 2 ^ getField o.set.gain F.COR_CTX_GAIN_gain_shift + 512) / 1024))).toNat) ∧
      ((∀ e ∈ s.int.eligible, e.lane ≠ L.val) → t.onLane L = none)) ∧
  (∀ (s : State) (L : Fin 16) (o : OnLane) (ecc : CorEcc), s.laneMoves L o → Leads (.lineSent L ecc) s fun t =>
    (∀ e, t.coefAt e = s.coefAt e) ∧ t.cor.lut = s.cor.lut ∧
    (∀ v, s.ival (o.line.interval.getD 0) = some v → ∃ w, t.ival (o.line.interval.getD 0) = some w ∧
      w.corNow.length = v.corNow.length + ecc.failed.length ∧ w.corNow.drop ecc.failed.length = v.corNow ∧
      w.detect = if ecc.failed = [] then v.detect else v.detect ||| 1) ∧
    (∀ q ∈ ecc.failed, s.failsAgain o.line.ctx (o.line.interval.getD 0) q = true → o.line.ctx < 64 →
      t.fld (R.COR_CTX_STATUS o.line.ctx) F.COR_CTX_STATUS_fenced = 1 ∧ t.fld R.BLW_STATE F.BLW_STATE_degraded = 1)) ∧
  (∀ (s : State) (L : Fin 16) (o : OnLane), s.onLane L = some o → o.held = true →
    ((∀ v ∈ s.sti.ivals, ¬v.num + 2 ≤ o.line.interval.getD 0) → Leads (.snapshotWaitEnd L) s fun t =>
      t.onLane L = some { o with held := false } ∧ t.regs = s.regs) ∧
    (∀ v ∈ s.sti.ivals, v.num + 2 ≤ o.line.interval.getD 0 → exec (.snapshotWaitEnd L) s = .next s)) ∧
  (∀ (s : State) (c : Fin 64) (v : Reg32), s.hostOpen → v.getLsbD 0 = true →
    (s.corRefused c = true → Leads (.correctionApply c v) s fun t => FlagSet s t R.COR_FLAGS 1 (R.COR_EVCNT 1) ∧ Raised s t 305 ∧
      t.cor = s.cor ∧ t.rd (R.COR_CTX_STATUS c) = s.rd (R.COR_CTX_STATUS c)) ∧
    (s.corRefused c = false → s.ctxInPipeline c = true ∨ s.refLost = true → Leads (.correctionApply c v) s fun t =>
      t.corCtx c = { s.corCtx c with pending := some (s.corShadow c) } ∧
      t.fld (R.COR_CTX_STATUS c) F.COR_CTX_STATUS_apply_pending = 1 ∧ SameRegsBut [R.COR_CTX_STATUS c] s t) ∧
    (s.corRefused c = false → s.ctxInPipeline c = false → s.refLost = false → Leads (.correctionApply c v) s fun t =>
      (t.corCtx c).active = some (s.corShadow c) ∧ (t.corCtx c).pending = none ∧
      ((s.corShadow c).tnrEn = true → (s.corCtx c).set.tnrEn = false → (t.corCtx c).empty = true) ∧
      t.fld (R.COR_CTX_STATUS c) F.COR_CTX_STATUS_apply_pending = 0 ∧ FlagSet s t R.COR_FLAGS 0 (R.COR_EVCNT 0) ∧
      t.fld (R.COR_CTX_STATUS c) F.COR_CTX_STATUS_active_base = (s.corShadow c).base ∧ Raised s t 304 ∧ TagsEnded s t 4 c 0)) ∧
  (∀ s : State, s.hostOpen →
    let a := s.fld R.COR_STORE_ADDR F.COR_STORE_ADDR_addr / 2 * 2
    let e := s.fld R.COR_LUT_ADDR F.COR_LUT_ADDR_addr
    (∀ v : Reg32, Leads (.coefStoreAccess (some v)) s fun t =>
      t.fld R.COR_STORE_ADDR F.COR_STORE_ADDR_addr = (a + 2) % 524288 ∧
      (s.coefInUse a = false → t.coefAt a = BitVec.extractLsb 15 0 v) ∧ (s.coefInUse (a + 1) = false → t.coefAt (a + 1) = BitVec.extractLsb 31 16 v) ∧
      (s.coefInUse a = true → t.coefAt a = s.coefAt a ∧ t.fld R.COR_FLAGS ⟨2, 2⟩ = 1) ∧
      (s.coefInUse (a + 1) = true → t.coefAt (a + 1) = s.coefAt (a + 1) ∧ t.fld R.COR_FLAGS ⟨2, 2⟩ = 1) ∧
      (∀ i, i ≠ a → i ≠ a + 1 → t.coefAt i = s.coefAt i)) ∧
    (Leads (.coefStoreAccess none) s fun t => t.out = .readData (s.coefAt (a + 1) ++ s.coefAt a) :: s.out ∧ t.cor = s.cor ∧
      t.fld R.COR_STORE_ADDR F.COR_STORE_ADDR_addr = (a + 2) % 524288 ∧ SameRegsBut [R.COR_STORE_ADDR] s t) ∧
    (∀ v : Reg32, Leads (.correctionLutAccess (some v)) s fun t =>
      t.fld R.COR_LUT_ADDR F.COR_LUT_ADDR_addr = e / 4096 * 4096 + (e + 1) % 4096 ∧
      (s.lutInUse (e / 4096) = false → sget (fun _ => (0 : BitVec 18)) t.cor.lut e = BitVec.extractLsb 17 0 v ∧
        SameRegsBut [R.COR_LUT_ADDR] s t) ∧
      (s.lutInUse (e / 4096) = true → t.cor = s.cor ∧ FlagSet s t R.COR_FLAGS 2 (R.COR_EVCNT 2))) ∧
    (Leads (.correctionLutAccess none) s fun t =>
      t.out = .readData (BitVec.setWidth 32 (sget (fun _ => (0 : BitVec 18)) s.cor.lut e)) :: s.out ∧ t.cor = s.cor ∧
      t.fld R.COR_LUT_ADDR F.COR_LUT_ADDR_addr = e / 4096 * 4096 + (e + 1) % 4096)) ∧
  (∀ (s : State) (v : Reg32), s.hostOpen → v.getLsbD 0 = true →
    let n := s.fld R.COR_LOAD_COUNT F.COR_LOAD_COUNT_count
    let a := s.fld R.COR_STORE_ADDR F.COR_STORE_ADDR_addr / 2 * 2
    (s.cor.load.isSome = true → exec (.coefLoadGo v) s = .next s) ∧
    (s.cor.load = none → n = 0 ∨ n % 4 ≠ 0 ∨ 524288 < a + n → Leads (.coefLoadGo v) s fun t => t.rd R.COR_LOAD_STATUS = 2 ∧
      t.cor = s.cor ∧ SameRegsBut [R.COR_LOAD_STATUS] s t ∧ TagsEnded s t 2 0 2) ∧
    (s.cor.load = none → 0 < n → n % 4 = 0 → a + n ≤ 524288 → Leads (.coefLoadGo v) s fun t => t.rd R.COR_LOAD_STATUS = 0x80000000 ∧
      t.cor = { s.cor with load := some ⟨a, n, s.rd R.COR_LOAD_HANDLE, 0⟩ } ∧ SameRegsBut [R.COR_LOAD_STATUS] s t)) ∧
  (∀ (s : State) (d : StoreLoad), s.cor.load = some d →
    (∀ b (failed : Option Nat) (ecc : EccResult), s.grantsRead d.handle b 0 (9 * (d.count / 4)) → b.poisoned = false → ecc ≠ .lasting →
      (∀ i, failed = some i → i < d.count / 4) → (∀ i, i < d.count → s.coefInUse (d.start + i) = false) →
      Leads (.coefLoadDone failed ecc) s fun t => t.cor.load = none ∧ t.rd R.COR_LOAD_STATUS = (if failed = none then 0 else 6) ∧
      TagsEnded s t 2 0 (if failed = none then 0 else 6) ∧
      (∀ i j, i < failed.getD (d.count / 4) → j < 4 → t.coefAt (d.start + 4 * i + j) =
        BitVec.ofNat 16 (ofBytes (Memory.reads s.hrt.bytes (byteKey d.handle (9 * i)) 9) / 2 ^ (16 * j))) ∧
      (∀ e, e < d.start ∨ d.start + 4 * failed.getD (d.count / 4) ≤ e → t.coefAt e = s.coefAt e)) ∧
    (∀ b (failed : Option Nat) (ecc : EccResult), s.buffer d.handle = some b → s.hbmBusy = true →
      exec (.coefLoadDone failed ecc) s = .next s) ∧
    (∀ (failed : Option Nat) (ecc : EccResult), s.buffer d.handle = none → Leads (.coefLoadDone failed ecc) s fun t =>
      t.cor = { s.cor with load := none } ∧ t.rd R.COR_LOAD_STATUS = 6 ∧ FlagSet s t R.HRT_FLAGS 8 (R.HRT_EVCNT 8))) ∧
  (∀ (s : State) (v : Reg32), s.hostOpen →
    (v.getLsbD 1 = false → v.getLsbD 0 = true → s.cor.capture = none → Leads (.captureGo v) s fun t => t.rd R.COR_CAP_STATUS = 0x80000000 ∧
      SameRegsBut [R.COR_CAP_STATUS] s t ∧ ∃ k, t.cor = { s.cor with capture := some k } ∧ k.seqs = [] ∧ k.sums = [] ∧
      k.ctx = s.fld R.COR_CAP_CFG F.COR_CAP_CFG_ctx ∧ k.tap = s.fld R.COR_CAP_CFG F.COR_CAP_CFG_tap ∧
      k.lines = s.fld R.COR_CAP_LINES F.COR_CAP_LINES_lines ∧ k.handle = s.rd R.COR_CAP_HANDLE) ∧
    (v.getLsbD 1 = true → s.cor.capture.isSome = true → Leads (.captureAbort v) s fun t => t.cor = { s.cor with capture := none } ∧
      t.bit R.COR_CAP_STATUS F.COR_CAP_STATUS_busy = false ∧ t.fld R.COR_CAP_STATUS F.COR_CAP_STATUS_result = 0 ∧
      t.hrt.bytes = s.hrt.bytes ∧ FlagSet s t R.COR_FLAGS 4 (R.COR_EVCNT 4) ∧ TagsEnded s t 3 0 0)) ∧
  (∀ (s : State) (k : Capture), s.cor.capture = some k → k.lines ≤ k.seqs.length →
    (∀ b, s.grantsWrite k.handle b 0 (packDense (sumWords k.sums)).length → Leads .captureDone s fun t =>
      t.cor = { s.cor with capture := none } ∧ t.fld R.COR_CAP_STATUS F.COR_CAP_STATUS_result = 0 ∧
      t.hrt.bytes = Memory.writes s.hrt.bytes (byteKey k.handle 0) (packDense (sumWords k.sums)) ∧
      FlagSet s t R.COR_FLAGS 4 (R.COR_EVCNT 4) ∧ Raised s t 308) ∧
    (s.buffer k.handle = none → Leads .captureDone s fun t => t.cor = { s.cor with capture := none } ∧
      t.fld R.COR_CAP_STATUS F.COR_CAP_STATUS_result = 6 ∧ t.hrt.bytes = s.hrt.bytes))

/-! ### The stitcher -/

/-- The stitcher (R130 to R152): applies are checked whole, knots read and written in turn, lines are placed by the map, reference lines
found stitched lines and open intervals, a pair that brackets the target serves it with its weight, a segment that waits too long is
blanked, the loss of the reference is signalled, and a replayed line that only committed intervals used is released (assumption 189). -/
def Obligations.StitcherFormsLines : Prop :=
  (∀ (s : State) (v : Reg32), s.hostOpen → v.getLsbD 0 = true →
    let m := s.stiShadow
    (s.stiSetOk m = true → Leads (.stitchApply v) s fun t => t.sti = { s.sti with pending := some m } ∧
      t.fld R.STI_STATUS F.STI_STATUS_apply_pending = 1 ∧ SameRegsBut [R.STI_STATUS] s t) ∧
    ((∃ p ∈ enabledSegs m, s.ctxOn p.2.ctx = false ∨ p.2.hi < p.2.lo) ∨ (∃ p ∈ m, s.lineWidth ≤ p.2.hi) ∨ s.stiSetOk m = false →
      Leads (.stitchApply v) s fun t => t.sti = s.sti ∧ FlagSet s t R.STI_FLAGS 1 (R.STI_EVCNT 1) ∧ Raised s t 321)) ∧
  (∀ s : State, s.hostOpen →
    let g := s.fld R.STI_KNOT_ADDR F.STI_KNOT_ADDR_segment
    let n := s.fld R.STI_KNOT_ADDR F.STI_KNOT_ADDR_knot
    let Next (t : State) : Prop := t.fld R.STI_KNOT_ADDR F.STI_KNOT_ADDR_knot = (if 64 ≤ n then 0 else n + 1) ∧
      t.fld R.STI_KNOT_ADDR F.STI_KNOT_ADDR_segment = g ∧ SameRegsBut [R.STI_KNOT_ADDR] s t
    (∀ v : Reg32, Leads (.knotAccess (some v)) s fun t => Next t ∧ ∀ k, sget (fun _ => (0 : BitVec 16)) t.sti.knots k =
      if k = 65 * g + n then BitVec.extractLsb 15 0 v else sget (fun _ => (0 : BitVec 16)) s.sti.knots k) ∧
    (Leads (.knotAccess none) s fun t => Next t ∧ t.sti = s.sti ∧
      t.out = .readData (BitVec.setWidth 32 (sget (fun _ => (0 : BitVec 16)) s.sti.knots (65 * g + n))) :: s.out)) ∧
  (∀ s : State, s.rcp.loaded = true → s.blw.state ∈ ([.armed, .run, .hold] : List DevState) →
    s.bit R.STI_REF F.STI_REF_ref_lost = false →
    s.fld R.STI_REF F.STI_REF_ref_timeout_us * 125 ≤ s.ticks - s.sti.lastRef → Leads .referenceLoss s fun t =>
      t.bit R.STI_REF F.STI_REF_ref_lost = true ∧ t.rd R.STI_REF_EVCNT = s.rd R.STI_REF_EVCNT + 1 ∧ Raised s t 327 ∧ t.sti = s.sti) ∧
  (∀ (s : State) (c : Fin 64) (l : Line), s.anv.stallFrom = none → s.cor.out.find? (fun l => l.ctx == c.val) = some l →
    (∀ p ∈ enabledSegs (s.lineSegs l), p.2.ctx ≠ c.val) → Leads (.lineLeavesCorrection c) s fun t => t.cor.out = s.cor.out.erase l ∧
      t.rd R.STI_UNMAPPED = s.rd R.STI_UNMAPPED + 1 ∧ SameRegsBut [R.STI_UNMAPPED] s t ∧ t.sti = s.sti) ∧
  (∀ (s : State) (c : Fin 64), s.anv.stallFrom.isSome = true → exec (.lineLeavesCorrection c) s = .next s) ∧
  (∀ (s : State) (c : Fin 64) (l : Line) (i : Nat), s.arrives c l i → i ≠ s.refSeg →
    (l.w0.getLsbD 18 = true → s.passedCursor i c l.seq = true → Leads (.lineLeavesCorrection c) s fun t =>
      t.cor.out = s.cor.out.erase l ∧ t.sti = s.sti ∧ SameRegsBut [] s t) ∧
    ((l.w0.getLsbD 18 = true → s.passedCursor i c l.seq = false) → s.refLost = true → s.usesOf i l.seq = 0 →
      Leads (.lineLeavesCorrection c) s fun t => t.cor.out = s.cor.out.erase l ∧ t.sti = s.sti ∧
      t.rd R.STI_REF_ORPHAN = s.rd R.STI_REF_ORPHAN + 1 ∧ SameRegsBut [R.STI_REF_ORPHAN] s t) ∧
    ((l.w0.getLsbD 18 = true → s.passedCursor i c l.seq = false) → s.refLost = false ∨ 0 < s.usesOf i l.seq →
      s.founded s.sti.nextForm = none → Leads (.lineLeavesCorrection c) s fun t => t.cor.out = s.cor.out.erase l ∧
      t.sti.formed = s.sti.formed ∧
      ((s.segStore i).length < s.fld (R.STI_SEG_SLOTS i) F.STI_SEG_SLOTS_slots → t.segStore i = s.segStore i ++ [l]) ∧
      (∀ o rest, s.segStore i = o :: rest → s.fld (R.STI_SEG_SLOTS i) F.STI_SEG_SLOTS_slots ≤ (s.segStore i).length →
        t.segStore i = rest ++ [l] ∧ FlagSet s t R.STI_FLAGS 5 (R.STI_EVCNT 5)) ∧
      (∀ j, j ≠ i → t.segStore j = s.segStore j))) ∧
  (∀ (s : State) (c : Fin 64) (l : Line), s.arrives c l s.refSeg → l.w0.getLsbD 18 = false →
    let k := s.sti.nextK
    Leads (.lineLeavesCorrection c) s fun t => t.sti.nextK = k + 1 ∧ t.sti.lastRef = s.ticks ∧
      t.bit R.STI_REF F.STI_REF_ref_lost = false ∧ t.cor.out = s.cor.out.erase l ∧
      (∀ v, s.ival (k / 16) = some v → s.founded k = none → ∃ f, t.founded k = some f ∧ f.k = k ∧ f.ref = l.seq ∧ f.w0 = l.w0 ∧
        f.g = l.w1 ∧ f.w2 = l.w2) ∧
      (k % 16 ≠ 0 → t.sti.newest = s.sti.newest ∧ t.sti.segs = s.sti.segs) ∧
      (k % 16 = 0 → s.ival (k / 16 + 1) = none → t.sti.newest = k / 16 + 1 ∧ t.sti.pending = none ∧
        takesPending s.sti.pending s.sti.segs t.sti.segs ∧ ∃ v, t.ival (k / 16 + 1) = some v ∧ v.segs = t.sti.segs ∧
          v.timing = s.rd R.STI_TIMING ∧ v.gap = s.rd R.STI_GAP ∧ v.corr = s.rd R.STI_CORR_CFG ∧
          (s.anv.pending = none → v.kset = s.anv.active.getD {}) ∧ (∀ p, s.anv.pending = some p → v.kset = p ∧ t.anv.pending = none))) ∧
  (∀ (s : State) (c : Fin 64) (k r q i : Nat) (v : Ival) (f : Founded) (gr gi : SegSet) (a l : Line), s.oneSegmentOpen k v f r q i gr gi →
    s.arrives c l i → (l.w0.getLsbD 18 = true → s.passedCursor i c l.seq = false) → s.refLost = false → s.segStore i = [a] → 2 ≤ s.fld (R.STI_SEG_SLOTS i) F.STI_SEG_SLOTS_slots →
    let g : Int := signed 72 f.g.toNat + signed 32 gi.md.toNat
    (a.at < g ∧ g < l.at) ∨ (l.at < g ∧ g < a.at) → k / 16 ≤ a.interval.getD 0 → k / 16 ≤ l.interval.getD 0 →
    let d := (l.seq + 2 ^ 40 - a.seq) % 2 ^ 40
    (d ≤ getField v.timing F.STI_TIMING_max_gap → Leads (.lineLeavesCorrection c) s fun t =>
      Formed s t f k (fun _ => True) ∧ ∃ h, t.founded k = some h ∧ h.serves.lookup i =
        some (.pair a.seq l.seq ((g - a.at).natAbs * 64 / (l.at - a.at).natAbs))) ∧
    (getField v.timing F.STI_TIMING_max_gap < d → Leads (.lineLeavesCorrection c) s fun t =>
      Formed s t f k (fun _ => True) ∧ t.rd (R.STI_SEG_BLANK i) = s.rd (R.STI_SEG_BLANK i) + 1 ∧
      FlagSet s t R.STI_FLAGS 2 (R.STI_EVCNT 2) ∧ ∃ h, t.founded k = some h ∧ h.serves.lookup i = some .blank)) ∧
  (∀ (s : State) (i : Fin 16) (k r q : Nat) (v : Ival) (f : Founded) (gr gi : SegSet), s.oneSegmentOpen k v f r q i gr gi →
    (8 * (s.ticks - f.tick) < getField v.timing F.STI_TIMING_wait_ns → exec (.segmentWaitTimeout i) s = .next s) ∧
    (getField v.timing F.STI_TIMING_wait_ns ≤ 8 * (s.ticks - f.tick) → Leads (.segmentWaitTimeout i) s fun t =>
      t.rd (R.STI_SEG_BLANK i) = s.rd (R.STI_SEG_BLANK i) + 1 ∧ FlagSet s t R.STI_FLAGS 2 (R.STI_EVCNT 2) ∧ Raised s t 322 ∧
      Formed s t f k fun x => ∀ c, c < s.lineWidth →
        (gi.lo ≤ c → c ≤ gi.hi → (c < gr.lo ∨ gr.hi < c) → x.excl[c]? = some true ∧
          x.px[c]? = some (min (getField v.gap F.STI_GAP_gap_value) (if s.bits18 then 262143 else 4095))) ∧
        (∀ a y, gr.lo ≤ c → c ≤ gr.hi → (c < gi.lo ∨ gi.hi < c) → s.storedLine r q = some a →
          segSample gr (sget (fun _ => (0 : Int)) v.shifts r) s.bits18 a none 0 c = some y → x.excl[c]? = some false ∧ x.px[c]? = some y)))

/-! ### Anvil kernels -/

/-- The lane arithmetic of Anvil (R177, R184, R186 to R189): each instruction alone in a bundle writes the lanes of v d that its guard
admits, and nothing else. -/
def Obligations.AnvilInstructionsWriteLanes : Prop :=
  VectorResult .anvilAdd 0x01 always (fun v e x j => fitted .reg x ((sMod .reg x).testBit 2)
    (asNumber .reg x (laneA v e x j) + asNumber .reg x (laneB v e x j))) ∧
  VectorResult .anvilSub 0x02 always (fun v e x j => fitted .reg x ((sMod .reg x).testBit 2)
    (asNumber .reg x (laneA v e x j) - asNumber .reg x (laneB v e x j))) ∧
  VectorResult .anvilAvg 0x03 always (fun v e x j => fitted .reg x ((sMod .reg x).testBit 2)
    (rounded .reg x (asNumber .reg x (laneA v e x j) + asNumber .reg x (laneB v e x j)) 1)) ∧
  VectorResult .anvilAbsd 0x04 always (fun v e x j => fitted .reg x false
    ((asNumber .reg x (laneA v e x j) - asNumber .reg x (laneB v e x j)).natAbs : Nat)) ∧
  VectorResult .anvilMin 0x05 always (fun v e x j => fitted .reg x ((sMod .reg x).testBit 2)
    (min (asNumber .reg x (laneA v e x j)) (asNumber .reg x (laneB v e x j)))) ∧
  VectorResult .anvilMax 0x06 always (fun v e x j => fitted .reg x ((sMod .reg x).testBit 2)
    (max (asNumber .reg x (laneA v e x j)) (asNumber .reg x (laneB v e x j)))) ∧
  VectorResult .anvilAnd 0x07 always (fun v e x j => laneA v e x j &&& laneB v e x j) ∧
  VectorResult .anvilOr 0x08 always (fun v e x j => laneA v e x j ||| laneB v e x j) ∧
  VectorResult .anvilXor 0x09 always (fun v e x j => laneA v e x j ^^^ laneB v e x j) ∧
  VectorResult .anvilShl 0x0A always (fun v e x j => fitted .reg x false
    ((laneA v e x j * 2 ^ min (laneB v e x j) (viewWidth (sView x)) : Nat) : Int)) ∧
  VectorResult .anvilShr 0x0B always (fun v e x j => fitted .reg x ((sMod .reg x).testBit 2)
    (rounded .reg x (asNumber .reg x (laneA v e x j)) (min (laneB v e x j) (viewWidth (sView x))))) ∧
  VectorResult .anvilSel 0x0C always (fun v e x j => if (e.preg (sC x)).getLsbD j then laneA v e x j else laneB v e x j) ∧
  VectorResult .anvilMov 0x0D always (fun v e x j => laneA v e x j) ∧
  VectorResult .anvilCls 0x0E always (fun v e x j => min (laneA v e x j) 15 * 256 + min (laneB v e x j) 255) ∧
  VectorResult .anvilAddi 0x18 always (fun v e x j => fitted .imm x ((sMod .imm x).testBit 2)
    (asNumber .imm x (laneA v e x j) + signed 12 (sImm x))) ∧
  VectorResult .anvilShli 0x19 always (fun v e x j => fitted .imm x false
    ((laneA v e x j * 2 ^ min (sImm x) (viewWidth (sView x)) : Nat) : Int)) ∧
  VectorResult .anvilShri 0x1A always (fun v e x j => fitted .imm x ((sMod .imm x).testBit 2)
    (rounded .imm x (asNumber .imm x (laneA v e x j)) (min (sImm x) (viewWidth (sView x))))) ∧
  VectorResult .anvilMovi 0x1B always (fun _ _ x _ => wrapTo (viewWidth (sView x))
    (if (sMod .imm x).testBit 2 then signed 12 (sImm x) else sImm x)) ∧
  VectorResult .anvilMul 0x20 always (fun v e x j => fitted .reg x ((sMod .reg x).testBit 2)
    (rounded .reg x (asNumber .reg x (laneA v e x j) * asNumber .reg x (laneB v e x j)) (sC x))) ∧
  VectorResult .anvilMac 0x21 always (fun v e x j => fitted .reg x ((sMod .reg x).testBit 2)
    (asNumber .reg x (laneD v e x j) + rounded .reg x (asNumber .reg x (laneA v e x j) * asNumber .reg x (laneB v e x j)) (sC x))) ∧
  VectorResult .anvilLut 0x22 (fun v _ x => v.lutUse.testBit (sC x) = true) (fun v e x j =>
    if sView x = 0 then min (v.lut (sC x) (laneA v e x j)) 4095 else v.lut (sC x) (laneA v e x j / 64)) ∧
  VectorResult .anvilWin 0x30 (fun v _ x => (winDl x).natAbs ≤ v.h ∧ -8 ≤ winDc x ∧ winDc x ≤ (if sView x = 0 then 8 else 10) ∧
      winXw x = false) (fun v _ x j =>
    let y := (v.pixel (winDl x) (winDc x + j)).1
    if v.b18 = false ∧ sView x = 1 then y * 64 else if v.b18 = true ∧ sView x = 0 then min ((y + 32) / 64) 4095 else y)

/-- The compares and the predicate instructions of Anvil (R178, R185, R194): each alone in a bundle writes the bits of p d that its guard
admits, clears the bits beyond its lanes, and writes nothing else. -/
def Obligations.AnvilInstructionsWritePredicates : Prop :=
  let lanes := fun x => viewLanes (sView x)
  let six := fun _ : Nat => 6
  PredicateResult .anvilCmpeq 0x10 lanes (fun v e x j => laneA v e x j == laneB v e x j) ∧
  PredicateResult .anvilCmplt 0x11 lanes (fun v e x j => decide (asNumber .reg x (laneA v e x j) < asNumber .reg x (laneB v e x j))) ∧
  PredicateResult .anvilCmple 0x12 lanes (fun v e x j => decide (asNumber .reg x (laneA v e x j) ≤ asNumber .reg x (laneB v e x j))) ∧
  PredicateResult .anvilCmplti 0x1C lanes (fun v e x j => decide (asNumber .imm x (laneA v e x j) <
    if (sMod .imm x).testBit 2 then signed 12 (sImm x) else sImm x)) ∧
  PredicateResult .anvilCmpgei 0x1D lanes (fun v e x j => decide ((if (sMod .imm x).testBit 2 then signed 12 (sImm x) else sImm x) ≤
    asNumber .imm x (laneA v e x j))) ∧
  PredicateResult .anvilPand 0x38 six (fun _ e x j => (e.preg (sA x)).getLsbD j && (e.preg (sB x)).getLsbD j) ∧
  PredicateResult .anvilPor 0x39 six (fun _ e x j => (e.preg (sA x)).getLsbD j || (e.preg (sB x)).getLsbD j) ∧
  PredicateResult .anvilPxor 0x3A six (fun _ e x j => (e.preg (sA x)).getLsbD j != (e.preg (sB x)).getLsbD j) ∧
  PredicateResult .anvilPandn 0x3B six (fun _ e x j => (e.preg (sA x)).getLsbD j && !(e.preg (sB x)).getLsbD j) ∧
  PredicateResult .anvilPset 0x3C six (fun _ _ x j => (sImm x).testBit j)

/-- The rest of the kernel (R157, R174, R175, R179, R181, R182, R187, R189, R191 to R195): instructions wait for the header of their bundle,
an illegal one, in the command or in another slot of the stored bundle, ends the word with fault 3, PK6, SUMH and LDP form whole registers, EMC and EMI give outputs once, BR moves the pc, the end of the word
releases its outputs or faults without a class word, and so does a word that reaches its limit. -/
def Obligations.AnvilWordsRunAndEnd : Prop :=
  (∀ c ∈ ([(.anvilNop, 0x00), (.anvilAdd, 0x01), (.anvilSub, 0x02), (.anvilAvg, 0x03), (.anvilAbsd, 0x04), (.anvilMin, 0x05),
      (.anvilMax, 0x06), (.anvilAnd, 0x07), (.anvilOr, 0x08), (.anvilXor, 0x09), (.anvilShl, 0x0A), (.anvilShr, 0x0B),
      (.anvilSel, 0x0C), (.anvilMov, 0x0D), (.anvilCls, 0x0E), (.anvilPk6, 0x0F), (.anvilCmpeq, 0x10), (.anvilCmplt, 0x11),
      (.anvilCmple, 0x12), (.anvilAddi, 0x18), (.anvilShli, 0x19), (.anvilShri, 0x1A), (.anvilMovi, 0x1B), (.anvilCmplti, 0x1C),
      (.anvilCmpgei, 0x1D), (.anvilMul, 0x20), (.anvilMac, 0x21), (.anvilLut, 0x22), (.anvilSumh, 0x23), (.anvilWin, 0x30),
      (.anvilLdp, 0x31), (.anvilEmc, 0x32), (.anvilEmi, 0x33), (.anvilBr, 0x34), (.anvilPand, 0x38), (.anvilPor, 0x39),
      (.anvilPxor, 0x3A), (.anvilPandn, 0x3B), (.anvilPset, 0x3C)] : List (AnvilCtor × Nat)),
    ∀ (s : State) (n : Fin 16) (i : Fin 8) (p : Fin 3) (bits : BitVec 34) (e : Engine),
      let x := anvilSlot c.2 bits
      (s.engine n i = some e → e.cycles < (s.lineSet e.k).maxBundles → exec (c.1 n i p bits none) s = .next (s.setEngine n i
        (some { e with slots := e.slots.filter (fun q => q.slot != p.val) ++ [⟨p, BitVec.ofNat 40 x⟩] }))) ∧
      (s.assembling n i p e → slotLegal p x = false → Leads (c.1 n i p bits (some 0)) s fun t => WordFaulted s t n i e 3) ∧
      (s.engine n i = some e → e.slots = [] → e.pend = [] → e.cycles < (s.lineSet e.k).maxBundles →
        (∃ q, q < 3 ∧ q ≠ p.val ∧ slotLegal q (s.storedSlot e.pc q) = false) →
        ∀ h, Leads (c.1 n i p bits (some h)) s fun t => WordFaulted s t n i e 3) ∧
      (s.engine n i = none → ∀ h, exec (c.1 n i p bits h) s = .next s)) ∧
  (∀ (s : State) (n : Fin 16) (i : Fin 8) (p : Fin 3) (bits : BitVec 34) (e : Engine), s.assembling n i p e →
    let env := s.wordEnv n e
    (let x := anvilSlot 0x0F bits
     slotLegal p x = true → sD x < 56 → Leads (.anvilPk6 n i p bits (some 0)) s fun t => ∃ e', Issued s t n i e e' ∧ e'.pc = e.pc + 1 ∧
       e'.p = e.p ∧ (∀ r, r ≠ sD x → e'.vreg env r = e.vreg env r) ∧ ∀ j, j < 6 → lane 12 j (e'.vreg env (sD x)) =
         if (e.guard x).getLsbD j then
           let y := rounded .reg x (asNumber .reg x (if j < 4 then lane 18 j (e.vreg env (sA x)) else lane 18 (j - 4) (e.vreg env (sB x))))
             (min (sC x) 18)
           if (sMod .reg x).testBit 2 then wrapTo 12 (max (-2048) (min 2047 y)) else wrapTo 12 (max 0 (min 4095 y))
         else lane 12 j (e.vreg env (sD x))) ∧
    (let x := anvilSlot 0x23 bits
     slotLegal p x = true → sD x < 56 → Leads (.anvilSumh n i p bits (some 0)) s fun t => ∃ e', Issued s t n i e e' ∧ e'.pc = e.pc + 1 ∧
       e'.p = e.p ∧ (∀ r, r ≠ sD x → e'.vreg env r = e.vreg env r) ∧ e'.vreg env (sD x) = if (e.guard x).getLsbD 0 then
         BitVec.ofInt 72 (((List.range (viewLanes (sView x))).map fun j => asNumber .reg x (laneA env e x j)).sum) else e.vreg env (sD x)) ∧
    (let x := anvilSlot 0x31 bits
     slotLegal p x = true → sD x < 56 → Leads (.anvilLdp n i p bits (some 0)) s fun t => ∃ e', Issued s t n i e e' ∧ e'.pc = e.pc + 1 ∧
       e'.p = e.p ∧ (∀ r, r ≠ sD x → e'.vreg env r = e.vreg env r) ∧ e'.vreg env (sD x) = if (e.guard x).getLsbD 0 then
         sget (fun _ => (0 : Word)) (s.lineSet e.k).params (sImm x) else e.vreg env (sD x)) ∧
    (let x := anvilSlot 0x32 bits
     slotLegal p x = true → e.cls = none → Leads (.anvilEmc n i p bits (some 0)) s fun t => ∃ e', Issued s t n i e e' ∧ e'.pc = e.pc + 1 ∧
       e'.v = e.v ∧ e'.p = e.p ∧ e'.img = e.img ∧ e'.cls = if e.guard x = 0 then none else some (e.vreg env (sA x))) ∧
    (let x := anvilSlot 0x33 bits
     slotLegal p x = true → e.guard x ≠ 0 → e.img.lookup (sImm x) = none → s.bit (R.ANV_IMG (sImm x)) F.ANV_IMG_enable = true →
       Leads (.anvilEmi n i p bits (some 0)) s fun t => ∃ e', Issued s t n i e e' ∧ e'.pc = e.pc + 1 ∧ e'.v = e.v ∧ e'.p = e.p ∧
         e'.cls = e.cls ∧ e'.img = e.img ++ [(sImm x, e.vreg env (sA x))]) ∧
    (let x := anvilSlot 0x34 bits
     slotLegal p x = true → (s.lineSet e.k).first ≤ sImm x → sImm x ≤ (s.lineSet e.k).last → Leads (.anvilBr n i p bits (some 0)) s fun t =>
       ∃ e', Issued s t n i e e' ∧ e'.v = e.v ∧ e'.p = e.p ∧ e'.pc = (if (if brAll x then e.guard x = BitVec.allOnes 6 else e.guard x ≠ 0)
         then sImm x else e.pc + 1)) ∧
    (Leads (.anvilNop n i p 0 (some 0)) s fun t => ∃ e', Issued s t n i e e' ∧ e'.pc = e.pc + 1 ∧ e'.v = e.v ∧ e'.p = e.p ∧
      e'.cls = e.cls ∧ e'.img = e.img) ∧
    (e.cls = none → Leads (.anvilNop n i p 0 (some 0x80)) s fun t => WordFaulted s t n i e 2) ∧
    (∀ c x, e.cls = some c → s.anv.work.find? (fun x => x.line.k == e.k) = some x → Leads (.anvilNop n i p 0 (some 0x80)) s fun t =>
      t.engine n i = none ∧ t.rd (R.ANV_SL_KFAULT n) = s.rd (R.ANV_SL_KFAULT n) ∧
      ∃ y, t.anv.work.find? (fun x => x.line.k == e.k) = some y ∧ y.endedBy n = x.endedBy n + 1 ∧
        ∀ j, j < 6 → lane 12 j (sget (fun _ => (0 : Word)) y.cls (4096 * n + e.w)) =
          if x.line.excl.getD (n * s.stripeWidth + 6 * e.w + j) false then 0 else lane 12 j c)) ∧
  (∀ (s : State) (n : Fin 16) (i : Fin 8) (e : Engine), s.engine n i = some e →
    (e.cycles < (s.lineSet e.k).maxBundles → exec (.maxBundlesReached n i) s = .next s) ∧
    ((s.lineSet e.k).maxBundles ≤ e.cycles → Leads (.maxBundlesReached n i) s fun t => WordFaulted s t n i e 1))

/-! ### Anvil's lines and stores -/

/-- Lines and stores of Anvil (R154, R156 to R160, R162, R165, R166, R169, R196): a word goes to the lowest free engine, the array accepts
the oldest formed line or stalls, the stalled cycles counted (assumption 140), the oldest released line enters the commit buffer, a flow that stands still ends, and kernel sets,
parameters, bundles and tables are applied, stored and loaded. -/
def Obligations.AnvilTakesLinesAndStores : Prop :=
  (∀ (s : State) (n : Fin 16) (m : Nat) (e : Nat) (x : ClassLine), n.val < s.stripes →
    s.anv.work.find? (fun y => !s.sliceFenced n y.line.k && decide (y.sentBy n < s.stripeWords)) = some x →
    (s.anv.lines.any fun l => l.k == s.windowTop x.line.k) = true → e < 8 → s.engine n e = none → (∀ i, i < e → (s.engine n i).isSome = true) →
    Leads (.wordDispatch n m) s fun t => (∃ g, t.engine n e = some g ∧ g.k = x.line.k ∧ g.w = x.sentBy n ∧ g.cycles = 0 ∧
      g.pc = (s.lineSet x.line.k).entry ∧
      sget (fun _ => (0 : Word)) g.v 0 = BitVec.ofNat 40 x.line.k ++ BitVec.ofNat 4 n ++ BitVec.ofNat 28 (6 * x.sentBy n)) ∧
      (∀ j i, i < 8 → (j ≠ n.val ∨ i ≠ e) → t.engine j i = s.engine j i) ∧
      t.anv.work.map ClassLine.line = s.anv.work.map ClassLine.line ∧
      (∀ y ∈ t.anv.work, y.line.k = x.line.k → y.sentBy n = x.sentBy n + 1) ∧
      t.rd R.ANV_ECC_CORR = s.rd R.ANV_ECC_CORR + BitVec.ofNat 32 m ∧ SameRegsBut [R.ANV_ECC_CORR] s t) ∧
  (∀ (s : State) (n : Fin 16) (m : Nat), (∀ i, i < 8 → (s.engine n i).isSome = true) → Leads (.wordDispatch n m) s fun t =>
    t.anv = s.anv ∧ t.rd R.ANV_ECC_CORR = s.rd R.ANV_ECC_CORR + BitVec.ofNat 32 m ∧ SameRegsBut [R.ANV_ECC_CORR] s t) ∧
  (∀ (s : State) (cyc : Fin 10) (l : StLine) (rest : List StLine), s.sti.formed = l :: rest →
    ((∀ n, n < s.stripes → s.sliceFree n = true) → Leads (.stitchedLinePass cyc) s fun t => t.sti.formed = rest ∧
      t.anv.lines = s.anv.lines ++ [l] ∧ t.anv.work.map ClassLine.line = s.anv.work.map ClassLine.line ++ [l] ∧
      t.anv.lastLine = 10 * s.ticks + cyc ∧ t.anv.stallFrom = none ∧
      ∀ v, s.ival (l.k / 16) = some v → ∃ w, t.ival (l.k / 16) = some w ∧ w.arrivals = v.arrivals + 1 ∧
        w.arriveLast = 10 * s.ticks + cyc) ∧
    ((∀ n, n < s.stripes → s.sliceFree n = true) → ∀ from' n, s.anv.stallFrom = some from' → n < 16 → Leads (.stitchedLinePass cyc) s fun t =>
      (s.anv.stallSlices.count n = 1 → t.rd (R.ANV_SL_STALL n) = s.rd (R.ANV_SL_STALL n) + BitVec.ofNat 32 (10 * s.ticks + cyc - from')) ∧
      (n ∉ s.anv.stallSlices → t.rd (R.ANV_SL_STALL n) = s.rd (R.ANV_SL_STALL n))) ∧
    ((∃ n, n < s.stripes ∧ s.sliceFree n = false) → s.anv.stallFrom = none → Leads (.stitchedLinePass cyc) s fun t => t.sti = s.sti ∧
      t.anv = { s.anv with stallFrom := some (10 * s.ticks + cyc), stallSlices := s.fullSlices } ∧ FlagSet s t R.ANV_FLAGS 3 (R.ANV_EVCNT 3) ∧ Raised s t 355) ∧
    ((∃ n, n < s.stripes ∧ s.sliceFree n = false) → s.anv.stallFrom.isSome = true → exec (.stitchedLinePass cyc) s = .next s)) ∧
  (∀ (s : State) (x : ClassLine) (rest : List ClassLine), s.anv.work = x :: rest →
    (∀ v, x.released = true → (s.bufferedLines + 1) * s.lineWidth ≤ 4194304 → s.ival (x.line.k / 16) = some v →
      v.committed ≤ x.line.k % 16 → Leads .classLineEnter s fun t => t.anv.work = rest ∧ t.blm.lastEnter = s.ticks ∧
        t.fld R.BLM_CB_LEVEL F.BLM_CB_LEVEL_used = (s.bufferedLines + 1) * s.lineWidth ∧ SameRegsBut [R.BLM_CB_LEVEL] s t ∧
        (∃ c, t.blm.buffer = s.blm.buffer ++ [c] ∧ c.line = x.line ∧ c.cls.length = s.lineWidth ∧ ∀ i, i < s.lineWidth →
          c.cls[i]? = some (lane 12 (i % s.stripeWidth % 6)
            (sget (fun _ => (0 : Word)) x.cls (4096 * (i / s.stripeWidth) + i % s.stripeWidth / 6)))) ∧
        ∃ w, t.ival (x.line.k / 16) = some w ∧ ∀ n, n < s.stripes → s.sliceFenced n x.line.k = false → w.crc n =
          ~~~ crcBytes polyC (~~~ v.crc n) (packDense (x.words n s.stripeWords))) ∧
    (x.released = false ∨ 4194304 < (s.bufferedLines + 1) * s.lineWidth → exec .classLineEnter s = .next s)) ∧
  (∀ (s : State) (l : StLine), s.anv.lines.getLast? = some l → s.gateClosed = true ∨ s.refLost = true → s.fed.running = false →
    s.sti.formed = [] → l.k ∉ s.anv.flowEnds →
    (1250 * s.blmCfg R.BLM_OUT F.BLM_OUT_drain_us ≤ 10 * s.ticks - s.anv.lastLine → Leads .endOfFlow s fun t => t.regs = s.regs ∧
      t.anv = { s.anv with flowEnds := s.anv.flowEnds ++ [l.k] } ∧ ∀ k, k ≤ l.k → l.k < k + s.lookAhead →
        (∀ j ∈ s.anv.flowEnds, ¬(k ≤ j ∧ j < k + s.lookAhead)) → s.windowTop k = k + s.lookAhead ∧ t.windowTop k = l.k) ∧
    (10 * s.ticks - s.anv.lastLine < 1250 * s.blmCfg R.BLM_OUT F.BLM_OUT_drain_us → exec .endOfFlow s = .next s)) ∧
  (∀ (s : State) (v : Reg32), s.hostOpen → v.getLsbD 0 = true →
    let p := s.anvShadow
    (p.last < p.first ∨ p.entry < p.first ∨ p.last < p.entry ∨ p.maxBundles = 0 → Leads (.anvilApply v) s fun t => t.anv = s.anv ∧
      FlagSet s t R.ANV_FLAGS 1 (R.ANV_EVCNT 1) ∧ Raised s t 353) ∧
    (p.first ≤ p.entry → p.entry ≤ p.last → p.maxBundles ≠ 0 → Leads (.anvilApply v) s fun t =>
      t.anv = { s.anv with pending := some p } ∧ t.fld R.ANV_STATUS F.ANV_STATUS_apply_pending = 1 ∧ SameRegsBut [R.ANV_STATUS] s t)) ∧
  (∀ (s : State) (v : Reg32), s.hostOpen →
    (let i := s.fld R.ANV_PARAM_ADDR F.ANV_PARAM_ADDR_word
     Leads (.paramWordWrite v) s fun t => t.fld R.ANV_PARAM_ADDR F.ANV_PARAM_ADDR_word = (i + 1) % 64 ∧
      SameRegsBut [R.ANV_PARAM_D2, R.ANV_PARAM_ADDR] s t ∧ ∀ j, sget (fun _ => (0 : Word)) t.anv.shadow j =
        if j = i then BitVec.extractLsb 7 0 v ++ s.rd R.ANV_PARAM_D1 ++ s.rd R.ANV_PARAM_D0
        else sget (fun _ => (0 : Word)) s.anv.shadow j) ∧
    (let b := s.fld R.ANV_KS_ADDR F.ANV_KS_ADDR_bundle
     (s.bundleInUse b = false → Leads (.bundleStoreWrite v) s fun t => t.fld R.ANV_KS_ADDR F.ANV_KS_ADDR_bundle = (b + 1) % 4096 ∧
      SameRegsBut [R.ANV_KS_D3, R.ANV_KS_ADDR] s t ∧ ∀ j, sget (fun _ => (0 : BitVec 128)) t.anv.store j =
        if j = b then v ++ s.rd R.ANV_KS_D2 ++ s.rd R.ANV_KS_D1 ++ s.rd R.ANV_KS_D0 else sget (fun _ => (0 : BitVec 128)) s.anv.store j) ∧
     (s.bundleInUse b = true → Leads (.bundleStoreWrite v) s fun t => t.fld R.ANV_KS_ADDR F.ANV_KS_ADDR_bundle = (b + 1) % 4096 ∧
      t.anv = s.anv ∧ FlagSet s t R.ANV_FLAGS 2 (R.ANV_EVCNT 2) ∧ Raised s t 354)) ∧
    (let e := s.fld R.ANV_LUT_ADDR F.ANV_LUT_ADDR_addr
     (Leads (.anvilLutAccess (some v)) s fun t => t.fld R.ANV_LUT_ADDR F.ANV_LUT_ADDR_addr = e / 4096 * 4096 + (e + 1) % 4096 ∧
      (s.anvLutInUse (e / 4096) = false → SameRegsBut [R.ANV_LUT_ADDR] s t ∧ ∀ j, sget (fun _ => (0 : BitVec 18)) t.anv.lut j =
        if j = e then BitVec.extractLsb 17 0 v else sget (fun _ => (0 : BitVec 18)) s.anv.lut j) ∧
      (s.anvLutInUse (e / 4096) = true → t.anv = s.anv ∧ FlagSet s t R.ANV_FLAGS 2 (R.ANV_EVCNT 2))) ∧
     (Leads (.anvilLutAccess none) s fun t => t.fld R.ANV_LUT_ADDR F.ANV_LUT_ADDR_addr = e / 4096 * 4096 + (e + 1) % 4096 ∧
      t.anv = s.anv ∧ t.out = .readData (BitVec.setWidth 32 (sget (fun _ => (0 : BitVec 18)) s.anv.lut e)) :: s.out))) ∧
  (∀ (s : State) (v : Reg32), s.hostOpen → v.getLsbD 0 = true →
    let n := s.fld R.ANV_LOAD_COUNT F.ANV_LOAD_COUNT_count
    let a := s.fld R.ANV_LOAD_TARGET F.ANV_LOAD_TARGET_start
    let g := s.fld R.ANV_LOAD_TARGET F.ANV_LOAD_TARGET_target
    let Fits := 0 < n ∧ (g = 0 ∧ a + n ≤ 4096 ∨ g = 1 ∧ n % 4 = 0 ∧ a + n ≤ 16384 ∨ g = 2 ∧ a + n ≤ 64)
    (s.anv.load.isSome = true → exec (.anvilLoadGo v) s = .next s) ∧
    (s.anv.load = none → ¬Fits → Leads (.anvilLoadGo v) s fun t => t.rd R.ANV_LOAD_STATUS = 2 ∧ t.anv = s.anv ∧
      SameRegsBut [R.ANV_LOAD_STATUS] s t ∧ TagsEnded s t 6 0 2) ∧
    (s.anv.load = none → Fits → Leads (.anvilLoadGo v) s fun t => t.rd R.ANV_LOAD_STATUS = 0x80000000 ∧
      t.anv = { s.anv with load := some ⟨a, n, s.rd R.ANV_LOAD_HANDLE, g⟩ } ∧ SameRegsBut [R.ANV_LOAD_STATUS] s t)) ∧
  (∀ (s : State) (d : StoreLoad), s.anv.load = some d →
    (∀ b (ecc : EccResult), s.grantsRead d.handle b 0 (9 * match d.target with | 0 => 2 * d.count | 1 => d.count / 4 | _ => d.count) →
      b.poisoned = false → ecc ≠ .lasting →
      let word (i : Nat) : Nat := ofBytes (Memory.reads s.hrt.bytes (byteKey d.handle (9 * i)) 9)
      let Ended (t : State) : Prop := t.anv.load = none ∧ t.rd R.ANV_LOAD_STATUS = 0 ∧ TagsEnded s t 6 0 0
      (d.target = 0 → (∀ i, i < d.count → s.bundleInUse (d.start + i) = false) → Leads (.anvilLoadDone none ecc) s fun t => Ended t ∧
        (∀ i, i < d.count → sget (fun _ => (0 : BitVec 128)) t.anv.store (d.start + i) =
          BitVec.ofNat 64 (word (2 * i + 1)) ++ BitVec.ofNat 64 (word (2 * i))) ∧
        ∀ j, j < d.start ∨ d.start + d.count ≤ j → sget (fun _ => (0 : BitVec 128)) t.anv.store j =
          sget (fun _ => (0 : BitVec 128)) s.anv.store j) ∧
      (d.target = 1 → (∀ i, i < d.count → s.anvLutInUse ((d.start + i) / 4096) = false) → Leads (.anvilLoadDone none ecc) s fun t => Ended t ∧
        ∀ i j, i < d.count / 4 → j < 4 → sget (fun _ => (0 : BitVec 18)) t.anv.lut (d.start + 4 * i + j) =
          BitVec.ofNat 18 (word i / 2 ^ (18 * j))) ∧
      (d.target = 2 → Leads (.anvilLoadDone none ecc) s fun t => Ended t ∧ ∀ i, i < d.count →
        sget (fun _ => (0 : Word)) t.anv.shadow (d.start + i) = BitVec.ofNat 72 (word i)) ∧
      (∀ i, Leads (.anvilLoadDone (some i) ecc) s fun t => t.anv.load = none ∧ t.rd R.ANV_LOAD_STATUS = 6 ∧ TagsEnded s t 6 0 6)) ∧
    (∀ b (failed : Option Nat) (ecc : EccResult), s.buffer d.handle = some b → s.hbmBusy = true →
      exec (.anvilLoadDone failed ecc) s = .next s) ∧
    (∀ (failed : Option Nat) (ecc : EccResult), s.buffer d.handle = none → Leads (.anvilLoadDone failed ecc) s fun t => t.anv = { s.anv with load := none } ∧ t.rd R.ANV_LOAD_STATUS = 6))

/-! ### Commit, replay and Bloom -/

/-- The commit of intervals and Bloom (R158, R169, R170, R197, R198, R200 to R206, R209, R210, R213, R214, R279 to R284): a clean interval
commits, one that is not is replayed once and then commits with its failing stripe forced and fenced, a drained one commits in part, the
feeder supplies or loses lines, and Bloom opens, closes and pushes. -/
def Obligations.IntervalsCommitAndBloomReads : Prop :=
  (∀ (s : State) (v : Ival) (f : CommitChecks), s.heldWhole v → f.slices = [] → f.entries = [] → v.corNow = [] →
    Leads (.intervalCommit f) s fun t => Committed s t v (s.bufferOf v.num) ∧ t.blm.lastCommit = some v.num ∧
      t.sti.ivals = s.sti.ivals.filter (fun w => w.num != v.num) ∧ t.rd R.EMB_REPLAYS = s.rd R.EMB_REPLAYS ∧
      (v.replayed = false → 2 ≤ v.arrivals → 0 < s.stripeWords → ∀ n, n < s.stripes →
        t.fld (R.ANV_SL_STATUS n) F.ANV_SL_STATUS_budget = min 255 (8 * (v.arriveLast - v.arriveFirst - 8 * (v.arrivals - 1)) /
          ((v.arrivals - 1) * s.stripeWords)))) ∧
  (∀ (s : State) (v : Ival) (f : CommitChecks) (n : Fin 16), s.heldWhole v → f.slices = [(n, none)] → f.entries = [] →
    s.oneSliceBad v n →
    (v.second = false → v.taken ≠ [] → Leads (.intervalCommit f) s fun t => t.blm.committed = s.blm.committed ∧
      t.blm.buffer = s.blm.buffer.filter (fun l => decide (l.line.k < 16 * v.num)) ∧ t.rd R.EMB_REPLAYS = s.rd R.EMB_REPLAYS + 1 ∧
      FlagSet s t R.EMB_FLAGS 0 (R.EMB_EVCNT 0) ∧ t.rd (R.ANV_SL_DETECT n) = s.rd (R.ANV_SL_DETECT n) + 1 ∧
      t.rd (R.ANV_SL_SIG n) = v.crc n ∧ FlagSet s t R.ANV_FLAGS 5 (R.ANV_EVCNT 5) ∧
      (∃ w, t.ival v.num = some w ∧ w.second = true ∧ w.replayed = true ∧ w.slices1 = BitVec.ofNat 16 (2 ^ n.val) ∧
        w.segs = v.segs ∧ w.kset = v.kset ∧ w.founded = v.founded) ∧
      (∀ q ∈ v.taken, (q.1, q.2, some v.num) ∈ t.fed.todo) ∧ t.fed.running = true) ∧
    (v.second = true → v.slices1 = BitVec.ofNat 16 (2 ^ n.val) → Leads (.intervalCommit f) s fun t =>
      t.rd R.EMB_LASTING = s.rd R.EMB_LASTING + 1 ∧ FlagSet s t R.EMB_FLAGS 1 (R.EMB_EVCNT 1) ∧
      (t.rd R.EMB_FENCE).getLsbD n = true ∧ (t.rd R.EMB_SUSPECT).getLsbD n = true ∧ t.bit (R.ANV_SL_STATUS n) F.ANV_SL_STATUS_fenced = true ∧
      t.anv.fences = s.anv.fences ++ [(n.val, s.sti.newest + 1)] ∧ t.bit R.BLW_STATE F.BLW_STATE_degraded = true ∧
      t.rd R.EMB_REPLAYS = s.rd R.EMB_REPLAYS ∧ ∃ lines, Committed s t v lines ∧ lines.length = (s.bufferOf v.num).length ∧
        ∀ (i : Nat) (a b : CommitLine), (s.bufferOf v.num)[i]? = some a → lines[i]? = some b → b.line = { a.line with w0 := a.line.w0 ||| BitVec.ofNat 72 (2 ^ 16) } ∧
          ∀ x, x < a.cls.length → b.cls[x]? = if x / s.stripeWidth = n then some 0 else a.cls[x]?)) ∧
  (∀ (s : State) (f : CommitChecks),
    (s.draining = false → exec (.drainCommit f) s = .next s) ∧
    (∀ v, s.draining = true → s.sti.ivals.filter (fun v => !(s.bufferOf v.num).isEmpty) = [v] → f.slices = [] → f.entries = [] →
      v.corNow = [] → Leads (.drainCommit f) s fun t =>
        t.blm.committed = s.blm.committed ++ commitItems v.num (s.bufferOf v.num) ++ [.closeAll true] ∧
        t.blm.buffer = s.blm.buffer.filter (fun l => l.line.k / 16 != v.num) ∧
        (v.committed + (s.bufferOf v.num).length ≠ 16 → ∃ w, t.ival v.num = some w ∧
          w.committed = v.committed + (s.bufferOf v.num).length ∧ w.second = false))) ∧
  (∀ (s : State) (ecc : EccResult), s.fed.running = false ∨ s.hbmBusy = true → exec (.feederLine ecc) s = .next s) ∧
  (∀ (s : State) (c seq : Nat) (i : Option Nat) (ecc : EccResult), s.fed.running = true → s.hbmBusy = false → ecc ≠ .lasting →
    s.fed.todo.find? (fun q => (s.onLane (s.ctxLane q.1)).isNone) = some (c, seq, i) →
    (∀ f ∈ framesOf (s.slotOffset c seq) (9 * lineWords (s.ctxWidth c) (samplesPerWord (s.ctxFmt c))),
      ((s.ringHandle c).toNat, f) ∉ s.hrt.retiring) →
    (∀ l, s.readSlot c seq = some l → Leads (.feederLine ecc) s fun t => t.fed.todo = s.fed.todo.erase (c, seq, i) ∧
      (t.fed.running = true ↔ t.fed.todo ≠ []) ∧ ∃ o, t.onLane (s.ctxLane c) = some o ∧ o.fed = true ∧
        o.line = { l with w0 := l.w0 ||| BitVec.ofNat 72 (2 ^ 18), interval := some (i.getD s.sti.newest) }) ∧
    (s.readSlot c seq = none → segsNumbered s.sti.segs → (∀ v ∈ s.sti.ivals, segsNumbered v.segs) → (∀ l ∈ s.int.eligible, l.ctx < 64) →
      Leads (.feederLine ecc) s fun t => t.fed.todo = s.fed.todo.erase (c, seq, i) ∧
      FlagSet s t R.EMB_FLAGS 2 (R.EMB_EVCNT 2) ∧ t.rd R.EMB_LOST_LINES = s.rd R.EMB_LOST_LINES + 1 ∧
      ∀ v, s.ival (i.getD s.sti.newest) = some v → ∃ w, t.ival (i.getD s.sti.newest) = some w ∧ w.lost = v.lost + 1 ∧ w.suspectAll = true)) ∧
  (∀ (s : State) (l : CommitLine) (rest : List BloomItem), s.bloomTakes l rest →
    Leads .bloomLine s (fun t => TakenByBloom s t l rest) ∧
    (∀ a px c, l.cls = List.replicate a 0 ++ px ++ List.replicate c 0 → px ≠ [] → (∀ v ∈ px, pixClass v ≠ 0) → s.blm.blooms = [] →
      s.blmCfg R.BLM_CFG F.BLM_CFG_max_lines ≠ 1 → Leads .bloomLine s fun t => t.rd R.BLM_OPEN = 1 ∧ t.blm.fifo = s.blm.fifo ∧
        ∃ b, t.blm.blooms = [b] ∧ b.ovf = none ∧ b.oseq = l.line.k ∧ b.ocol = a ∧ b.firstW1 = l.line.w1 ∧ b.firstW2 = l.line.w2 ∧
          b.area = px.length ∧ b.sum = (px.map pixMeasure).sum ∧ b.cdMin = a ∧ b.cdMax + 1 = a + px.length ∧ b.perim = px.length + 2 ∧
          b.merges = 0 ∧ b.frontier = [(a, a + px.length - 1)] ∧ b.fresh = [] ∧
          ∀ k, b.count k = (px.filter fun v => pixClass v == k).length) ∧
    (∀ b, (∀ v ∈ l.cls, pixClass v = 0) → s.blm.blooms = [b] → b.fresh = [] →
      (b.area < s.blmCfg R.BLM_MIN_AREA F.BLM_MIN_AREA_min_area → Leads .bloomLine s fun t => t.blm.blooms = [] ∧ t.rd R.BLM_OPEN = 0 ∧
        t.blm.fifo = s.blm.fifo ∧ t.blm.serial = s.blm.serial ∧ t.rd R.BLM_DISCARD = s.rd R.BLM_DISCARD + 1) ∧
      (∀ c, s.blmCfg R.BLM_MIN_AREA F.BLM_MIN_AREA_min_area ≤ b.area → s.blmCfg R.BLM_CLASS F.BLM_CLASS_mark_mask = 0 →
        s.blmCfg R.BLM_CROP_CFG F.BLM_CROP_CFG_crop_en = 0 → b.dominant c → b.area < 2 ^ 36 → b.sum < 2 ^ 36 → b.min < 256 → b.max < 256 →
        b.cdMin < 2 ^ 18 → b.cdMax < 2 ^ 18 → Leads .bloomLine s fun t => t.blm.blooms = [] ∧ t.rd R.BLM_OPEN = 0 ∧
          t.rd R.BLM_RECORDS = s.rd R.BLM_RECORDS + 1 ∧ t.blm.serial = (s.blm.serial + 1) % 2 ^ 40 ∧ t.tng.marks = s.tng.marks ∧
          ∃ w0 w2 w3 w5 w7 : Word, t.blm.fifo = s.blm.fifo ++ [{ serial := s.blm.serial, words :=
              [w0, b.firstW1, w2, w3, BitVec.ofNat 36 b.area ++ BitVec.ofNat 36 b.sum, w5, b.firstW2, w7] }] ∧
            BitVec.extractLsb 71 64 w0 = 1 ∧ BitVec.extractLsb 63 60 w0 = 8 ∧ (BitVec.extractLsb 59 56 w0).toNat = c ∧
            w0.getLsbD 55 = b.overflow ∧ w0.getLsbD 54 = b.forced ∧ w0.getLsbD 53 = b.continued ∧
            (BitVec.extractLsb 39 0 w0).toNat = s.blm.serial % 2 ^ 40 ∧ (BitVec.extractLsb 35 18 w2).toNat = b.cdMax ∧
            (BitVec.extractLsb 17 0 w2).toNat = b.cdMin ∧ (BitVec.extractLsb 71 48 w5).toNat = 64 * b.sumX / b.area % 2 ^ 24 ∧
            (BitVec.extractLsb 15 8 w5).toNat = b.min ∧ (BitVec.extractLsb 7 0 w5).toNat = b.max ∧
            (BitVec.extractLsb 39 12 w7).toNat = min (b.perim + (b.frontier.map fun f => f.2 + 1 - f.1).sum) (2 ^ 28 - 1) ∧
            (BitVec.extractLsb 11 0 w7).toNat = min b.merges 4095))) ∧
  (∀ (s : State) (v : Reg32), s.hostOpen → s.bloomRuns = false → exec (.flush v) s = .next s) ∧
  (∀ (s : State) (v : Reg32), s.hostOpen → s.bloomRuns = true → v.getLsbD 0 = true → Leads (.flush v) s fun t => t.blm.blooms = [] ∧ t.rd R.BLM_OPEN = 0 ∧
    t.rd (R.BLM_EVCNT 2) = s.rd (R.BLM_EVCNT 2) + BitVec.ofNat 32 s.blm.blooms.length ∧ t.blm.committed = s.blm.committed ∧
    t.rd R.BLM_RECORDS + t.rd R.BLM_DISCARD = s.rd R.BLM_RECORDS + s.rd R.BLM_DISCARD + BitVec.ofNat 32 s.blm.blooms.length) ∧
  (∀ (s : State) (r : Record) (rest : List Record), s.blm.fifo = r :: rest →
    let q := s.blmCfg R.BLM_OUT F.BLM_OUT_rec_q
    (r.crop = none → s.blw.state ∈ ([.ready, .armed, .run, .hold] : List DevState) → s.queueOn q = true → s.queueRoom q 9 = true →
      Leads .recordPush s fun t => t.blm.fifo = (rest ++ s.blm.stalled).take 4096 ∧ t.blm.stalled = (rest ++ s.blm.stalled).drop 4096 ∧
        (∃ len : Word, (t.queue q).slots = (s.queue q).slots ++ [.closed 0x82 (len :: r.words)] ∧
          (BitVec.extractLsb 15 0 len).toNat = r.words.length % 2 ^ 16) ∧
        t.fld R.BLM_REC_FIFO F.BLM_REC_FIFO_waiting = min 4096 (rest.length + s.blm.stalled.length) ∧
        ∀ b, r.handle ≠ 0 → s.buffer r.handle = some b → t.buffer r.handle = some { b with pinned := false }) ∧
    (r.crop.isSome = true ∨ s.queueOn q = true ∧ s.queueRoom q 9 = false → exec .recordPush s = .next s)) ∧
  (∀ (s : State) (r : Record) (c : Crop) (ecc : EccResult), s.blm.records.find? (fun r => r.crop.isSome) = some r → r.crop = some c →
    (c.due = true ∨ (∃ j, s.blm.lastCommit = some j ∧ c.last < ((16 * (j + 1) : Nat) : Int)) → s.bloomRuns = true → s.framesOwed = false →
      s.hbmBusy = false → ecc ≠ .lasting → ((s.rd (R.ANV_IMG_HANDLE c.ch)).toNat, 0) ∉ s.hrt.retiring → Leads (.cropCut ecc) s fun t =>
        t.blm.records = s.blm.records.map (fun q => if q.serial = r.serial then { q with crop := some { c with cutting := true } } else q) ∧
        { t.blm with fifo := s.blm.fifo, stalled := s.blm.stalled } = s.blm) ∧
    ((c.due = false ∧ s.blm.lastCommit = none) ∨ s.bloomRuns = false ∨ s.framesOwed = true ∨ s.hbmBusy = true →
      exec (.cropCut ecc) s = .next s)) ∧
  (∀ (s : State) (r : Record) (c : Crop) (b : Buffer),
    s.blm.records.find? (fun r => match r.crop with | some c => c.cutting | none => false) = some r → r.crop = some c →
    s.bloomRuns = true → s.hbmBusy = false → s.reaches c.handle b 0 (9 * c.words) →
    let Shown (t : State) (n : Nat) : Prop :=
      t.blm.records = s.blm.records.map (fun q => if q.serial = r.serial then
        { q with crop := none, words := q.words.set 0 (q.words.getD 0 0 ||| BitVec.ofNat 72 (n * 2 ^ 48)) } else q) ∧
      { t.blm with fifo := s.blm.fifo, stalled := s.blm.stalled } = s.blm
    let Settled (t : State) (n : Nat) (ws : List Word) : Prop :=
      t.hrt.bytes = Memory.writes s.hrt.bytes (byteKey c.handle 0) (packDense ws) ∧ Shown t n
    (Leads .cropDone s fun t => t.hrt.bytes = (s.writeCrop c).1.hrt.bytes ∧ Shown t (if 0 < (s.writeCrop c).2 then 2 else 1) ∧
      t.rd (R.BLM_EVCNT 3) = s.rd (R.BLM_EVCNT 3) + BitVec.ofNat 32 (s.writeCrop c).2 ∧ (s.writeCrop c).2 ≤ c.lines) ∧
    (∀ ws, c.lines = 1 → s.imgSlot c.ch c.first = some ws → Leads .cropDone s fun t => Settled t 1 (c.lineWords ws) ∧
      t.rd (R.BLM_EVCNT 3) = s.rd (R.BLM_EVCNT 3)) ∧
    (c.lines = 1 → s.imgSlot c.ch c.first = none → Leads .cropDone s fun t => Settled t 2 (List.replicate (3 + c.cw) 0) ∧
      FlagSet s t R.BLM_FLAGS 3 (R.BLM_EVCNT 3) ∧ Raised s t 371))

/-! ### Tongs -/

/-- Tongs (R224 to R226, R231, R232, R234): a mark in its commit range is sent with its predicted instant, one that is too near is late
under its channel's policy, a mark whose instant has passed has fired and makes room for a late one, and the marker links send FIRE, CANCEL, SYNC and CONFIG frames in
their order. -/
def Obligations.MarksFireAndLinksSend : Prop :=
  (∀ (s : State) (id : Nat) (m : Mark) (n te : Nat) (t₀ : Int), s.waits id m n te t₀ →
    let now := s.ltNow
    let near := 4 * (1200 + s.fld (R.TNG_LINK_CFG (m.ch / 128)) F.TNG_LINK_CFG_link_delay_ns)
    let commit := 400 * s.fld R.TNG_CFG F.TNG_CFG_commit
    ((now + near : Nat) ≤ t₀ → t₀ ≤ (now + commit : Nat) → s.sentOf m.ch < 4 → Leads (.markSend id) s fun t =>
      MarkIs s t id (.sent t₀.toNat) ∧ Joined s t ⟨false, m.ch, t₀.toNat, id⟩ ∧ t.regs = s.regs) ∧
    ((now + near : Nat) ≤ t₀ → ((now + commit : Nat) < t₀ ∨ 4 ≤ s.sentOf m.ch) → exec (.markSend id) s = .next s) ∧
    (t₀ < (now + near : Nat) → s.bit (R.TNG_CH_CFG m.ch) F.TNG_CH_CFG_late_fire = false → Leads (.markSend id) s fun t =>
      MarkGone s t id ∧ FlagSet s t R.TNG_FLAGS 0 (R.TNG_EVCNT 0) ∧ Raised s t 384) ∧
    (t₀ < (now + near : Nat) → s.bit (R.TNG_CH_CFG m.ch) F.TNG_CH_CFG_late_fire = true → s.sentOf m.ch < 4 → Leads (.markSend id) s fun t =>
      MarkIs s t id (.sent (now + near)) ∧ Joined s t ⟨false, m.ch, now + near, id⟩ ∧ FlagSet s t R.TNG_FLAGS 1 (R.TNG_EVCNT 1)) ∧
    (t₀ < (now + near : Nat) → s.bit (R.TNG_CH_CFG m.ch) F.TNG_CH_CFG_late_fire = true → 4 ≤ s.sentOf m.ch → Leads (.markSend id) s fun t =>
      MarkIs s t id .late ∧ FlagSet s t R.TNG_FLAGS 1 (R.TNG_EVCNT 1))) ∧
  (∀ (s : State) (id t₀ : Nat) (m : Mark), s.tng.marks.lookup id = some (m, .sent t₀) → m.ch < 1024 →
    (s.ltNow < t₀ → exec (.markFired id) s = .next s) ∧
    ((∃ f ∈ (s.link (m.ch / 128)).due, f.mark = id) → exec (.markFired id) s = .next s) ∧
    (s.coresStopped = true → exec (.markFired id) s = .next s) ∧
    (∀ x, s.coresStopped = false → t₀ ≤ s.ltNow → (∀ f ∈ (s.link (m.ch / 128)).due, f.mark ≠ id) → s.marksHeld = false → s.sentOf m.ch ≤ 4 →
      (s.tng.marks.filter fun x => x.1 != id).find? (fun x => x.2.1.ch == m.ch && x.2.2 == .late) = some x →
      Leads (.markFired id) s fun t => t.rd R.TNG_FIRED = s.rd R.TNG_FIRED + 1 ∧ Joined s t ⟨false, m.ch, s.ltNow + s.nearLimit m.ch, x.1⟩ ∧
        t.tng.marks = (s.tng.marks.filter fun x => x.1 != id).map fun y =>
          if y.1 = x.1 then (x.1, y.2.1, .sent (s.ltNow + s.nearLimit m.ch)) else y) ∧
    (s.coresStopped = false → t₀ ≤ s.ltNow → (∀ f ∈ (s.link (m.ch / 128)).due, f.mark ≠ id) → (∀ x ∈ s.tng.marks, x.2.1.ch = m.ch → x.2.2 ≠ .late) →
      Leads (.markFired id) s fun t => MarkGone s t id ∧ t.rd (R.TNG_CH_COUNT m.ch) = s.rd (R.TNG_CH_COUNT m.ch) + 1 ∧
        t.rd R.TNG_FIRED = s.rd R.TNG_FIRED + 1 ∧ t.tng.links = s.tng.links)) ∧
  (∀ (s : State) (k : Fin 8),
    (∀ (f : DueFrame) (l : List DueFrame), (s.link k).due = f :: l → s.linkSends k = true → s.syncFirst k = false →
      let o := [f.ch % 128, f.t / 4 % 256, f.t / 4 / 256 % 256, f.t / 4 / 65536 % 256]
      (f.cancel = false → Leads (.fireFrame k) s (fun t => FrameSent s t k 0xFB o (R.TNG_LINK_FIRE k) ∧ (t.link k).due = l) ∧
        exec (.cancelFrame k) s = .next s) ∧
      (f.cancel = true → Leads (.cancelFrame k) s (fun t => FrameSent s t k 0xFD o (R.TNG_LINK_CANCEL k) ∧ (t.link k).due = l) ∧
        exec (.fireFrame k) s = .next s)) ∧
    (s.linkSends k = true → (s.link k).syncs < 8 * s.ticks / 10000 → Leads (.syncDue k) s fun t => t.regs = s.regs ∧ t.out = s.out ∧
      t.link k = { s.link k with sync := some ((s.link k).sync.getD s.ticks), syncs := 8 * s.ticks / 10000 }) ∧
    (s.linkSends k = true → (s.link k).sync.isSome = true → (s.syncFirst k = true ∨ (s.link k).due = []) → Leads (.syncFrame k) s fun t =>
      let lt := 8 * s.ticks + s.fld (R.TNG_LINK_CFG k) F.TNG_LINK_CFG_link_delay_ns
      FrameSent s t k 0x3C [(if s.blw.state = .run ∨ s.blw.state = .hold ∧ s.tng.byQuench = false then 8 else 0) + k.val, lt % 256,
        lt / 256 % 256, lt / 65536 % 256] (R.TNG_LINK_SYNC k) ∧ t.link k = { s.link k with sync := none }) ∧
    (∀ ch rest, (s.link k).config = ch :: rest → s.linkSends k = true → (s.link k).sync = none → (s.link k).due = [] →
      Leads (.configFrame k) s fun t => t.link k = { s.link k with config := rest } ∧
        let w := s.fld (R.TNG_CH_WIDTH ch) F.TNG_CH_WIDTH_width_us
        FrameSent s t k 0x7C [ch % 128, w % 256, w / 256, 0] (R.TNG_LINK_CONFIG k)) ∧
    (s.linkSends k = false → ∀ i ∈ ([.fireFrame k, .cancelFrame k, .syncDue k, .syncFrame k, .configFrame k] : List Instr),
      exec i s = .next s)) ∧
  (∀ (s : State) (k : Fin 8) (v : Reg32), s.hostOpen →
    (v.getLsbD 31 = true → s.bit (R.TNG_LINK_CFG k) F.TNG_LINK_CFG_enable = false → Leads (.markerLinkEnable k v) s fun t =>
      t.link k = { s.link k with config := (List.range 128).map (128 * k.val + ·), syncs := 8 * s.ticks / 10000 } ∧
      t.bit (R.TNG_LINK_CFG k) F.TNG_LINK_CFG_enable = true ∧ t.fld (R.TNG_LINK_CFG k) F.TNG_LINK_CFG_link_delay_ns = v.toNat % 1024 ∧
      SameRegsBut [R.TNG_LINK_CFG k] s t ∧ (s.bit R.HST_QUENCH F.HST_QUENCH_quench = true → t.out = .markerQuench k :: s.out)) ∧
    (v.getLsbD 31 = false → s.bit (R.TNG_LINK_CFG k) F.TNG_LINK_CFG_enable = true → Leads (.markerLinkDisable k v) s fun t =>
      t.link k = { s.link k with due := [], sync := none, config := [] } ∧ t.bit (R.TNG_LINK_CFG k) F.TNG_LINK_CFG_enable = false ∧
      SameRegsBut [R.TNG_LINK_CFG k] s t ∧ t.out = s.out ∧ t.tng.marks = s.tng.marks)) ∧
  (∀ (s : State) (ch : Fin 1024) (v : Reg32), s.hostOpen → Leads (.channelWidthWrite ch v) s fun t =>
    SameRegsBut [R.TNG_CH_WIDTH ch] s t ∧ t.rd (R.TNG_CH_WIDTH ch) = plainValue (R.TNG_CH_WIDTH ch) false (s.rd (R.TNG_CH_WIDTH ch)) v ∧
    (s.bit (R.TNG_LINK_CFG (ch / 128)) F.TNG_LINK_CFG_enable = true → ch.val ∉ (s.link (ch / 128)).config →
      (t.link (ch / 128)).config = (s.link (ch / 128)).config ++ [ch.val]) ∧
    (s.bit (R.TNG_LINK_CFG (ch / 128)) F.TNG_LINK_CFG_enable = false → t.tng = s.tng))

/-! ### Output streams and compression -/

/-- Output streams and compression (R240, R241, R246 to R250, R252, R254 to R257): stream sets are checked whole, a stopped stream
goes idle at the next line, jobs are checked, wait for a stream that is resident on a busy engine, move one from an idle engine, run and
end with a completion, never without space where the capacity is that of R254, an abort ends a job, save_all saves every idle engine, and
the code lengths of a table set are written unless a job uses them. -/
def Obligations.StreamsRunAndJobsComplete : Prop :=
  (∀ (s : State) (u : Fin 8) (v : Reg32), s.hostOpen →
    let p := s.ostShadow u
    let Others (t : State) : Prop := ∀ i, i ≠ u.val → t.ostUnit i = s.ostUnit i
    (v.getLsbD 0 = true → v.getLsbD 1 = false → s.ostSetOk u p = true → Leads (.streamApply u v) s fun t => Others t ∧
      t.ostUnit u = { s.ostUnit u with pending := some p } ∧ t.fld (R.OST_STATUS u) F.OST_STATUS_apply_pending = 1 ∧
      SameRegsBut [R.OST_STATUS u] s t) ∧
    (v.getLsbD 0 = true → v.getLsbD 1 = false → (5 < p.source ∨ p.width' = 0 ∨ 262144 < p.width' ∨ p.dc = 0 ∨ 64 < p.dc ∨ p.dm = 0 ∨ 64 < p.dm ∨
      getField p.scale F.OST_SCALE_out_gain = 0 ∨ s.lineWidth < getField p.crop F.OST_CROP_cd_first + p.width' ∨
      (0 < p.source ∧ p.source < 5 ∧ s.bit (R.ANV_IMG (p.source - 1)) F.ANV_IMG_enable = false) ∨ s.ostSetOk u p = false) →
      Leads (.streamApply u v) s fun t => t.ost = s.ost ∧ FlagSet s t (R.OST_FLAGS u) 1 (R.OST_EVCNT u 1) ∧ Raised s t 417) ∧
    (v.getLsbD 1 = true → v.getLsbD 0 = false →
      ((s.ostUnit u).run.state = .idle → exec (.streamStop u v) s = .next s) ∧
      ((s.ostUnit u).run.state ≠ .idle → Leads (.streamStop u v) s fun t => Others t ∧ t.ostUnit u = { s.ostUnit u with stop := true } ∧
        SameRegsBut [R.OST_STATUS u] s t))) ∧
  (∀ (s : State) (cyc : Fin 10) (u : Fin 8) (p : OstSet) (l : StLine) (rest : List StLine), s.sti.formed = l :: rest →
    (∀ n, n < s.stripes → s.sliceFree n = true) → s.blw.state ∈ ([.armed, .run, .hold] : List DevState) →
    (s.ostUnit u).active = some p → p.source = 0 → (s.ostUnit u).run.state ≠ .idle → (s.ostUnit u).stop = true →
    Leads (.stitchedLinePass cyc) s fun t => (t.ostUnit u).run.state = .idle ∧ (t.ostUnit u).active = some p ∧ (t.ostUnit u).stop = false ∧
      t.fld (R.OST_STATUS u) F.OST_STATUS_state = 0) ∧
  (∀ (s : State) (e : Fin 8) (ecc : EccResult) (n : Nat), (s.cmpEngine e).job.isSome = true →
    exec (.compressionJob e ecc n) s = .next s) ∧
  (∀ (s : State) (e : Fin 8) (n : Nat) (j : CmpJob) (rest : List QSlot), s.jobWaits e j rest →
    (∀ f, s.jobBad j = false → (s.cmpEngine e).resident ≠ some j.stream → s.residentOn j.stream = some f →
      (s.cmpEngine f).job.isSome = true → Leads (.compressionJob e .clean n) s fun t => JobTaken s t e rest ∧
        t.cmpEngine e = { s.cmpEngine e with waits := some j } ∧ t.cmp.waiting = s.cmp.waiting ++ [e.val] ∧
        t.cmp.streams = s.cmp.streams) ∧
    (∀ f b, s.jobBad j = false → (s.cmpEngine e).resident = none → s.residentOn j.stream = some f → (s.cmpEngine f).job = none →
      (s.cmpStream j.stream).isSome = true → s.grantsWrite (s.rd R.CMP_STATE_HANDLE) b (34848 * j.stream) 34848 →
      Leads (.compressionJob e .clean n) s fun t => JobTaken s t e rest ∧ (t.cmpEngine f).resident = none ∧
        t.cmpEngine e = { s.cmpEngine e with job := some j, resident := some j.stream } ∧
        t.rd (R.CMP_ENG_SWAP f) = s.rd (R.CMP_ENG_SWAP f) + 1 ∧ t.rd (R.CMP_ENG_SWAP e) = s.rd (R.CMP_ENG_SWAP e) + 1 ∧
        t.cmp.streams = s.cmp.streams) ∧
    ((j.mode = 3 ∨ j.dstCap = 0 ∨ (j.mode ≠ 0 ∧ j.chain = 0) ∨ (j.start = true ∧ j.wrap = 3) ∨ (j.start = false ∧ s.cmpStream j.stream = none) ∨
          s.rd R.CMP_STATE_HANDLE = 0 ∨ s.jobBad j = true → Leads (.compressionJob e .clean n) s fun t => JobTaken s t e rest ∧ JobEnded s t e j 2 0 ∧
        FlagSet s t R.CMP_FLAGS 2 (R.CMP_EVCNT 2) ∧ t.cmp.streams = s.cmp.streams) ∧
      (s.jobBad j = false → s.residentOn j.stream = some e.val → (s.cmpEngine e).resident = some j.stream →
        Leads (.compressionJob e .clean n) s fun t => JobTaken s t e rest ∧ t.cmpEngine e = { s.cmpEngine e with job := some j } ∧
          t.cmp.streams = s.cmp.streams) ∧
      (s.jobBad j = false → s.residentOn j.stream = none → (s.cmpEngine e).resident = none → s.cmpStream j.stream = none →
        Leads (.compressionJob e .clean n) s fun t => JobTaken s t e rest ∧
          t.cmpEngine e = { s.cmpEngine e with job := some j, resident := some j.stream } ∧ t.cmp.streams = s.cmp.streams))) ∧
  (∀ (s : State) (e : Fin 8) (ecc : EccResult), (s.cmpEngine e).job = none → exec (.jobComplete e ecc) s = .next s) ∧
  (∀ (s : State) (e : Fin 8) (j : CmpJob) (ecc : EccResult), s.jobRuns e j →
    (s.buffer j.src = none → Leads (.jobComplete e ecc) s fun t => JobEnded s t e j 6 0 ∧ FlagSet s t R.CMP_FLAGS 1 (R.CMP_EVCNT 1) ∧
      t.cmp.streams = s.cmp.streams) ∧
    (∀ b d, s.grantsRead j.src b j.srcOff j.srcLen → b.poisoned = false → ecc ≠ .lasting → s.grantsWrite j.dst d j.dstOff j.dstCap →
      d.poisoned = false → j.srcLen + 5 * ((j.srcLen + 65534) / 65535) + 5 + 18 ≤ j.dstCap → Leads (.jobComplete e ecc) s fun t =>
        (∃ out, out ≤ j.srcLen + 5 * ((j.srcLen + 65534) / 65535) + 5 + 18 ∧ JobEnded s t e j 0 out) ∧
        (j.last = true → t.cmpStream j.stream = none) ∧
        (j.last = false → ∃ x, t.cmpStream j.stream = some x ∧ x.wrap = (s.jobStream j).wrap ∧
          x.count = (s.jobStream j).count + j.srcLen)) ∧
    (∀ b d, s.buffer j.src = some b → b.poisoned = false → s.grantsWrite j.dst d j.dstOff 2 → d.poisoned = false → j.srcLen = 0 →
      j.start = true → j.last = true → j.wrap = 0 →
      (2 ≤ j.dstCap → Leads (.jobComplete e ecc) s fun t => JobEnded s t e j 0 2 ∧ t.cmpStream j.stream = none ∧ (t.cmpEngine e).resident = none ∧
        t.hrt.bytes = Memory.writes s.hrt.bytes (byteKey j.dst j.dstOff) [0x03, 0x00]) ∧
      (j.dstCap = 1 → Leads (.jobComplete e ecc) s fun t => JobEnded s t e j 5 0 ∧ FlagSet s t R.CMP_FLAGS 0 (R.CMP_EVCNT 0) ∧
        t.cmp.streams = s.cmp.streams))) ∧
  (∀ (s : State) (e : Fin 8) (q : Nat) (ws : List Word), (s.cmpEngine e).completion = some (q, ws) → s.queueOn q = true →
    (s.queueRoom q 3 = true → s.blw.state ∉ ([.off, .reset, .banked, .fault] : List DevState) → Leads (.completionPush e) s fun t =>
      t.cmpEngine e = { s.cmpEngine e with completion := none } ∧ t.cmp.streams = s.cmp.streams ∧
      ∃ len : Word, (t.queue q).slots = (s.queue q).slots ++ [.closed (0x88 + e.val) (len :: ws)] ∧
        (BitVec.extractLsb 15 0 len).toNat = ws.length % 2 ^ 16) ∧
    (s.queueRoom q 3 = false → exec (.completionPush e) s = .next s)) ∧
  (∀ (s : State) (e : Fin 8) (j : CmpJob), s.hostOpen → (s.cmpEngine e).job = some j → s.cmp.waiting = [] →
    Leads (.jobAbort (BitVec.ofNat 32 (2 ^ (8 + e.val)))) s fun t => JobEnded s t e j 1 0 ∧ FlagSet s t R.CMP_FLAGS 4 (R.CMP_EVCNT 4) ∧
      t.cmp.streams = s.cmp.streams ∧ ∀ i, i < 8 → i ≠ e.val → t.cmpEngine i = s.cmpEngine i) ∧
  (∀ s : State, s.hostOpen → s.cmp.waiting = [] →
    ((∀ e, e < 8 → (s.cmpEngine e).job = none ∧ (s.cmpEngine e).waits = none) → s.savesAll → Leads (.saveAll 1) s fun t => t.cmp.saveAll = false ∧ t.cmp.streams = s.cmp.streams ∧
      FlagSet s t R.CMP_FLAGS 5 (R.CMP_EVCNT 5) ∧ ∀ e, e < 8 → (t.cmpEngine e).resident = none ∧ (t.cmpEngine e).saving = false ∧
        t.rd (R.CMP_ENG_SWAP e) = s.rd (R.CMP_ENG_SWAP e) + (if (s.cmpEngine e).resident.isSome then 1 else 0)) ∧
    (∀ e, e < 8 → (s.cmpEngine e).job.isSome = true → Leads (.saveAll 1) s fun t => t.cmp.saveAll = true ∧
      (t.cmpEngine e).saving = true ∧ (t.cmpEngine e).resident = (s.cmpEngine e).resident ∧ (t.cmpEngine e).job = (s.cmpEngine e).job ∧
      t.rd R.CMP_FLAGS = s.rd R.CMP_FLAGS)) ∧
  (∀ s : State, s.hostOpen →
    let g := s.fld R.CMP_TBL_ADDR F.CMP_TBL_ADDR_set
    let i := s.fld R.CMP_TBL_ADDR F.CMP_TBL_ADDR_entry
    let Next (t : State) : Prop := t.fld R.CMP_TBL_ADDR F.CMP_TBL_ADDR_set = g ∧
      t.fld R.CMP_TBL_ADDR F.CMP_TBL_ADDR_entry = if 315 ≤ i then 0 else i + 1
    (∀ v : Reg32, Leads (.tableSetAccess (some v)) s fun t => Next t ∧
      (s.setInUse g = false → SameRegsBut [R.CMP_TBL_ADDR] s t ∧ ∀ k, sget (fun _ => (0 : BitVec 4)) t.cmp.tables k =
        if k = 512 * g + i then BitVec.extractLsb 3 0 v else sget (fun _ => (0 : BitVec 4)) s.cmp.tables k) ∧
      (s.setInUse g = true → t.cmp = s.cmp ∧ FlagSet s t R.CMP_FLAGS 3 (R.CMP_EVCNT 3) ∧ Raised s t 435)) ∧
    (Leads (.tableSetAccess none) s fun t => Next t ∧ t.cmp = s.cmp ∧ SameRegsBut [R.CMP_TBL_ADDR] s t ∧
      t.out = .readData (BitVec.setWidth 32 (sget (fun _ => (0 : BitVec 4)) s.cmp.tables (512 * g + i))) :: s.out) ∧
    (∀ v : Reg32, (s.cmp.streams = [] → exec (.stateHandleWrite v) s = .next (s.wr R.CMP_STATE_HANDLE v)) ∧
      (s.cmp.streams ≠ [] → exec (.stateHandleWrite v) s = .next s)))

/-! ### Hearth and the journal -/

/-- Hearth and the Ember journal (R259, R261 to R275, R286 to R289, R327, R414): the allocation ports issue, free, pin, unpin and
describe buffers, the bulk port reads and writes them in the order of arrival, a double failure of metadata enters FAULT, frames page
out and in, retire and are scrubbed, a class that starves is reported, and the journal's items become durable on blocks that wear out.
The model's choices: logs 88 to 97, 181 and 182. -/
def Obligations.BuffersAndJournalKeepTheirContents : Prop :=
  (∀ (s : State) (p : Fin 5), s.portOpen p →
    let h := s.rd (R.HRT_AP_HANDLE p)
    let n := s.fld (R.HRT_AP_SIZE p) F.HRT_AP_SIZE_size
    let cap := s.fld R.HRT_CAP F.HRT_CAP_cap
    let spill := s.fld R.HRT_SPILL_FRAMES F.HRT_SPILL_FRAMES_spill_frames
    let pinned := s.sumBuffers fun b => if b.pinned then b.size else 0
    let Busy (t : State) : Prop := t.bit (R.HRT_AP_STATUS p) F.HRT_AP_STATUS_busy = true
    let ops : List Instr := [.apAllocate p, .apAllocatePinned p, .apFree p, .apPin p, .apUnpin p, .apQuery p]
    let free := s.bit (R.HRT_AP_STATUS p) F.HRT_AP_STATUS_busy = false
    let served := s.blw.state ∈ ([.ready, .armed, .run, .hold] : List DevState)
    (Busy s → ∀ i ∈ ops, exec i s = .next s) ∧
    (free → ¬served → ∀ i ∈ ops, Leads i s fun t => PortEnded s t p 3 ∧ OnlyEnded s t p) ∧
    (free → served → (n = 0 ∨ cap < n) → ∀ i ∈ ([.apAllocate p, .apAllocatePinned p] : List Instr), Leads i s fun t =>
      PortEnded s t p 2 ∧ OnlyEnded s t p) ∧
    (free → served → 0 < n → n ≤ cap → s.buffers.length < 1048576 → s.sumBuffers Buffer.size + n ≤ cap + spill →
      (pinned ≤ cap - 1024 → Leads (.apAllocate p) s fun t => PortEnded s t p 0 ∧ NewBuffer s t n false .unbacked ∧
        t.rd (R.HRT_AP_HANDLE p) = s.nextHandle) ∧
      (pinned + n ≤ cap - 1024 → s.sumBuffers Buffer.residentCount + n ≤ cap → Leads (.apAllocatePinned p) s fun t => PortEnded s t p 0 ∧
        NewBuffer s t n true (.resident false true none) ∧ t.rd (R.HRT_AP_HANDLE p) = s.nextHandle) ∧
      (pinned + n ≤ cap - 1024 → cap < s.sumBuffers Buffer.residentCount + n → Leads (.apAllocatePinned p) s fun t => Busy t ∧
        NewBuffer s t n true (.resident false true none) ∧ t.hrt.pinWait = s.hrt.pinWait ++ [(8 + p.val, s.nextHandle.toNat)] ∧
        t.hrt.pagingOut = true)) ∧
    (free → served → 0 < n → n ≤ cap →
      ((s.sumBuffers Buffer.size + n ≤ cap + spill → 1048576 ≤ s.buffers.length ∨ cap - 1024 < pinned) → Leads (.apAllocate p) s fun t =>
        PortEnded s t p 5 ∧ OnlyEnded s t p) ∧
      ((s.sumBuffers Buffer.size + n ≤ cap + spill → 1048576 ≤ s.buffers.length ∨ cap - 1024 < pinned + n) →
        Leads (.apAllocatePinned p) s fun t => PortEnded s t p 5 ∧ OnlyEnded s t p)) ∧
    (free → served → s.buffer h = none → ∀ i ∈ ([.apFree p, .apPin p, .apUnpin p, .apQuery p] : List Instr), Leads i s fun t =>
      PortEnded s t p 2 ∧ OnlyEnded s t p) ∧
    (free → served → ∀ b, s.buffer h = some b →
      let u := (s.setBuffer h b.backAll).hearthSync
      let spilled := b.frames.filter fun q => q.2.isSpilled
      (b.kind = .ring ∨ (b.kind = .crop ∧ b.pinned = true) ∨ b.held = true → ∀ i ∈ ([.apFree p, .apUnpin p] : List Instr), Leads i s fun t =>
        PortEnded s t p 4 ∧ OnlyEnded s t p) ∧
      (b.kind ≠ .ring → (b.kind = .crop → b.pinned = false) → b.held = false →
        Leads (.apFree p) s (fun t => PortEnded s t p 0 ∧ t.buffer h = none ∧ ∀ j, j ≠ handleIndex h → t.hslot j = s.hslot j) ∧
        Leads (.apUnpin p) s fun t => PortEnded s t p 0 ∧ t.buffer h = some { b with pinned := false }) ∧
      (b.pinned = true → Leads (.apPin p) s fun t => PortEnded s t p 0 ∧ OnlyEnded s t p) ∧
      (b.pinned = false → s.hearthBounds 0 b.size = false → Leads (.apPin p) s fun t => PortEnded s t p 5 ∧ OnlyEnded s t p) ∧
      (b.pinned = false → s.hearthBounds 0 b.size = true → spilled = [] → u.framesOwed = false → Leads (.apPin p) s fun t =>
        PortEnded s t p 0 ∧ t.hrt.bytes = s.hrt.bytes ∧ ∃ c, t.buffer h = some c ∧ c.pinned = true ∧ c.size = b.size ∧
          ∀ i, (c.frame i).isResident = true) ∧
      (b.pinned = false → s.hearthBounds 0 b.size = true → (spilled = [] → u.framesOwed = true) → Leads (.apPin p) s fun t =>
        Busy t ∧ t.hrt.bytes = s.hrt.bytes ∧ t.hrt.pinWait = s.hrt.pinWait ++ [(p.val, h.toNat)] ∧
          (∀ q ∈ spilled, (h.toNat, q.1) ∈ t.hrt.pageIns) ∧ (u.framesOwed = true → t.hrt.pagingOut = true) ∧
          ∃ c, t.buffer h = some c ∧ c.pinned = true ∧ c.size = b.size) ∧
      (Leads (.apQuery p) s fun t => PortEnded s t p 0 ∧ t.rd (R.HRT_AP_INFO p) = b.info ∧ t.hrt = s.hrt))) ∧
  (∀ (s : State) (x : BitVec 24), s.hostOpen →
    let h := s.rd R.HST_BP_HANDLE
    let stream := s.bit R.HST_BP_CFG F.HST_BP_CFG_stream
    let off := if stream then s.hst.bpPtr else s.hst.bpBase + x.toNat
    let Moved (t : State) (n : Nat) : Prop := t.hst.bpPtr = if stream then (s.hst.bpPtr + n) % 2 ^ 40 else s.hst.bpPtr
    let Answers (t : State) (bytes : List Byte) : Prop := ∃ parts : List (List Byte), parts.flatten = bytes ∧
      (∀ q ∈ parts, 0 < q.length ∧ q.length ≤ 512) ∧ t.out = (parts.map fun q => .bulkData q false).reverse ++ s.out
    let Joins (i : Instr) (a : BusAccess) : Prop := exec i s = .next { s with hst := { s.hst with bulkWait := s.hst.bulkWait ++ [a] } }
    (s.hst.bulkWait = [] →
      (∀ n e, s.buffer h = none → Leads (.bar2Read x n e) s fun t => Answers t (List.replicate n 0xFF) ∧ Moved t n ∧
        FlagSet s t R.HRT_FLAGS 8 (R.HRT_EVCNT 8)) ∧
      (∀ n b e, s.grantsRead h b off n → e ≠ .lasting → Leads (.bar2Read x n e) s fun t =>
        Answers t (Memory.reads s.hrt.bytes (byteKey h off) n) ∧ Moved t n ∧ t.hrt.bytes = s.hrt.bytes ∧ (e = .clean → t.regs = s.regs) ∧
        (∀ k, 0 < n → e = .corrected k → t.rd R.HRT_ECC_CORR = s.rd R.HRT_ECC_CORR + BitVec.ofNat 32 k)) ∧
      (∀ n b, s.grantsRead h b off n → 0 < n → Leads (.bar2Read x n .lasting) s fun t => t.out = s.out ∧
        (h.toNat, off / 65536) ∈ t.hrt.retiring ∧ t.hst = { s.hst with bulkWait := [.bulkRead x.toNat n .clean] }) ∧
      (∀ n e, s.blw.state ≠ .fault → Leads (.bar2Read x n e true) s fun t => t.blw.state = .fault ∧ t.blw.faultCause = 2 ∧
        ∃ parts : List (List Byte), parts.flatten.length = n ∧ (parts.map fun q => .bulkData q false).reverse ++ s.out <:+ t.out) ∧
      (∀ n b f y, s.buffer h = some b → off + n ≤ b.size * 65536 → s.hbmBusy = false → f ∈ framesOf off n → b.frame f = .spilled y →
        Leads (.bar2Read x n .clean) s fun t => t.out = s.out ∧ t.hst = { s.hst with bulkWait := [.bulkRead x.toNat n .clean] } ∧
          (h.toNat, f) ∈ t.hrt.pageIns ∧ t.hrt.bytes = s.hrt.bytes) ∧
      (∀ bs, s.buffer h = none → Leads (.bar2Write x bs) s fun t => t.hrt = s.hrt ∧ Moved t bs.length ∧ FlagSet s t R.HRT_FLAGS 8 (R.HRT_EVCNT 8)) ∧
      (∀ bs b, s.buffer h = some b → b.held = true → Leads (.bar2Write x bs) s fun t => t.hrt = s.hrt ∧ Moved t bs.length ∧
        FlagSet s t R.HRT_FLAGS 8 (R.HRT_EVCNT 8)) ∧
      (∀ bs b, s.grantsWrite h b off bs.length → Leads (.bar2Write x bs) s fun t => Moved t bs.length ∧
        t.hrt.bytes = Memory.writes s.hrt.bytes (byteKey h off) bs) ∧
      (∀ bs b, s.reaches h b off bs.length → b.held = false → b.pinned = false →
        s.fld R.HRT_FREE F.HRT_FREE_free < ((framesOf off bs.length).filter fun i => !(b.frame i).isResident).length →
        exec (.bar2Write x bs) s = .next { s with hrt := { s.hrt with pagingOut := true }, hst := { s.hst with bulkWait := [.bulkWrite x.toNat bs] } }) ∧
      (∀ v : Reg32, Leads (.bulkPortBaseCommit v) s fun t => SameRegsBut [R.HST_BP_BASE_HI] s t ∧
        t.hst.bpBase = v.toNat % 256 * 2 ^ 32 + (s.rd R.HST_BP_BASE_LO).toNat ∧ t.hst.bpPtr = t.hst.bpBase)) ∧
    (s.hst.bulkWait ≠ [] → (∀ n e, Joins (.bar2Read x n e) (.bulkRead x.toNat n e)) ∧ (∀ bs, Joins (.bar2Write x bs) (.bulkWrite x.toNat bs)) ∧
      ∀ v : Reg32, Joins (.bulkPortBaseCommit v) (.write R.HST_BP_BASE_HI v))) ∧
  (∀ (s : State) (h : BitVec 32) (f : Nat) (b : Buffer), s.buffer h = some b →
    let Frame (t : State) (x : FrameState) : Prop := FrameIs t h b f x
    (∀ passed, s.mayPageOut = false → exec (.pageOutDone h f passed) s = .next s) ∧
    ((h.toNat, f) ∈ s.hrt.retiring ∨ b.pinned = true → exec (.pageOutDone h f []) s = .next s) ∧
    (s.mayPageOut = true → (h.toNat, f) ∉ s.hrt.retiring → b.pinned = false →
      (∀ d y, b.frame f = .resident false d (some y) → Leads (.pageOutDone h f []) s fun t => Frame t (.spilled y) ∧
        t.out = s.out ∧ t.rd R.HRT_PAGE_OUT = s.rd R.HRT_PAGE_OUT + 1) ∧
      (∀ d y g e z, f ≠ g → b.frame g = .resident true e z → b.frame f = .resident false d (some y) →
        Leads (.pageOutDone h f [(h, g)]) s fun t => ∃ c, t.buffer h = some c ∧ c.frame f = .spilled y ∧ c.frame g = .resident false e z) ∧
      (∀ d y, b.frame f = .resident false d none → s.freeSlot = some y → Leads (.pageOutDone h f []) s fun t =>
        Frame t (.spilled y) ∧ t.rd R.HRT_PAGE_OUT = s.rd R.HRT_PAGE_OUT + 1 ∧
        t.out = .hostWrite .spill false ((s.rd R.HRT_SPILL_HI).toNat * 2 ^ 32 + s.fld R.HRT_SPILL_LO F.HRT_SPILL_LO_addr_lo * 2 ^ 16 + y * 65536)
          (Memory.reads s.hrt.bytes (byteKey h (65536 * f)) 65536) :: s.out) ∧
      (∀ d y, b.frame f = .resident true d y → exec (.pageOutDone h f []) s = .next s)) ∧
    (∀ y, b.frame f = .spilled y → (h.toNat, f) ∈ s.hrt.pageIns.take 16 → s.hbmBusy = false →
      let In (t : State) : Prop := t.hrt.pageIns = (s.hrt.pageIns.filter fun q => q ≠ (h.toNat, f)) ∧ t.rd R.HRT_PAGE_IN = s.rd R.HRT_PAGE_IN + 1
      (b.pinned = false → s.framesFree 1 = false → ∀ crc, exec (.pageInDone h f crc) s = .next { s with hrt := { s.hrt with pagingOut := true } }) ∧
      (b.pinned = false → s.framesFree 1 = true →
        (∀ crc, crc ≠ .lasting → Leads (.pageInDone h f crc) s fun t => Frame t (.resident true false (some y)) ∧ In t ∧
          t.hrt.bytes = s.hrt.bytes) ∧
        (Leads (.pageInDone h f .lasting) s fun t => Frame t (.resident true false none) ∧ In t ∧
          (∃ c, t.buffer h = some c ∧ c.poisoned = true) ∧ FlagSet s t R.HRT_FLAGS 6 (R.HRT_EVCNT 6) ∧ FlagSet s t R.HRT_FLAGS 4 (R.HRT_EVCNT 4) ∧
          ∀ i, i < 65536 → Memory.read t.hrt.bytes (byteKey h (65536 * f + i)) = 0xFF)) ∧
      (∀ (p : Fin 5) crc, b.pinned = true → b.base = backedFrame → crc ≠ .lasting → s.hrt.pinWait = [(p.val, h.toNat)] →
        s.hrt.pageIns = [(h.toNat, f)] → Leads (.pageInDone h f crc) s fun t => Frame t backedFrame ∧ In t ∧ t.hrt.bytes = s.hrt.bytes ∧
          (t.framesOwed = false → t.hrt.pinWait = [] ∧ PortEnded s t p 0))) ∧
    (∀ crc, s.hbmBusy = true → exec (.pageInDone h f crc) s = .next s)) ∧
  (∀ (s : State) (h : BitVec 32) (f : Nat), (h.toNat, f) ∈ s.hrt.retiring →
    let spares := s.fld R.HRT_SPARES F.HRT_SPARES_spares
    let Retired (t : State) : Prop := t.hrt.retiring = s.hrt.retiring.erase (h.toNat, f) ∧ FlagSet s t R.HRT_FLAGS 2 (R.HRT_EVCNT 2) ∧
      t.fld R.HRT_RETIRED F.HRT_RETIRED_count = (s.fld R.HRT_RETIRED F.HRT_RETIRED_count + 1) % 2 ^ 19 ∧
      (0 < spares → t.fld R.HRT_SPARES F.HRT_SPARES_spares = spares - 1) ∧
      (spares = 0 → t.fld R.HRT_CAP F.HRT_CAP_cap = s.fld R.HRT_CAP F.HRT_CAP_cap - 1)
    (∀ us, s.hbmBusy = true → exec (.retireDone h f us) s = .next s) ∧
    (∀ us, s.hbmBusy = false → spares = 0 → s.framesFree 1 = false →
      exec (.retireDone h f us) s = .next { s with hrt := { s.hrt with pagingOut := true } }) ∧
    (s.hbmBusy = false → spares ≠ 0 ∨ s.framesFree 1 = true →
      (∀ us, s.buffer h = none → Leads (.retireDone h f us) s fun t => Retired t ∧ t.hrt.bytes = s.hrt.bytes ∧ t.hrt.slots = s.hrt.slots) ∧
      (∀ us b, s.buffer h = some b → s.hrt.heldWrites = [] → (∀ u ∈ us, u < 8192) → b.kind ≠ .ring →
        let In (u k : Nat) : Prop := byteKey h (65536 * f + 8 * u) ≤ k ∧ k < byteKey h (65536 * f + 8 * u) + 8
        Leads (.retireDone h f us) s fun t => Retired t ∧ FlagSet s t R.HRT_FLAGS 4 (R.HRT_EVCNT 4) ∧
          t.buffer h = some { b with poisoned := true } ∧ (∀ u ∈ us, t.unitPoisoned (byteKey h (65536 * f + 8 * u)) = true) ∧
          ∀ k, (∀ u ∈ us, In u k → Memory.read t.hrt.bytes k = 0xFF) ∧
            ((∀ u ∈ us, ¬In u k) → Memory.read t.hrt.bytes k = Memory.read s.hrt.bytes k)) ∧
      (∀ us b, s.buffer h = some b → s.hrt.heldWrites = [] → b.kind = .ring → 0 < b.slotBytes →
        let first := f * 65536 / b.slotBytes
        let n := min ((f * 65536 + 65535) / b.slotBytes) (b.slots - 1) + 1 - first
        Leads (.retireDone h f us) s fun t => Retired t ∧ t.buffer h = some b ∧ t.rd R.HRT_LOST_HANDLE = h ∧
          t.fld R.HRT_LOST_SLOT F.HRT_LOST_SLOT_slot = first % 2 ^ 20 ∧ t.fld R.HRT_LOST_COUNT F.HRT_LOST_COUNT_count = n % 2 ^ 16 ∧
          (∀ i, i < 65536 → Memory.read t.hrt.bytes (byteKey h (65536 * f + i)) = 0xFF) ∧
          ∀ i j, i < n → j < 9 → Memory.read t.hrt.bytes (byteKey h ((first + i) * b.slotBytes + j)) = 0xFF) ∧
      (∀ b off bs, s.buffer h = some b → b.kind ≠ .ring → s.hrt.heldWrites = [(h.toNat, off, bs)] → bs ≠ [] → off / 65536 = f →
        off % 65536 + bs.length ≤ 65536 → (h.toNat, f) ∉ s.hrt.retiring.erase (h.toNat, f) → Leads (.retireDone h f []) s fun t =>
          Retired t ∧ t.hrt.heldWrites = [] ∧ t.hrt.bytes = Memory.writes s.hrt.bytes (byteKey h off) bs))) ∧
  (∀ (s : State) (h : BitVec 32) (f : Nat) (us : List Nat), (h.toNat, f) ∉ s.hrt.retiring → exec (.retireDone h f us) s = .next s) ∧
  (∀ (s : State) (h : BitVec 32) (f : Nat) (b : Buffer), s.buffer h = some b → f < b.size → (b.frame f).isResident = true →
    (s.fld R.HRT_SCRUB F.HRT_SCRUB_scrub_min = 0 ∨ s.hbmBusy = true ∨ (h.toNat, f) ∈ s.hrt.scrubbed ∨ (h.toNat, f) ∈ s.hrt.retiring →
      ∀ e, exec (.scrubRead h f e) s = .next s) ∧
    (s.fld R.HRT_SCRUB F.HRT_SCRUB_scrub_min ≠ 0 → s.hbmBusy = false → (h.toNat, f) ∉ s.hrt.scrubbed → (h.toNat, f) ∉ s.hrt.retiring →
      (∀ k, Leads (.scrubRead h f (.corrected k)) s fun t => t.rd R.HRT_ECC_CORR = s.rd R.HRT_ECC_CORR + BitVec.ofNat 32 k ∧
        t.hrt.bytes = s.hrt.bytes ∧ t.hrt.scrubbed = (h.toNat, f) :: s.hrt.scrubbed) ∧
      Leads (.scrubRead h f .transient) s (fun t => t.rd R.HRT_ECC_RETRY = s.rd R.HRT_ECC_RETRY + 1 ∧ FlagSet s t R.HRT_FLAGS 1 (R.HRT_EVCNT 1)) ∧
      Leads (.scrubRead h f .lasting) s (fun t => t.hrt.retiring = s.hrt.retiring ++ [(h.toNat, f)] ∧ t.hrt.slots = s.hrt.slots))) ∧
  (∀ (s : State) (c : Fin 5), Leads (.starvation c) s fun t => FlagSet s t R.HRT_FLAGS 5 (R.HRT_EVCNT 5) ∧ Raised s t 451 ∧
    t.rd R.HRT_STARVE = s.rd R.HRT_STARVE ||| BitVec.ofNat 32 (2 ^ c.val) ∧ t.hrt.slots = s.hrt.slots) ∧
  (∀ (s : State) (it : JournalItem) (rest : List JournalItem), s.jnl.enabled = true → s.blw.state ∉ ([.off, .reset] : List DevState) →
    s.jnl.backlog = it :: rest → s.jnl.waiting = [] →
    let done := { s.jnl with backlog := rest, acks := match it with | .ack q v => sput (fun _ => 0) s.jnl.acks q v | _ => s.jnl.acks
                             items := match it with | .ack _ _ => s.jnl.items | _ => it :: s.jnl.items }
    exec (.journalWrite 1 .verified) s = .next { s with jnl := { done with writes := s.jnl.writes + 1 } } ∧
    exec (.journalWrite 1 .rewritten) s = .next { s with jnl := { done with writes := s.jnl.writes + 2 } } ∧
    (0 < s.jnl.spares → Leads (.journalWrite 1 .worn) s fun t => FlagSet s t R.EMB_FLAGS 4 (R.EMB_EVCNT 4) ∧
      t.jnl = { done with writes := s.jnl.writes + 3, spares := s.jnl.spares - 1 }) ∧
    (s.jnl.spares = 0 → 1024 < s.jnl.usable → Leads (.journalWrite 1 .worn) s fun t => FlagSet s t R.EMB_FLAGS 5 (R.EMB_EVCNT 5) ∧
      t.jnl = { done with writes := 0, worn := s.jnl.worn + cdiv (s.jnl.writes + 3) s.jnl.usable, usable := s.jnl.usable - 1 } ∧
      t.fld R.TNG_CAP F.TNG_CAP_capacity = min 65536 (64 * (s.jnl.usable - 513))) ∧
    (s.jnl.spares = 0 → s.jnl.usable ≤ 1024 → Leads (.journalWrite 1 .worn) s fun t => t.jnl.enabled = false ∧ t.jnl.backlog = [] ∧
      FlagSet s t R.EMB_FLAGS 6 (R.EMB_EVCNT 6) ∧ t.fld R.TNG_CAP F.TNG_CAP_capacity = 65536)) ∧
  (∀ s : State, (s.checkpointDue = false → exec .ackCheckpoint s = .next s) ∧
    (s.checkpointDue = true →
      ((∀ q, q < 64 → s.ackSeen q = s.rd (R.HST_Q_ACK q)) → exec .ackCheckpoint s = .next { s with hst := { s.hst with ackTick := s.ticks } }) ∧
      (∀ q, q < 64 → s.jnl.enabled = true → s.jnl.waiting = [] → s.jnl.room = true → s.ackSeen q ≠ s.rd (R.HST_Q_ACK q) →
        (∀ p, p < 64 → p ≠ q → s.ackSeen p = s.rd (R.HST_Q_ACK p)) →
        exec .ackCheckpoint s = .next { s with
          hst := { s.hst with ackTick := s.ticks, ackSeen := sput (fun _ => 0) s.hst.ackSeen q (s.rd (R.HST_Q_ACK q)) }
          jnl := { s.jnl with backlog := s.jnl.backlog ++ [.ack q (s.rd (R.HST_Q_ACK q))] } })))

/-! ### The machine -/

/-- A step takes the command at the front of the queue and is its execution on the state with the queue's rest. On an empty queue, by the
model's choice (log 2), one CLK_TIME tick passes: link time advances by one tick unless the device is in OFF or POR_N is asserted,
and RESET ends with it once its sequence may (R394). -/
def Obligations.StepTakesTheFrontCommand : Prop :=
  (∀ (s : State) (c : Instr) (rest : List Instr), s.pending = c :: rest → step s = exec c { s with pending := rest }) ∧
  (∀ s : State, s.pending = [] → (s.blw.state = .off ∨ s.blw.porAsserted = true) → step s = .next s) ∧
  (∀ s : State, s.pending = [] → s.blw.state ≠ .off → s.blw.porAsserted = false → ∃ t, step s = .next t ∧ t.ticks = s.ticks + 1 ∧
    t.pending = [] ∧ (s.blw.state = .reset → t.blw.state = if s.coolEnough then .boot else .reset) ∧
    (s.blw.state ≠ .reset → devFault s.blw.state t.blw.state = true))

/-- The machine right after reset (R6, R11, R25, R393, R394, and the register tables of the spec): RESET with POR_N asserted, every
register at the value of its table, nothing in any queue, store or memory, the cores in reset, the security root unprovisioned; and it has
the form that every step keeps. What the tables leave open, and the fuses of a new part, are the model's choices (log 9). -/
def Obligations.ResetLeavesTheMachineAtItsValues : Prop :=
  let s := State.reset
  s.blw.state = .reset ∧ s.blw.porAsserted = true ∧ s.pending = [] ∧ s.out = [] ∧ s.ticks = 0 ∧ s.canonical = true ∧
    (∀ k, s.rd k = regReset k) ∧ s.fld R.TNG_CFG F.TNG_CFG_commit = 20 ∧ s.fld R.BLM_OUT F.BLM_OUT_drain_us = 100 ∧
    s.rd R.BLM_OPEN_WM = 196608 ∧ s.fld R.ANV_KSET_LIMIT F.ANV_KSET_LIMIT_max_bundles = 16 ∧ s.rd R.BLM_MIN_AREA = 1 ∧
    s.rd (R.TNG_CH_WIDTH 1023) = 1000 ∧ s.fld R.BLM_CROP_MAX F.BLM_CROP_MAX_max_kwords = 256 ∧
    (∀ n, s.core n = {}) ∧ (∀ q, (s.queue q).slots = []) ∧ s.buffers = [] ∧ s.tng.marks = [] ∧ s.cmp.streams = [] ∧ s.blm.fifo = [] ∧
    s.sti.ivals = [] ∧ s.anv.lines = [] ∧ s.int.eligible = [] ∧ s.rcp.loaded = false ∧ s.tim.state = .unset ∧
    (∀ a, Memory.read s.hrt.bytes a = 0) ∧ (∀ l, (s.camLink l).state = .down)

/-- Every step keeps the canonical form of the register store and of every memory (R5, R6, R297): the entries rise strictly and none
lists what an unlisted one reads as, so that equal contents are equal data. -/
def Obligations.EveryStepKeepsTheCanonicalForm : Prop :=
  ∀ s t : State, s.canonical = true → step s = .next t → t.canonical = true

/-- From every state every command answers a next state, and every step takes its command from the queue, adds to what has left the
device, keeps the grade and every blown fuse (R417), and changes the device state only along the edges of R25, with FAULT entered from
every state in which the device runs (the model's reading, log 80). -/
def Obligations.EveryStepFollowsTheDeviceStates : Prop :=
  (∀ (i : Instr) (s : State), ∃ t, exec i s = .next t) ∧
  (∀ s : State, ∃ t, step s = .next t ∧ t.pending = s.pending.tail ∧ s.out <:+ t.out ∧ t.grade = s.grade ∧
    s.sec.fuses.within t.sec.fuses = true ∧ devEdge s.blw.state t.blw.state = true)
end

