-- ==== Sys2Proof/Laws/Sparse.lean ====
section
/-! SUPPORT. The laws of the sparse store: what a write leaves at every key, and that every operation keeps the canonical
form. -/

set_option Elab.async false
namespace Sys2Proof.Machine

variable {β : Type} [DecidableEq β] {d : Nat → β} {m : List (Nat × β)} {lo j k : Nat} {v : β}

/-- A canonical tail starts above its head: an absent key below the bound reads as the default. -/
theorem sget_below (h : swfFrom d lo m = true) (hk : k < lo) : sget d m k = d k := by
  induction m generalizing lo with
  | nil => rfl
  | cons p m ih =>
    obtain ⟨j, w⟩ := p
    simp only [swfFrom, Bool.and_eq_true, decide_eq_true_eq] at h
    have hj : k ≠ j := by omega
    simp only [sget, hj, ↓reduceIte]
    exact ih h.2 (by omega)

/-- A lower bound may be lowered. -/
theorem swfFrom_mono {lo' : Nat} (h : swfFrom d lo m = true) (hl : lo' ≤ lo) : swfFrom d lo' m = true := by
  cases m with
  | nil => rfl
  | cons p m =>
    obtain ⟨j, w⟩ := p
    simp only [swfFrom, Bool.and_eq_true, decide_eq_true_eq] at h ⊢
    exact ⟨⟨by omega, h.1.2⟩, h.2⟩

/-- Erasing a key keeps the canonical form above a bound. -/
theorem swfFrom_serase (h : swfFrom d lo m = true) : swfFrom d lo (serase m k) = true := by
  induction m generalizing lo with
  | nil => rfl
  | cons p m ih =>
    obtain ⟨j, w⟩ := p
    simp only [swfFrom, Bool.and_eq_true, decide_eq_true_eq] at h
    simp only [serase]
    split
    · exact swfFrom_mono (ih h.2) (by omega)
    · simp only [swfFrom, Bool.and_eq_true, decide_eq_true_eq]
      exact ⟨h.1, ih h.2⟩

/-- A write of the default erases. -/
theorem sput_default (hv : v = d k) : sput d m k v = serase m k := by
  cases m with
  | nil => simp [sput, serase, hv]
  | cons p m => simp [sput, hv]

/-- A write of another value to a store with entries. -/
theorem sput_cons {w : β} (hv : v ≠ d k) : sput d ((j, w) :: m) k v =
    if k < j then (k, v) :: (j, w) :: m else if k = j then (k, v) :: m else (j, w) :: sput d m k v := by
  simp [sput, hv]

/-- A write keeps the canonical form above a bound. -/
theorem swfFrom_sput (h : swfFrom d lo m = true) (hk : lo ≤ k) : swfFrom d lo (sput d m k v) = true := by
  by_cases hv : v = d k
  · rw [sput_default hv]; exact swfFrom_serase h
  · induction m generalizing lo with
    | nil => simp [sput, swfFrom, hv, hk]
    | cons p m ih =>
      obtain ⟨j, w⟩ := p
      simp only [swfFrom, Bool.and_eq_true, decide_eq_true_eq] at h
      rw [sput_cons hv]
      split
      · simp only [swfFrom, Bool.and_eq_true, decide_eq_true_eq]
        exact ⟨⟨hk, hv⟩, ⟨by omega, h.1.2⟩, h.2⟩
      · split
        · rename_i hkj
          simp only [swfFrom, Bool.and_eq_true, decide_eq_true_eq]
          subst hkj
          exact ⟨⟨hk, hv⟩, h.2⟩
        · simp only [swfFrom, Bool.and_eq_true, decide_eq_true_eq]
          exact ⟨h.1, ih h.2 (by omega)⟩

/-- A write keeps the canonical form. -/
theorem swf_sput (h : swf d m = true) : swf d (sput d m k v) = true := swfFrom_sput h (Nat.zero_le _)

/-- Filtering keeps the canonical form. -/
theorem swfFrom_skeep {p : Nat → Bool} (h : swfFrom d lo m = true) : swfFrom d lo (skeep p m) = true := by
  induction m generalizing lo with
  | nil => rfl
  | cons q m ih =>
    obtain ⟨j, w⟩ := q
    simp only [swfFrom, Bool.and_eq_true, decide_eq_true_eq] at h
    simp only [skeep]
    split
    · simp only [swfFrom, Bool.and_eq_true, decide_eq_true_eq]
      exact ⟨h.1, ih h.2⟩
    · exact swfFrom_mono (ih h.2) (by omega)

/-- Filtering keeps the canonical form. -/
theorem swf_skeep {p : Nat → Bool} (h : swf d m = true) : swf d (skeep p m) = true := swfFrom_skeep h

omit [DecidableEq β] in
/-- What a filtered store holds: the old value at an accepted key, the default at any other. -/
theorem sget_skeep (p : Nat → Bool) : sget d (skeep p m) k = if p k then sget d m k else d k := by
  induction m with
  | nil => simp [skeep, sget]
  | cons q m ih =>
    obtain ⟨j, w⟩ := q
    by_cases hkj : k = j
    · subst hkj
      by_cases hp : p k = true
      · simp [skeep, sget, hp]
      · simp only [skeep, hp, Bool.false_eq_true, ↓reduceIte]
        rw [ih]; simp [hp]
    · by_cases hp : p j = true
      · simp only [skeep, hp, ↓reduceIte, sget, hkj]; exact ih
      · simp only [skeep, hp, Bool.false_eq_true, ↓reduceIte, sget, hkj]; exact ih

omit [DecidableEq β] in
/-- What a store without a key holds. -/
theorem sget_serase : sget d (serase m k) j = if j = k then d k else sget d m j := by
  induction m with
  | nil => by_cases h : j = k <;> simp [serase, sget, h]
  | cons q m ih =>
    obtain ⟨i, w⟩ := q
    simp only [serase]
    split
    · subst k
      rw [ih]
      by_cases hj : j = i <;> simp [sget, hj]
    · rename_i hki
      simp only [sget, ih]
      by_cases hj : j = i
      · subst j
        have : i ≠ k := fun h => hki h.symm
        simp [this]
      · simp [hj]

/-- A write is read back, and every other key keeps its value. -/
theorem sget_sput : sget d (sput d m k v) j = if j = k then v else sget d m j := by
  by_cases hv : v = d k
  · rw [sput_default hv, sget_serase, hv]
  · induction m with
    | nil => simp [sput, hv, sget]
    | cons q m ih =>
      obtain ⟨i, w⟩ := q
      rw [sput_cons hv]
      split
      · simp [sget]
      · split
        · subst k
          by_cases hj : j = i <;> simp [sget, hj]
        · rename_i hki
          simp only [sget, ih]
          by_cases hj : j = i
          · subst j
            have : i ≠ k := fun h => hki h.symm
            simp [this]
          · simp [hj]

/-- A value written is read back. -/
@[simp] theorem sget_sput_same : sget d (sput d m k v) k = v := by simp [sget_sput]

/-- A write leaves every other key alone. -/
theorem sget_sput_other (hj : j ≠ k) : sget d (sput d m k v) j = sget d m j := by simp [sget_sput, hj]

/-- Successive writes keep the canonical form. -/
theorem swf_sputs {vs : List β} (h : swf d m = true) : swf d (sputs d m k vs) = true := by
  induction vs generalizing m k with
  | nil => exact h
  | cons v vs ih => exact ih (swf_sput h)

/-! ### Memories of bytes -/

variable {b : BitVec 8} {bs : List (BitVec 8)} {mem : List (Nat × BitVec 8)} {a n : Nat}

/-- Writing a byte keeps a memory's canonical form. -/
theorem Memory.wf_write (h : Memory.wf mem = true) : Memory.wf (Memory.write mem a b) = true := swf_sput h

/-- Writing bytes keeps a memory's canonical form. -/
theorem Memory.wf_writes (h : Memory.wf mem = true) : Memory.wf (Memory.writes mem a bs) = true := by
  induction bs generalizing mem a with
  | nil => exact h
  | cons b bs ih => exact ih (Memory.wf_write h)

/-- Dropping keys keeps a memory's canonical form. -/
theorem Memory.wf_skeep {p : Nat → Bool} (h : Memory.wf mem = true) : Memory.wf (skeep p mem) = true := swf_skeep h

/-- A fold of byte writes keeps a memory's canonical form. -/
theorem Memory.wf_foldl {α : Type} {l : List α} {at' : α → Nat} {val : α → BitVec 8} (h : Memory.wf mem = true) :
    Memory.wf (l.foldl (fun m p => Memory.write m (at' p) (val p)) mem) = true := by
  induction l generalizing mem with
  | nil => exact h
  | cons p l ih => exact ih (Memory.wf_write h)

/-- The byte written is read back, every other byte is as before. -/
theorem Memory.read_write : Memory.read (Memory.write mem a b) n = if n = a then b else Memory.read mem n := sget_sput

/-- Bytes below the written ones are as before. -/
theorem Memory.read_writes_below (hn : n < a) : Memory.read (Memory.writes mem a bs) n = Memory.read mem n := by
  induction bs generalizing mem a with
  | nil => rfl
  | cons b bs ih =>
    rw [Memory.writes, ih (by omega), Memory.read_write, if_neg (by omega)]

/-- Bytes above the written ones are as before. -/
theorem Memory.read_writes_above (hn : a + bs.length ≤ n) : Memory.read (Memory.writes mem a bs) n = Memory.read mem n := by
  induction bs generalizing mem a with
  | nil => rfl
  | cons b bs ih =>
    simp only [List.length_cons] at hn
    rw [Memory.writes, ih (by omega), Memory.read_write, if_neg (by omega)]

/-- Bytes written in a row are read back in a row. -/
theorem Memory.reads_writes : Memory.reads (Memory.writes mem a bs) a bs.length = bs := by
  induction bs generalizing mem a with
  | nil => rfl
  | cons b bs ih =>
    simp only [Memory.writes, List.length_cons, Memory.reads]
    rw [ih, Memory.read_writes_below (by omega), Memory.read_write, if_pos rfl]

end Sys2Proof.Machine
end

