-- ==== Sys2Proof/Laws/Kept.lean ====
section
/-! SUPPORT. What no operation of the model ever does: `Held s t` says that `t` has the queue and the grade of `s`, has taken
back nothing that left the device, no open value and no fuse, and is canonical where `s` is; `Kept s t` says besides that the
device state is the same or has gone to FAULT. One lemma per operation, `<operation>_kept`, in the files Kept*.lean. -/

set_option Elab.async false
namespace Sys2Proof.Machine

/-- See the file's head. -/
structure Held (s t : State) : Prop where
  queue : t.pending = s.pending
  grade : t.grade = s.grade
  out : s.out <:+ t.out
  free : s.free ≤ t.free
  fuses : s.sec.fuses.within t.sec.fuses = true
  regs : swf regReset s.regs = true → swf regReset t.regs = true
  hbm : Memory.wf s.hrt.bytes = true → Memory.wf t.hrt.bytes = true
  shared : Memory.wf s.wck.shared = true → Memory.wf t.wck.shared = true
  cores : coresWf s.wck.cores = true → coresWf t.wck.cores = true

/-- See the file's head. -/
structure Kept (s t : State) : Prop extends Held s t where
  dev : devFault s.blw.state t.blw.state = true

theorem Fuses.within_refl (a : Fuses) : a.within a = true := by
  simp only [Fuses.within, Bool.and_eq_true, decide_eq_true_eq, Nat.le_refl, beq_self_eq_true, Bool.or_true,
    and_true]
  cases a.slotDead <;> cases a.debugDisabled <;> decide

theorem Fuses.within_trans {a b c : Fuses} (h : a.within b = true) (h' : b.within c = true) : a.within c = true := by
  simp only [Fuses.within, Bool.and_eq_true, Bool.or_eq_true, Bool.not_eq_eq_eq_not, Bool.not_true, decide_eq_true_eq,
    beq_iff_eq] at *
  obtain ⟨⟨⟨⟨h1, h2⟩, h3⟩, h4⟩, h5⟩ := h
  obtain ⟨⟨⟨⟨g1, g2⟩, g3⟩, g4⟩, g5⟩ := h'
  refine ⟨⟨⟨⟨?_, ?_⟩, ?_⟩, by omega⟩, by omega⟩
  · rcases h1 with h1 | h1
    · exact .inl h1
    · rcases g1 with g1 | g1
      · rw [h1] at g1; exact .inl g1
      · rw [g1, h1]; exact .inr rfl
  · rcases h2 with h2 | h2
    · exact .inl h2
    · rcases g2 with g2 | g2
      · rw [h2] at g2; cases g2
      · exact .inr g2
  · rcases h3 with h3 | h3
    · exact .inl h3
    · rcases g3 with g3 | g3
      · rw [h3] at g3; cases g3
      · exact .inr g3

theorem devFault_refl (a : DevState) : devFault a a = true := by cases a <;> rfl
theorem devFault_trans {a b c : DevState} (h : devFault a b = true) (h' : devFault b c = true) : devFault a c = true := by
  cases a <;> cases b <;> cases c <;> first | rfl | exact absurd h (by decide) | exact absurd h' (by decide)

theorem Held.refl (s : State) : Held s s :=
  ⟨rfl, rfl, List.suffix_refl _, Nat.le_refl _, Fuses.within_refl _, id, id, id, id⟩
theorem Held.trans {s t u : State} (h : Held s t) (h' : Held t u) : Held s u :=
  ⟨h'.queue.trans h.queue, h'.grade.trans h.grade, h.out.trans h'.out, Nat.le_trans h.free h'.free,
   Fuses.within_trans h.fuses h'.fuses, h'.regs ∘ h.regs, h'.hbm ∘ h.hbm, h'.shared ∘ h.shared, h'.cores ∘ h.cores⟩
theorem Kept.refl (s : State) : Kept s s := ⟨Held.refl s, devFault_refl _⟩
theorem Kept.trans {s t u : State} (h : Kept s t) (h' : Kept t u) : Kept s u :=
  ⟨h.toHeld.trans h'.toHeld, devFault_trans h.dev h'.dev⟩

/-- Held states keep the canonical form. -/
theorem Held.canonical {s t : State} (h : Held s t) (hs : s.canonical = true) : t.canonical = true := by
  simp only [State.canonical, Bool.and_eq_true] at *
  exact ⟨⟨⟨h.regs hs.1.1.1, h.hbm hs.1.1.2⟩, h.shared hs.1.2⟩, h.cores hs.2⟩

theorem Held.ite {s a b : State} {c : Prop} [Decidable c] (h : c → Held s a) (h' : ¬c → Held s b) : Held s (if c then a else b) := by
  split
  · exact h ‹_›
  · exact h' ‹_›
theorem Kept.ite {s a b : State} {c : Prop} [Decidable c] (h : c → Kept s a) (h' : ¬c → Kept s b) : Kept s (if c then a else b) := by
  split
  · exact h ‹_›
  · exact h' ‹_›

/-- A record update that leaves what is tracked alone, or changes it as `Kept` allows. -/
theorem Kept.upd {s0 s : State} {out ticks free regs blw evt hst hrt jnl wck tim tmp sec pos lan int cor sti anv blm tng ost
      heldOst cmp rcp fed rcv} (h : Kept s0 s)
    (ho : s.out <:+ out := by first | exact List.suffix_refl _ | exact List.suffix_cons _ _)
    (hf : s.free ≤ free := by first | exact Nat.le_refl _ | exact Nat.le_succ _)
    (hs : s.sec.fuses.within sec.fuses = true := by exact Fuses.within_refl _)
    (hr : swf regReset s.regs = true → swf regReset regs = true := by exact fun h => h)
    (hh : Memory.wf s.hrt.bytes = true → Memory.wf hrt.bytes = true := by
      first | with_reducible exact Memory.wf_writes | with_reducible exact Memory.wf_skeep | exact fun h => h)
    (hw : Memory.wf s.wck.shared = true → Memory.wf wck.shared = true := by
      first | with_reducible exact Memory.wf_writes | exact fun h => h)
    (hc : coresWf s.wck.cores = true → coresWf wck.cores = true := by exact fun h => h)
    (hb : blw.state = s.blw.state := by first | (dsimp only; done) | rfl) :
    Kept s0 { pending := s.pending, out := out, ticks := ticks, free := free, grade := s.grade, regs := regs, blw := blw,
              evt := evt, hst := hst, hrt := hrt, jnl := jnl, wck := wck, tim := tim, tmp := tmp, sec := sec, pos := pos,
              lan := lan, int := int, cor := cor, sti := sti, anv := anv, blm := blm, tng := tng, ost := ost,
              heldOst := heldOst, cmp := cmp, rcp := rcp, fed := fed, rcv := rcv } :=
  h.trans ⟨⟨rfl, rfl, ho, hf, hs, hr, hh, hw, hc⟩, by rw [hb]; exact devFault_refl _⟩

/-- A record update that leaves what `Held` tracks alone. -/
theorem Held.upd {s0 s : State} {out ticks free regs blw evt hst hrt jnl wck tim tmp sec pos lan int cor sti anv blm tng ost
      heldOst cmp rcp fed rcv} (h : Held s0 s)
    (ho : s.out <:+ out := by first | exact List.suffix_refl _ | exact List.suffix_cons _ _)
    (hf : s.free ≤ free := by first | exact Nat.le_refl _ | exact Nat.le_succ _)
    (hs : s.sec.fuses.within sec.fuses = true := by exact Fuses.within_refl _)
    (hr : swf regReset s.regs = true → swf regReset regs = true := by exact fun h => h)
    (hh : Memory.wf s.hrt.bytes = true → Memory.wf hrt.bytes = true := by
      first | with_reducible exact Memory.wf_writes | with_reducible exact Memory.wf_skeep | exact fun h => h)
    (hw : Memory.wf s.wck.shared = true → Memory.wf wck.shared = true := by
      first | with_reducible exact Memory.wf_writes | exact fun h => h)
    (hc : coresWf s.wck.cores = true → coresWf wck.cores = true := by exact fun h => h) :
    Held s0 { pending := s.pending, out := out, ticks := ticks, free := free, grade := s.grade, regs := regs, blw := blw,
              evt := evt, hst := hst, hrt := hrt, jnl := jnl, wck := wck, tim := tim, tmp := tmp, sec := sec, pos := pos,
              lan := lan, int := int, cor := cor, sti := sti, anv := anv, blm := blm, tng := tng, ost := ost,
              heldOst := heldOst, cmp := cmp, rcp := rcp, fed := fed, rcv := rcv } :=
  h.trans ⟨rfl, rfl, ho, hf, hs, hr, hh, hw, hc⟩

/-- A fold of held changes. -/
theorem Held.foldl {α : Type} {f : State → α → State} (hf : ∀ s a, Held s (f s a)) (l : List α) (s : State) :
    Held s (l.foldl f s) := by
  induction l generalizing s with
  | nil => exact Held.refl s
  | cons a l ih => exact (hf s a).trans (ih _)

/-- A counted fold of held changes. -/
theorem upTo_held {n : Nat} {f : Nat → State → State} {s : State} (hf : ∀ i s, Held s (f i s)) : Held s (upTo n f s) :=
  Held.foldl (fun s i => hf i s) _ _

/-- A fold of kept changes. -/
theorem Kept.foldl {α : Type} {f : State → α → State} (hf : ∀ s a, Kept s (f s a)) (l : List α) (s : State) :
    Kept s (l.foldl f s) := by
  induction l generalizing s with
  | nil => exact Kept.refl s
  | cons a l ih => exact (hf s a).trans (ih _)

/-- A counted fold of kept changes. -/
theorem upTo_kept {n : Nat} {f : Nat → State → State} {s : State} (hf : ∀ i s, Kept s (f i s)) : Kept s (upTo n f s) :=
  Kept.foldl (fun s i => hf i s) _ _

/-! ### A register's own effect -/

theorem Held.onReg {s : State} {base stride n k : Nat} {f : Nat → State} {rest : State} (hf : ∀ i, Held s (f i))
    (hr : Held s rest) : Held s (Machine.onReg base stride n k f rest) := by
  unfold Machine.onReg; split
  · exact hf _
  · exact hr
theorem Held.onRegSnd {α : Type} {s : State} {base stride n k : Nat} {f : Nat → α × State} {rest : α × State}
    (hf : ∀ i, Held s (f i).2) (hr : Held s rest.2) : Held s (Machine.onReg base stride n k f rest).2 := by
  unfold Machine.onReg; split
  · exact hf _
  · exact hr
theorem Held.onOne {s : State} {key k : Nat} {f rest : State} (hf : Held s f) (hr : Held s rest) :
    Held s (Machine.onOne key k f rest) := by
  unfold Machine.onOne; split
  · exact hf
  · exact hr
theorem Held.onOneSnd {α : Type} {s : State} {key k : Nat} {f rest : α × State} (hf : Held s f.2) (hr : Held s rest.2) :
    Held s (Machine.onOne key k f rest).2 := by
  unfold Machine.onOne; split
  · exact hf
  · exact hr
theorem Kept.onReg {s : State} {base stride n k : Nat} {f : Nat → State} {rest : State} (hf : ∀ i, Kept s (f i))
    (hr : Kept s rest) : Kept s (Machine.onReg base stride n k f rest) := by
  unfold Machine.onReg; split
  · exact hf _
  · exact hr
theorem Kept.onRegSnd {α : Type} {s : State} {base stride n k : Nat} {f : Nat → α × State} {rest : α × State}
    (hf : ∀ i, Kept s (f i).2) (hr : Kept s rest.2) : Kept s (Machine.onReg base stride n k f rest).2 := by
  unfold Machine.onReg; split
  · exact hf _
  · exact hr
theorem Kept.onOne {s : State} {key k : Nat} {f rest : State} (hf : Kept s f) (hr : Kept s rest) :
    Kept s (Machine.onOne key k f rest) := by
  unfold Machine.onOne; split
  · exact hf
  · exact hr
theorem Kept.onOneSnd {α : Type} {s : State} {key k : Nat} {f rest : α × State} (hf : Kept s f.2) (hr : Kept s rest.2) :
    Kept s (Machine.onOne key k f rest).2 := by
  unfold Machine.onOne; split
  · exact hf
  · exact hr

/-! ### Registers -/

theorem State.wr_kept {s : State} {k : Nat} {v : BitVec 32} : Kept s (s.wr k v) := (Kept.refl s).upd (hr := swf_sput)

/-! ### Cores -/

theorem coresWf_sget {l : List (Nat × WickCore)} (h : coresWf l = true) (n : Nat) :
    Memory.wf (sget (fun _ => ({} : WickCore)) l n).mem = true := by
  induction l with
  | nil => rfl
  | cons p l ih =>
    simp only [coresWf, List.all_cons, Bool.and_eq_true] at h
    simp only [sget]
    split
    · exact h.1
    · exact ih h.2

theorem coresWf_sput {l : List (Nat × WickCore)} {n : Nat} {c : WickCore} (h : coresWf l = true)
    (hc : Memory.wf c.mem = true) : coresWf (sput (fun _ => ({} : WickCore)) l n c) = true := by
  have cons : ∀ {p : Nat × WickCore} {l}, coresWf (p :: l) = true ↔ Memory.wf p.2.mem = true ∧ coresWf l = true := by
    intro p l; simp [coresWf]
  have erase : ∀ l, coresWf l = true → coresWf (serase l n) = true := by
    intro l h
    induction l with
    | nil => rfl
    | cons p l ih =>
      rw [cons] at h
      simp only [serase]
      split
      · exact ih h.2
      · exact cons.2 ⟨h.1, ih h.2⟩
  by_cases hv : c = {}
  · rw [sput_default hv]; exact erase _ h
  · induction l with
    | nil => simp only [sput]; rw [if_neg hv]; exact cons.2 ⟨hc, rfl⟩
    | cons p l ih =>
      have h' := h
      rw [cons] at h
      rw [sput_cons hv]
      split
      · exact cons.2 ⟨hc, h'⟩
      · split
        · exact cons.2 ⟨hc, h.2⟩
        · exact cons.2 ⟨h.1, ih h.2⟩

theorem State.core_wf {s : State} (h : coresWf s.wck.cores = true) (n : Nat) : Memory.wf (s.core n).mem = true :=
  coresWf_sget h n

/-! ### The cores' own updates leave local memory alone -/

@[simp] theorem WickCore.setG_mem (c : WickCore) (r : Nat) (v : Word64) : (c.setG r v).mem = c.mem := by
  unfold WickCore.setG; split <;> rfl
@[simp] theorem WickCore.setS_mem (c : WickCore) (r : Nat) (v : Word) : (c.setS r v).mem = c.mem := rfl
@[simp] theorem WickCore.setTag_mem (c : WickCore) (t : Nat) (x : Tag) : (c.setTag t x).mem = c.mem := rfl

/-- A core replaced by one whose local memory is the old one, or canonical where all memories are. -/
theorem State.setCore_kept {s : State} {n : Nat} {c : WickCore}
    (hc : coresWf s.wck.cores = true → Memory.wf c.mem = true := by
      first
      | exact fun h => State.core_wf h _
      | exact fun h => Memory.wf_write (State.core_wf h _)
      | exact fun h => Memory.wf_writes (State.core_wf h _)
      | exact fun h => by simpa using State.core_wf h _) : Kept s (s.setCore n c) :=
  (Kept.refl s).upd (hc := fun h => coresWf_sput h (hc h))

end Sys2Proof.Machine
end

