-- ==== Sys2Proof/Laws/KeptShared.lean ====
section
/-! SUPPORT. What each operation keeps (`Kept`, `Held`): the shared operations, trigger outputs, Hearth, line intake and the journal. -/

set_option Elab.async false
namespace Sys2Proof.Machine

/-! ### Machine/Ops.lean -/

theorem State.setFld_kept {s : State} {k : Nat} {f : Field} {n : Nat} : Kept s (s.setFld k f n) := by
  unfold State.setFld
  exact State.wr_kept

theorem State.plainWrite_kept {s : State} {k : Nat} {v : BitVec 32} : Kept s (s.plainWrite k v) := by
  unfold State.plainWrite
  exact State.wr_kept

theorem State.bumpBy_kept {s : State} {k n : Nat} : Kept s (s.bumpBy k n) := by
  unfold State.bumpBy
  exact State.wr_kept

theorem State.bump_kept {s : State} {k : Nat} : Kept s (s.bump k) := by
  unfold State.bump
  exact State.bumpBy_kept

theorem State.highWater_kept {s : State} {k : Nat} {f : Field} {n : Nat} : Kept s (s.highWater k f n) := by
  unfold State.highWater
  refine Kept.ite (fun _ => ?_) (fun _ => ?_)
  · exact State.setFld_kept
  · exact Kept.refl _

theorem State.emit_kept {s : State} {o : Out} : Kept s (s.emit o) := by
  unfold State.emit
  refine Kept.upd ?_
  exact Kept.refl _

theorem State.fresh_kept {s : State} : Kept s (s.fresh).2 := by
  unfold State.fresh
  dsimp only
  refine Kept.upd ?_
  exact Kept.refl _
theorem State.fresh_eq {s : State} {v t} (he : s.fresh = (v, t)) :
    Kept s t := by
  have h := State.fresh_kept (s := s)
  rw [he] at h; exact h

theorem State.orFresh_kept {s : State} {x1 : Option Nat} : Kept s (s.orFresh x1).2 := by
  unfold State.orFresh
  split
  · dsimp only
    exact Kept.refl _
  · exact State.fresh_kept
theorem State.orFresh_eq {s : State} {x1 : Option Nat} {v t} (he : s.orFresh x1 = (v, t)) :
    Kept s t := by
  have h := State.orFresh_kept (s := s) (x1 := x1)
  rw [he] at h; exact h

theorem State.enter_held {s : State} {d : DevState} : Held s (s.enter d) := by
  unfold State.enter
  refine Held.trans ?_ State.setFld_kept.toHeld
  exact (Held.refl s).upd
theorem State.enter_kept {s : State} {d : DevState} (h : devFault s.blw.state d = true) : Kept s (s.enter d) := ⟨State.enter_held, h⟩

theorem State.setGate_kept {s : State} {g : Nat} {x : Gate} : Kept s (s.setGate g x) := by
  unfold State.setGate
  refine Kept.upd ?_
  exact Kept.refl _

theorem State.startWake_kept {s : State} {cause : Nat} : Kept s (s.startWake cause) := by
  unfold State.startWake
  refine Kept.ite (fun _ => ?_) (fun _ => ?_)
  · dsimp only
    refine Kept.trans ?_ State.setFld_kept
    refine Kept.trans ?_ State.setFld_kept
    refine Kept.upd ?_
    exact Kept.refl _
  · exact Kept.refl _

theorem State.wakeOn_kept {s : State} {src : Nat} : Kept s (s.wakeOn src) := by
  unfold State.wakeOn
  refine Kept.ite (fun _ => ?_) (fun _ => ?_)
  · refine Kept.ite (fun _ => ?_) (fun _ => ?_)
    · exact State.startWake_kept
    · exact Kept.refl _
  · exact State.startWake_kept

theorem State.raise_kept {s : State} {src : Nat} : Kept s (s.raise src) := by
  unfold State.raise
  refine Kept.ite (fun _ => ?_) (fun _ => ?_)
  · dsimp only
    refine Kept.trans ?_ State.wakeOn_kept
    refine Kept.trans ?_ State.setGate_kept
    refine Kept.trans ?_ State.setFld_kept
    refine Kept.trans ?_ State.setFld_kept
    refine Kept.trans ?_ State.bump_kept
    exact State.setFld_kept
  · exact Kept.refl _

theorem State.setFlag_kept {s : State} {flags bit counter : Nat} : Kept s (s.setFlag flags bit counter) := by
  unfold State.setFlag
  refine Kept.trans ?_ State.bump_kept
  exact State.wr_kept

theorem State.flagRaise_kept {s : State} {flags bit counter src : Nat} : Kept s (s.flagRaise flags bit counter src) := by
  unfold State.flagRaise
  refine Kept.trans ?_ State.raise_kept
  exact State.setFlag_kept

theorem State.blwFlag_kept {s : State} {b : Nat} : Kept s (s.blwFlag b) := by
  unfold State.blwFlag
  exact State.flagRaise_kept

theorem State.hstFlag_kept {s : State} {b : Nat} : Kept s (s.hstFlag b) := by
  unfold State.hstFlag
  exact State.flagRaise_kept

theorem State.hrtFlag_kept {s : State} {b : Nat} : Kept s (s.hrtFlag b) := by
  unfold State.hrtFlag
  dsimp only
  split
  · refine Kept.trans ?_ State.raise_kept
    exact State.setFlag_kept
  · refine Kept.trans ?_ State.raise_kept
    exact State.setFlag_kept
  · refine Kept.trans ?_ State.raise_kept
    exact State.setFlag_kept
  · refine Kept.trans ?_ State.raise_kept
    exact State.setFlag_kept
  · refine Kept.trans ?_ State.raise_kept
    exact State.setFlag_kept
  · refine Kept.trans ?_ State.raise_kept
    exact State.setFlag_kept
  · refine Kept.trans ?_ State.raise_kept
    exact State.setFlag_kept
  · exact State.setFlag_kept

theorem State.embFlag_kept {s : State} {b : Nat} : Kept s (s.embFlag b) := by
  unfold State.embFlag
  dsimp only
  split
  · refine Kept.trans ?_ State.raise_kept
    exact State.setFlag_kept
  · refine Kept.trans ?_ State.raise_kept
    exact State.setFlag_kept
  · refine Kept.trans ?_ State.raise_kept
    exact State.setFlag_kept
  · refine Kept.trans ?_ State.raise_kept
    exact State.setFlag_kept
  · refine Kept.trans ?_ State.raise_kept
    exact State.setFlag_kept
  · refine Kept.trans ?_ State.raise_kept
    exact State.setFlag_kept
  · refine Kept.trans ?_ State.raise_kept
    exact State.setFlag_kept
  · refine Kept.trans ?_ State.raise_kept
    exact State.setFlag_kept
  · refine Kept.trans ?_ State.raise_kept
    exact State.setFlag_kept
  · refine Kept.trans ?_ State.raise_kept
    exact State.setFlag_kept
  · exact State.setFlag_kept

theorem State.timFlag_kept {s : State} {b : Nat} : Kept s (s.timFlag b) := by
  unfold State.timFlag
  dsimp only
  split
  · refine Kept.trans ?_ State.raise_kept
    exact State.setFlag_kept
  · refine Kept.trans ?_ State.raise_kept
    exact State.setFlag_kept
  · refine Kept.trans ?_ State.raise_kept
    exact State.setFlag_kept
  · refine Kept.trans ?_ State.raise_kept
    exact State.setFlag_kept
  · refine Kept.trans ?_ State.raise_kept
    exact State.setFlag_kept
  · refine Kept.trans ?_ State.raise_kept
    exact State.setFlag_kept
  · refine Kept.trans ?_ State.raise_kept
    exact State.setFlag_kept
  · refine Kept.trans ?_ State.raise_kept
    exact State.setFlag_kept
  · refine Kept.trans ?_ State.raise_kept
    exact State.setFlag_kept
  · exact State.setFlag_kept

theorem State.tmpFlag_kept {s : State} {b : Nat} : Kept s (s.tmpFlag b) := by
  unfold State.tmpFlag
  exact State.flagRaise_kept

theorem State.secFlag_kept {s : State} {b : Nat} : Kept s (s.secFlag b) := by
  unfold State.secFlag
  exact State.flagRaise_kept

theorem State.wckFlag_kept {s : State} {b : Nat} : Kept s (s.wckFlag b) := by
  unfold State.wckFlag
  exact State.flagRaise_kept

theorem State.hostAccess_held {s : State} {off : Nat} {a : BusAccess} {f : State → State} (hf : ∀ (y0 : State), Held y0 (f y0)) :
    Held s (s.hostAccess off a f) := by
  unfold State.hostAccess
  refine Held.ite (fun _ => ?_) (fun _ => ?_)
  · exact Held.refl _
  · refine Held.ite (fun _ => ?_) (fun _ => ?_)
    · dsimp only
      refine Held.upd ?_
      exact Kept.toHeld State.startWake_kept
    · exact hf _

theorem State.hostAccess_kept {s : State} {off : Nat} {a : BusAccess} {f : State → State} (hf : ∀ (y0 : State), Kept y0 (f y0)) :
    Kept s (s.hostAccess off a f) := by
  unfold State.hostAccess
  refine Kept.ite (fun _ => ?_) (fun _ => ?_)
  · exact Kept.refl _
  · refine Kept.ite (fun _ => ?_) (fun _ => ?_)
    · dsimp only
      refine Kept.upd ?_
      exact State.startWake_kept
    · exact hf _

theorem State.hostWrite_held {s : State} {off : Nat} {v : BitVec 32} {f : State → State} (hf : ∀ (y0 : State), Held y0 (f y0)) :
    Held s (s.hostWrite off v f) := by
  unfold State.hostWrite
  refine Held.trans ?_ (State.hostAccess_held ?_)
  · exact Held.refl _
  · intro _
    exact hf _

theorem State.hostWrite_kept {s : State} {off : Nat} {v : BitVec 32} {f : State → State} (hf : ∀ (y0 : State), Kept y0 (f y0)) :
    Kept s (s.hostWrite off v f) := by
  unfold State.hostWrite
  refine Kept.trans ?_ (State.hostAccess_kept ?_)
  · exact Kept.refl _
  · intro _
    exact hf _

theorem State.blockDone_kept {s : State} {target : Nat} {index : Nat} {result : Nat} :
    Kept s (State.blockDone s target index result) := by
  unfold State.blockDone
  refine upTo_kept fun n s => upTo_kept fun t s => ?_
  split
  · exact State.setCore_kept
  · exact Kept.refl _

/-! ### Machine/EncPos.lean -/

theorem State.setEnc_kept {s : State} {n : Nat} {e : EncIn} : Kept s (s.setEnc n e) := by
  unfold State.setEnc
  refine Kept.upd ?_
  exact Kept.refl _

/-! ### Machine/TrigPacket.lean -/

theorem State.portFlag_kept {s : State} {p b : Nat} : Kept s (s.portFlag p b) := by
  unfold State.portFlag
  exact State.flagRaise_kept

theorem State.setCamLink_kept {s : State} {l : Nat} {x : Link} : Kept s (s.setCamLink l x) := by
  unfold State.setCamLink
  refine Kept.upd ?_
  exact Kept.refl _

theorem State.setTrigPlaces_kept {s : State} {l now start wait : Nat} : Kept s (s.setTrigPlaces l now start wait) := by
  unfold State.setTrigPlaces
  refine Kept.upd ?_
  exact Kept.refl _

theorem State.trigShift_kept {s : State} {l : Nat} : Kept s (s.trigShift l) := by
  unfold State.trigShift
  dsimp only
  refine Kept.ite (fun _ => ?_) (fun _ => ?_)
  · exact State.setTrigPlaces_kept
  · exact Kept.refl _

theorem State.linkTrigger_kept {s : State} {p l sample : Nat} : Kept s (s.linkTrigger p l sample) := by
  unfold State.linkTrigger
  dsimp only
  refine Kept.ite (fun _ => ?_) (fun _ => ?_)
  · refine Kept.trans ?_ State.setTrigPlaces_kept
    exact State.trigShift_kept
  · refine Kept.ite (fun _ => ?_) (fun _ => ?_)
    · refine Kept.trans ?_ State.setTrigPlaces_kept
      exact State.trigShift_kept
    · refine Kept.trans ?_ State.portFlag_kept
      exact State.trigShift_kept

theorem State.portTrigger_kept {s : State} {p sample : Nat} : Kept s (s.portTrigger p sample) := by
  unfold State.portTrigger
  refine Kept.ite (fun _ => ?_) (fun _ => ?_)
  · exact Kept.refl _
  · dsimp only
    refine Kept.trans ?_ (Kept.foldl (fun _ _ => ?_) _ _)
    · refine Kept.upd ?_
      exact Kept.refl _
    · refine Kept.ite (fun _ => ?_) (fun _ => ?_)
      · exact State.linkTrigger_kept
      · exact Kept.refl _

/-! ### Machine/Queues.lean -/

theorem State.queueFlag_kept {s : State} {q b : Nat} : Kept s (s.queueFlag q b) := by
  unfold State.queueFlag
  dsimp only
  split
  · refine Kept.trans ?_ State.hstFlag_kept
    exact State.setFlag_kept
  · refine Kept.trans ?_ State.hstFlag_kept
    exact State.setFlag_kept
  · refine Kept.trans ?_ State.hstFlag_kept
    exact State.setFlag_kept
  · exact State.setFlag_kept

theorem State.setQueue_kept {s : State} {q : Nat} {x : Queue} : Kept s (s.setQueue q x) := by
  unfold State.setQueue
  dsimp only
  refine Kept.ite (fun _ => ?_) (fun _ => ?_)
  · refine Kept.trans ?_ State.queueFlag_kept
    refine Kept.trans ?_ State.highWater_kept
    refine Kept.trans ?_ State.setFld_kept
    refine Kept.upd ?_
    exact Kept.refl _
  · refine Kept.trans ?_ State.highWater_kept
    refine Kept.trans ?_ State.setFld_kept
    refine Kept.upd ?_
    exact Kept.refl _

theorem State.queueDrop_kept {s : State} {q n : Nat} : Kept s (s.queueDrop q n) := by
  unfold State.queueDrop
  refine Kept.trans ?_ State.queueFlag_kept
  exact State.bumpBy_kept

theorem State.pushPacket_kept {s : State} {q producer : Nat} {words : List Word} : Kept s (s.pushPacket q producer words) := by
  unfold State.pushPacket
  refine Kept.ite (fun _ => ?_) (fun _ => ?_)
  · dsimp only
    exact State.setQueue_kept
  · exact State.queueDrop_kept

theorem State.flushQueue_kept {s : State} {q reason : Nat} : Kept s (s.flushQueue q reason).2 := by
  unfold State.flushQueue
  dsimp only
  exact State.setQueue_kept
theorem State.flushQueue_eq {s : State} {q reason : Nat} {v t} (he : s.flushQueue q reason = (v, t)) :
    Kept s t := by
  have h := State.flushQueue_kept (s := s) (q := q) (reason := reason)
  rw [he] at h; exact h

theorem State.snuffQueue_kept {s : State} {q : Nat} : Kept s (s.snuffQueue q).2 := by
  unfold State.snuffQueue
  split
  dsimp only
  refine Kept.trans ?_ State.queueFlag_kept
  exact (State.flushQueue_eq (by assumption))
theorem State.snuffQueue_eq {s : State} {q : Nat} {v t} (he : s.snuffQueue q = (v, t)) :
    Kept s t := by
  have h := State.snuffQueue_kept (s := s) (q := q)
  rw [he] at h; exact h

theorem State.eccLasting_kept {s : State} {q : Nat} {isLen : Bool} : Kept s (s.eccLasting q isLen) := by
  unfold State.eccLasting
  dsimp only
  refine Kept.trans ?_ State.queueFlag_kept
  refine Kept.ite (fun _ => ?_) (fun _ => ?_)
  · exact State.flushQueue_kept
  · split
    · exact State.setQueue_kept
    · exact Kept.refl _

theorem State.popWord_kept {s : State} {q : Nat} {ecc : EccResult} : Kept s (s.popWord q ecc).2 := by
  unfold State.popWord
  dsimp only
  split
  · split
    · split
      · dsimp only
        refine Kept.trans ?_ State.setQueue_kept
        exact State.eccLasting_kept
      · dsimp only
        exact State.eccLasting_kept
    · dsimp only
      refine Kept.trans ?_ State.setQueue_kept
      refine Kept.ite (fun _ => ?_) (fun _ => ?_)
      · exact Kept.refl _
      · exact State.bump_kept
  · dsimp only
    exact State.setQueue_kept
  · dsimp only
    refine Kept.trans ?_ State.setQueue_kept
    refine Kept.ite (fun _ => ?_) (fun _ => ?_)
    · exact Kept.refl _
    · exact State.bump_kept
  · dsimp only
    exact Kept.refl _
theorem State.popWord_eq {s : State} {q : Nat} {ecc : EccResult} {v t} (he : s.popWord q ecc = (v, t)) :
    Kept s t := by
  have h := State.popWord_kept (s := s) (q := q) (ecc := ecc)
  rw [he] at h; exact h

theorem State.writeQueueCfg_kept {s : State} {q : Nat} {v : BitVec 32} : Kept s (s.writeQueueCfg q v) := by
  unfold State.writeQueueCfg
  dsimp only
  refine Kept.ite (fun _ => ?_) (fun _ => ?_)
  · refine Kept.trans ?_ State.setQueue_kept
    refine Kept.trans ?_ State.setFld_kept
    refine Kept.ite (fun _ => ?_) (fun _ => ?_)
    · exact Kept.refl _
    · exact State.setFld_kept
  · refine Kept.ite (fun _ => ?_) (fun _ => ?_)
    · refine Kept.trans ?_ State.wr_kept
      refine Kept.trans ?_ State.setQueue_kept
      refine Kept.trans ?_ State.setFld_kept
      refine Kept.ite (fun _ => ?_) (fun _ => ?_)
      · exact Kept.refl _
      · exact State.setFld_kept
    · refine Kept.ite (fun _ => ?_) (fun _ => ?_)
      · exact Kept.refl _
      · exact State.setFld_kept

theorem State.hostQueueCfg_kept {s : State} {q : Nat} {v : BitVec 32} : Kept s (s.hostQueueCfg q v) := by
  unfold State.hostQueueCfg
  refine Kept.ite (fun _ => ?_) (fun _ => ?_)
  · exact Kept.refl _
  · exact State.writeQueueCfg_kept

theorem State.writeQueueCtrl_kept {s : State} {q : Nat} {v : BitVec 32} : Kept s (s.writeQueueCtrl q v) := by
  unfold State.writeQueueCtrl
  refine Kept.ite (fun _ => ?_) (fun _ => ?_)
  · exact State.snuffQueue_kept
  · exact Kept.refl _

/-! ### Machine/Trigger.lean -/

theorem State.capture_kept {s : State} {j code tq sample counter : Nat} : Kept s (s.capture j code tq sample counter) := by
  unfold State.capture
  dsimp only
  refine Kept.ite (fun _ => ?_) (fun _ => ?_)
  · refine Kept.trans ?_ State.pushPacket_kept
    refine Kept.upd ?_
    refine Kept.trans ?_ (upTo_kept fun _ _ => ?_)
    · exact Kept.refl _
    · exact State.setEnc_kept
  · refine Kept.trans ?_ State.bump_kept
    refine Kept.upd ?_
    refine Kept.trans ?_ (upTo_kept fun _ _ => ?_)
    · exact Kept.refl _
    · exact State.setEnc_kept

theorem State.latchSource_kept {s : State} {code tq sample counter : Nat} : Kept s (s.latchSource code tq sample counter) := by
  unfold State.latchSource
  refine Kept.trans ?_ (upTo_kept fun _ _ => ?_)
  · exact Kept.refl _
  · refine Kept.ite (fun _ => ?_) (fun _ => ?_)
    · exact State.capture_kept
    · exact Kept.refl _

theorem State.writeLatCmd_kept {s : State} {j : Nat} {v : BitVec 32} : Kept s (s.writeLatCmd j v) := by
  unfold State.writeLatCmd
  refine Kept.ite (fun _ => ?_) (fun _ => ?_)
  · exact State.capture_kept
  · exact Kept.refl _

theorem State.writeLatCfg_kept {s : State} {j : Nat} {v : BitVec 32} : Kept s (s.writeLatCfg j v) := by
  unfold State.writeLatCfg
  refine Kept.ite (fun _ => ?_) (fun _ => ?_)
  · refine Kept.ite (fun _ => ?_) (fun _ => ?_)
    · exact Kept.refl _
    · exact State.setFld_kept
  · exact State.plainWrite_kept

theorem State.setTrig_kept {s : State} {k : Nat} {u : TrigUnit} : Kept s (s.setTrig k u) := by
  unfold State.setTrig
  refine Kept.upd ?_
  exact Kept.refl _

theorem State.trigMove_kept {s : State} {k dist : Nat} : Kept s (s.trigMove k dist) := by
  unfold State.trigMove
  dsimp only
  exact State.setTrig_kept

theorem State.trigSkip_kept {s : State} {k behind : Nat} : Kept s (s.trigSkip k behind) := by
  unfold State.trigSkip
  dsimp only
  refine Kept.trans ?_ State.raise_kept
  refine Kept.trans ?_ State.bumpBy_kept
  refine Kept.trans ?_ State.setFlag_kept
  refine Kept.trans ?_ State.setTrig_kept
  exact State.trigMove_kept

theorem State.trigCheckAt_kept {s : State} {k : Nat} {p : BitVec 72} : Kept s (s.trigCheckAt k p) := by
  unfold State.trigCheckAt
  refine Kept.ite (fun _ => ?_) (fun _ => ?_)
  · dsimp only
    refine Kept.ite (fun _ => ?_) (fun _ => ?_)
    · exact State.trigSkip_kept
    · exact State.setTrig_kept
  · exact Kept.refl _

theorem State.trigCheck_kept {s : State} {k tq sample : Nat} : Kept s (s.trigCheck k tq sample) := by
  unfold State.trigCheck
  exact State.trigCheckAt_kept

theorem State.trigAtEdge_kept {s : State} {n : Nat} {reversal first : Bool} {before : BitVec 72} {tq sample : Nat} :
    Kept s (s.trigAtEdge n reversal first before tq sample) := by
  unfold State.trigAtEdge
  refine Kept.trans ?_ (upTo_kept fun _ _ => ?_)
  · exact Kept.refl _
  · refine Kept.ite (fun _ => ?_) (fun _ => ?_)
    · dsimp only
      refine Kept.ite (fun _ => ?_) (fun _ => ?_)
      · refine Kept.ite (fun _ => ?_) (fun _ => ?_)
        · refine Kept.trans ?_ State.trigSkip_kept
          refine Kept.trans ?_ State.trigCheckAt_kept
          refine Kept.ite (fun _ => ?_) (fun _ => ?_)
          · refine Kept.trans ?_ State.setTrig_kept
            refine Kept.ite (fun _ => ?_) (fun _ => ?_)
            · exact State.trigMove_kept
            · exact Kept.refl _
          · refine Kept.ite (fun _ => ?_) (fun _ => ?_)
            · exact State.trigMove_kept
            · exact Kept.refl _
        · refine Kept.trans ?_ State.trigCheckAt_kept
          refine Kept.ite (fun _ => ?_) (fun _ => ?_)
          · refine Kept.trans ?_ State.setTrig_kept
            refine Kept.ite (fun _ => ?_) (fun _ => ?_)
            · exact State.trigMove_kept
            · exact Kept.refl _
          · refine Kept.ite (fun _ => ?_) (fun _ => ?_)
            · exact State.trigMove_kept
            · exact Kept.refl _
      · refine Kept.trans ?_ State.trigCheckAt_kept
        refine Kept.ite (fun _ => ?_) (fun _ => ?_)
        · refine Kept.trans ?_ State.setTrig_kept
          refine Kept.ite (fun _ => ?_) (fun _ => ?_)
          · exact State.trigMove_kept
          · exact Kept.refl _
        · refine Kept.ite (fun _ => ?_) (fun _ => ?_)
          · exact State.trigMove_kept
          · exact Kept.refl _
    · exact Kept.refl _

theorem State.trigTick_kept {s : State} : Kept s (s.trigTick) := by
  unfold State.trigTick
  refine Kept.trans ?_ (upTo_kept fun _ _ => ?_)
  · exact Kept.refl _
  · refine Kept.ite (fun _ => ?_) (fun _ => ?_)
    · exact State.trigCheck_kept
    · refine Kept.ite (fun _ => ?_) (fun _ => ?_)
      · exact State.setTrig_kept
      · exact Kept.refl _

theorem State.pushLatch_kept {s : State} {c : Nat} {l : Latch} : Kept s (s.pushLatch c l) := by
  unfold State.pushLatch
  dsimp only
  refine Kept.ite (fun _ => ?_) (fun _ => ?_)
  · refine Kept.trans ?_ State.flagRaise_kept
    refine Kept.upd ?_
    exact Kept.refl _
  · refine Kept.upd ?_
    exact Kept.refl _

theorem State.fireLatches_kept {s : State} {k tq sample counter : Nat} {late : Bool} :
    Kept s (s.fireLatches k tq sample counter late) := by
  unfold State.fireLatches
  refine Kept.trans ?_ (upTo_kept fun _ _ => ?_)
  · exact Kept.refl _
  · refine Kept.ite (fun _ => ?_) (fun _ => ?_)
    · exact State.pushLatch_kept
    · exact Kept.refl _

theorem State.trigFire_kept {s : State} {k tq sample counter : Nat} : Kept s (s.trigFire k tq sample counter) := by
  unfold State.trigFire
  dsimp only
  refine Kept.trans ?_ State.latchSource_kept
  refine Kept.trans ?_ State.fireLatches_kept
  refine Kept.ite (fun _ => ?_) (fun _ => ?_)
  · refine Kept.trans ?_ (upTo_kept fun _ _ => ?_)
    · refine Kept.ite (fun _ => ?_) (fun _ => ?_)
      · refine Kept.trans ?_ State.emit_kept
        refine Kept.trans ?_ State.setTrig_kept
        refine Kept.trans ?_ State.bump_kept
        refine Kept.trans ?_ State.trigMove_kept
        exact State.setTrig_kept
      · refine Kept.trans ?_ State.bump_kept
        refine Kept.trans ?_ State.trigMove_kept
        exact State.setTrig_kept
    · refine Kept.ite (fun _ => ?_) (fun _ => ?_)
      · exact State.portTrigger_kept
      · exact Kept.refl _
  · refine Kept.ite (fun _ => ?_) (fun _ => ?_)
    · refine Kept.trans ?_ State.emit_kept
      refine Kept.trans ?_ State.setTrig_kept
      refine Kept.trans ?_ State.bump_kept
      refine Kept.trans ?_ State.trigMove_kept
      exact State.setTrig_kept
    · refine Kept.trans ?_ State.bump_kept
      refine Kept.trans ?_ State.trigMove_kept
      exact State.setTrig_kept

theorem State.writeTrgNextHi_kept {s : State} {k : Nat} {v : BitVec 32} : Kept s (s.writeTrgNextHi k v) := by
  unfold State.writeTrgNextHi
  dsimp only
  refine Kept.trans ?_ State.trigCheck_kept
  exact State.setTrig_kept

theorem State.writeTrgNextLo_kept {s : State} {k : Nat} {v : BitVec 32} : Kept s (s.writeTrgNextLo k v) := by
  unfold State.writeTrgNextLo
  exact State.setTrig_kept

theorem State.readNextLo_kept {s : State} {k : Nat} : Kept s (s.readNextLo k).2 := by
  unfold State.readNextLo
  dsimp only
  exact State.setTrig_kept
theorem State.readNextLo_eq {s : State} {k : Nat} {v t} (he : s.readNextLo k = (v, t)) :
    Kept s t := by
  have h := State.readNextLo_kept (s := s) (k := k)
  rw [he] at h; exact h

theorem State.readNextHi_kept {s : State} {k : Nat} : Kept s (s.readNextHi k).2 := by
  unfold State.readNextHi
  dsimp only
  exact State.setTrig_kept
theorem State.readNextHi_eq {s : State} {k : Nat} {v t} (he : s.readNextHi k = (v, t)) :
    Kept s t := by
  have h := State.readNextHi_kept (s := s) (k := k)
  rw [he] at h; exact h

theorem State.writeTrgCfg_kept {s : State} {k : Nat} {v : BitVec 32} : Kept s (s.writeTrgCfg k v) := by
  unfold State.writeTrgCfg
  refine Kept.ite (fun _ => ?_) (fun _ => ?_)
  · refine Kept.ite (fun _ => ?_) (fun _ => ?_)
    · exact Kept.refl _
    · exact State.setFld_kept
  · dsimp only
    refine Kept.trans ?_ State.trigCheck_kept
    refine Kept.trans ?_ State.setTrig_kept
    refine Kept.ite (fun _ => ?_) (fun _ => ?_)
    · refine Kept.trans ?_ State.setFld_kept
      exact State.plainWrite_kept
    · exact State.plainWrite_kept

theorem State.writeTrgPeriod_kept {s : State} {k : Nat} {v : BitVec 32} : Kept s (s.writeTrgPeriod k v) := by
  unfold State.writeTrgPeriod
  refine Kept.ite (fun _ => ?_) (fun _ => ?_)
  · exact Kept.refl _
  · dsimp only
    refine Kept.ite (fun _ => ?_) (fun _ => ?_)
    · exact State.wr_kept
    · refine Kept.trans ?_ State.setTrig_kept
      exact State.wr_kept

theorem State.writeTrgMinint_kept {s : State} {k : Nat} {v : BitVec 32} : Kept s (s.writeTrgMinint k v) := by
  unfold State.writeTrgMinint
  refine Kept.ite (fun _ => ?_) (fun _ => ?_)
  · exact Kept.refl _
  · exact State.plainWrite_kept

/-! ### Machine/Hearth.lean -/

theorem State.setHslot_kept {s : State} {i : Nat} {x : HandleSlot} : Kept s (s.setHslot i x) := by
  unfold State.setHslot
  refine Kept.upd ?_
  exact Kept.refl _

theorem State.setBuffer_kept {s : State} {h : BitVec 32} {b : Buffer} : Kept s (s.setBuffer h b) := by
  unfold State.setBuffer
  exact State.setHslot_kept

theorem State.pageOutMore_kept {s : State} : Kept s (s.pageOutMore) := by
  unfold State.pageOutMore
  refine Kept.upd ?_
  exact Kept.refl _

theorem State.hearthSync_kept {s : State} : Kept s (s.hearthSync) := by
  unfold State.hearthSync
  dsimp only
  refine Kept.ite (fun _ => ?_) (fun _ => ?_)
  · refine Kept.trans ?_ State.hrtFlag_kept
    refine Kept.upd ?_
    refine Kept.ite (fun _ => ?_) (fun _ => ?_)
    · refine Kept.upd ?_
      refine Kept.ite (fun _ => ?_) (fun _ => ?_)
      · refine Kept.trans ?_ State.setFld_kept
        refine Kept.trans ?_ State.setFld_kept
        refine Kept.trans ?_ State.setFld_kept
        refine Kept.trans ?_ State.setFld_kept
        refine Kept.trans ?_ State.setFld_kept
        refine Kept.trans ?_ State.setFld_kept
        exact State.setFld_kept
      · refine Kept.trans ?_ State.setFld_kept
        refine Kept.trans ?_ State.setFld_kept
        refine Kept.trans ?_ State.setFld_kept
        refine Kept.trans ?_ State.setFld_kept
        refine Kept.trans ?_ State.setFld_kept
        exact State.setFld_kept
    · refine Kept.ite (fun _ => ?_) (fun _ => ?_)
      · refine Kept.trans ?_ State.setFld_kept
        refine Kept.trans ?_ State.setFld_kept
        refine Kept.trans ?_ State.setFld_kept
        refine Kept.trans ?_ State.setFld_kept
        refine Kept.trans ?_ State.setFld_kept
        refine Kept.trans ?_ State.setFld_kept
        exact State.setFld_kept
      · refine Kept.trans ?_ State.setFld_kept
        refine Kept.trans ?_ State.setFld_kept
        refine Kept.trans ?_ State.setFld_kept
        refine Kept.trans ?_ State.setFld_kept
        refine Kept.trans ?_ State.setFld_kept
        exact State.setFld_kept
  · refine Kept.ite (fun _ => ?_) (fun _ => ?_)
    · refine Kept.upd ?_
      refine Kept.ite (fun _ => ?_) (fun _ => ?_)
      · refine Kept.trans ?_ State.setFld_kept
        refine Kept.trans ?_ State.setFld_kept
        refine Kept.trans ?_ State.setFld_kept
        refine Kept.trans ?_ State.setFld_kept
        refine Kept.trans ?_ State.setFld_kept
        refine Kept.trans ?_ State.setFld_kept
        exact State.setFld_kept
      · refine Kept.trans ?_ State.setFld_kept
        refine Kept.trans ?_ State.setFld_kept
        refine Kept.trans ?_ State.setFld_kept
        refine Kept.trans ?_ State.setFld_kept
        refine Kept.trans ?_ State.setFld_kept
        exact State.setFld_kept
    · refine Kept.ite (fun _ => ?_) (fun _ => ?_)
      · refine Kept.trans ?_ State.setFld_kept
        refine Kept.trans ?_ State.setFld_kept
        refine Kept.trans ?_ State.setFld_kept
        refine Kept.trans ?_ State.setFld_kept
        refine Kept.trans ?_ State.setFld_kept
        refine Kept.trans ?_ State.setFld_kept
        exact State.setFld_kept
      · refine Kept.trans ?_ State.setFld_kept
        refine Kept.trans ?_ State.setFld_kept
        refine Kept.trans ?_ State.setFld_kept
        refine Kept.trans ?_ State.setFld_kept
        refine Kept.trans ?_ State.setFld_kept
        exact State.setFld_kept

theorem State.issue_kept {s : State} {b : Buffer} : Kept s (s.issue b).2 := by
  unfold State.issue
  dsimp only
  refine Kept.trans ?_ State.hearthSync_kept
  exact State.setHslot_kept
theorem State.issue_eq {s : State} {b : Buffer} {v t} (he : s.issue b = (v, t)) :
    Kept s t := by
  have h := State.issue_kept (s := s) (b := b)
  rw [he] at h; exact h

theorem State.hearthAlloc_kept {s : State} {size : Nat} {pinned : Bool} : Kept s (s.hearthAlloc size pinned).2.2 := by
  unfold State.hearthAlloc
  split
  · dsimp only
    exact Kept.refl _
  · split
    · split
      · dsimp only
        exact Kept.refl _
      · split
        dsimp only
        exact (State.issue_eq (by assumption))
    · split
      · dsimp only
        exact Kept.refl _
      · split
        dsimp only
        exact (State.issue_eq (by assumption))
theorem State.hearthAlloc_eq {s : State} {size : Nat} {pinned : Bool} {v w t} (he : s.hearthAlloc size pinned = (v, w, t)) :
    Kept s t := by
  have h := State.hearthAlloc_kept (s := s) (size := size) (pinned := pinned)
  rw [he] at h; exact h

theorem State.hearthTake_eq {s : State} {size : Nat} {kind : BufKind} {slotBytes slots : Nat} {v : BitVec 32} {t : State}
    (e : s.hearthTake size kind slotBytes slots = some (v, t)) : Kept s t := by
  unfold State.hearthTake at e
  split at e
  · cases e
  · dsimp only at e
    simp only [Option.some.injEq, Prod.mk.injEq] at e
    rw [← e.2]
    refine Kept.trans ?_ (Kept.ite (fun _ => State.pageOutMore_kept) (fun _ => Kept.refl _))
    exact State.issue_kept

theorem State.hearthDrop_kept {s : State} {h : BitVec 32} : Kept s (s.hearthDrop h) := by
  unfold State.hearthDrop
  dsimp only
  refine Kept.trans ?_ State.hearthSync_kept
  refine Kept.upd ?_
  exact State.setHslot_kept

theorem State.hearthFree_kept {s : State} {h : BitVec 32} : Kept s (s.hearthFree h).2 := by
  unfold State.hearthFree
  split
  · dsimp only
    exact Kept.refl _
  · split
    · dsimp only
      exact Kept.refl _
    · dsimp only
      exact State.hearthDrop_kept
theorem State.hearthFree_eq {s : State} {h : BitVec 32} {v t} (he : s.hearthFree h = (v, t)) :
    Kept s t := by
  have h := State.hearthFree_kept (s := s) (h := h)
  rw [he] at h; exact h

theorem State.waitPin_kept {s : State} {op : Nat} {h : BitVec 32} : Kept s (s.waitPin op h) := by
  unfold State.waitPin
  dsimp only
  refine Kept.upd ?_
  refine Kept.ite (fun _ => ?_) (fun _ => ?_)
  · exact State.pageOutMore_kept
  · exact Kept.refl _

theorem State.requestPageIns_kept {s : State} {h : BitVec 32} {fs : List Nat} : Kept s (s.requestPageIns h fs) := by
  unfold State.requestPageIns
  dsimp only
  refine Kept.upd ?_
  exact Kept.refl _

theorem State.hearthPin_kept {s : State} {port : Nat} {h : BitVec 32} : Kept s (s.hearthPin port h).2 := by
  unfold State.hearthPin
  split
  · dsimp only
    exact Kept.refl _
  · split
    · dsimp only
      exact Kept.refl _
    · split
      · dsimp only
        exact Kept.refl _
      · dsimp only
        split
        · dsimp only
          refine Kept.trans ?_ State.hearthSync_kept
          exact State.setBuffer_kept
        · dsimp only
          refine Kept.trans ?_ State.waitPin_kept
          refine Kept.trans ?_ State.requestPageIns_kept
          refine Kept.trans ?_ State.hearthSync_kept
          exact State.setBuffer_kept
theorem State.hearthPin_eq {s : State} {port : Nat} {h : BitVec 32} {v t} (he : s.hearthPin port h = (v, t)) :
    Kept s t := by
  have h := State.hearthPin_kept (s := s) (port := port) (h := h)
  rw [he] at h; exact h

theorem State.hearthUnpin_kept {s : State} {h : BitVec 32} : Kept s (s.hearthUnpin h).2 := by
  unfold State.hearthUnpin
  split
  · dsimp only
    exact Kept.refl _
  · split
    · dsimp only
      exact Kept.refl _
    · dsimp only
      refine Kept.trans ?_ State.hearthSync_kept
      exact State.setBuffer_kept
theorem State.hearthUnpin_eq {s : State} {h : BitVec 32} {v t} (he : s.hearthUnpin h = (v, t)) :
    Kept s t := by
  have h := State.hearthUnpin_kept (s := s) (h := h)
  rw [he] at h; exact h

theorem State.apEnd_kept {s : State} {port status : Nat} : Kept s (s.apEnd port status) := by
  unfold State.apEnd
  dsimp only
  refine Kept.trans ?_ State.blockDone_kept
  refine Kept.trans ?_ State.setFld_kept
  exact State.setFld_kept

theorem State.apBusy_kept {s : State} {port : Nat} : Kept s (s.apBusy port) := by
  unfold State.apBusy
  exact State.setFld_kept

theorem State.apAlloc_kept {s : State} {port : Nat} {pinned : Bool} : Kept s (s.apAlloc port pinned) := by
  unfold State.apAlloc
  split
  refine Kept.ite (fun _ => ?_) (fun _ => ?_)
  · refine Kept.trans ?_ State.apBusy_kept
    refine Kept.trans ?_ State.waitPin_kept
    exact (State.hearthAlloc_eq (by assumption))
  · refine Kept.ite (fun _ => ?_) (fun _ => ?_)
    · refine Kept.trans ?_ State.apEnd_kept
      refine Kept.trans ?_ State.wr_kept
      exact (State.hearthAlloc_eq (by assumption))
    · exact State.apEnd_kept

theorem State.apPin_kept {s : State} {port : Nat} : Kept s (s.apPin port) := by
  unfold State.apPin
  split
  · refine Kept.trans ?_ State.apEnd_kept
    exact (State.hearthPin_eq (by assumption))
  · refine Kept.trans ?_ State.apBusy_kept
    exact (State.hearthPin_eq (by assumption))

theorem State.apQuery_kept {s : State} {port : Nat} : Kept s (s.apQuery port) := by
  unfold State.apQuery
  split
  · exact State.apEnd_kept
  · refine Kept.trans ?_ State.apEnd_kept
    exact State.wr_kept

theorem State.writeApCmd_kept {s : State} {port op : Nat} : Kept s (s.writeApCmd port op) := by
  unfold State.writeApCmd
  refine Kept.ite (fun _ => ?_) (fun _ => ?_)
  · exact Kept.refl _
  · refine Kept.ite (fun _ => ?_) (fun _ => ?_)
    · exact State.apEnd_kept
    · split
      · exact State.apAlloc_kept
      · exact State.apAlloc_kept
      · split
        refine Kept.trans ?_ State.apEnd_kept
        exact (State.hearthFree_eq (by assumption))
      · exact State.apPin_kept
      · split
        refine Kept.trans ?_ State.apEnd_kept
        exact (State.hearthUnpin_eq (by assumption))
      · exact State.apQuery_kept
      · exact State.apEnd_kept

theorem State.agentApCmd_kept {s : State} {port : Fin 5} {op : Nat} : Kept s (s.agentApCmd port op) := by
  unfold State.agentApCmd
  refine Kept.ite (fun _ => ?_) (fun _ => ?_)
  · refine Kept.trans ?_ (State.hostWrite_kept ?_)
    · exact Kept.refl _
    · intro _
      exact State.writeApCmd_kept
  · exact State.writeApCmd_kept

theorem State.hearthTraffic_kept {s : State} {cls n : Nat} : Kept s (s.hearthTraffic cls n) := by
  unfold State.hearthTraffic
  dsimp only
  refine Kept.trans ?_ State.wr_kept
  refine Kept.upd ?_
  exact Kept.refl _

theorem State.putBytes_kept {s : State} {h : BitVec 32} {off : Nat} {bs : List Byte} : Kept s (s.putBytes h off bs) := by
  unfold State.putBytes
  split
  · exact Kept.refl _
  · dsimp only
    refine Kept.trans ?_ State.hearthSync_kept
    refine Kept.upd ?_
    exact State.setBuffer_kept

theorem State.writeFrame_kept {h : BitVec 32} {off : Nat} {bs : List Byte} {s : State} {i : Nat} :
    Kept s (State.writeFrame h off bs s i) := by
  unfold State.writeFrame
  dsimp only
  refine Kept.ite (fun _ => ?_) (fun _ => ?_)
  · refine Kept.upd ?_
    exact Kept.refl _
  · exact State.putBytes_kept

theorem State.writeBuffer_kept {s : State} {h : BitVec 32} {off : Nat} {bs : List Byte} : Kept s (s.writeBuffer h off bs) := by
  unfold State.writeBuffer
  refine Kept.trans ?_ (Kept.foldl (fun _ _ => ?_) _ _)
  · exact Kept.refl _
  · exact State.writeFrame_kept

theorem State.badAccess_kept {s : State} : Kept s (s.badAccess) := by
  unfold State.badAccess
  exact State.hrtFlag_kept

theorem State.hearthEcc_kept {s : State} {h : BitVec 32} {frame : Nat} {ecc : EccResult} : Kept s (s.hearthEcc h frame ecc) := by
  unfold State.hearthEcc
  split
  · exact Kept.refl _
  · exact State.bumpBy_kept
  · refine Kept.trans ?_ State.hrtFlag_kept
    exact State.bump_kept
  · refine Kept.ite (fun _ => ?_) (fun _ => ?_)
    · exact Kept.refl _
    · refine Kept.upd ?_
      exact Kept.refl _

theorem State.blockEcc_kept {s : State} {h : BitVec 32} {off n : Nat} {ecc : EccResult} : Kept s (s.blockEcc h off n ecc).2 := by
  unfold State.blockEcc
  split
  · dsimp only
    exact Kept.refl _
  · dsimp only
    refine Kept.ite (fun _ => ?_) (fun _ => ?_)
    · exact State.hearthEcc_kept
    · exact Kept.refl _
theorem State.blockEcc_eq {s : State} {h : BitVec 32} {off n : Nat} {ecc : EccResult} {v t} (he : s.blockEcc h off n ecc = (v, t)) :
    Kept s t := by
  have h := State.blockEcc_kept (s := s) (h := h) (off := off) (n := n) (ecc := ecc)
  rw [he] at h; exact h

theorem State.bulkRead_kept {s : State} {h : BitVec 32} {off n : Nat} {ecc : EccResult} : Kept s (s.bulkRead h off n ecc).2 := by
  unfold State.bulkRead
  split
  · dsimp only
    exact State.badAccess_kept
  · dsimp only
    split
    · dsimp only
      exact Kept.refl _
    · split
      · dsimp only
        exact State.requestPageIns_kept
      · split
        · dsimp only
          exact Kept.refl _
        · split
          · dsimp only
            exact State.hearthEcc_kept
          · dsimp only
            refine Kept.ite (fun _ => ?_) (fun _ => ?_)
            · refine Kept.trans ?_ State.badAccess_kept
              refine Kept.trans ?_ State.setBuffer_kept
              refine Kept.ite (fun _ => ?_) (fun _ => ?_)
              · exact State.hearthEcc_kept
              · exact Kept.refl _
            · refine Kept.trans ?_ State.setBuffer_kept
              refine Kept.ite (fun _ => ?_) (fun _ => ?_)
              · exact State.hearthEcc_kept
              · exact Kept.refl _
theorem State.bulkRead_eq {s : State} {h : BitVec 32} {off n : Nat} {ecc : EccResult} {v t} (he : s.bulkRead h off n ecc = (v, t)) :
    Kept s t := by
  have h := State.bulkRead_kept (s := s) (h := h) (off := off) (n := n) (ecc := ecc)
  rw [he] at h; exact h

theorem State.bulkWrite_kept {s : State} {h : BitVec 32} {off : Nat} {bs : List Byte} : Kept s (s.bulkWrite h off bs).2 := by
  unfold State.bulkWrite
  split
  · dsimp only
    exact State.badAccess_kept
  · split
    · dsimp only
      exact State.badAccess_kept
    · dsimp only
      split
      · dsimp only
        exact Kept.refl _
      · split
        · dsimp only
          exact State.requestPageIns_kept
        · split
          · dsimp only
            exact State.pageOutMore_kept
          · dsimp only
            refine Kept.ite (fun _ => ?_) (fun _ => ?_)
            · refine Kept.trans ?_ State.badAccess_kept
              exact State.writeBuffer_kept
            · exact State.writeBuffer_kept
theorem State.bulkWrite_eq {s : State} {h : BitVec 32} {off : Nat} {bs : List Byte} {v t} (he : s.bulkWrite h off bs = (v, t)) :
    Kept s t := by
  have h := State.bulkWrite_kept (s := s) (h := h) (off := off) (bs := bs)
  rw [he] at h; exact h

theorem State.blockRead_kept {s : State} {h : BitVec 32} {off n : Nat} {ecc : EccResult} :
    Kept s (s.blockRead h off n ecc).2 := by
  unfold State.blockRead
  split
  · dsimp only
    exact State.badAccess_kept
  · split
    · dsimp only
      exact Kept.refl _
    · split
      · dsimp only
        exact (State.bulkRead_eq (by assumption))
      · dsimp only
        exact (State.bulkRead_eq (by assumption))
theorem State.blockRead_eq {s : State} {h : BitVec 32} {off n : Nat} {ecc : EccResult} {v t} (he : s.blockRead h off n ecc = (v, t)) :
    Kept s t := by
  have h := State.blockRead_kept (s := s) (h := h) (off := off) (n := n) (ecc := ecc)
  rw [he] at h; exact h

theorem State.blockWrite_kept {s : State} {h : BitVec 32} {off : Nat} {bs : List Byte} : Kept s (s.blockWrite h off bs).2 := by
  unfold State.blockWrite
  split
  · dsimp only
    exact State.badAccess_kept
  · split
    · dsimp only
      exact (State.bulkWrite_eq (by assumption))
    · dsimp only
      exact (State.bulkWrite_eq (by assumption))
theorem State.blockWrite_eq {s : State} {h : BitVec 32} {off : Nat} {bs : List Byte} {v t} (he : s.blockWrite h off bs = (v, t)) :
    Kept s t := by
  have h := State.blockWrite_kept (s := s) (h := h) (off := off) (bs := bs)
  rw [he] at h; exact h

theorem State.advanceStream_kept {s : State} {n : Nat} : Kept s (s.advanceStream n) := by
  unfold State.advanceStream
  refine Kept.ite (fun _ => ?_) (fun _ => ?_)
  · refine Kept.upd ?_
    exact Kept.refl _
  · exact Kept.refl _

theorem State.sendCompletions_kept {s : State} {bytes : List Byte} {poisoned : Nat → Bool} :
    Kept s (s.sendCompletions bytes poisoned) := by
  unfold State.sendCompletions
  refine Kept.trans ?_ (upTo_kept fun _ _ => ?_)
  · exact Kept.refl _
  · dsimp only
    exact State.emit_kept

theorem State.completions_kept {s : State} {h : BitVec 32} {off : Nat} {bytes : List Byte} :
    Kept s (s.completions h off bytes) := by
  unfold State.completions
  exact State.sendCompletions_kept

theorem State.serveRead_kept {s : State} {x n : Nat} {ecc : EccResult} : Kept s (s.serveRead x n ecc).2 := by
  unfold State.serveRead
  dsimp only
  split
  · dsimp only
    exact (State.bulkRead_eq (by assumption))
  · dsimp only
    refine Kept.ite (fun _ => ?_) (fun _ => ?_)
    · refine Kept.trans ?_ State.hstFlag_kept
      refine Kept.trans ?_ State.advanceStream_kept
      refine Kept.trans ?_ State.completions_kept
      exact (State.bulkRead_eq (by assumption))
    · refine Kept.trans ?_ State.advanceStream_kept
      refine Kept.trans ?_ State.completions_kept
      exact (State.bulkRead_eq (by assumption))
theorem State.serveRead_eq {s : State} {x n : Nat} {ecc : EccResult} {v t} (he : s.serveRead x n ecc = (v, t)) :
    Kept s t := by
  have h := State.serveRead_kept (s := s) (x := x) (n := n) (ecc := ecc)
  rw [he] at h; exact h

theorem State.serveWrite_kept {s : State} {x : Nat} {bs : List Byte} : Kept s (s.serveWrite x bs).2 := by
  unfold State.serveWrite
  split
  · dsimp only
    exact (State.bulkWrite_eq (by assumption))
  · dsimp only
    refine Kept.trans ?_ State.advanceStream_kept
    exact (State.bulkWrite_eq (by assumption))
theorem State.serveWrite_eq {s : State} {x : Nat} {bs : List Byte} {v t} (he : s.serveWrite x bs = (v, t)) :
    Kept s t := by
  have h := State.serveWrite_kept (s := s) (x := x) (bs := bs)
  rw [he] at h; exact h

theorem State.bulkLater_kept {s : State} {a : BusAccess} : Kept s (s.bulkLater a) := by
  unfold State.bulkLater
  refine Kept.upd ?_
  exact Kept.refl _

theorem State.commitBulkBase_kept {s : State} {v : BitVec 32} : Kept s (s.commitBulkBase v) := by
  unfold State.commitBulkBase
  dsimp only
  refine Kept.upd ?_
  exact State.setFld_kept

theorem State.setBulkReg_kept {s : State} {k : Nat} {v : BitVec 32} : Kept s (s.setBulkReg k v) := by
  unfold State.setBulkReg
  refine Kept.ite (fun _ => ?_) (fun _ => ?_)
  · exact State.commitBulkBase_kept
  · exact State.plainWrite_kept

theorem State.writeBulkReg_kept {s : State} {k : Nat} {v : BitVec 32} : Kept s (s.writeBulkReg k v) := by
  unfold State.writeBulkReg
  refine Kept.ite (fun _ => ?_) (fun _ => ?_)
  · exact State.setBulkReg_kept
  · exact State.bulkLater_kept

theorem State.serveBulk_kept {s : State} {a : BusAccess} : Kept s (s.serveBulk a).2 := by
  unfold State.serveBulk
  split
  · exact State.serveRead_kept
  · exact State.serveWrite_kept
  · dsimp only
    exact State.setBulkReg_kept
  · dsimp only
    exact Kept.refl _
theorem State.serveBulk_eq {s : State} {a : BusAccess} {v t} (he : s.serveBulk a = (v, t)) :
    Kept s t := by
  have h := State.serveBulk_kept (s := s) (a := a)
  rw [he] at h; exact h

theorem State.drainBulk_kept {n : Nat} {s : State} : Kept s (State.drainBulk n s) := by
  induction n generalizing s with
  | zero => exact Kept.refl _
  | succ n ih =>
    unfold State.drainBulk
    split
    · exact Kept.refl _
    · split
      · refine Kept.trans ?_ ih
        exact Kept.upd (State.serveBulk_eq (by assumption))
      · exact State.serveBulk_eq (by assumption)

theorem State.bar2Read_kept {s : State} {x n : Nat} {ecc : EccResult} : Kept s (s.bar2Read x n ecc) := by
  unfold State.bar2Read
  refine Kept.ite (fun _ => ?_) (fun _ => ?_)
  · split
    refine Kept.ite (fun _ => ?_) (fun _ => ?_)
    · exact (State.serveRead_eq (by assumption))
    · refine Kept.trans ?_ State.bulkLater_kept
      exact (State.serveRead_eq (by assumption))
  · exact State.bulkLater_kept

theorem State.bar2Write_kept {s : State} {x : Nat} {bs : List Byte} : Kept s (s.bar2Write x bs) := by
  unfold State.bar2Write
  refine Kept.ite (fun _ => ?_) (fun _ => ?_)
  · split
    refine Kept.ite (fun _ => ?_) (fun _ => ?_)
    · exact (State.serveWrite_eq (by assumption))
    · refine Kept.trans ?_ State.bulkLater_kept
      exact (State.serveWrite_eq (by assumption))
  · exact State.bulkLater_kept

theorem State.pageOut_kept {s : State} {h : BitVec 32} {frame : Nat} {passed : List (BitVec 32 × Nat)} :
    Kept s (s.pageOut h frame passed) := by
  unfold State.pageOut
  dsimp only
  split
  · refine Kept.ite (fun _ => ?_) (fun _ => ?_)
    · refine Kept.trans ?_ (Kept.foldl (fun _ _ => ?_) _ _)
      · exact Kept.refl _
      · split
        · split
          · refine Kept.ite (fun _ => ?_) (fun _ => ?_)
            · exact Kept.refl _
            · exact State.setBuffer_kept
          · exact Kept.refl _
        · exact Kept.refl _
    · exact Kept.refl _
  · refine Kept.ite (fun _ => ?_) (fun _ => ?_)
    · refine Kept.ite (fun _ => ?_) (fun _ => ?_)
      · refine Kept.trans ?_ (Kept.foldl (fun _ _ => ?_) _ _)
        · exact Kept.refl _
        · split
          · split
            · refine Kept.ite (fun _ => ?_) (fun _ => ?_)
              · exact Kept.refl _
              · exact State.setBuffer_kept
            · exact Kept.refl _
          · exact Kept.refl _
      · exact Kept.refl _
    · split
      · refine Kept.trans ?_ State.hearthSync_kept
        refine Kept.trans ?_ State.bump_kept
        refine Kept.trans ?_ State.setBuffer_kept
        refine Kept.ite (fun _ => ?_) (fun _ => ?_)
        · refine Kept.trans ?_ (Kept.foldl (fun _ _ => ?_) _ _)
          · exact Kept.refl _
          · split
            · split
              · refine Kept.ite (fun _ => ?_) (fun _ => ?_)
                · exact Kept.refl _
                · exact State.setBuffer_kept
              · exact Kept.refl _
            · exact Kept.refl _
        · exact Kept.refl _
      · split
        · refine Kept.ite (fun _ => ?_) (fun _ => ?_)
          · refine Kept.trans ?_ (Kept.foldl (fun _ _ => ?_) _ _)
            · exact Kept.refl _
            · split
              · split
                · refine Kept.ite (fun _ => ?_) (fun _ => ?_)
                  · exact Kept.refl _
                  · exact State.setBuffer_kept
                · exact Kept.refl _
              · exact Kept.refl _
          · exact Kept.refl _
        · refine Kept.trans ?_ State.hearthSync_kept
          refine Kept.trans ?_ State.hearthTraffic_kept
          refine Kept.trans ?_ State.bump_kept
          refine Kept.trans ?_ State.setBuffer_kept
          refine Kept.trans ?_ State.emit_kept
          refine Kept.ite (fun _ => ?_) (fun _ => ?_)
          · refine Kept.trans ?_ (Kept.foldl (fun _ _ => ?_) _ _)
            · exact Kept.refl _
            · split
              · split
                · refine Kept.ite (fun _ => ?_) (fun _ => ?_)
                  · exact Kept.refl _
                  · exact State.setBuffer_kept
                · exact Kept.refl _
              · exact Kept.refl _
          · exact Kept.refl _
      · refine Kept.ite (fun _ => ?_) (fun _ => ?_)
        · refine Kept.trans ?_ (Kept.foldl (fun _ _ => ?_) _ _)
          · exact Kept.refl _
          · split
            · split
              · refine Kept.ite (fun _ => ?_) (fun _ => ?_)
                · exact Kept.refl _
                · exact State.setBuffer_kept
              · exact Kept.refl _
            · exact Kept.refl _
        · exact Kept.refl _

theorem State.poisonRange_kept {s : State} {h : BitVec 32} {off n : Nat} : Kept s (s.poisonRange h off n) := by
  unfold State.poisonRange
  split
  · exact Kept.refl _
  · dsimp only
    refine Kept.upd ?_
    exact State.setBuffer_kept

theorem State.endPins_kept {s : State} : Kept s (s.endPins) := by
  unfold State.endPins
  dsimp only
  refine Kept.trans ?_ (Kept.foldl (fun _ _ => ?_) _ _)
  · refine Kept.upd ?_
    exact Kept.refl _
  · refine Kept.ite (fun _ => ?_) (fun _ => ?_)
    · exact State.apEnd_kept
    · refine Kept.ite (fun _ => ?_) (fun _ => ?_)
      · refine Kept.trans ?_ State.apEnd_kept
        exact State.wr_kept
      · exact Kept.refl _

theorem State.pageIn_kept {s : State} {h : BitVec 32} {frame : Nat} {crc : EccResult} : Kept s (s.pageIn h frame crc) := by
  unfold State.pageIn
  refine Kept.ite (fun _ => ?_) (fun _ => ?_)
  · split
    · exact Kept.refl _
    · split
      · refine Kept.ite (fun _ => ?_) (fun _ => ?_)
        · exact State.pageOutMore_kept
        · dsimp only
          refine Kept.trans ?_ State.endPins_kept
          refine Kept.trans ?_ State.hearthSync_kept
          refine Kept.ite (fun _ => ?_) (fun _ => ?_)
          · refine Kept.trans ?_ State.hrtFlag_kept
            refine Kept.trans ?_ State.hrtFlag_kept
            refine Kept.trans ?_ State.poisonRange_kept
            refine Kept.trans ?_ State.hearthTraffic_kept
            refine Kept.trans ?_ State.bump_kept
            refine Kept.upd ?_
            exact State.setBuffer_kept
          · refine Kept.trans ?_ State.hearthTraffic_kept
            refine Kept.trans ?_ State.bump_kept
            refine Kept.upd ?_
            exact State.setBuffer_kept
      · exact Kept.refl _
  · exact Kept.refl _

theorem State.loseSpilled_kept {s : State} : Kept s (s.loseSpilled) := by
  unfold State.loseSpilled
  refine Kept.trans ?_ (Kept.foldl (fun _ _ => ?_) _ _)
  · exact Kept.refl _
  · split
    · exact Kept.refl _
    · dsimp only
      refine Kept.ite (fun _ => ?_) (fun _ => ?_)
      · exact Kept.refl _
      · refine Kept.trans ?_ State.hrtFlag_kept
        refine Kept.trans ?_ (Kept.foldl (fun _ _ => ?_) _ _)
        · exact State.setBuffer_kept
        · exact State.poisonRange_kept

theorem State.takeSpare_kept {s : State} : Kept s (s.takeSpare) := by
  unfold State.takeSpare
  dsimp only
  refine Kept.ite (fun _ => ?_) (fun _ => ?_)
  · refine Kept.ite (fun _ => ?_) (fun _ => ?_)
    · refine Kept.trans ?_ State.hrtFlag_kept
      exact State.setFld_kept
    · exact State.setFld_kept
  · refine Kept.ite (fun _ => ?_) (fun _ => ?_)
    · refine Kept.trans ?_ State.hearthSync_kept
      exact State.setFld_kept
    · refine Kept.trans ?_ State.hrtFlag_kept
      refine Kept.trans ?_ State.hearthSync_kept
      exact State.setFld_kept

theorem State.retireFreed_kept {s : State} {h : BitVec 32} {frame : Nat} : Kept s (s.retireFreed h frame) := by
  unfold State.retireFreed
  dsimp only
  refine Kept.trans ?_ State.hrtFlag_kept
  refine Kept.trans ?_ State.setFld_kept
  refine Kept.trans ?_ State.takeSpare_kept
  refine Kept.upd ?_
  exact Kept.refl _

theorem State.retireFrame_kept {s : State} {h : BitVec 32} {frame : Nat} {unreadable : List Nat} :
    Kept s (s.retireFrame h frame unreadable) := by
  unfold State.retireFrame
  refine Kept.ite (fun _ => ?_) (fun _ => ?_)
  · exact Kept.refl _
  · refine Kept.ite (fun _ => ?_) (fun _ => ?_)
    · exact State.pageOutMore_kept
    · split
      · exact State.retireFreed_kept
      · dsimp only
        refine Kept.trans ?_ (Kept.foldl (fun _ _ => ?_) _ _)
        · refine Kept.upd ?_
          refine Kept.trans ?_ State.hrtFlag_kept
          refine Kept.ite (fun _ => ?_) (fun _ => ?_)
          · refine Kept.trans ?_ State.setFld_kept
            refine Kept.trans ?_ State.setFld_kept
            refine Kept.trans ?_ State.wr_kept
            refine Kept.trans ?_ (upTo_kept fun _ _ => ?_)
            · refine Kept.upd ?_
              refine Kept.trans ?_ State.setFld_kept
              refine Kept.trans ?_ State.takeSpare_kept
              refine Kept.upd ?_
              exact Kept.refl _
            · refine Kept.upd ?_
              exact Kept.refl _
          · refine Kept.trans ?_ State.hrtFlag_kept
            split
            · refine Kept.trans ?_ State.setBuffer_kept
              refine Kept.trans ?_ (Kept.foldl (fun _ _ => ?_) _ _)
              · refine Kept.trans ?_ State.setFld_kept
                refine Kept.trans ?_ State.takeSpare_kept
                refine Kept.upd ?_
                exact Kept.refl _
              · exact State.poisonRange_kept
            · refine Kept.trans ?_ (Kept.foldl (fun _ _ => ?_) _ _)
              · refine Kept.trans ?_ State.setFld_kept
                refine Kept.trans ?_ State.takeSpare_kept
                refine Kept.upd ?_
                exact Kept.refl _
              · exact State.poisonRange_kept
        · exact State.writeBuffer_kept

theorem State.scrub_kept {s : State} {h : BitVec 32} {frame : Nat} {ecc : EccResult} : Kept s (s.scrub h frame ecc) := by
  unfold State.scrub
  refine Kept.ite (fun _ => ?_) (fun _ => ?_)
  · exact Kept.refl _
  · split
    · refine Kept.ite (fun _ => ?_) (fun _ => ?_)
      · dsimp only
        refine Kept.trans ?_ State.hearthEcc_kept
        refine Kept.trans ?_ State.hearthTraffic_kept
        refine Kept.upd ?_
        exact Kept.refl _
      · exact Kept.refl _
    · exact Kept.refl _

theorem State.scrubPeriod_kept {s : State} : Kept s (s.scrubPeriod) := by
  unfold State.scrubPeriod
  refine Kept.ite (fun _ => ?_) (fun _ => ?_)
  · dsimp only
    refine Kept.upd ?_
    exact State.hearthTraffic_kept
  · exact Kept.refl _

/-! ### Machine/Intake.lean -/

theorem State.setIctx_kept {s : State} {c : Nat} {x : Ctx} : Kept s (s.setIctx c x) := by
  unfold State.setIctx
  refine Kept.upd ?_
  exact Kept.refl _

theorem State.setInt_kept {s : State} {i : Intake} : Kept s (s.setInt i) := by
  unfold State.setInt
  refine Kept.upd ?_
  exact Kept.refl _

theorem State.intFlag_kept {s : State} {c b : Nat} : Kept s (s.intFlag c b) := by
  unfold State.intFlag
  dsimp only
  refine Kept.ite (fun _ => ?_) (fun _ => ?_)
  · exact State.setFlag_kept
  · refine Kept.trans ?_ State.raise_kept
    exact State.setFlag_kept

theorem State.setOnLane_kept {s : State} {L : Nat} {x : Option OnLane} : Kept s (s.setOnLane L x) := by
  unfold State.setOnLane
  exact State.setInt_kept

theorem State.syncLane_kept {s : State} {L : Nat} : Kept s (s.syncLane L) := by
  unfold State.syncLane
  dsimp only
  refine Kept.ite (fun _ => ?_) (fun _ => ?_)
  · refine Kept.trans ?_ State.flagRaise_kept
    refine Kept.trans ?_ State.highWater_kept
    exact State.setFld_kept
  · refine Kept.trans ?_ State.highWater_kept
    exact State.setFld_kept

theorem State.mapIval_kept {s : State} {j : Nat} {f : Ival → Ival} : Kept s (s.mapIval j f) := by
  unfold State.mapIval
  refine Kept.upd ?_
  exact Kept.refl _

theorem State.setCorCtx_kept {s : State} {c : Nat} {x : CorCtx} : Kept s (s.setCorCtx c x) := by
  unfold State.setCorCtx
  refine Kept.upd ?_
  exact Kept.refl _

theorem State.corFlag_kept {s : State} {b : Nat} : Kept s (s.corFlag b) := by
  unfold State.corFlag
  exact State.flagRaise_kept

theorem State.activateCor_kept {s : State} {c : Nat} : Kept s (s.activateCor c) := by
  unfold State.activateCor
  dsimp only
  split
  · exact Kept.refl _
  · refine Kept.trans ?_ State.blockDone_kept
    refine Kept.trans ?_ State.corFlag_kept
    refine Kept.trans ?_ State.setFld_kept
    refine Kept.trans ?_ State.setFld_kept
    exact State.setCorCtx_kept

theorem State.emptyAt_kept {s : State} {j : Nat} {l : Line} : Kept s (s.emptyAt j l) := by
  unfold State.emptyAt
  refine Kept.ite (fun _ => ?_) (fun _ => ?_)
  · dsimp only
    refine Kept.trans ?_ State.mapIval_kept
    refine Kept.trans ?_ State.setInt_kept
    exact State.setCorCtx_kept
  · exact Kept.refl _

theorem State.takeLine_kept {s : State} {L : Nat} {l : Line} {fed : Bool} : Kept s (s.takeLine L l fed) := by
  unfold State.takeLine
  dsimp only
  refine Kept.ite (fun _ => ?_) (fun _ => ?_)
  · refine Kept.trans ?_ State.corFlag_kept
    refine Kept.trans ?_ State.setOnLane_kept
    refine Kept.trans ?_ State.mapIval_kept
    refine Kept.trans ?_ State.setCorCtx_kept
    refine Kept.trans ?_ State.emptyAt_kept
    refine Kept.ite (fun _ => ?_) (fun _ => ?_)
    · exact State.activateCor_kept
    · exact Kept.refl _
  · refine Kept.trans ?_ State.setOnLane_kept
    refine Kept.trans ?_ State.mapIval_kept
    refine Kept.trans ?_ State.setCorCtx_kept
    refine Kept.trans ?_ State.emptyAt_kept
    refine Kept.ite (fun _ => ?_) (fun _ => ?_)
    · exact State.activateCor_kept
    · exact Kept.refl _

theorem State.takeNext_kept {s : State} {L : Nat} : Kept s (s.takeNext L) := by
  unfold State.takeNext
  refine Kept.ite (fun _ => ?_) (fun _ => ?_)
  · exact Kept.refl _
  · split
    · exact Kept.refl _
    · refine Kept.trans ?_ State.syncLane_kept
      refine Kept.trans ?_ State.takeLine_kept
      exact State.setInt_kept

theorem State.ageLatches_kept {s : State} {c tq : Nat} : Kept s (s.ageLatches c tq) := by
  unfold State.ageLatches
  dsimp only
  refine Kept.trans ?_ (upTo_kept fun _ _ => ?_)
  · exact State.setIctx_kept
  · exact State.intFlag_kept

theorem State.beginLine_kept {s : State} {c tap : Nat} : Kept s (s.beginLine c tap) := by
  unfold State.beginLine
  dsimp only
  refine Kept.ite (fun _ => ?_) (fun _ => ?_)
  · refine Kept.trans ?_ State.intFlag_kept
    refine Kept.trans ?_ State.setIctx_kept
    refine Kept.ite (fun _ => ?_) (fun _ => ?_)
    · exact Kept.refl _
    · exact State.ageLatches_kept
  · refine Kept.trans ?_ State.setIctx_kept
    refine Kept.ite (fun _ => ?_) (fun _ => ?_)
    · exact Kept.refl _
    · exact State.ageLatches_kept

theorem State.endLine_kept {s : State} {c : Nat} : Kept s (s.endLine c) := by
  unfold State.endLine
  dsimp only
  split
  · exact Kept.refl _
  · refine Kept.trans ?_ State.syncLane_kept
    refine Kept.ite (fun _ => ?_) (fun _ => ?_)
    · refine Kept.trans ?_ State.setInt_kept
      refine Kept.ite (fun _ => ?_) (fun _ => ?_)
      · refine Kept.trans ?_ State.intFlag_kept
        refine Kept.ite (fun _ => ?_) (fun _ => ?_)
        · refine Kept.trans ?_ State.bump_kept
          refine Kept.ite (fun _ => ?_) (fun _ => ?_)
          · refine Kept.trans ?_ State.intFlag_kept
            refine Kept.ite (fun _ => ?_) (fun _ => ?_)
            · refine Kept.trans ?_ State.intFlag_kept
              refine Kept.ite (fun _ => ?_) (fun _ => ?_)
              · refine Kept.trans ?_ State.intFlag_kept
                exact State.setIctx_kept
              · exact State.setIctx_kept
            · refine Kept.ite (fun _ => ?_) (fun _ => ?_)
              · refine Kept.trans ?_ State.intFlag_kept
                exact State.setIctx_kept
              · exact State.setIctx_kept
          · refine Kept.ite (fun _ => ?_) (fun _ => ?_)
            · refine Kept.trans ?_ State.intFlag_kept
              refine Kept.ite (fun _ => ?_) (fun _ => ?_)
              · refine Kept.trans ?_ State.intFlag_kept
                exact State.setIctx_kept
              · exact State.setIctx_kept
            · refine Kept.ite (fun _ => ?_) (fun _ => ?_)
              · refine Kept.trans ?_ State.intFlag_kept
                exact State.setIctx_kept
              · exact State.setIctx_kept
        · refine Kept.ite (fun _ => ?_) (fun _ => ?_)
          · refine Kept.trans ?_ State.intFlag_kept
            refine Kept.ite (fun _ => ?_) (fun _ => ?_)
            · refine Kept.trans ?_ State.intFlag_kept
              refine Kept.ite (fun _ => ?_) (fun _ => ?_)
              · refine Kept.trans ?_ State.intFlag_kept
                exact State.setIctx_kept
              · exact State.setIctx_kept
            · refine Kept.ite (fun _ => ?_) (fun _ => ?_)
              · refine Kept.trans ?_ State.intFlag_kept
                exact State.setIctx_kept
              · exact State.setIctx_kept
          · refine Kept.ite (fun _ => ?_) (fun _ => ?_)
            · refine Kept.trans ?_ State.intFlag_kept
              refine Kept.ite (fun _ => ?_) (fun _ => ?_)
              · refine Kept.trans ?_ State.intFlag_kept
                exact State.setIctx_kept
              · exact State.setIctx_kept
            · refine Kept.ite (fun _ => ?_) (fun _ => ?_)
              · refine Kept.trans ?_ State.intFlag_kept
                exact State.setIctx_kept
              · exact State.setIctx_kept
      · refine Kept.ite (fun _ => ?_) (fun _ => ?_)
        · refine Kept.trans ?_ State.bump_kept
          refine Kept.ite (fun _ => ?_) (fun _ => ?_)
          · refine Kept.trans ?_ State.intFlag_kept
            refine Kept.ite (fun _ => ?_) (fun _ => ?_)
            · refine Kept.trans ?_ State.intFlag_kept
              refine Kept.ite (fun _ => ?_) (fun _ => ?_)
              · refine Kept.trans ?_ State.intFlag_kept
                exact State.setIctx_kept
              · exact State.setIctx_kept
            · refine Kept.ite (fun _ => ?_) (fun _ => ?_)
              · refine Kept.trans ?_ State.intFlag_kept
                exact State.setIctx_kept
              · exact State.setIctx_kept
          · refine Kept.ite (fun _ => ?_) (fun _ => ?_)
            · refine Kept.trans ?_ State.intFlag_kept
              refine Kept.ite (fun _ => ?_) (fun _ => ?_)
              · refine Kept.trans ?_ State.intFlag_kept
                exact State.setIctx_kept
              · exact State.setIctx_kept
            · refine Kept.ite (fun _ => ?_) (fun _ => ?_)
              · refine Kept.trans ?_ State.intFlag_kept
                exact State.setIctx_kept
              · exact State.setIctx_kept
        · refine Kept.ite (fun _ => ?_) (fun _ => ?_)
          · refine Kept.trans ?_ State.intFlag_kept
            refine Kept.ite (fun _ => ?_) (fun _ => ?_)
            · refine Kept.trans ?_ State.intFlag_kept
              refine Kept.ite (fun _ => ?_) (fun _ => ?_)
              · refine Kept.trans ?_ State.intFlag_kept
                exact State.setIctx_kept
              · exact State.setIctx_kept
            · refine Kept.ite (fun _ => ?_) (fun _ => ?_)
              · refine Kept.trans ?_ State.intFlag_kept
                exact State.setIctx_kept
              · exact State.setIctx_kept
          · refine Kept.ite (fun _ => ?_) (fun _ => ?_)
            · refine Kept.trans ?_ State.intFlag_kept
              refine Kept.ite (fun _ => ?_) (fun _ => ?_)
              · refine Kept.trans ?_ State.intFlag_kept
                exact State.setIctx_kept
              · exact State.setIctx_kept
            · refine Kept.ite (fun _ => ?_) (fun _ => ?_)
              · refine Kept.trans ?_ State.intFlag_kept
                exact State.setIctx_kept
              · exact State.setIctx_kept
    · refine Kept.ite (fun _ => ?_) (fun _ => ?_)
      · refine Kept.trans ?_ State.intFlag_kept
        refine Kept.ite (fun _ => ?_) (fun _ => ?_)
        · refine Kept.trans ?_ State.bump_kept
          refine Kept.ite (fun _ => ?_) (fun _ => ?_)
          · refine Kept.trans ?_ State.intFlag_kept
            refine Kept.ite (fun _ => ?_) (fun _ => ?_)
            · refine Kept.trans ?_ State.intFlag_kept
              refine Kept.ite (fun _ => ?_) (fun _ => ?_)
              · refine Kept.trans ?_ State.intFlag_kept
                exact State.setIctx_kept
              · exact State.setIctx_kept
            · refine Kept.ite (fun _ => ?_) (fun _ => ?_)
              · refine Kept.trans ?_ State.intFlag_kept
                exact State.setIctx_kept
              · exact State.setIctx_kept
          · refine Kept.ite (fun _ => ?_) (fun _ => ?_)
            · refine Kept.trans ?_ State.intFlag_kept
              refine Kept.ite (fun _ => ?_) (fun _ => ?_)
              · refine Kept.trans ?_ State.intFlag_kept
                exact State.setIctx_kept
              · exact State.setIctx_kept
            · refine Kept.ite (fun _ => ?_) (fun _ => ?_)
              · refine Kept.trans ?_ State.intFlag_kept
                exact State.setIctx_kept
              · exact State.setIctx_kept
        · refine Kept.ite (fun _ => ?_) (fun _ => ?_)
          · refine Kept.trans ?_ State.intFlag_kept
            refine Kept.ite (fun _ => ?_) (fun _ => ?_)
            · refine Kept.trans ?_ State.intFlag_kept
              refine Kept.ite (fun _ => ?_) (fun _ => ?_)
              · refine Kept.trans ?_ State.intFlag_kept
                exact State.setIctx_kept
              · exact State.setIctx_kept
            · refine Kept.ite (fun _ => ?_) (fun _ => ?_)
              · refine Kept.trans ?_ State.intFlag_kept
                exact State.setIctx_kept
              · exact State.setIctx_kept
          · refine Kept.ite (fun _ => ?_) (fun _ => ?_)
            · refine Kept.trans ?_ State.intFlag_kept
              refine Kept.ite (fun _ => ?_) (fun _ => ?_)
              · refine Kept.trans ?_ State.intFlag_kept
                exact State.setIctx_kept
              · exact State.setIctx_kept
            · refine Kept.ite (fun _ => ?_) (fun _ => ?_)
              · refine Kept.trans ?_ State.intFlag_kept
                exact State.setIctx_kept
              · exact State.setIctx_kept
      · refine Kept.ite (fun _ => ?_) (fun _ => ?_)
        · refine Kept.trans ?_ State.bump_kept
          refine Kept.ite (fun _ => ?_) (fun _ => ?_)
          · refine Kept.trans ?_ State.intFlag_kept
            refine Kept.ite (fun _ => ?_) (fun _ => ?_)
            · refine Kept.trans ?_ State.intFlag_kept
              refine Kept.ite (fun _ => ?_) (fun _ => ?_)
              · refine Kept.trans ?_ State.intFlag_kept
                exact State.setIctx_kept
              · exact State.setIctx_kept
            · refine Kept.ite (fun _ => ?_) (fun _ => ?_)
              · refine Kept.trans ?_ State.intFlag_kept
                exact State.setIctx_kept
              · exact State.setIctx_kept
          · refine Kept.ite (fun _ => ?_) (fun _ => ?_)
            · refine Kept.trans ?_ State.intFlag_kept
              refine Kept.ite (fun _ => ?_) (fun _ => ?_)
              · refine Kept.trans ?_ State.intFlag_kept
                exact State.setIctx_kept
              · exact State.setIctx_kept
            · refine Kept.ite (fun _ => ?_) (fun _ => ?_)
              · refine Kept.trans ?_ State.intFlag_kept
                exact State.setIctx_kept
              · exact State.setIctx_kept
        · refine Kept.ite (fun _ => ?_) (fun _ => ?_)
          · refine Kept.trans ?_ State.intFlag_kept
            refine Kept.ite (fun _ => ?_) (fun _ => ?_)
            · refine Kept.trans ?_ State.intFlag_kept
              refine Kept.ite (fun _ => ?_) (fun _ => ?_)
              · refine Kept.trans ?_ State.intFlag_kept
                exact State.setIctx_kept
              · exact State.setIctx_kept
            · refine Kept.ite (fun _ => ?_) (fun _ => ?_)
              · refine Kept.trans ?_ State.intFlag_kept
                exact State.setIctx_kept
              · exact State.setIctx_kept
          · refine Kept.ite (fun _ => ?_) (fun _ => ?_)
            · refine Kept.trans ?_ State.intFlag_kept
              refine Kept.ite (fun _ => ?_) (fun _ => ?_)
              · refine Kept.trans ?_ State.intFlag_kept
                exact State.setIctx_kept
              · exact State.setIctx_kept
            · refine Kept.ite (fun _ => ?_) (fun _ => ?_)
              · refine Kept.trans ?_ State.intFlag_kept
                exact State.setIctx_kept
              · exact State.setIctx_kept

theorem State.addPixels_kept {s : State} {c : Nat} {bad : Bool} {v : List Nat} : Kept s (s.addPixels c bad v) := by
  unfold State.addPixels
  dsimp only
  split
  · exact Kept.refl _
  · refine Kept.ite (fun _ => ?_) (fun _ => ?_)
    · refine Kept.trans ?_ State.syncLane_kept
      refine Kept.ite (fun _ => ?_) (fun _ => ?_)
      · refine Kept.trans ?_ State.intFlag_kept
        refine Kept.trans ?_ State.intFlag_kept
        exact State.setIctx_kept
      · refine Kept.trans ?_ State.intFlag_kept
        exact State.setIctx_kept
    · refine Kept.trans ?_ State.syncLane_kept
      exact State.setIctx_kept

theorem State.setStream_kept {s : State} {k : Nat} {x : Stream} : Kept s (s.setStream k x) := by
  unfold State.setStream
  refine Kept.upd ?_
  exact Kept.refl _

theorem State.boundary_kept {k : Nat} {s : State} {c : Nat} : Kept s (State.boundary k s c) := by
  unfold State.boundary
  dsimp only
  refine Kept.ite (fun _ => ?_) (fun _ => ?_)
  · refine Kept.trans ?_ State.setIctx_kept
    refine Kept.ite (fun _ => ?_) (fun _ => ?_)
    · exact State.endLine_kept
    · exact Kept.refl _
  · refine Kept.ite (fun _ => ?_) (fun _ => ?_)
    · exact State.endLine_kept
    · exact Kept.refl _

theorem State.headerFormat_kept {k code : Nat} {s : State} {c : Nat} : Kept s (State.headerFormat k code s c) := by
  unfold State.headerFormat
  refine Kept.ite (fun _ => ?_) (fun _ => ?_)
  · exact State.intFlag_kept
  · exact Kept.refl _

theorem State.pixelsFor_kept {k : Nat} {bad : Bool} {tap : Nat} {v : List Nat} {s : State} {c : Nat} :
    Kept s (State.pixelsFor k bad tap v s c) := by
  unfold State.pixelsFor
  dsimp only
  refine Kept.ite (fun _ => ?_) (fun _ => ?_)
  · refine Kept.trans ?_ State.addPixels_kept
    refine Kept.ite (fun _ => ?_) (fun _ => ?_)
    · refine Kept.trans ?_ State.beginLine_kept
      exact State.endLine_kept
    · exact Kept.refl _
  · refine Kept.ite (fun _ => ?_) (fun _ => ?_)
    · refine Kept.trans ?_ State.beginLine_kept
      exact State.endLine_kept
    · exact Kept.refl _

/-- A fold over pairs whose first part is kept. -/
theorem Kept.foldlFst {α β : Type} {f : State × β → α → State × β} (hf : ∀ a x, Kept a.1 (f a x).1) (l : List α)
    (a : State × β) : Kept a.1 (l.foldl f a).1 := by
  induction l generalizing a with
  | nil => exact Kept.refl _
  | cons x l ih => exact (hf a x).trans (ih _)
theorem State.streamItem_kept {k : Nat} {cs : List Nat} {bad : Bool} {tap : Nat} {a : Machine.State × Nat} {it : StreamItem} :
    Kept a.1 (Machine.State.streamItem k cs bad tap a it).1 := by
  unfold State.streamItem
  dsimp only
  split
  · split
    · dsimp only
      exact Kept.refl _
    · dsimp only
      refine Kept.trans ?_ (Kept.foldl (fun _ _ => ?_) _ _)
      · split
        · refine Kept.trans ?_ (Kept.foldl (fun _ _ => ?_) _ _)
          · refine Kept.ite (fun _ => ?_) (fun _ => ?_)
            · refine Kept.trans ?_ State.portFlag_kept
              exact State.setStream_kept
            · exact State.setStream_kept
          · exact State.headerFormat_kept
        · refine Kept.ite (fun _ => ?_) (fun _ => ?_)
          · refine Kept.trans ?_ State.portFlag_kept
            exact State.setStream_kept
          · exact State.setStream_kept
      · exact State.boundary_kept
  · split
    · dsimp only
      exact Kept.refl _
    · dsimp only
      refine Kept.trans ?_ (Kept.foldl (fun _ _ => ?_) _ _)
      · exact State.setStream_kept
      · exact State.boundary_kept
  · split
    · dsimp only
      exact Kept.refl _
    · dsimp only
      refine Kept.trans ?_ (Kept.foldl (fun _ _ => ?_) _ _)
      · refine Kept.ite (fun _ => ?_) (fun _ => ?_)
        · exact State.setStream_kept
        · exact Kept.refl _
      · exact State.pixelsFor_kept

theorem State.packetEnd_kept {k : Nat} {s : State} {c : Nat} : Kept s (State.packetEnd k s c) := by
  unfold State.packetEnd
  dsimp only
  split
  · exact Kept.refl _
  · refine Kept.ite (fun _ => ?_) (fun _ => ?_)
    · exact Kept.refl _
    · refine Kept.ite (fun _ => ?_) (fun _ => ?_)
      · exact State.endLine_kept
      · exact State.setIctx_kept

theorem State.streamData_kept {s : State} {port link : Nat} {p : StreamPacket} {bad : Bool} :
    Kept s (s.streamData port link p bad) := by
  unfold State.streamData
  dsimp only
  refine Kept.trans ?_ (Kept.foldl (fun _ _ => State.packetEnd_kept) _ _)
  refine Kept.trans ?_ (Kept.foldlFst (fun _ _ => State.streamItem_kept) _ _)
  exact Kept.ite (fun _ => State.bump_kept) (fun _ => Kept.refl _)

theorem State.endStreams_kept {s : State} {port link : Nat} : Kept s (s.endStreams port link) := by
  unfold State.endStreams
  dsimp only
  refine Kept.trans ?_ (upTo_kept fun _ _ => ?_)
  · refine Kept.upd ?_
    exact Kept.refl _
  · refine Kept.ite (fun _ => ?_) (fun _ => ?_)
    · refine Kept.trans ?_ State.setIctx_kept
      refine Kept.ite (fun _ => ?_) (fun _ => ?_)
      · exact State.endLine_kept
      · exact Kept.refl _
    · refine Kept.ite (fun _ => ?_) (fun _ => ?_)
      · exact State.endLine_kept
      · exact Kept.refl _

theorem State.ringWritten_kept {s : State} {c : Nat} : Kept s (s.ringWritten c) := by
  unfold State.ringWritten
  refine Kept.ite (fun _ => ?_) (fun _ => ?_)
  · exact Kept.refl _
  · split
    · exact Kept.refl _
    · dsimp only
      refine Kept.trans ?_ State.syncLane_kept
      refine Kept.trans ?_ State.takeNext_kept
      refine Kept.ite (fun _ => ?_) (fun _ => ?_)
      · refine Kept.trans ?_ State.setInt_kept
        refine Kept.trans ?_ State.hearthTraffic_kept
        exact State.writeBuffer_kept
      · refine Kept.ite (fun _ => ?_) (fun _ => ?_)
        · refine Kept.upd ?_
          refine Kept.trans ?_ State.setInt_kept
          refine Kept.trans ?_ State.hearthTraffic_kept
          exact State.writeBuffer_kept
        · refine Kept.trans ?_ State.setInt_kept
          refine Kept.trans ?_ State.setInt_kept
          refine Kept.trans ?_ State.hearthTraffic_kept
          exact State.writeBuffer_kept

theorem State.writeCtxCfg_kept {s : State} {c : Nat} {v : BitVec 32} : Kept s (s.writeCtxCfg c v) := by
  unfold State.writeCtxCfg
  refine Kept.ite (fun _ => ?_) (fun _ => ?_)
  · refine Kept.ite (fun _ => ?_) (fun _ => ?_)
    · exact Kept.refl _
    · refine Kept.trans ?_ State.setIctx_kept
      exact State.plainWrite_kept
  · dsimp only
    refine Kept.ite (fun _ => ?_) (fun _ => ?_)
    · refine Kept.trans ?_ State.setIctx_kept
      refine Kept.trans ?_ State.setFld_kept
      exact State.plainWrite_kept
    · exact State.plainWrite_kept

theorem State.writeCtxReg_kept {s : State} {c key : Nat} {v : BitVec 32} : Kept s (s.writeCtxReg c key v) := by
  unfold State.writeCtxReg
  refine Kept.ite (fun _ => ?_) (fun _ => ?_)
  · exact Kept.refl _
  · exact State.plainWrite_kept

theorem State.reinjEnd_kept {s : State} {result : Nat} : Kept s (s.reinjEnd result) := by
  unfold State.reinjEnd
  refine Kept.trans ?_ State.blockDone_kept
  refine Kept.trans ?_ State.raise_kept
  refine Kept.trans ?_ State.wr_kept
  exact State.setInt_kept

theorem State.reinjGo_kept {s : State} : Kept s (s.reinjGo) := by
  unfold State.reinjGo
  dsimp only
  refine Kept.ite (fun _ => ?_) (fun _ => ?_)
  · exact Kept.refl _
  · refine Kept.ite (fun _ => ?_) (fun _ => ?_)
    · exact State.wr_kept
    · refine Kept.ite (fun _ => ?_) (fun _ => ?_)
      · exact State.wr_kept
      · refine Kept.trans ?_ State.wr_kept
        refine Kept.trans ?_ State.wr_kept
        refine Kept.trans ?_ State.wr_kept
        exact State.setInt_kept

theorem State.reinjAbort_kept {s : State} : Kept s (s.reinjAbort) := by
  unfold State.reinjAbort
  split
  · exact State.setInt_kept
  · exact Kept.refl _

theorem State.writeReinjCmd_kept {s : State} {v : BitVec 32} : Kept s (s.writeReinjCmd v) := by
  unfold State.writeReinjCmd
  dsimp only
  refine Kept.ite (fun _ => ?_) (fun _ => ?_)
  · refine Kept.trans ?_ State.reinjGo_kept
    refine Kept.ite (fun _ => ?_) (fun _ => ?_)
    · exact State.reinjAbort_kept
    · exact Kept.refl _
  · refine Kept.ite (fun _ => ?_) (fun _ => ?_)
    · exact State.reinjAbort_kept
    · exact Kept.refl _

theorem State.reinjectLine_kept {s : State} {c : Nat} {ecc : EccResult} : Kept s (s.reinjectLine c ecc) := by
  unfold State.reinjectLine
  split
  · exact Kept.refl _
  · refine Kept.ite (fun _ => ?_) (fun _ => ?_)
    · exact Kept.refl _
    · split
      · exact Kept.refl _
      · dsimp only
        refine Kept.ite (fun _ => ?_) (fun _ => ?_)
        · exact State.blockEcc_kept
        · split
          · refine Kept.trans ?_ State.bump_kept
            refine Kept.trans ?_ State.setInt_kept
            refine Kept.trans ?_ State.hearthTraffic_kept
            exact State.blockEcc_kept
          · refine Kept.trans ?_ State.syncLane_kept
            refine Kept.trans ?_ State.takeNext_kept
            refine Kept.trans ?_ State.setInt_kept
            refine Kept.trans ?_ State.hearthTraffic_kept
            exact State.blockEcc_kept

/-! ### Machine/Journal.lean -/

theorem State.setJnl_kept {s : State} {j : Journal} : Kept s (s.setJnl j) := by
  unfold State.setJnl
  refine Kept.upd ?_
  exact Kept.refl _

theorem State.journal_kept {s : State} {it : JournalItem} : Kept s (s.journal it) := by
  unfold State.journal
  dsimp only
  refine Kept.ite (fun _ => ?_) (fun _ => ?_)
  · exact Kept.refl _
  · refine Kept.ite (fun _ => ?_) (fun _ => ?_)
    · exact State.setJnl_kept
    · refine Kept.trans ?_ State.embFlag_kept
      exact State.setJnl_kept

theorem State.syncCapacity_kept {s : State} : Kept s (s.syncCapacity) := by
  unfold State.syncCapacity
  exact State.setFld_kept

theorem State.journalWrite_kept {s : State} {n : Nat} {r : BlockWrite} : Kept s (s.journalWrite n r) := by
  unfold State.journalWrite
  dsimp only
  refine Kept.ite (fun _ => ?_) (fun _ => ?_)
  · exact Kept.refl _
  · split
    · exact State.setJnl_kept
    · exact State.setJnl_kept
    · refine Kept.ite (fun _ => ?_) (fun _ => ?_)
      · refine Kept.trans ?_ State.embFlag_kept
        exact State.setJnl_kept
      · refine Kept.ite (fun _ => ?_) (fun _ => ?_)
        · refine Kept.trans ?_ State.syncCapacity_kept
          refine Kept.trans ?_ State.embFlag_kept
          refine Kept.trans ?_ State.setJnl_kept
          refine Kept.trans ?_ State.embFlag_kept
          exact State.setJnl_kept
        · refine Kept.trans ?_ State.syncCapacity_kept
          refine Kept.trans ?_ State.embFlag_kept
          exact State.setJnl_kept

theorem State.checkpoint_kept {s : State} {q : Nat} : Kept s (s.checkpoint q) := by
  unfold State.checkpoint
  dsimp only
  refine Kept.ite (fun _ => ?_) (fun _ => ?_)
  · exact Kept.refl _
  · refine Kept.trans ?_ State.journal_kept
    refine Kept.upd ?_
    exact Kept.refl _

end Sys2Proof.Machine
end

