-- ==== Sys2Proof/Laws/KeptPixels.lean ====
section
/-! SUPPORT. What each operation keeps (`Kept`, `Held`): correction, stitching, Anvil, rings, Tongs, events, time and temper. -/

set_option Elab.async false
namespace Sys2Proof.Machine

/-! ### Machine/Correction.lean -/

theorem State.setCor_kept {s : State} {c : Correction} : Kept s (s.setCor c) := by
  unfold State.setCor
  refine Kept.upd ?_
  exact Kept.refl _

theorem State.storeCoef_kept {s : State} {e : Nat} {v : BitVec 16} : Kept s (s.storeCoef e v) := by
  unfold State.storeCoef
  refine Kept.ite (fun _ => ?_) (fun _ => ?_)
  · exact State.corFlag_kept
  · exact State.setCor_kept

theorem State.advanceStore_kept {s : State} : Kept s (s.advanceStore) := by
  unfold State.advanceStore
  exact State.setFld_kept

theorem State.writeStoreData_kept {s : State} {v : BitVec 32} : Kept s (s.writeStoreData v) := by
  unfold State.writeStoreData
  dsimp only
  refine Kept.trans ?_ State.advanceStore_kept
  refine Kept.trans ?_ State.storeCoef_kept
  exact State.storeCoef_kept

theorem State.readStoreData_kept {s : State} : Kept s (s.readStoreData).2 := by
  unfold State.readStoreData
  dsimp only
  exact State.advanceStore_kept
theorem State.readStoreData_eq {s : State} {v t} (he : s.readStoreData = (v, t)) :
    Kept s t := by
  have h := State.readStoreData_kept (s := s)
  rw [he] at h; exact h

theorem State.advanceLut_kept {s : State} : Kept s (s.advanceLut) := by
  unfold State.advanceLut
  exact State.setFld_kept

theorem State.writeLutData_kept {s : State} {v : BitVec 32} : Kept s (s.writeLutData v) := by
  unfold State.writeLutData
  refine Kept.trans ?_ State.advanceLut_kept
  refine Kept.ite (fun _ => ?_) (fun _ => ?_)
  · exact State.corFlag_kept
  · exact State.setCor_kept

theorem State.readLutData_kept {s : State} : Kept s (s.readLutData).2 := by
  unfold State.readLutData
  dsimp only
  exact State.advanceLut_kept
theorem State.readLutData_eq {s : State} {v t} (he : s.readLutData = (v, t)) :
    Kept s t := by
  have h := State.readLutData_kept (s := s)
  rw [he] at h; exact h

theorem State.settleCor_kept {s : State} {c : Nat} : Kept s (s.settleCor c) := by
  unfold State.settleCor
  refine Kept.ite (fun _ => ?_) (fun _ => ?_)
  · exact Kept.refl _
  · exact State.activateCor_kept

theorem State.applyCor_kept {s : State} {c : Nat} : Kept s (s.applyCor c) := by
  unfold State.applyCor
  dsimp only
  refine Kept.ite (fun _ => ?_) (fun _ => ?_)
  · exact State.corFlag_kept
  · refine Kept.trans ?_ State.settleCor_kept
    refine Kept.trans ?_ State.setFld_kept
    exact State.setCorCtx_kept

theorem State.endCoefLoad_kept {s : State} {result : Nat} : Kept s (s.endCoefLoad result) := by
  unfold State.endCoefLoad
  refine Kept.trans ?_ State.blockDone_kept
  refine Kept.trans ?_ State.wr_kept
  exact State.setCor_kept

theorem State.coefLoadGo_kept {s : State} : Kept s (s.coefLoadGo) := by
  unfold State.coefLoadGo
  refine Kept.ite (fun _ => ?_) (fun _ => ?_)
  · exact Kept.refl _
  · dsimp only
    refine Kept.ite (fun _ => ?_) (fun _ => ?_)
    · exact State.endCoefLoad_kept
    · refine Kept.trans ?_ State.wr_kept
      exact State.setCor_kept

theorem State.loadWords_kept {s : State} {h : BitVec 32} {n : Nat} {failed : Option Nat} {ecc : EccResult} :
    Kept s (s.loadWords h n failed ecc).2 := by
  unfold State.loadWords
  split
  · dsimp only
    exact State.badAccess_kept
  · dsimp only
    split
    · dsimp only
      exact Kept.refl _
    · split
      · dsimp only
        exact State.requestPageIns_kept
      · split
        · dsimp only
          refine Kept.trans ?_ (State.blockEcc_eq (by assumption))
          exact State.setBuffer_kept
        · dsimp only
          refine Kept.trans ?_ State.hearthTraffic_kept
          split
          · refine Kept.trans ?_ State.hearthEcc_kept
            refine Kept.trans ?_ (State.blockEcc_eq (by assumption))
            exact State.setBuffer_kept
          · refine Kept.trans ?_ (State.blockEcc_eq (by assumption))
            exact State.setBuffer_kept
theorem State.loadWords_eq {s : State} {h : BitVec 32} {n : Nat} {failed : Option Nat} {ecc : EccResult} {v t} (he : s.loadWords h n failed ecc = (v, t)) :
    Kept s t := by
  have h := State.loadWords_kept (s := s) (h := h) (n := n) (failed := failed) (ecc := ecc)
  rw [he] at h; exact h

theorem State.endCapture_kept {s : State} {result : Nat} : Kept s (s.endCapture result) := by
  unfold State.endCapture
  dsimp only
  refine Kept.trans ?_ State.blockDone_kept
  refine Kept.trans ?_ State.corFlag_kept
  refine Kept.trans ?_ State.setFld_kept
  refine Kept.trans ?_ State.setFld_kept
  exact State.setCor_kept

theorem State.writeCapCmd_kept {s : State} {v : BitVec 32} : Kept s (s.writeCapCmd v) := by
  unfold State.writeCapCmd
  refine Kept.ite (fun _ => ?_) (fun _ => ?_)
  · refine Kept.ite (fun _ => ?_) (fun _ => ?_)
    · exact State.endCapture_kept
    · exact Kept.refl _
  · refine Kept.ite (fun _ => ?_) (fun _ => ?_)
    · dsimp only
      refine Kept.trans ?_ State.wr_kept
      exact State.setCor_kept
    · exact Kept.refl _

theorem State.captureLine_kept {s : State} {l : Line} {r : Corrected} : Kept s (s.captureLine l r) := by
  unfold State.captureLine
  split
  · exact Kept.refl _
  · refine Kept.ite (fun _ => ?_) (fun _ => ?_)
    · exact Kept.refl _
    · refine Kept.ite (fun _ => ?_) (fun _ => ?_)
      · exact State.endCapture_kept
      · refine Kept.ite (fun _ => ?_) (fun _ => ?_)
        · exact Kept.refl _
        · refine Kept.ite (fun _ => ?_) (fun _ => ?_)
          · exact Kept.refl _
          · dsimp only
            refine Kept.trans ?_ State.setFld_kept
            exact State.setCor_kept

theorem State.degrade_kept {s : State} : Kept s (s.degrade) := by
  unfold State.degrade
  exact State.setFld_kept

theorem State.fenceCor_kept {s : State} {c bank : Nat} : Kept s (s.fenceCor c bank) := by
  unfold State.fenceCor
  dsimp only
  refine Kept.trans ?_ State.degrade_kept
  refine Kept.trans ?_ State.journal_kept
  refine Kept.trans ?_ State.wr_kept
  refine Kept.trans ?_ State.setFld_kept
  exact State.setCorCtx_kept

theorem State.misread_kept {c j : Nat} {s : State} {q : Fin 5 × Fin 524288} : Kept s (State.misread c j s q) := by
  unfold State.misread
  split
  dsimp only
  refine Kept.trans ?_ State.mapIval_kept
  refine Kept.trans ?_ State.setCor_kept
  exact (State.fresh_eq (by assumption))

theorem State.restoreEntries_kept {t s : State} {o : OnLane} {ecc : CorEcc} : Kept t (t.restoreEntries s o ecc) := by
  unfold State.restoreEntries
  dsimp only
  exact State.setCor_kept

theorem State.snapshot_kept {s : State} {c parity : Nat} : Kept s (s.snapshot c parity) := by
  unfold State.snapshot
  dsimp only
  refine Kept.ite (fun _ => ?_) (fun _ => ?_)
  · refine Kept.trans ?_ State.setCorCtx_kept
    exact State.setCor_kept
  · refine Kept.trans ?_ State.setCorCtx_kept
    exact State.setCor_kept

theorem State.startSnapshots_kept {s : State} {o : OnLane} {j : Nat} : Kept s (s.startSnapshots o j) := by
  unfold State.startSnapshots
  refine Kept.ite (fun _ => ?_) (fun _ => ?_)
  · dsimp only
    refine Kept.ite (fun _ => ?_) (fun _ => ?_)
    · refine Kept.trans ?_ State.snapshot_kept
      exact State.snapshot_kept
    · exact State.snapshot_kept
  · exact Kept.refl _

theorem State.correct_kept {s : State} {o : OnLane} : Kept s (s.correct o) := by
  unfold State.correct
  dsimp only
  refine Kept.trans ?_ State.setCor_kept
  refine Kept.trans ?_ State.captureLine_kept
  refine Kept.ite (fun _ => ?_) (fun _ => ?_)
  · refine Kept.trans ?_ State.corFlag_kept
    refine Kept.trans ?_ State.bumpBy_kept
    refine Kept.ite (fun _ => ?_) (fun _ => ?_)
    · refine Kept.trans ?_ State.setCorCtx_kept
      exact State.setCor_kept
    · exact Kept.refl _
  · refine Kept.trans ?_ State.bumpBy_kept
    refine Kept.ite (fun _ => ?_) (fun _ => ?_)
    · refine Kept.trans ?_ State.setCorCtx_kept
      exact State.setCor_kept
    · exact Kept.refl _

theorem State.lineSent_kept {s : State} {L : Nat} {ecc : CorEcc} : Kept s (s.lineSent L ecc) := by
  unfold State.lineSent
  split
  · exact Kept.refl _
  · refine Kept.ite (fun _ => ?_) (fun _ => ?_)
    · exact Kept.refl _
    · dsimp only
      refine Kept.trans ?_ State.syncLane_kept
      refine Kept.trans ?_ State.takeNext_kept
      refine Kept.trans ?_ State.setOnLane_kept
      refine Kept.trans ?_ State.setInt_kept
      refine Kept.ite (fun _ => ?_) (fun _ => ?_)
      · refine Kept.trans ?_ State.bump_kept
        refine Kept.trans ?_ (Kept.foldl (fun _ _ => ?_) _ _)
        · refine Kept.trans ?_ State.restoreEntries_kept
          refine Kept.trans ?_ State.correct_kept
          refine Kept.trans ?_ (Kept.foldl (fun _ _ => ?_) _ _)
          · refine Kept.trans ?_ State.startSnapshots_kept
            exact State.bumpBy_kept
          · exact State.misread_kept
        · exact State.fenceCor_kept
      · refine Kept.trans ?_ (Kept.foldl (fun _ _ => ?_) _ _)
        · refine Kept.trans ?_ State.restoreEntries_kept
          refine Kept.trans ?_ State.correct_kept
          refine Kept.trans ?_ (Kept.foldl (fun _ _ => ?_) _ _)
          · refine Kept.trans ?_ State.startSnapshots_kept
            exact State.bumpBy_kept
          · exact State.misread_kept
        · exact State.fenceCor_kept

theorem State.releaseHeld_kept {s : State} {L : Nat} : Kept s (s.releaseHeld L) := by
  unfold State.releaseHeld
  split
  · refine Kept.ite (fun _ => ?_) (fun _ => ?_)
    · exact State.setOnLane_kept
    · exact Kept.refl _
  · exact Kept.refl _

/-! ### Machine/OutStream.lean -/

theorem State.setOst_kept {s : State} {u : Nat} {x : OstUnit} : Kept s (s.setOst u x) := by
  unfold State.setOst
  refine Kept.trans ?_ State.setFld_kept
  refine Kept.upd ?_
  exact Kept.refl _

theorem State.ostFlag_kept {s : State} {u b : Nat} : Kept s (s.ostFlag u b) := by
  unfold State.ostFlag
  dsimp only
  split
  · refine Kept.trans ?_ State.raise_kept
    exact State.setFlag_kept
  · refine Kept.trans ?_ State.raise_kept
    exact State.setFlag_kept
  · refine Kept.trans ?_ State.raise_kept
    exact State.setFlag_kept
  · refine Kept.trans ?_ State.raise_kept
    exact State.setFlag_kept
  · refine Kept.trans ?_ State.raise_kept
    exact State.setFlag_kept
  · exact State.setFlag_kept

theorem State.ostSat_kept {s : State} {u n : Nat} : Kept s (s.ostSat u n) := by
  unfold State.ostSat
  refine Kept.trans ?_ (upTo_kept fun _ _ => ?_)
  · exact Kept.refl _
  · refine Kept.trans ?_ State.ostFlag_kept
    exact State.bump_kept

theorem State.ostDrop_kept {s : State} {u : Nat} : Kept s (s.ostDrop u) := by
  unfold State.ostDrop
  refine Kept.trans ?_ State.ostFlag_kept
  exact State.bump_kept

theorem State.ostApply_kept {s : State} {u : Nat} : Kept s (s.ostApply u) := by
  unfold State.ostApply
  dsimp only
  refine Kept.ite (fun _ => ?_) (fun _ => ?_)
  · refine Kept.trans ?_ State.setFld_kept
    exact State.setOst_kept
  · exact State.ostFlag_kept

theorem State.ostStop_kept {s : State} {u : Nat} : Kept s (s.ostStop u) := by
  unfold State.ostStop
  dsimp only
  refine Kept.ite (fun _ => ?_) (fun _ => ?_)
  · exact Kept.refl _
  · exact State.setOst_kept

theorem State.writeOstCmd_kept {s : State} {u : Nat} {v : BitVec 32} : Kept s (s.writeOstCmd u v) := by
  unfold State.writeOstCmd
  dsimp only
  refine Kept.ite (fun _ => ?_) (fun _ => ?_)
  · refine Kept.trans ?_ State.ostApply_kept
    refine Kept.ite (fun _ => ?_) (fun _ => ?_)
    · exact State.ostStop_kept
    · exact Kept.refl _
  · refine Kept.ite (fun _ => ?_) (fun _ => ?_)
    · exact State.ostStop_kept
    · exact Kept.refl _

theorem State.ostActivate_kept {s : State} {u k : Nat} : Kept s (s.ostActivate u k) := by
  unfold State.ostActivate
  dsimp only
  split
  · exact Kept.refl _
  · refine Kept.trans ?_ State.blockDone_kept
    refine Kept.trans ?_ State.ostFlag_kept
    refine Kept.trans ?_ State.setFld_kept
    exact State.setOst_kept

theorem State.ostBoundary_kept {s : State} {cls : Bool} {k : Nat} : Kept s (s.ostBoundary cls k) := by
  unfold State.ostBoundary
  refine Kept.trans ?_ (upTo_kept fun _ _ => ?_)
  · exact Kept.refl _
  · split
    · refine Kept.ite (fun _ => ?_) (fun _ => ?_)
      · exact State.ostActivate_kept
      · exact Kept.refl _
    · exact Kept.refl _

theorem State.ostIdle_kept {s : State} {u : Nat} : Kept s (s.ostIdle u) := by
  unfold State.ostIdle
  dsimp only
  exact State.setOst_kept

theorem State.ostAllIdle_kept {s : State} : Kept s (s.ostAllIdle) := by
  unfold State.ostAllIdle
  refine Kept.trans ?_ (upTo_kept fun _ _ => ?_)
  · exact Kept.refl _
  · exact State.ostIdle_kept

theorem State.ostCopy_kept {s : State} {ring : Nat} {it : RecvItem} : Kept s (s.ostCopy ring it) := by
  unfold State.ostCopy
  refine Kept.upd ?_
  exact Kept.refl _

theorem State.ostWrite_kept {s : State} {u : Nat} {p : OstSet} {seq : Nat} {words : List Word} :
    Kept s (s.ostWrite u p seq words) := by
  unfold State.ostWrite
  dsimp only
  refine Kept.ite (fun _ => ?_) (fun _ => ?_)
  · exact State.ostDrop_kept
  · refine Kept.ite (fun _ => ?_) (fun _ => ?_)
    · refine Kept.trans ?_ State.ostCopy_kept
      refine Kept.trans ?_ State.hearthTraffic_kept
      exact State.writeBuffer_kept
    · refine Kept.trans ?_ State.hearthTraffic_kept
      exact State.writeBuffer_kept

theorem State.ostEmit_kept {s : State} {u : Nat} {p : OstSet} {n : Nat} : Kept s (s.ostEmit u p n) := by
  unfold State.ostEmit
  dsimp only
  refine Kept.ite (fun _ => ?_) (fun _ => ?_)
  · refine Kept.trans ?_ State.ostFlag_kept
    refine Kept.trans ?_ State.setOst_kept
    refine Kept.ite (fun _ => ?_) (fun _ => ?_)
    · exact State.ostDrop_kept
    · refine Kept.trans ?_ State.ostSat_kept
      exact State.ostWrite_kept
  · refine Kept.trans ?_ State.setOst_kept
    refine Kept.ite (fun _ => ?_) (fun _ => ?_)
    · exact State.ostDrop_kept
    · refine Kept.trans ?_ State.ostSat_kept
      exact State.ostWrite_kept

theorem State.ostTake_kept {s : State} {u : Nat} {p : OstSet} {l : SrcLine} {cycle : Nat} : Kept s (s.ostTake u p l cycle) := by
  unfold State.ostTake
  dsimp only
  refine Kept.ite (fun _ => ?_) (fun _ => ?_)
  · exact State.setOst_kept
  · refine Kept.ite (fun _ => ?_) (fun _ => ?_)
    · split
      · refine Kept.trans ?_ State.ostEmit_kept
        refine Kept.trans ?_ State.ostFlag_kept
        exact State.setOst_kept
      · refine Kept.trans ?_ State.ostFlag_kept
        exact State.setOst_kept
    · split
      · refine Kept.trans ?_ State.ostEmit_kept
        refine Kept.trans ?_ State.ostSat_kept
        exact State.setOst_kept
      · refine Kept.trans ?_ State.ostSat_kept
        exact State.setOst_kept

theorem State.ostSnapTraffic_kept {s : State} {u : Nat} : Kept s (s.ostSnapTraffic u) := by
  unfold State.ostSnapTraffic
  exact State.hearthTraffic_kept

theorem State.ostSnapWords_kept {s : State} {u parity : Nat} : Kept s (s.ostSnapWords u parity) := by
  unfold State.ostSnapWords
  dsimp only
  refine Kept.trans ?_ (upTo_kept fun _ _ => ?_)
  · exact State.ostSnapTraffic_kept
  · refine Kept.trans ?_ State.writeBuffer_kept
    exact State.fresh_kept

theorem State.ostSave_kept {s : State} {u j : Nat} : Kept s (s.ostSave u j) := by
  unfold State.ostSave
  dsimp only
  refine Kept.trans ?_ State.setOst_kept
  refine Kept.ite (fun _ => ?_) (fun _ => ?_)
  · exact State.ostSnapWords_kept
  · exact Kept.refl _

theorem State.ostInterval_kept {s : State} {u j : Nat} {replayed : Bool} : Kept s (s.ostInterval u j replayed) := by
  unfold State.ostInterval
  dsimp only
  split
  · refine Kept.ite (fun _ => ?_) (fun _ => ?_)
    · refine Kept.ite (fun _ => ?_) (fun _ => ?_)
      · refine Kept.trans ?_ State.ostSnapTraffic_kept
        exact State.setOst_kept
      · exact State.setOst_kept
    · exact State.ostSave_kept
  · exact State.ostSave_kept

theorem State.ostLine_kept {s : State} {u : Nat} {p : OstSet} {l : SrcLine} {cycle : Nat} : Kept s (s.ostLine u p l cycle) := by
  unfold State.ostLine
  refine Kept.ite (fun _ => ?_) (fun _ => ?_)
  · exact State.ostIdle_kept
  · dsimp only
    refine Kept.ite (fun _ => ?_) (fun _ => ?_)
    · refine Kept.trans ?_ State.ostTake_kept
      refine Kept.ite (fun _ => ?_) (fun _ => ?_)
      · refine Kept.trans ?_ State.setOst_kept
        refine Kept.ite (fun _ => ?_) (fun _ => ?_)
        · exact State.ostInterval_kept
        · exact Kept.refl _
      · refine Kept.ite (fun _ => ?_) (fun _ => ?_)
        · exact State.ostInterval_kept
        · exact Kept.refl _
    · refine Kept.ite (fun _ => ?_) (fun _ => ?_)
      · refine Kept.trans ?_ State.setOst_kept
        refine Kept.ite (fun _ => ?_) (fun _ => ?_)
        · exact State.ostInterval_kept
        · exact Kept.refl _
      · refine Kept.ite (fun _ => ?_) (fun _ => ?_)
        · exact State.ostInterval_kept
        · exact Kept.refl _

theorem State.ostSource_kept {s : State} {source : Nat} {l : SrcLine} {cycle : Nat} : Kept s (s.ostSource source l cycle) := by
  unfold State.ostSource
  refine Kept.ite (fun _ => ?_) (fun _ => ?_)
  · refine Kept.trans ?_ (upTo_kept fun _ _ => ?_)
    · exact Kept.refl _
    · split
      · refine Kept.ite (fun _ => ?_) (fun _ => ?_)
        · exact State.ostLine_kept
        · exact Kept.refl _
      · exact Kept.refl _
  · exact Kept.refl _

/-! ### Machine/Stitcher.lean -/

theorem State.setSti_kept {s : State} {x : Stitcher} : Kept s (s.setSti x) := by
  unfold State.setSti
  refine Kept.upd ?_
  exact Kept.refl _

theorem State.stiFlag_kept {s : State} {b : Nat} : Kept s (s.stiFlag b) := by
  unfold State.stiFlag
  exact State.flagRaise_kept

theorem State.stiApply_kept {s : State} : Kept s (s.stiApply) := by
  unfold State.stiApply
  refine Kept.ite (fun _ => ?_) (fun _ => ?_)
  · refine Kept.trans ?_ State.setFld_kept
    exact State.setSti_kept
  · exact State.stiFlag_kept

theorem State.advanceKnot_kept {s : State} : Kept s (s.advanceKnot) := by
  unfold State.advanceKnot
  dsimp only
  exact State.setFld_kept

theorem State.writeKnot_kept {s : State} {v : BitVec 32} : Kept s (s.writeKnot v) := by
  unfold State.writeKnot
  refine Kept.trans ?_ State.advanceKnot_kept
  exact State.setSti_kept

theorem State.readKnot_kept {s : State} : Kept s (s.readKnot).2 := by
  unfold State.readKnot
  dsimp only
  exact State.advanceKnot_kept
theorem State.readKnot_eq {s : State} {v t} (he : s.readKnot = (v, t)) :
    Kept s t := by
  have h := State.readKnot_kept (s := s)
  rw [he] at h; exact h

theorem State.setShift_kept {s : State} {i : Nat} {v : Int} : Kept s (s.setShift i v) := by
  unfold State.setShift
  refine Kept.trans ?_ State.setFld_kept
  exact State.setSti_kept

theorem State.stiActivate_kept {s : State} : Kept s (s.stiActivate) := by
  unfold State.stiActivate
  split
  · exact Kept.refl _
  · dsimp only
    refine Kept.trans ?_ State.blockDone_kept
    refine Kept.trans ?_ State.stiFlag_kept
    refine Kept.trans ?_ State.setFld_kept
    refine Kept.trans ?_ (Kept.foldl (fun _ _ => ?_) _ _)
    · exact State.setSti_kept
    · exact State.setShift_kept

theorem State.takeShifts_kept {s : State} : Kept s (s.takeShifts) := by
  unfold State.takeShifts
  refine Kept.trans ?_ State.setSti_kept
  refine Kept.trans ?_ (Kept.foldl (fun _ _ => ?_) _ _)
  · exact Kept.refl _
  · exact State.setShift_kept

theorem State.anvFlag_kept {s : State} {b : Nat} : Kept s (s.anvFlag b) := by
  unfold State.anvFlag
  exact State.flagRaise_kept

theorem State.setAnv_kept {s : State} {x : Anvil} : Kept s (s.setAnv x) := by
  unfold State.setAnv
  refine Kept.upd ?_
  exact Kept.refl _

theorem State.anvActivate_kept {s : State} : Kept s (s.anvActivate) := by
  unfold State.anvActivate
  split
  · exact Kept.refl _
  · dsimp only
    refine Kept.trans ?_ State.blockDone_kept
    refine Kept.trans ?_ State.anvFlag_kept
    refine Kept.trans ?_ State.setFld_kept
    refine Kept.trans ?_ State.setFld_kept
    exact State.setAnv_kept

theorem State.hbmBoundary_kept {s : State} : Kept s (s.hbmBoundary) := by
  unfold State.hbmBoundary
  refine Kept.ite (fun _ => ?_) (fun _ => ?_)
  · refine Kept.ite (fun _ => ?_) (fun _ => ?_)
    · exact State.bump_kept
    · refine Kept.upd ?_
      exact Kept.refl _
  · exact Kept.refl _

theorem State.openInterval_kept {s : State} {j : Nat} : Kept s (s.openInterval j) := by
  unfold State.openInterval
  dsimp only
  refine Kept.trans ?_ State.setSti_kept
  refine Kept.trans ?_ (upTo_kept fun _ _ => ?_)
  · refine Kept.trans ?_ State.hbmBoundary_kept
    refine Kept.trans ?_ State.ostBoundary_kept
    refine Kept.trans ?_ State.anvActivate_kept
    refine Kept.trans ?_ State.setSti_kept
    refine Kept.trans ?_ State.takeShifts_kept
    exact State.stiActivate_kept
  · exact State.settleCor_kept

theorem State.setSegStore_kept {s : State} {i : Nat} {l : List Line} : Kept s (s.setSegStore i l) := by
  unfold State.setSegStore
  exact State.setSti_kept

theorem State.syncStore_kept {s : State} : Kept s (s.syncStore) := by
  unfold State.syncStore
  dsimp only
  refine Kept.trans ?_ State.highWater_kept
  exact State.setFld_kept

theorem State.keepCursor_kept {s : State} {v : Ival} {ref : Nat} : Kept s (s.keepCursor v ref) := by
  unfold State.keepCursor
  dsimp only
  exact State.setSti_kept

theorem State.storeLine_kept {s : State} {i : Nat} {l : Line} : Kept s (s.storeLine i l) := by
  unfold State.storeLine
  dsimp only
  refine Kept.ite (fun _ => ?_) (fun _ => ?_)
  · refine Kept.trans ?_ State.syncStore_kept
    exact State.setSegStore_kept
  · split
    · exact State.stiFlag_kept
    · refine Kept.trans ?_ State.syncStore_kept
      refine Kept.trans ?_ State.setSti_kept
      refine Kept.trans ?_ State.stiFlag_kept
      exact State.setSegStore_kept

theorem State.releaseBefore_kept {s : State} {i a : Nat} : Kept s (s.releaseBefore i a) := by
  unfold State.releaseBefore
  refine Kept.trans ?_ State.syncStore_kept
  exact State.setSegStore_kept

theorem State.mapFounded_kept {s : State} {k : Nat} {g : Founded → Founded} : Kept s (s.mapFounded k g) := by
  unfold State.mapFounded
  exact State.mapIval_kept

theorem State.blankSeg_kept {s : State} {k i : Nat} : Kept s (s.blankSeg k i) := by
  unfold State.blankSeg
  refine Kept.trans ?_ State.stiFlag_kept
  refine Kept.trans ?_ State.bump_kept
  exact State.mapFounded_kept

theorem State.earlySeg_kept {s : State} {i n : Nat} : Kept s (s.earlySeg i n) := by
  unfold State.earlySeg
  refine Kept.trans ?_ (upTo_kept fun _ _ => ?_)
  · exact Kept.refl _
  · refine Kept.trans ?_ State.stiFlag_kept
    exact State.bump_kept

theorem State.searchSeg_kept {s : State} {k i : Nat} {g : SegSet} : Kept s (s.searchSeg k i g) := by
  unfold State.searchSeg
  split
  · split
    · split
      · refine Kept.ite (fun _ => ?_) (fun _ => ?_)
        · exact State.releaseBefore_kept
        · exact Kept.refl _
      · exact Kept.refl _
    · dsimp only
      split
      · exact Kept.refl _
      · refine Kept.ite (fun _ => ?_) (fun _ => ?_)
        · refine Kept.trans ?_ State.blankSeg_kept
          exact State.releaseBefore_kept
        · refine Kept.ite (fun _ => ?_) (fun _ => ?_)
          · refine Kept.trans ?_ State.blankSeg_kept
            refine Kept.trans ?_ State.earlySeg_kept
            exact State.releaseBefore_kept
          · refine Kept.trans ?_ State.mapFounded_kept
            exact State.releaseBefore_kept
  · exact Kept.refl _

theorem State.formLine_kept {s : State} {v : Ival} {f : Founded} {served : List Served} : Kept s (s.formLine v f served) := by
  unfold State.formLine
  dsimp only
  refine Kept.trans ?_ State.setSti_kept
  exact State.mapIval_kept

theorem State.tryForm_kept {s : State} : Kept s (s.tryForm).2 := by
  unfold State.tryForm
  dsimp only
  split
  · split
    · split
      · dsimp only
        refine Kept.trans ?_ (Kept.foldl (fun _ _ => ?_) _ _)
        · exact Kept.refl _
        · exact State.searchSeg_kept
      · dsimp only
        refine Kept.trans ?_ (Kept.foldl (fun _ _ => ?_) _ _)
        · exact Kept.refl _
        · exact State.searchSeg_kept
    · dsimp only
      refine Kept.trans ?_ (Kept.foldl (fun _ _ => ?_) _ _)
      · exact Kept.refl _
      · exact State.searchSeg_kept
  · dsimp only
    exact Kept.refl _
theorem State.tryForm_eq {s : State} {v t} (he : s.tryForm = (v, t)) :
    Kept s t := by
  have h := State.tryForm_kept (s := s)
  rw [he] at h; exact h

theorem State.tryForm_some {s t v : State} (e : s.tryForm = (some t, v)) : Kept s t := by
  unfold State.tryForm at e
  dsimp only at e
  split at e
  · split at e
    · split at e
      · simp only [Prod.mk.injEq, Option.some.injEq] at e
        rw [← e.1]
        refine Kept.trans ?_ State.formLine_kept
        exact Kept.foldl (fun _ _ => State.searchSeg_kept) _ _
      · cases e
    · cases e
  · cases e
theorem State.advance_kept {n : Nat} {s : State} : Kept s (State.advance n s) := by
  induction n generalizing s with
  | zero => exact Kept.refl _
  | succ n ih =>
    unfold State.advance
    split
    · exact (State.tryForm_some (by assumption)).trans ih
    · exact State.tryForm_eq (by assumption)

theorem State.formAll_kept {s : State} : Kept s (s.formAll) := by
  unfold State.formAll
  exact State.advance_kept

theorem State.foundLine_kept {s : State} {l : Line} : Kept s (s.foundLine l) := by
  unfold State.foundLine
  dsimp only
  split
  · refine Kept.trans ?_ State.mapFounded_kept
    refine Kept.trans ?_ State.setFld_kept
    exact State.setSti_kept
  · refine Kept.trans ?_ State.mapIval_kept
    refine Kept.ite (fun _ => ?_) (fun _ => ?_)
    · refine Kept.trans ?_ State.openInterval_kept
      refine Kept.trans ?_ State.setSti_kept
      refine Kept.trans ?_ State.setFld_kept
      exact State.setSti_kept
    · refine Kept.trans ?_ State.setSti_kept
      refine Kept.trans ?_ State.setFld_kept
      exact State.setSti_kept

theorem State.servedBefore_kept {s : State} {i : Nat} : Kept s (s.servedBefore i) := by
  unfold State.servedBefore
  refine Kept.ite (fun _ => ?_) (fun _ => ?_)
  · exact State.setSti_kept
  · exact Kept.refl _

theorem State.lineLeaves_kept {s : State} {c : Nat} : Kept s (s.lineLeaves c) := by
  unfold State.lineLeaves
  refine Kept.ite (fun _ => ?_) (fun _ => ?_)
  · exact Kept.refl _
  · split
    · exact Kept.refl _
    · dsimp only
      split
      · refine Kept.trans ?_ State.bump_kept
        exact State.setCor_kept
      · refine Kept.ite (fun _ => ?_) (fun _ => ?_)
        · refine Kept.trans ?_ State.servedBefore_kept
          exact State.setCor_kept
        · refine Kept.ite (fun _ => ?_) (fun _ => ?_)
          · refine Kept.trans ?_ State.formAll_kept
            refine Kept.trans ?_ State.storeLine_kept
            refine Kept.trans ?_ State.foundLine_kept
            exact State.setCor_kept
          · refine Kept.ite (fun _ => ?_) (fun _ => ?_)
            · refine Kept.trans ?_ State.bump_kept
              exact State.setCor_kept
            · refine Kept.trans ?_ State.formAll_kept
              refine Kept.trans ?_ State.storeLine_kept
              exact State.setCor_kept

theorem State.waitTimeout_kept {s : State} {i : Nat} : Kept s (s.waitTimeout i) := by
  unfold State.waitTimeout
  dsimp only
  split
  · refine Kept.ite (fun _ => ?_) (fun _ => ?_)
    · refine Kept.trans ?_ State.formAll_kept
      exact State.blankSeg_kept
    · exact Kept.refl _
  · exact Kept.refl _

theorem State.referenceLoss_kept {s : State} : Kept s (s.referenceLoss) := by
  unfold State.referenceLoss
  refine Kept.ite (fun _ => ?_) (fun _ => ?_)
  · refine Kept.trans ?_ State.raise_kept
    refine Kept.trans ?_ State.bump_kept
    exact State.setFld_kept
  · exact Kept.refl _

theorem State.moveSeam_kept {s : State} {i t : Nat} {m : Int} : Kept s (s.moveSeam i t m) := by
  unfold State.moveSeam
  dsimp only
  refine Kept.ite (fun _ => ?_) (fun _ => ?_)
  · refine Kept.trans ?_ State.setSti_kept
    refine Kept.ite (fun _ => ?_) (fun _ => ?_)
    · exact State.stiFlag_kept
    · exact Kept.refl _
  · exact Kept.refl _

theorem State.commitSeam_kept {s : State} {v : Ival} {i t : Nat} {gi gt : SegSet} : Kept s (s.commitSeam v i t gi gt) := by
  unfold State.commitSeam
  dsimp only
  split
  · refine Kept.trans ?_ State.moveSeam_kept
    refine Kept.trans ?_ State.setFld_kept
    refine Kept.trans ?_ State.setFld_kept
    refine Kept.trans ?_ State.wr_kept
    refine Kept.trans ?_ State.orFresh_kept
    refine Kept.trans ?_ State.orFresh_kept
    exact State.orFresh_kept
  · refine Kept.trans ?_ State.setFld_kept
    refine Kept.trans ?_ State.setFld_kept
    refine Kept.trans ?_ State.wr_kept
    refine Kept.trans ?_ State.orFresh_kept
    refine Kept.trans ?_ State.orFresh_kept
    exact State.orFresh_kept

theorem State.commitSeams_kept {s : State} {v : Ival} {l : List (Nat × SegSet)} : Kept s (s.commitSeams v l) := by
  induction l generalizing s with
  | nil => unfold State.commitSeams; exact Kept.refl _
  | cons p l ih =>
    unfold State.commitSeams
    split
    · rename_i e
      simp only [List.cons.injEq] at e
      rw [← e.2]
      exact State.commitSeam_kept.trans ih
    · exact Kept.refl _

theorem State.commitMeasure_kept {s : State} {v : Ival} : Kept s (s.commitMeasure v) := by
  unfold State.commitMeasure
  dsimp only
  refine Kept.ite (fun _ => ?_) (fun _ => ?_)
  · refine Kept.trans ?_ State.stiFlag_kept
    exact State.commitSeams_kept
  · exact Kept.refl _

/-! ### Machine/Anvil.lean -/

theorem State.endStall_kept {s : State} : Kept s (s.endStall) := by
  unfold State.endStall
  refine Kept.ite (fun _ => ?_) (fun _ => ?_)
  · exact Kept.refl _
  · dsimp only
    refine Kept.trans ?_ (upTo_kept fun _ _ => ?_)
    · exact State.setAnv_kept
    · exact State.setInt_kept

theorem State.countStall_kept {s : State} {now : Nat} : Kept s (s.countStall now) := by
  unfold State.countStall
  split
  · exact Kept.refl _
  · dsimp only
    refine Kept.trans ?_ State.setAnv_kept
    refine Kept.trans ?_ (Kept.foldl (fun _ _ => ?_) _ _)
    · exact Kept.refl _
    · exact State.bumpBy_kept

theorem State.stallTick_kept {s : State} : Kept s (s.stallTick) := by
  unfold State.stallTick
  exact State.countStall_kept

theorem State.setEngine_kept {s : State} {n e : Nat} {x : Option Engine} : Kept s (s.setEngine n e x) := by
  unfold State.setEngine
  exact State.setAnv_kept

theorem State.mapWork_kept {s : State} {k : Nat} {f : ClassLine → ClassLine} : Kept s (s.mapWork k f) := by
  unfold State.mapWork
  exact State.setAnv_kept

theorem State.dispatch_kept {s : State} {n corrected : Nat} : Kept s (s.dispatch n corrected) := by
  unfold State.dispatch
  dsimp only
  split
  · exact State.bumpBy_kept
  · split
    · exact State.bumpBy_kept
    · refine Kept.ite (fun _ => ?_) (fun _ => ?_)
      · refine Kept.trans ?_ State.mapWork_kept
        refine Kept.trans ?_ State.setEngine_kept
        exact State.bumpBy_kept
      · exact State.bumpBy_kept

theorem State.releaseChannel_kept {s : State} {x : ClassLine} {c : Nat} : Kept s (s.releaseChannel x c) := by
  unfold State.releaseChannel
  dsimp only
  refine Kept.ite (fun _ => ?_) (fun _ => ?_)
  · exact Kept.refl _
  · refine Kept.ite (fun _ => ?_) (fun _ => ?_)
    · refine Kept.trans ?_ State.hearthTraffic_kept
      exact State.writeBuffer_kept
    · exact State.ostSource_kept

theorem State.releaseLines_kept {n : Nat} {s : State} : Kept s (State.releaseLines n s) := by
  induction n generalizing s with
  | zero => exact Kept.refl _
  | succ n ih =>
    unfold State.releaseLines
    split
    · exact Kept.refl _
    · refine Kept.ite (fun _ => ?_) (fun _ => Kept.refl _)
      refine Kept.trans ?_ ih
      refine Kept.trans ?_ State.mapWork_kept
      exact upTo_kept fun _ _ => State.releaseChannel_kept

theorem State.releaseAll_kept {s : State} : Kept s (s.releaseAll) := by
  unfold State.releaseAll
  exact State.releaseLines_kept

theorem State.passLine_kept {s : State} {cyc : Nat} : Kept s (s.passLine cyc) := by
  unfold State.passLine
  split
  · exact Kept.refl _
  · dsimp only
    refine Kept.ite (fun _ => ?_) (fun _ => ?_)
    · refine Kept.trans ?_ State.releaseAll_kept
      refine Kept.trans ?_ State.ostSource_kept
      refine Kept.trans ?_ State.mapIval_kept
      refine Kept.trans ?_ State.setAnv_kept
      refine Kept.trans ?_ State.setSti_kept
      refine Kept.trans ?_ State.endStall_kept
      exact State.countStall_kept
    · refine Kept.ite (fun _ => ?_) (fun _ => ?_)
      · exact Kept.refl _
      · refine Kept.trans ?_ State.anvFlag_kept
        exact State.setAnv_kept

theorem State.kernelFault_kept {s : State} {n w code : Nat} : Kept s (s.kernelFault n w code) := by
  unfold State.kernelFault
  dsimp only
  refine Kept.trans ?_ State.anvFlag_kept
  refine Kept.trans ?_ State.bump_kept
  refine Kept.ite (fun _ => ?_) (fun _ => ?_)
  · exact Kept.refl _
  · exact State.wr_kept

theorem State.endWord_kept {s : State} {n i : Nat} {e : Engine} {fault : Option Nat} : Kept s (s.endWord n i e fault) := by
  unfold State.endWord
  dsimp only
  refine Kept.trans ?_ State.releaseAll_kept
  refine Kept.trans ?_ State.mapIval_kept
  refine Kept.trans ?_ State.mapWork_kept
  split
  · refine Kept.trans ?_ State.kernelFault_kept
    exact State.setEngine_kept
  · exact State.setEngine_kept

theorem State.maxBundles_kept {s : State} {n i : Nat} : Kept s (s.maxBundles n i) := by
  unfold State.maxBundles
  split
  · refine Kept.ite (fun _ => ?_) (fun _ => ?_)
    · exact State.endWord_kept
    · exact Kept.refl _
  · exact Kept.refl _

theorem State.anvSlot_kept {s : State} {n i place x : Nat} {header : Option (BitVec 8)} :
    Kept s (s.anvSlot n i place x header) := by
  unfold State.anvSlot
  split
  · exact Kept.refl _
  · dsimp only
    refine Kept.ite (fun _ => ?_) (fun _ => ?_)
    · exact Kept.refl _
    · split
      · exact State.setEngine_kept
      · split
        · exact State.setEngine_kept
        · exact State.setEngine_kept
        · exact State.endWord_kept

theorem State.anvInstr_kept {s : State} {op n i place : Nat} {bits : BitVec 34} {header : Option (BitVec 8)} :
    Kept s (s.anvInstr op n i place bits header) := by
  unfold State.anvInstr
  exact State.anvSlot_kept

theorem State.endOfFlow_kept {s : State} : Kept s (s.endOfFlow) := by
  unfold State.endOfFlow
  split
  · exact Kept.refl _
  · refine Kept.ite (fun _ => ?_) (fun _ => ?_)
    · exact State.setAnv_kept
    · exact Kept.refl _

theorem State.anvApply_kept {s : State} : Kept s (s.anvApply) := by
  unfold State.anvApply
  dsimp only
  refine Kept.ite (fun _ => ?_) (fun _ => ?_)
  · exact State.anvFlag_kept
  · refine Kept.trans ?_ State.setFld_kept
    exact State.setAnv_kept

theorem State.storeBundle_kept {s : State} {b : Nat} {v : BitVec 128} : Kept s (s.storeBundle b v) := by
  unfold State.storeBundle
  refine Kept.ite (fun _ => ?_) (fun _ => ?_)
  · exact State.anvFlag_kept
  · exact State.setAnv_kept

theorem State.storeLut_kept {s : State} {a : Nat} {v : BitVec 18} : Kept s (s.storeLut a v) := by
  unfold State.storeLut
  refine Kept.ite (fun _ => ?_) (fun _ => ?_)
  · exact State.anvFlag_kept
  · exact State.setAnv_kept

theorem State.storeParam_kept {s : State} {i : Nat} {w : Word} : Kept s (s.storeParam i w) := by
  unfold State.storeParam
  exact State.setAnv_kept

theorem State.writeParam_kept {s : State} {v : BitVec 32} : Kept s (s.writeParam v) := by
  unfold State.writeParam
  dsimp only
  refine Kept.trans ?_ State.setFld_kept
  refine Kept.trans ?_ State.storeParam_kept
  exact State.plainWrite_kept

theorem State.writeBundle_kept {s : State} {v : BitVec 32} : Kept s (s.writeBundle v) := by
  unfold State.writeBundle
  dsimp only
  refine Kept.trans ?_ State.setFld_kept
  refine Kept.trans ?_ State.storeBundle_kept
  exact State.wr_kept

theorem State.advanceAnvLut_kept {s : State} : Kept s (s.advanceAnvLut) := by
  unfold State.advanceAnvLut
  dsimp only
  exact State.setFld_kept

theorem State.writeAnvLut_kept {s : State} {v : BitVec 32} : Kept s (s.writeAnvLut v) := by
  unfold State.writeAnvLut
  refine Kept.trans ?_ State.advanceAnvLut_kept
  exact State.storeLut_kept

theorem State.readAnvLut_kept {s : State} : Kept s (s.readAnvLut).2 := by
  unfold State.readAnvLut
  dsimp only
  exact State.advanceAnvLut_kept
theorem State.readAnvLut_eq {s : State} {v t} (he : s.readAnvLut = (v, t)) :
    Kept s t := by
  have h := State.readAnvLut_kept (s := s)
  rw [he] at h; exact h

theorem State.endAnvLoad_kept {s : State} {result : Nat} : Kept s (s.endAnvLoad result) := by
  unfold State.endAnvLoad
  refine Kept.trans ?_ State.blockDone_kept
  refine Kept.trans ?_ State.wr_kept
  exact State.setAnv_kept

theorem State.anvLoadGo_kept {s : State} : Kept s (s.anvLoadGo) := by
  unfold State.anvLoadGo
  refine Kept.ite (fun _ => ?_) (fun _ => ?_)
  · exact Kept.refl _
  · dsimp only
    refine Kept.ite (fun _ => ?_) (fun _ => ?_)
    · exact State.endAnvLoad_kept
    · refine Kept.trans ?_ State.wr_kept
      exact State.setAnv_kept

theorem State.storeLoaded_kept {s : State} {d : StoreLoad} {ws : List Word} : Kept s (s.storeLoaded d ws) := by
  unfold State.storeLoaded
  dsimp only
  split
  · refine Kept.trans ?_ (upTo_kept fun _ _ => ?_)
    · exact Kept.refl _
    · exact State.storeBundle_kept
  · refine Kept.trans ?_ (upTo_kept fun _ _ => ?_)
    · exact Kept.refl _
    · refine Kept.trans ?_ (upTo_kept fun _ _ => ?_)
      · exact Kept.refl _
      · exact State.storeLut_kept
  · refine Kept.trans ?_ (upTo_kept fun _ _ => ?_)
    · exact Kept.refl _
    · exact State.storeParam_kept

theorem State.anvLoadDone_kept {s : State} {failed : Option Nat} {ecc : EccResult} : Kept s (s.anvLoadDone failed ecc) := by
  unfold State.anvLoadDone
  split
  · exact Kept.refl _
  · dsimp only
    split
    · exact (State.loadWords_eq (by assumption))
    · refine Kept.trans ?_ State.endAnvLoad_kept
      refine Kept.trans ?_ State.storeLoaded_kept
      exact (State.loadWords_eq (by assumption))

/-! ### Machine/Rings.lean -/

theorem State.ringStop_kept {s : State} {d code : Nat} : Kept s (s.ringStop d code) := by
  unfold State.ringStop
  dsimp only
  refine Kept.ite (fun _ => ?_) (fun _ => ?_)
  · refine Kept.trans ?_ State.hstFlag_kept
    refine Kept.trans ?_ State.hstFlag_kept
    refine Kept.trans ?_ State.setFld_kept
    exact State.wr_kept
  · refine Kept.trans ?_ State.hstFlag_kept
    refine Kept.trans ?_ State.setFld_kept
    exact State.wr_kept

theorem State.ringAdvance_kept {s : State} {d n : Nat} {cls : DmaClass} : Kept s (s.ringAdvance d n cls) := by
  unfold State.ringAdvance
  dsimp only
  refine Kept.ite (fun _ => ?_) (fun _ => ?_)
  · refine Kept.trans ?_ State.raise_kept
    refine Kept.trans ?_ State.emit_kept
    exact State.bumpBy_kept
  · refine Kept.trans ?_ State.emit_kept
    exact State.bumpBy_kept

theorem State.doorbell_kept {s : State} {d : Nat} {v : BitVec 32} : Kept s (s.doorbell d v) := by
  unfold State.doorbell
  refine Kept.ite (fun _ => ?_) (fun _ => ?_)
  · exact Kept.refl _
  · dsimp only
    refine Kept.ite (fun _ => ?_) (fun _ => ?_)
    · refine Kept.trans ?_ State.ringStop_kept
      refine Kept.ite (fun _ => ?_) (fun _ => ?_)
      · exact State.startWake_kept
      · exact Kept.refl _
    · refine Kept.trans ?_ State.wr_kept
      refine Kept.ite (fun _ => ?_) (fun _ => ?_)
      · exact State.startWake_kept
      · exact Kept.refl _

theorem State.writeRingCfg_kept {s : State} {d : Nat} {v : BitVec 32} : Kept s (s.writeRingCfg d v) := by
  unfold State.writeRingCfg
  dsimp only
  refine Kept.ite (fun _ => ?_) (fun _ => ?_)
  · refine Kept.ite (fun _ => ?_) (fun _ => ?_)
    · exact Kept.refl _
    · exact State.setFld_kept
  · refine Kept.ite (fun _ => ?_) (fun _ => ?_)
    · refine Kept.trans ?_ State.wr_kept
      refine Kept.trans ?_ State.wr_kept
      refine Kept.trans ?_ State.wr_kept
      exact State.wr_kept
    · exact State.wr_kept

theorem State.queueInPush_kept {s : State} {d : Nat} {len : Word} {ws : List Word} {pcieOk : Bool} :
    Kept s (s.queueInPush d len ws pcieOk) := by
  unfold State.queueInPush
  refine Kept.ite (fun _ => ?_) (fun _ => ?_)
  · dsimp only
    refine Kept.ite (fun _ => ?_) (fun _ => ?_)
    · exact State.ringStop_kept
    · refine Kept.ite (fun _ => ?_) (fun _ => ?_)
      · exact State.ringStop_kept
      · refine Kept.ite (fun _ => ?_) (fun _ => ?_)
        · refine Kept.trans ?_ State.ringAdvance_kept
          exact State.pushPacket_kept
        · exact Kept.refl _
  · exact Kept.refl _

theorem State.writeEntries_kept {s : State} {d : Nat} {cls : DmaClass} {dense : Bool} {ws : List Word} :
    Kept s (s.writeEntries d cls dense ws) := by
  unfold State.writeEntries
  dsimp only
  refine Kept.trans ?_ (Kept.foldl (fun _ _ => ?_) _ _)
  · exact Kept.refl _
  · exact State.emit_kept

theorem State.queueOutMove_kept {s : State} {d : Nat} {ecc : EccResult} {badWord : Nat} {pcieOk : Bool} :
    Kept s (s.queueOutMove d ecc badWord pcieOk) := by
  unfold State.queueOutMove
  dsimp only
  refine Kept.ite (fun _ => ?_) (fun _ => ?_)
  · split
    · refine Kept.ite (fun _ => ?_) (fun _ => ?_)
      · exact Kept.refl _
      · refine Kept.ite (fun _ => ?_) (fun _ => ?_)
        · exact State.ringStop_kept
        · refine Kept.trans ?_ State.ringAdvance_kept
          refine Kept.trans ?_ State.writeEntries_kept
          exact State.setQueue_kept
    · refine Kept.ite (fun _ => ?_) (fun _ => ?_)
      · exact State.eccLasting_kept
      · refine Kept.ite (fun _ => ?_) (fun _ => ?_)
        · refine Kept.trans ?_ State.queueDrop_kept
          refine Kept.trans ?_ State.setQueue_kept
          refine Kept.ite (fun _ => ?_) (fun _ => ?_)
          · exact Kept.refl _
          · exact State.bump_kept
        · refine Kept.ite (fun _ => ?_) (fun _ => ?_)
          · refine Kept.ite (fun _ => ?_) (fun _ => ?_)
            · exact Kept.refl _
            · exact State.bump_kept
          · refine Kept.ite (fun _ => ?_) (fun _ => ?_)
            · refine Kept.trans ?_ State.ringStop_kept
              refine Kept.ite (fun _ => ?_) (fun _ => ?_)
              · exact Kept.refl _
              · exact State.bump_kept
            · refine Kept.trans ?_ State.ringAdvance_kept
              refine Kept.trans ?_ State.writeEntries_kept
              refine Kept.trans ?_ State.setQueue_kept
              refine Kept.ite (fun _ => ?_) (fun _ => ?_)
              · exact Kept.refl _
              · exact State.bump_kept
    · exact Kept.refl _
  · exact Kept.refl _

theorem State.endDescriptor_kept {s : State} {d transferred status : Nat} {cls : DmaClass} :
    Kept s (s.endDescriptor d transferred status cls) := by
  unfold State.endDescriptor
  dsimp only
  refine Kept.trans ?_ State.ringAdvance_kept
  exact State.emit_kept

theorem State.setRingItems_kept {s : State} {d : Nat} {l : List RecvItem} : Kept s (s.setRingItems d l) := by
  unfold State.setRingItems
  refine Kept.upd ?_
  exact Kept.refl _

theorem State.receiveItem_kept {s : State} {d : Nat} {x : Descriptor} {ecc : EccResult} {pcieOk : Bool} :
    Kept s (s.receiveItem d x ecc pcieOk) := by
  unfold State.receiveItem
  refine Kept.ite (fun _ => ?_) (fun _ => ?_)
  · split
    · exact Kept.refl _
    · refine Kept.ite (fun _ => ?_) (fun _ => ?_)
      · exact State.ringStop_kept
      · dsimp only
        split
        · exact (State.blockEcc_eq (by assumption))
        · refine Kept.trans ?_ State.endDescriptor_kept
          refine Kept.trans ?_ State.emit_kept
          refine Kept.trans ?_ State.setRingItems_kept
          exact (State.blockEcc_eq (by assumption))
  · exact Kept.refl _

theorem State.copyDescriptor_kept {s : State} {d : Nat} {x : Descriptor} {hostBytes : List Byte} {ecc : EccResult} {pcieOk : Bool} :
    Kept s (s.copyDescriptor d x hostBytes ecc pcieOk) := by
  unfold State.copyDescriptor
  refine Kept.ite (fun _ => ?_) (fun _ => ?_)
  · dsimp only
    refine Kept.ite (fun _ => ?_) (fun _ => ?_)
    · exact State.ringStop_kept
    · split
      · refine Kept.trans ?_ State.endDescriptor_kept
        exact State.badAccess_kept
      · refine Kept.ite (fun _ => ?_) (fun _ => ?_)
        · refine Kept.trans ?_ State.endDescriptor_kept
          exact State.badAccess_kept
        · refine Kept.ite (fun _ => ?_) (fun _ => ?_)
          · refine Kept.ite (fun _ => ?_) (fun _ => ?_)
            · split
              · exact (State.bulkWrite_eq (by assumption))
              · refine Kept.trans ?_ State.endDescriptor_kept
                exact (State.bulkWrite_eq (by assumption))
            · exact Kept.refl _
          · split
            · exact (State.bulkRead_eq (by assumption))
            · refine Kept.trans ?_ State.endDescriptor_kept
              refine Kept.trans ?_ State.emit_kept
              exact (State.bulkRead_eq (by assumption))
  · exact Kept.refl _

/-! ### Machine/Tongs.lean -/

theorem State.tngFlag_kept {s : State} {b : Nat} : Kept s (s.tngFlag b) := by
  unfold State.tngFlag
  exact State.flagRaise_kept

theorem State.setMarks_kept {s : State} {m : List (Nat × Mark × MarkState)} : Kept s (s.setMarks m) := by
  unfold State.setMarks
  dsimp only
  refine Kept.ite (fun _ => ?_) (fun _ => ?_)
  · refine Kept.trans ?_ State.tngFlag_kept
    refine Kept.trans ?_ State.bump_kept
    refine Kept.trans ?_ State.highWater_kept
    refine Kept.trans ?_ State.setFld_kept
    refine Kept.upd ?_
    exact Kept.refl _
  · refine Kept.trans ?_ State.highWater_kept
    refine Kept.trans ?_ State.setFld_kept
    refine Kept.upd ?_
    exact Kept.refl _

theorem State.setMark_kept {s : State} {id : Nat} {st : MarkState} : Kept s (s.setMark id st) := by
  unfold State.setMark
  refine Kept.upd ?_
  exact Kept.refl _

theorem State.dropMark_kept {s : State} {id : Nat} : Kept s (s.dropMark id) := by
  unfold State.dropMark
  refine Kept.trans ?_ State.journal_kept
  exact State.setMarks_kept

theorem State.setLink_kept {s : State} {m : Nat} {l : MarkLink} : Kept s (s.setLink m l) := by
  unfold State.setLink
  refine Kept.upd ?_
  exact Kept.refl _

theorem State.queueFrame_kept {s : State} {f : DueFrame} : Kept s (s.queueFrame f) := by
  unfold State.queueFrame
  dsimp only
  exact State.setLink_kept

theorem State.sendMark_kept {s : State} {id : Nat} {m : Mark} {t : Nat} : Kept s (s.sendMark id m t) := by
  unfold State.sendMark
  refine Kept.trans ?_ State.queueFrame_kept
  exact State.setMark_kept

theorem State.lateMark_kept {s : State} {id : Nat} {m : Mark} : Kept s (s.lateMark id m) := by
  unfold State.lateMark
  refine Kept.ite (fun _ => ?_) (fun _ => ?_)
  · dsimp only
    refine Kept.ite (fun _ => ?_) (fun _ => ?_)
    · refine Kept.trans ?_ State.sendMark_kept
      exact State.tngFlag_kept
    · refine Kept.trans ?_ State.setMark_kept
      exact State.tngFlag_kept
  · refine Kept.trans ?_ State.tngFlag_kept
    exact State.dropMark_kept

theorem State.evalMark_kept {s : State} {id : Nat} {m : Mark} : Kept s (s.evalMark id m) := by
  unfold State.evalMark
  split
  · exact Kept.refl _
  · refine Kept.ite (fun _ => ?_) (fun _ => ?_)
    · exact State.lateMark_kept
    · split
      · refine Kept.ite (fun _ => ?_) (fun _ => ?_)
        · exact State.lateMark_kept
        · exact Kept.refl _
      · exact Kept.refl _

theorem State.sendLate_kept {s : State} {id : Nat} {m : Mark} : Kept s (s.sendLate id m) := by
  unfold State.sendLate
  refine Kept.ite (fun _ => ?_) (fun _ => ?_)
  · exact State.sendMark_kept
  · exact Kept.refl _

theorem State.sendLates_kept {s : State} : Kept s (s.sendLates) := by
  unfold State.sendLates
  refine Kept.ite (fun _ => ?_) (fun _ => ?_)
  · exact Kept.refl _
  · refine Kept.trans ?_ (Kept.foldl (fun _ _ => ?_) _ _)
    · exact Kept.refl _
    · refine Kept.ite (fun _ => ?_) (fun _ => ?_)
      · exact State.sendLate_kept
      · exact Kept.refl _

theorem State.evalMarks_kept {s : State} : Kept s (s.evalMarks) := by
  unfold State.evalMarks
  refine Kept.ite (fun _ => ?_) (fun _ => ?_)
  · exact Kept.refl _
  · refine Kept.trans ?_ (Kept.foldl (fun _ _ => ?_) _ _)
    · exact State.sendLates_kept
    · refine Kept.ite (fun _ => ?_) (fun _ => ?_)
      · exact State.evalMark_kept
      · exact Kept.refl _

theorem State.createMark_kept {s : State} {m : Mark} : Kept s (s.createMark m) := by
  unfold State.createMark
  dsimp only
  refine Kept.ite (fun _ => ?_) (fun _ => ?_)
  · refine Kept.trans ?_ State.tngFlag_kept
    exact State.bump_kept
  · refine Kept.ite (fun _ => ?_) (fun _ => ?_)
    · refine Kept.trans ?_ State.tngFlag_kept
      exact State.bump_kept
    · refine Kept.ite (fun _ => ?_) (fun _ => ?_)
      · refine Kept.trans ?_ State.journal_kept
        refine Kept.trans ?_ State.setMarks_kept
        refine Kept.upd ?_
        exact State.bump_kept
      · refine Kept.trans ?_ State.evalMark_kept
        refine Kept.trans ?_ State.journal_kept
        refine Kept.trans ?_ State.setMarks_kept
        refine Kept.upd ?_
        exact State.bump_kept

theorem State.markRecord_kept {s : State} {cls lo hi : Nat} {mdFirst : BitVec 72} : Kept s (s.markRecord cls lo hi mdFirst) := by
  unfold State.markRecord
  dsimp only
  refine Kept.ite (fun _ => ?_) (fun _ => ?_)
  · exact State.bump_kept
  · refine Kept.trans ?_ (Kept.foldl (fun _ _ => ?_) _ _)
    · exact Kept.refl _
    · exact State.createMark_kept

theorem State.cancelMarks_kept {s : State} : Kept s (s.cancelMarks) := by
  unfold State.cancelMarks
  refine Kept.trans ?_ (Kept.foldl (fun _ _ => ?_) _ _)
  · exact Kept.refl _
  · split
    · refine Kept.ite (fun _ => ?_) (fun _ => ?_)
      · refine Kept.trans ?_ State.tngFlag_kept
        refine Kept.trans ?_ State.queueFrame_kept
        exact State.setMark_kept
      · exact Kept.refl _
    · exact Kept.refl _

theorem State.discardMarks_kept {s : State} : Kept s (s.discardMarks) := by
  unfold State.discardMarks
  dsimp only
  refine Kept.trans ?_ (Kept.foldl (fun _ _ => ?_) _ _)
  · exact State.cancelMarks_kept
  · split
    · exact Kept.refl _
    · refine Kept.trans ?_ State.tngFlag_kept
      exact State.dropMark_kept

theorem State.quenchMarks_kept {s : State} : Kept s (s.quenchMarks) := by
  unfold State.quenchMarks
  dsimp only
  refine Kept.upd ?_
  refine Kept.trans ?_ (upTo_kept fun _ _ => ?_)
  · exact Kept.refl _
  · refine Kept.ite (fun _ => ?_) (fun _ => ?_)
    · refine Kept.trans ?_ State.emit_kept
      exact State.setLink_kept
    · exact State.setLink_kept

theorem State.releaseMarks_kept {s : State} : Kept s (s.releaseMarks) := by
  unfold State.releaseMarks
  refine Kept.trans ?_ (upTo_kept fun _ _ => ?_)
  · exact Kept.refl _
  · refine Kept.ite (fun _ => ?_) (fun _ => ?_)
    · exact State.setLink_kept
    · exact Kept.refl _

theorem State.thawMarks_kept {s : State} : Kept s (s.thawMarks) := by
  unfold State.thawMarks
  refine Kept.trans ?_ State.evalMarks_kept
  refine Kept.upd ?_
  exact Kept.refl _

theorem State.markFrame_kept {s : State} {m : Nat} {cancel : Bool} : Kept s (s.markFrame m cancel) := by
  unfold State.markFrame
  split
  · refine Kept.ite (fun _ => ?_) (fun _ => ?_)
    · dsimp only
      refine Kept.trans ?_ State.bump_kept
      refine Kept.trans ?_ State.emit_kept
      exact State.setLink_kept
    · exact Kept.refl _
  · exact Kept.refl _

theorem State.writeLinkCfg_kept {s : State} {m : Nat} {v : BitVec 32} : Kept s (s.writeLinkCfg m v) := by
  unfold State.writeLinkCfg
  dsimp only
  refine Kept.ite (fun _ => ?_) (fun _ => ?_)
  · refine Kept.ite (fun _ => ?_) (fun _ => ?_)
    · refine Kept.trans ?_ State.emit_kept
      refine Kept.trans ?_ State.setLink_kept
      exact State.plainWrite_kept
    · refine Kept.trans ?_ State.setLink_kept
      exact State.plainWrite_kept
  · refine Kept.ite (fun _ => ?_) (fun _ => ?_)
    · refine Kept.trans ?_ State.setLink_kept
      exact State.plainWrite_kept
    · exact State.plainWrite_kept

theorem State.writeChWidth_kept {s : State} {ch : Nat} {v : BitVec 32} : Kept s (s.writeChWidth ch v) := by
  unfold State.writeChWidth
  dsimp only
  refine Kept.ite (fun _ => ?_) (fun _ => ?_)
  · refine Kept.trans ?_ State.setLink_kept
    exact State.plainWrite_kept
  · exact State.plainWrite_kept

/-! ### Machine/Events.lean -/

theorem State.setMsixEntry_kept {s : State} {v : Nat} {e : MsixEntry} : Kept s (s.setMsixEntry v e) := by
  unfold State.setMsixEntry
  refine Kept.upd ?_
  exact Kept.refl _

theorem State.message_kept {s : State} {v : Nat} : Kept s (s.message v) := by
  unfold State.message
  dsimp only
  refine Kept.ite (fun _ => ?_) (fun _ => ?_)
  · refine Kept.upd ?_
    exact Kept.refl _
  · exact State.emit_kept

theorem State.sendPended_kept {s : State} {v : Nat} : Kept s (s.sendPended v) := by
  unfold State.sendPended
  refine Kept.ite (fun _ => ?_) (fun _ => ?_)
  · refine Kept.trans ?_ State.message_kept
    refine Kept.upd ?_
    exact Kept.refl _
  · exact Kept.refl _

theorem State.commitSource_kept {s : State} {src : Nat} : Kept s (s.commitSource src) := by
  unfold State.commitSource
  dsimp only
  refine Kept.trans ?_ State.wr_kept
  refine Kept.trans ?_ State.setFld_kept
  exact State.setFld_kept

theorem State.commitAll_kept {s : State} {srcs : List Nat} : Kept s (s.commitAll srcs) := by
  unfold State.commitAll
  dsimp only
  refine Kept.trans ?_ (upTo_kept fun _ _ => ?_)
  · refine Kept.trans ?_ (Kept.foldl (fun _ _ => ?_) _ _)
    · exact Kept.refl _
    · exact State.commitSource_kept
  · refine Kept.ite (fun _ => ?_) (fun _ => ?_)
    · exact State.message_kept
    · exact Kept.refl _

theorem State.openGate_kept {s : State} {g : Nat} : Kept s (s.openGate g) := by
  unfold State.openGate
  dsimp only
  refine Kept.trans ?_ State.commitAll_kept
  refine Kept.trans ?_ State.setGate_kept
  refine Kept.trans ?_ State.bump_kept
  refine Kept.trans ?_ State.setFld_kept
  refine Kept.trans ?_ State.setFld_kept
  refine Kept.trans ?_ (Kept.foldl (fun _ _ => ?_) _ _)
  · exact Kept.refl _
  · refine Kept.ite (fun _ => ?_) (fun _ => ?_)
    · exact State.setFld_kept
    · exact Kept.refl _

theorem State.writeSource_kept {s : State} {ag : Agent} {src : Nat} {v : BitVec 32} : Kept s (s.writeSource ag src v) := by
  unfold State.writeSource
  dsimp only
  refine Kept.ite (fun _ => ?_) (fun _ => ?_)
  · refine Kept.trans ?_ State.commitAll_kept
    exact State.wr_kept
  · exact State.wr_kept

theorem State.writeMsix_kept {s : State} {w : MsixWrite} : Kept s (s.writeMsix w) := by
  unfold State.writeMsix
  split
  · refine Kept.trans ?_ State.sendPended_kept
    exact State.setMsixEntry_kept
  · exact State.setMsixEntry_kept
  · exact State.setMsixEntry_kept
  · dsimp only
    refine Kept.trans ?_ (upTo_kept fun _ _ => ?_)
    · refine Kept.upd ?_
      exact Kept.refl _
    · exact State.sendPended_kept

theorem State.writeLanternCfg_kept {s : State} {v : BitVec 32} : Kept s (s.writeLanternCfg v) := by
  unfold State.writeLanternCfg
  dsimp only
  exact State.setFld_kept

theorem State.wakePending_kept {s : State} : Kept s (s.wakePending) := by
  unfold State.wakePending
  refine Kept.trans ?_ (upTo_kept fun _ _ => ?_)
  · exact Kept.refl _
  · refine Kept.ite (fun _ => ?_) (fun _ => ?_)
    · exact State.wakeOn_kept
    · exact Kept.refl _

/-! ### Machine/TimeBase.lean -/

theorem State.setTim_kept {s : State} {t : TimeBase} : Kept s (s.setTim t) := by
  unfold State.setTim
  refine Kept.upd ?_
  exact Kept.refl _

theorem State.enterHoldover_kept {s : State} : Kept s (s.enterHoldover) := by
  unfold State.enterHoldover
  refine Kept.trans ?_ State.timFlag_kept
  exact State.setTim_kept

theorem State.servo_kept {s : State} {o : Int} : Kept s (s.servo o) := by
  unfold State.servo
  dsimp only
  exact State.setTim_kept

theorem State.decideStep_kept {s : State} {o : Int} : Kept s (s.decideStep o) := by
  unfold State.decideStep
  exact State.setTim_kept

theorem State.takeOffset_kept {s : State} {o : Int} : Kept s (s.takeOffset o) := by
  unfold State.takeOffset
  dsimp only
  split
  · refine Kept.trans ?_ State.decideStep_kept
    exact State.setTim_kept
  · refine Kept.ite (fun _ => ?_) (fun _ => ?_)
    · refine Kept.trans ?_ State.servo_kept
      exact State.setTim_kept
    · refine Kept.trans ?_ State.enterHoldover_kept
      exact State.setTim_kept
  · refine Kept.ite (fun _ => ?_) (fun _ => ?_)
    · refine Kept.trans ?_ State.decideStep_kept
      exact State.setTim_kept
    · refine Kept.ite (fun _ => ?_) (fun _ => ?_)
      · refine Kept.trans ?_ State.servo_kept
        refine Kept.trans ?_ State.setTim_kept
        exact State.setTim_kept
      · exact State.setTim_kept
  · exact State.setTim_kept

theorem State.tickTime_kept {s : State} : Kept s (s.tickTime) := by
  unfold State.tickTime
  dsimp only
  refine Kept.ite (fun _ => ?_) (fun _ => ?_)
  · exact State.setTim_kept
  · split
    · exact State.setTim_kept
    · refine Kept.ite (fun _ => ?_) (fun _ => ?_)
      · refine Kept.trans ?_ State.timFlag_kept
        exact State.setTim_kept
      · refine Kept.trans ?_ State.timFlag_kept
        exact State.setTim_kept

theorem State.hostOffset_kept {s : State} {hi : BitVec 32} : Kept s (s.hostOffset hi) := by
  unfold State.hostOffset
  dsimp only
  refine Kept.ite (fun _ => ?_) (fun _ => ?_)
  · refine Kept.trans ?_ State.takeOffset_kept
    exact State.wr_kept
  · exact State.wr_kept

theorem State.loseTime_kept {s : State} : Kept s (s.loseTime) := by
  unfold State.loseTime
  refine Kept.ite (fun _ => ?_) (fun _ => ?_)
  · exact State.enterHoldover_kept
  · exact Kept.refl _

theorem State.writeTimCfg_kept {s : State} {v : BitVec 32} : Kept s (s.writeTimCfg v) := by
  unfold State.writeTimCfg
  dsimp only
  refine Kept.ite (fun _ => ?_) (fun _ => ?_)
  · exact State.wr_kept
  · refine Kept.trans ?_ State.loseTime_kept
    refine Kept.trans ?_ State.setTim_kept
    exact State.wr_kept

theorem State.tcForward_kept {s : State} {m : PtpMsg} {corrected : Bool} : Kept s (s.tcForward m corrected) := by
  unfold State.tcForward
  dsimp only
  refine Kept.ite (fun _ => ?_) (fun _ => ?_)
  · refine Kept.trans ?_ State.bump_kept
    refine Kept.trans ?_ State.emit_kept
    split
    · exact State.fresh_kept
    · dsimp only
      exact Kept.refl _
  · exact Kept.refl _

theorem State.rxFrame_kept {s : State} {k : Nat} : Kept s (s.rxFrame k) := by
  unfold State.rxFrame
  exact State.bump_kept

theorem State.ptpSync_kept {s : State} {m : PtpMsg} : Kept s (s.ptpSync m) := by
  unfold State.ptpSync
  refine Kept.ite (fun _ => ?_) (fun _ => ?_)
  · dsimp only
    refine Kept.ite (fun _ => ?_) (fun _ => ?_)
    · refine Kept.trans ?_ State.setTim_kept
      refine Kept.trans ?_ State.tcForward_kept
      exact State.rxFrame_kept
    · refine Kept.trans ?_ State.tcForward_kept
      exact State.rxFrame_kept
  · exact Kept.refl _

theorem State.followUp_kept {s : State} {m : PtpMsg} : Kept s (s.followUp m) := by
  unfold State.followUp
  refine Kept.ite (fun _ => ?_) (fun _ => ?_)
  · dsimp only
    split
    · refine Kept.ite (fun _ => ?_) (fun _ => ?_)
      · refine Kept.trans ?_ State.setTim_kept
        refine Kept.trans ?_ State.tcForward_kept
        exact State.rxFrame_kept
      · refine Kept.trans ?_ State.tcForward_kept
        exact State.rxFrame_kept
    · refine Kept.trans ?_ State.tcForward_kept
      exact State.rxFrame_kept
  · exact Kept.refl _

theorem State.delayReq_kept {s : State} {k tap : Nat} : Kept s (s.delayReq k tap) := by
  unfold State.delayReq
  split
  · dsimp only
    refine Kept.ite (fun _ => ?_) (fun _ => ?_)
    · refine Kept.trans ?_ State.emit_kept
      exact State.setTim_kept
    · exact Kept.refl _
  · exact Kept.refl _

theorem State.delayResp_kept {s : State} {m : PtpMsg} : Kept s (s.delayResp m) := by
  unfold State.delayResp
  refine Kept.ite (fun _ => ?_) (fun _ => ?_)
  · dsimp only
    refine Kept.ite (fun _ => ?_) (fun _ => ?_)
    · split
      · split
        · refine Kept.ite (fun _ => ?_) (fun _ => ?_)
          · refine Kept.trans ?_ State.takeOffset_kept
            refine Kept.trans ?_ State.setTim_kept
            refine Kept.trans ?_ State.setTim_kept
            refine Kept.trans ?_ State.setTim_kept
            refine Kept.trans ?_ State.tcForward_kept
            exact State.rxFrame_kept
          · refine Kept.trans ?_ State.setTim_kept
            refine Kept.trans ?_ State.setTim_kept
            refine Kept.trans ?_ State.tcForward_kept
            exact State.rxFrame_kept
        · refine Kept.trans ?_ State.setTim_kept
          refine Kept.trans ?_ State.setTim_kept
          refine Kept.trans ?_ State.tcForward_kept
          exact State.rxFrame_kept
      · refine Kept.trans ?_ State.setTim_kept
        refine Kept.trans ?_ State.tcForward_kept
        exact State.rxFrame_kept
    · refine Kept.trans ?_ State.tcForward_kept
      exact State.rxFrame_kept
  · exact Kept.refl _

theorem State.announce_kept {s : State} {m : PtpMsg} {d : AnnounceData} : Kept s (s.announce m d) := by
  unfold State.announce
  refine Kept.ite (fun _ => ?_) (fun _ => ?_)
  · dsimp only
    refine Kept.ite (fun _ => ?_) (fun _ => ?_)
    · split
      · refine Kept.trans ?_ State.setTim_kept
        refine Kept.trans ?_ State.tcForward_kept
        exact State.rxFrame_kept
      · refine Kept.ite (fun _ => ?_) (fun _ => ?_)
        · refine Kept.trans ?_ State.setTim_kept
          refine Kept.trans ?_ State.tcForward_kept
          exact State.rxFrame_kept
        · refine Kept.trans ?_ State.tcForward_kept
          exact State.rxFrame_kept
    · refine Kept.trans ?_ State.tcForward_kept
      exact State.rxFrame_kept
  · exact Kept.refl _

/-! ### Machine/Plant.lean -/

theorem State.sendDatagram_kept {s : State} {k tap : Nat} : Kept s (s.sendDatagram k tap) := by
  unfold State.sendDatagram
  refine Kept.ite (fun _ => ?_) (fun _ => ?_)
  · dsimp only
    split
    · refine Kept.ite (fun _ => ?_) (fun _ => ?_)
      · refine Kept.ite (fun _ => ?_) (fun _ => ?_)
        · refine Kept.trans ?_ State.timFlag_kept
          refine Kept.trans ?_ State.bump_kept
          exact State.setQueue_kept
        · refine Kept.trans ?_ State.bump_kept
          refine Kept.trans ?_ State.setTim_kept
          refine Kept.trans ?_ State.emit_kept
          refine Kept.trans ?_ State.fresh_kept
          exact State.setQueue_kept
      · exact Kept.refl _
    · exact Kept.refl _
  · exact Kept.refl _

theorem State.discardFrame_kept {s : State} {k : Nat} : Kept s (s.discardFrame k) := by
  unfold State.discardFrame
  refine Kept.trans ?_ State.timFlag_kept
  exact State.bump_kept

/-! ### Machine/Quench.lean -/

theorem State.setQuench_held {s : State} : Held s (s.setQuench) := by
  unfold State.setQuench
  refine Held.ite (fun _ => ?_) (fun _ => ?_)
  · exact Held.refl _
  · dsimp only
    refine Held.ite (fun _ => ?_) (fun _ => ?_)
    · refine Held.trans ?_ State.enter_held
      refine Held.upd ?_
      refine Held.trans ?_ (Kept.toHeld State.quenchMarks_kept)
      refine Held.trans ?_ (Kept.toHeld State.hstFlag_kept)
      exact Kept.toHeld State.setFld_kept
    · refine Held.trans ?_ (Kept.toHeld State.quenchMarks_kept)
      refine Held.trans ?_ (Kept.toHeld State.hstFlag_kept)
      exact Kept.toHeld State.setFld_kept

theorem State.releaseQuench_kept {s : State} : Kept s (s.releaseQuench) := by
  unfold State.releaseQuench
  refine Kept.ite (fun _ => ?_) (fun _ => ?_)
  · refine Kept.trans ?_ State.releaseMarks_kept
    refine Kept.trans ?_ State.hstFlag_kept
    exact State.setFld_kept
  · exact Kept.refl _

theorem State.writeQuench_held {s : State} {v : BitVec 32} : Held s (s.writeQuench v) := by
  unfold State.writeQuench
  dsimp only
  refine Held.ite (fun _ => ?_) (fun _ => ?_)
  · refine Held.trans ?_ State.setQuench_held
    refine Held.ite (fun _ => ?_) (fun _ => ?_)
    · exact Kept.toHeld State.releaseQuench_kept
    · exact Held.refl _
  · refine Held.ite (fun _ => ?_) (fun _ => ?_)
    · exact Kept.toHeld State.releaseQuench_kept
    · exact Held.refl _

/-! ### Machine/Temper.lean -/

theorem State.setTmp_kept {s : State} {t : Temper} : Kept s (s.setTmp t) := by
  unfold State.setTmp
  refine Kept.upd ?_
  exact Kept.refl _

theorem State.makeHbmDue_kept {s : State} : Kept s (s.makeHbmDue) := by
  unfold State.makeHbmDue
  refine Kept.trans ?_ State.setFld_kept
  exact State.setTmp_kept

theorem State.runHbm_kept {s : State} : Kept s (s.runHbm) := by
  unfold State.runHbm
  refine Kept.ite (fun _ => ?_) (fun _ => ?_)
  · exact State.makeHbmDue_kept
  · exact Kept.refl _

theorem State.startRetraining_kept {s : State} : Kept s (s.startRetraining) := by
  unfold State.startRetraining
  dsimp only
  refine Kept.trans ?_ State.setFld_kept
  refine Kept.trans ?_ State.setFld_kept
  exact State.setTmp_kept

theorem State.applyHbm_kept {s : State} {r : HbmResult} {failed : List (Fin 16)} : Kept s (s.applyHbm r failed) := by
  unfold State.applyHbm
  dsimp only
  refine Kept.trans ?_ State.journal_kept
  exact State.setTmp_kept

theorem State.retrainEnd_kept {s : State} {r : HbmResult} : Kept s (s.retrainEnd r) := by
  unfold State.retrainEnd
  dsimp only
  refine Kept.ite (fun _ => ?_) (fun _ => ?_)
  · refine Kept.ite (fun _ => ?_) (fun _ => ?_)
    · refine Kept.trans ?_ State.tmpFlag_kept
      refine Kept.trans ?_ State.setFld_kept
      refine Kept.trans ?_ State.setFld_kept
      refine Kept.trans ?_ State.bump_kept
      refine Kept.trans ?_ State.setFld_kept
      refine Kept.trans ?_ State.setTmp_kept
      split
      · exact State.applyHbm_kept
      · exact Kept.refl _
    · refine Kept.trans ?_ State.setFld_kept
      refine Kept.trans ?_ State.setFld_kept
      refine Kept.trans ?_ State.bump_kept
      refine Kept.trans ?_ State.setFld_kept
      refine Kept.trans ?_ State.setTmp_kept
      split
      · exact State.applyHbm_kept
      · exact Kept.refl _
  · refine Kept.ite (fun _ => ?_) (fun _ => ?_)
    · refine Kept.trans ?_ State.tmpFlag_kept
      refine Kept.ite (fun _ => ?_) (fun _ => ?_)
      · refine Kept.trans ?_ State.tmpFlag_kept
        refine Kept.trans ?_ State.setFld_kept
        refine Kept.trans ?_ State.setFld_kept
        refine Kept.trans ?_ State.bump_kept
        refine Kept.trans ?_ State.setFld_kept
        refine Kept.trans ?_ State.setTmp_kept
        split
        · exact State.applyHbm_kept
        · exact Kept.refl _
      · refine Kept.trans ?_ State.setFld_kept
        refine Kept.trans ?_ State.setFld_kept
        refine Kept.trans ?_ State.bump_kept
        refine Kept.trans ?_ State.setFld_kept
        refine Kept.trans ?_ State.setTmp_kept
        split
        · exact State.applyHbm_kept
        · exact Kept.refl _
    · refine Kept.trans ?_ State.makeHbmDue_kept
      refine Kept.trans ?_ State.tmpFlag_kept
      refine Kept.ite (fun _ => ?_) (fun _ => ?_)
      · refine Kept.trans ?_ State.tmpFlag_kept
        refine Kept.trans ?_ State.setFld_kept
        refine Kept.trans ?_ State.setFld_kept
        refine Kept.trans ?_ State.bump_kept
        refine Kept.trans ?_ State.setFld_kept
        refine Kept.trans ?_ State.setTmp_kept
        split
        · exact State.applyHbm_kept
        · exact Kept.refl _
      · refine Kept.trans ?_ State.setFld_kept
        refine Kept.trans ?_ State.setFld_kept
        refine Kept.trans ?_ State.bump_kept
        refine Kept.trans ?_ State.setFld_kept
        refine Kept.trans ?_ State.setTmp_kept
        split
        · exact State.applyHbm_kept
        · exact Kept.refl _

theorem State.runTdc_kept {s : State} : Kept s (s.runTdc) := by
  unfold State.runTdc
  refine Kept.ite (fun _ => ?_) (fun _ => ?_)
  · exact State.setTmp_kept
  · exact Kept.refl _

theorem State.tickTdc_kept {s : State} : Kept s (s.tickTdc) := by
  unfold State.tickTdc
  refine Kept.ite (fun _ => ?_) (fun _ => ?_)
  · refine Kept.trans ?_ State.setFld_kept
    exact State.setTmp_kept
  · exact Kept.refl _

theorem State.tdcFinish_kept {s : State} {r : TdcResult} : Kept s (s.tdcFinish r) := by
  unfold State.tdcFinish
  dsimp only
  refine Kept.ite (fun _ => ?_) (fun _ => ?_)
  · refine Kept.trans ?_ State.tmpFlag_kept
    refine Kept.ite (fun _ => ?_) (fun _ => ?_)
    · refine Kept.ite (fun _ => ?_) (fun _ => ?_)
      · refine Kept.trans ?_ State.bump_kept
        refine Kept.trans ?_ State.setFld_kept
        exact State.setTmp_kept
      · refine Kept.trans ?_ State.journal_kept
        refine Kept.trans ?_ State.bump_kept
        refine Kept.trans ?_ State.setFld_kept
        exact State.setTmp_kept
    · refine Kept.trans ?_ State.tmpFlag_kept
      refine Kept.ite (fun _ => ?_) (fun _ => ?_)
      · refine Kept.trans ?_ State.bump_kept
        refine Kept.trans ?_ State.setFld_kept
        exact State.setTmp_kept
      · refine Kept.trans ?_ State.journal_kept
        refine Kept.trans ?_ State.bump_kept
        refine Kept.trans ?_ State.setFld_kept
        exact State.setTmp_kept
  · refine Kept.ite (fun _ => ?_) (fun _ => ?_)
    · refine Kept.ite (fun _ => ?_) (fun _ => ?_)
      · refine Kept.trans ?_ State.bump_kept
        refine Kept.trans ?_ State.setFld_kept
        exact State.setTmp_kept
      · refine Kept.trans ?_ State.journal_kept
        refine Kept.trans ?_ State.bump_kept
        refine Kept.trans ?_ State.setFld_kept
        exact State.setTmp_kept
    · refine Kept.trans ?_ State.tmpFlag_kept
      refine Kept.ite (fun _ => ?_) (fun _ => ?_)
      · refine Kept.trans ?_ State.bump_kept
        refine Kept.trans ?_ State.setFld_kept
        exact State.setTmp_kept
      · refine Kept.trans ?_ State.journal_kept
        refine Kept.trans ?_ State.bump_kept
        refine Kept.trans ?_ State.setFld_kept
        exact State.setTmp_kept

theorem State.advanceCoef_kept {s : State} : Kept s (s.advanceCoef) := by
  unfold State.advanceCoef
  dsimp only
  exact State.setFld_kept

end Sys2Proof.Machine
end

