-- ==== Sys2Proof/Laws/KeptSystem.lean ====
section
/-! SUPPORT. What each operation keeps (`Kept`, `Held`): camera lanes, Bloom, security, resets, FAULT, commits, the Wick cores and the host commands. -/

set_option Elab.async false
namespace Sys2Proof.Machine

/-! ### Machine/Lanes.lean -/

theorem State.syncLink_kept {s : State} {l : Nat} : Kept s (s.syncLink l) := by
  unfold State.syncLink
  dsimp only
  exact State.wr_kept

theorem State.putLink_kept {s : State} {l : Nat} {x : Link} : Kept s (s.putLink l x) := by
  unfold State.putLink
  refine Kept.trans ?_ State.syncLink_kept
  exact State.setCamLink_kept

theorem State.lockLane_kept {s : State} {lane : Nat} {wimen : Bool} : Kept s (s.lockLane lane wimen) := by
  unfold State.lockLane
  dsimp only
  refine Kept.trans ?_ State.setFld_kept
  refine Kept.trans ?_ State.setFld_kept
  refine Kept.trans ?_ State.setFld_kept
  refine Kept.trans ?_ State.setFld_kept
  refine Kept.upd ?_
  exact Kept.refl _

theorem State.unlockLane_kept {s : State} {lane : Nat} : Kept s (s.unlockLane lane) := by
  unfold State.unlockLane
  dsimp only
  refine Kept.trans ?_ State.setFld_kept
  refine Kept.trans ?_ State.setFld_kept
  refine Kept.trans ?_ State.setFld_kept
  refine Kept.upd ?_
  exact Kept.refl _

theorem State.sampleCdr_kept {s : State} {lane : Nat} : Kept s (s.sampleCdr lane) := by
  unfold State.sampleCdr
  split
  refine Kept.trans ?_ State.wr_kept
  exact (State.fresh_eq (by assumption))

theorem State.setRxRate_kept {s : State} {l rate : Nat} : Kept s (s.setRxRate l rate) := by
  unfold State.setRxRate
  refine Kept.trans ?_ (upTo_kept fun _ _ => ?_)
  · exact Kept.refl _
  · dsimp only
    refine Kept.trans ?_ State.setFld_kept
    refine Kept.ite (fun _ => ?_) (fun _ => ?_)
    · refine Kept.trans ?_ State.setFld_kept
      refine Kept.ite (fun _ => ?_) (fun _ => ?_)
      · exact State.unlockLane_kept
      · refine Kept.trans ?_ State.sampleCdr_kept
        exact State.unlockLane_kept
    · exact State.unlockLane_kept

theorem State.selectCtle_kept {s : State} {l n : Nat} : Kept s (s.selectCtle l n) := by
  unfold State.selectCtle
  refine upTo_kept fun c s => ?_
  dsimp only
  refine Kept.trans ?_ State.setFld_kept
  split
  · exact Kept.refl _
  · exact State.fresh_kept

theorem State.sendStep_kept {s : State} {l : Nat} {second : Bool} : Kept s (s.sendStep l second) := by
  unfold State.sendStep
  dsimp only
  refine Kept.trans ?_ State.emit_kept
  exact State.putLink_kept

theorem State.beginStep_kept {s : State} {l : Nat} {t : BringStep} : Kept s (s.beginStep l t) := by
  unfold State.beginStep
  refine Kept.trans ?_ State.sendStep_kept
  exact State.setCamLink_kept

theorem State.setMail_kept {s : State} {p : Nat} {m : Option Mail} : Kept s (s.setMail p m) := by
  unfold State.setMail
  refine Kept.upd ?_
  exact Kept.refl _

theorem State.endMail_kept {s : State} {p result code : Nat} : Kept s (s.endMail p result code) := by
  unfold State.endMail
  refine Kept.trans ?_ State.blockDone_kept
  refine Kept.trans ?_ State.wr_kept
  exact State.setMail_kept

theorem State.sendMail_kept {s : State} {p : Nat} : Kept s (s.sendMail p) := by
  unfold State.sendMail
  split
  · refine Kept.ite (fun _ => ?_) (fun _ => ?_)
    · refine Kept.trans ?_ State.emit_kept
      exact State.setMail_kept
    · exact Kept.refl _
  · exact Kept.refl _

theorem State.mailLink_kept {s : State} {l : Nat} : Kept s (s.mailLink l) := by
  unfold State.mailLink
  split
  · refine Kept.ite (fun _ => ?_) (fun _ => ?_)
    · exact Kept.refl _
    · refine Kept.ite (fun _ => ?_) (fun _ => ?_)
      · exact State.endMail_kept
      · exact State.setMail_kept
  · exact Kept.refl _

theorem State.writeCcCmd_kept {s : State} {p : Nat} {v : BitVec 32} : Kept s (s.writeCcCmd p v) := by
  unfold State.writeCcCmd
  refine Kept.ite (fun _ => ?_) (fun _ => ?_)
  · exact Kept.refl _
  · dsimp only
    refine Kept.ite (fun _ => ?_) (fun _ => ?_)
    · exact State.endMail_kept
    · refine Kept.ite (fun _ => ?_) (fun _ => ?_)
      · exact State.endMail_kept
      · refine Kept.trans ?_ State.sendMail_kept
        refine Kept.trans ?_ State.wr_kept
        exact State.setMail_kept

theorem State.leaveUp_kept {s : State} {l : Nat} : Kept s (s.leaveUp l) := by
  unfold State.leaveUp
  refine Kept.ite (fun _ => ?_) (fun _ => ?_)
  · dsimp only
    refine Kept.trans ?_ State.portFlag_kept
    refine Kept.trans ?_ State.endStreams_kept
    exact State.setTrigPlaces_kept
  · exact Kept.refl _

theorem State.linkDown_kept {s : State} {l : Nat} : Kept s (s.linkDown l) := by
  unfold State.linkDown
  dsimp only
  refine Kept.trans ?_ State.mailLink_kept
  refine Kept.trans ?_ State.setRxRate_kept
  refine Kept.trans ?_ State.putLink_kept
  exact State.leaveUp_kept

theorem State.linkDiscover_kept {s : State} {l : Nat} : Kept s (s.linkDiscover l) := by
  unfold State.linkDiscover
  dsimp only
  refine Kept.trans ?_ State.emit_kept
  refine Kept.trans ?_ State.emit_kept
  refine Kept.trans ?_ State.mailLink_kept
  refine Kept.trans ?_ State.setRxRate_kept
  refine Kept.trans ?_ State.putLink_kept
  exact State.leaveUp_kept

theorem State.portStop_kept {s : State} {p : Nat} : Kept s (s.portStop p) := by
  unfold State.portStop
  refine Kept.trans ?_ (Kept.foldl (fun _ _ => ?_) _ _)
  · exact Kept.refl _
  · exact State.linkDown_kept

theorem State.portStart_kept {s : State} {p : Nat} : Kept s (s.portStart p) := by
  unfold State.portStart
  refine Kept.ite (fun _ => ?_) (fun _ => ?_)
  · refine Kept.trans ?_ (Kept.foldl (fun _ _ => ?_) _ _)
    · exact Kept.refl _
    · refine Kept.ite (fun _ => ?_) (fun _ => ?_)
      · exact State.linkDiscover_kept
      · exact Kept.refl _
  · exact Kept.refl _

theorem State.portRestart_kept {s : State} {p : Nat} : Kept s (s.portRestart p) := by
  unfold State.portRestart
  refine Kept.ite (fun _ => ?_) (fun _ => ?_)
  · refine Kept.trans ?_ (Kept.foldl (fun _ _ => ?_) _ _)
    · exact Kept.refl _
    · refine Kept.trans ?_ State.linkDiscover_kept
      exact State.setCamLink_kept
  · exact Kept.refl _

theorem State.writePortCmd_kept {s : State} {p : Nat} {v : BitVec 32} : Kept s (s.writePortCmd p v) := by
  unfold State.writePortCmd
  refine Kept.ite (fun _ => ?_) (fun _ => ?_)
  · exact State.portStop_kept
  · refine Kept.ite (fun _ => ?_) (fun _ => ?_)
    · exact State.portRestart_kept
    · refine Kept.ite (fun _ => ?_) (fun _ => ?_)
      · exact State.portStart_kept
      · exact Kept.refl _

theorem State.writePortCfg_kept {s : State} {p : Nat} {v : BitVec 32} : Kept s (s.writePortCfg p v) := by
  unfold State.writePortCfg
  dsimp only
  refine Kept.trans ?_ State.plainWrite_kept
  refine Kept.ite (fun _ => ?_) (fun _ => ?_)
  · exact State.portStop_kept
  · exact Kept.refl _

theorem State.wimenFails_kept {s : State} {l : Nat} : Kept s (s.wimenFails l) := by
  unfold State.wimenFails
  refine Kept.trans ?_ State.linkDiscover_kept
  refine Kept.trans ?_ State.portFlag_kept
  exact State.setCamLink_kept

theorem State.stepFails_kept {s : State} {l : Nat} : Kept s (s.stepFails l) := by
  unfold State.stepFails
  dsimp only
  refine Kept.ite (fun _ => ?_) (fun _ => ?_)
  · exact State.wimenFails_kept
  · refine Kept.ite (fun _ => ?_) (fun _ => ?_)
    · refine Kept.trans ?_ State.putLink_kept
      exact State.linkDiscover_kept
    · exact State.linkDiscover_kept

theorem State.loadDeskew_kept {s : State} {l n : Nat} : Kept s (s.loadDeskew l n) := by
  unfold State.loadDeskew
  dsimp only
  refine Kept.trans ?_ State.journal_kept
  exact State.setTmp_kept

theorem State.linkUp_kept {s : State} {l : Nat} : Kept s (s.linkUp l) := by
  unfold State.linkUp
  dsimp only
  refine Kept.trans ?_ State.sendMail_kept
  refine Kept.trans ?_ State.portFlag_kept
  refine Kept.trans ?_ State.putLink_kept
  refine Kept.ite (fun _ => ?_) (fun _ => ?_)
  · exact State.loadDeskew_kept
  · exact Kept.refl _

theorem State.enterRetune_kept {s : State} {l : Nat} : Kept s (s.enterRetune l) := by
  unfold State.enterRetune
  dsimp only
  refine Kept.ite (fun _ => ?_) (fun _ => ?_)
  · exact State.linkDiscover_kept
  · refine Kept.trans ?_ State.beginStep_kept
    exact State.putLink_kept

theorem State.readIds_kept {s : State} {l c : Nat} : Kept s (s.readIds l c) := by
  unfold State.readIds
  split
  · exact State.beginStep_kept
  · exact State.beginStep_kept

theorem State.stepDone_kept {s : State} {l : Nat} {a : ControlAck} : Kept s (s.stepDone l a) := by
  unfold State.stepDone
  dsimp only
  split
  · refine Kept.trans ?_ State.beginStep_kept
    exact State.putLink_kept
  · exact State.readIds_kept
  · refine Kept.trans ?_ State.readIds_kept
    exact State.setCamLink_kept
  · refine Kept.trans ?_ State.beginStep_kept
    exact State.setCamLink_kept
  · exact State.beginStep_kept
  · refine Kept.ite (fun _ => ?_) (fun _ => ?_)
    · refine Kept.trans ?_ State.beginStep_kept
      exact State.setCamLink_kept
    · exact State.beginStep_kept
  · refine Kept.trans ?_ State.beginStep_kept
    exact State.setCamLink_kept
  · exact State.enterRetune_kept
  · refine Kept.trans ?_ State.putLink_kept
    refine Kept.trans ?_ State.selectCtle_kept
    exact State.setRxRate_kept
  · exact State.putLink_kept
  · exact Kept.refl _
  · exact State.linkUp_kept
  · exact State.linkUp_kept

theorem State.stepError_kept {s : State} {l : Nat} : Kept s (s.stepError l) := by
  unfold State.stepError
  split
  · exact State.beginStep_kept
  · exact State.beginStep_kept
  · exact State.stepFails_kept

theorem State.retryStep_kept {s : State} {l : Nat} : Kept s (s.retryStep l) := by
  unfold State.retryStep
  refine Kept.ite (fun _ => ?_) (fun _ => ?_)
  · exact State.stepFails_kept
  · exact State.sendStep_kept

theorem State.retryMail_kept {s : State} {p : Nat} {m : Mail} {result : Nat} : Kept s (s.retryMail p m result) := by
  unfold State.retryMail
  refine Kept.ite (fun _ => ?_) (fun _ => ?_)
  · exact State.endMail_kept
  · refine Kept.trans ?_ State.emit_kept
    exact State.setMail_kept

theorem State.crcError_kept {s : State} {lane : Nat} : Kept s (s.crcError lane) := by
  unfold State.crcError
  refine Kept.trans ?_ State.portFlag_kept
  exact State.bump_kept

theorem State.codeErrors_kept {s : State} {lane n : Nat} : Kept s (s.codeErrors lane n) := by
  unfold State.codeErrors
  refine Kept.trans ?_ (upTo_kept fun _ _ => ?_)
  · exact Kept.refl _
  · refine Kept.trans ?_ State.portFlag_kept
    exact State.bump_kept

theorem State.itemErrors_kept {s : State} {lane n : Nat} : Kept s (s.itemErrors lane n) := by
  unfold State.itemErrors
  refine Kept.ite (fun _ => ?_) (fun _ => ?_)
  · exact Kept.refl _
  · exact State.codeErrors_kept

theorem State.controlAck_kept {s : State} {l : Nat} {a : ControlAck} : Kept s (s.controlAck l a) := by
  unfold State.controlAck
  dsimp only
  refine Kept.ite (fun _ => ?_) (fun _ => ?_)
  · refine Kept.ite (fun _ => ?_) (fun _ => ?_)
    · refine Kept.trans ?_ State.retryStep_kept
      refine Kept.trans ?_ State.crcError_kept
      exact State.itemErrors_kept
    · split
      · refine Kept.trans ?_ State.stepError_kept
        exact State.itemErrors_kept
      · refine Kept.trans ?_ State.stepDone_kept
        exact State.itemErrors_kept
  · split
    · exact State.itemErrors_kept
    · refine Kept.ite (fun _ => ?_) (fun _ => ?_)
      · refine Kept.trans ?_ State.retryMail_kept
        refine Kept.trans ?_ State.crcError_kept
        exact State.itemErrors_kept
      · split
        · refine Kept.trans ?_ State.endMail_kept
          exact State.itemErrors_kept
        · refine Kept.trans ?_ State.endMail_kept
          refine Kept.ite (fun _ => ?_) (fun _ => ?_)
          · exact State.itemErrors_kept
          · refine Kept.trans ?_ State.wr_kept
            exact State.itemErrors_kept

theorem State.afterLock_kept {s : State} {l : Nat} : Kept s (s.afterLock l) := by
  unfold State.afterLock
  dsimp only
  split
  · refine Kept.ite (fun _ => ?_) (fun _ => ?_)
    · exact State.beginStep_kept
    · exact Kept.refl _
  · refine Kept.ite (fun _ => ?_) (fun _ => ?_)
    · exact State.beginStep_kept
    · exact Kept.refl _
  · refine Kept.ite (fun _ => ?_) (fun _ => ?_)
    · exact State.beginStep_kept
    · exact Kept.refl _
  · exact Kept.refl _

theorem State.measureSkew_kept {s : State} {lane skew : Nat} : Kept s (s.measureSkew lane skew) := by
  unfold State.measureSkew
  exact State.setTmp_kept

theorem State.gainLock_kept {s : State} {lane skew : Nat} {wimen : Bool} : Kept s (s.gainLock lane skew wimen) := by
  unfold State.gainLock
  dsimp only
  refine Kept.trans ?_ State.afterLock_kept
  refine Kept.trans ?_ State.measureSkew_kept
  exact State.lockLane_kept

theorem State.loseLink_kept {s : State} {lane : Nat} : Kept s (s.loseLink lane) := by
  unfold State.loseLink
  dsimp only
  refine Kept.ite (fun _ => ?_) (fun _ => ?_)
  · refine Kept.ite (fun _ => ?_) (fun _ => ?_)
    · refine Kept.trans ?_ State.linkDiscover_kept
      exact State.unlockLane_kept
    · refine Kept.trans ?_ State.linkDown_kept
      exact State.unlockLane_kept
  · exact Kept.refl _

theorem State.bankLinks_kept {s : State} : Kept s (s.bankLinks) := by
  unfold State.bankLinks
  refine Kept.trans ?_ (upTo_kept fun _ _ => ?_)
  · exact Kept.refl _
  · dsimp only
    split
    · refine Kept.trans ?_ State.mailLink_kept
      refine Kept.trans ?_ State.putLink_kept
      exact State.endStreams_kept
    · refine Kept.ite (fun _ => ?_) (fun _ => ?_)
      · exact State.linkDown_kept
      · exact Kept.refl _
    · exact State.linkDown_kept

theorem State.resumeLinks_kept {s : State} : Kept s (s.resumeLinks) := by
  unfold State.resumeLinks
  refine Kept.trans ?_ (upTo_kept fun _ _ => ?_)
  · exact Kept.refl _
  · dsimp only
    refine Kept.ite (fun _ => ?_) (fun _ => ?_)
    · refine Kept.trans ?_ State.putLink_kept
      refine Kept.trans ?_ (upTo_kept fun _ _ => ?_)
      · exact State.setRxRate_kept
      · refine Kept.ite (fun _ => ?_) (fun _ => ?_)
        · exact State.setFld_kept
        · exact Kept.refl _
    · exact Kept.refl _

theorem State.allLinksDown_kept {s : State} : Kept s (s.allLinksDown) := by
  unfold State.allLinksDown
  refine Kept.trans ?_ (upTo_kept fun _ _ => ?_)
  · exact Kept.refl _
  · refine Kept.ite (fun _ => ?_) (fun _ => ?_)
    · exact Kept.refl _
    · exact State.linkDown_kept

theorem State.streamPacket_kept {s : State} {lane : Nat} {p : StreamPacket} : Kept s (s.streamPacket lane p) := by
  unfold State.streamPacket
  dsimp only
  refine Kept.ite (fun _ => ?_) (fun _ => ?_)
  · exact State.itemErrors_kept
  · refine Kept.ite (fun _ => ?_) (fun _ => ?_)
    · refine Kept.trans ?_ State.crcError_kept
      exact State.itemErrors_kept
    · refine Kept.trans ?_ State.streamData_kept
      refine Kept.ite (fun _ => ?_) (fun _ => ?_)
      · refine Kept.trans ?_ State.crcError_kept
        exact State.itemErrors_kept
      · exact State.itemErrors_kept

theorem State.laneMarker_kept {s : State} {lane count skew : Nat} : Kept s (s.laneMarker lane count skew) := by
  unfold State.laneMarker
  refine Kept.ite (fun _ => ?_) (fun _ => ?_)
  · dsimp only
    refine Kept.ite (fun _ => ?_) (fun _ => ?_)
    · refine Kept.trans ?_ State.loseLink_kept
      refine Kept.trans ?_ State.tmpFlag_kept
      refine Kept.trans ?_ State.measureSkew_kept
      refine Kept.upd ?_
      exact Kept.refl _
    · refine Kept.trans ?_ State.measureSkew_kept
      refine Kept.upd ?_
      exact Kept.refl _
  · exact Kept.refl _

theorem State.writeEyeCtrl_kept {s : State} {lane : Nat} {v : BitVec 32} : Kept s (s.writeEyeCtrl lane v) := by
  unfold State.writeEyeCtrl
  dsimp only
  refine Kept.ite (fun _ => ?_) (fun _ => ?_)
  · exact State.plainWrite_kept
  · refine Kept.ite (fun _ => ?_) (fun _ => ?_)
    · refine Kept.upd ?_
      refine Kept.trans ?_ State.wr_kept
      exact State.plainWrite_kept
    · refine Kept.trans ?_ State.wr_kept
      refine Kept.trans ?_ State.setFld_kept
      exact State.plainWrite_kept

/-! ### Machine/Bloom.lean -/

theorem State.setBlm_kept {s : State} {x : BloomEngine} : Kept s (s.setBlm x) := by
  unfold State.setBlm
  refine Kept.upd ?_
  exact Kept.refl _

theorem State.blmFlag_kept {s : State} {b : Nat} : Kept s (s.blmFlag b) := by
  unfold State.blmFlag
  exact State.flagRaise_kept

theorem State.takeBlmCfg_kept {s : State} : Kept s (s.takeBlmCfg) := by
  unfold State.takeBlmCfg
  exact State.setBlm_kept

theorem State.setRecords_kept {s : State} {l : List Record} : Kept s (s.setRecords l) := by
  unfold State.setRecords
  dsimp only
  refine Kept.ite (fun _ => ?_) (fun _ => ?_)
  · refine Kept.trans ?_ State.blmFlag_kept
    refine Kept.trans ?_ State.setFld_kept
    exact State.setBlm_kept
  · refine Kept.trans ?_ State.setFld_kept
    exact State.setBlm_kept

theorem State.requestCrop_kept {s : State} {b : OpenBloom} {serial : Nat} {ws : List Word} :
    Kept s (s.requestCrop b serial ws) := by
  unfold State.requestCrop
  dsimp only
  refine Kept.ite (fun _ => State.setRecords_kept) (fun _ => ?_)
  split
  · rename_i e
    refine Kept.trans ?_ State.setRecords_kept
    split at e
    · exact State.hearthTake_eq e
    · cases e
  · exact State.setRecords_kept.trans State.blmFlag_kept

theorem State.formRecord_kept {s : State} {b : OpenBloom} : Kept s (s.formRecord b) := by
  unfold State.formRecord
  refine Kept.ite (fun _ => ?_) (fun _ => ?_)
  · exact State.bump_kept
  · dsimp only
    refine Kept.trans ?_ State.requestCrop_kept
    refine Kept.ite (fun _ => ?_) (fun _ => ?_)
    · refine Kept.trans ?_ State.markRecord_kept
      refine Kept.ite (fun _ => ?_) (fun _ => ?_)
      · refine Kept.trans ?_ State.journal_kept
        refine Kept.trans ?_ State.bump_kept
        exact State.setBlm_kept
      · refine Kept.trans ?_ State.bump_kept
        exact State.setBlm_kept
    · refine Kept.ite (fun _ => ?_) (fun _ => ?_)
      · refine Kept.trans ?_ State.journal_kept
        refine Kept.trans ?_ State.bump_kept
        exact State.setBlm_kept
      · refine Kept.trans ?_ State.bump_kept
        exact State.setBlm_kept

theorem State.setBlooms_kept {s : State} {l : List OpenBloom} : Kept s (s.setBlooms l) := by
  unfold State.setBlooms
  refine Kept.trans ?_ State.wr_kept
  exact State.setBlm_kept

theorem State.closeAllBlooms_kept {s : State} : Kept s (s.closeAllBlooms) := by
  unfold State.closeAllBlooms
  dsimp only
  refine Kept.trans ?_ (Kept.foldl (fun _ _ => ?_) _ _)
  · refine Kept.trans ?_ State.setBlooms_kept
    refine Kept.trans ?_ State.setBlm_kept
    refine Kept.trans ?_ (upTo_kept fun _ _ => ?_)
    · exact Kept.refl _
    · exact State.blmFlag_kept
  · exact State.formRecord_kept

theorem State.cropsDue_kept {s : State} : Kept s (s.cropsDue) := by
  unfold State.cropsDue
  exact State.setRecords_kept

theorem State.closeNow_kept {s : State} {partialDone : Bool} : Kept s (s.closeNow partialDone) := by
  unfold State.closeNow
  refine Kept.ite (fun _ => ?_) (fun _ => ?_)
  · refine Kept.trans ?_ State.cropsDue_kept
    exact State.closeAllBlooms_kept
  · exact State.closeAllBlooms_kept

theorem State.requestCloseAll_kept {s : State} {partialDone : Bool} : Kept s (s.requestCloseAll partialDone) := by
  unfold State.requestCloseAll
  refine Kept.ite (fun _ => ?_) (fun _ => ?_)
  · exact State.closeNow_kept
  · exact State.setBlm_kept

theorem State.flushBlooms_kept {s : State} : Kept s (s.flushBlooms) := by
  unfold State.flushBlooms
  refine Kept.ite (fun _ => ?_) (fun _ => ?_)
  · exact State.closeAllBlooms_kept
  · exact Kept.refl _

theorem State.syncBuffer_kept {s : State} : Kept s (s.syncBuffer) := by
  unfold State.syncBuffer
  dsimp only
  exact State.setFld_kept

theorem State.classSource_kept {s : State} {l : CommitLine} : Kept s (s.classSource l) := by
  unfold State.classSource
  refine Kept.ite (fun _ => ?_) (fun _ => ?_)
  · refine Kept.trans ?_ (upTo_kept fun _ _ => ?_)
    · exact Kept.refl _
    · split
      · refine Kept.ite (fun _ => ?_) (fun _ => ?_)
        · dsimp only
          exact State.ostLine_kept
        · exact Kept.refl _
      · exact Kept.refl _
  · exact Kept.refl _

theorem State.bloomLabel_kept {s : State} {l : CommitLine} {all : Bool} : Kept s (s.bloomLabel l all) := by
  unfold State.bloomLabel
  dsimp only
  refine Kept.trans ?_ (Kept.foldl (fun _ _ => ?_) _ _)
  · refine Kept.trans ?_ State.setBlooms_kept
    refine Kept.trans ?_ State.setBlm_kept
    refine Kept.trans ?_ (upTo_kept fun _ _ => ?_)
    · refine Kept.trans ?_ State.highWater_kept
      refine Kept.trans ?_ (upTo_kept fun _ _ => ?_)
      · refine Kept.trans ?_ (upTo_kept fun _ _ => ?_)
        · exact State.setBlm_kept
        · refine Kept.trans ?_ State.blmFlag_kept
          exact State.bump_kept
      · refine Kept.trans ?_ State.blmFlag_kept
        exact State.bump_kept
    · exact State.blmFlag_kept
  · exact State.formRecord_kept

theorem State.bloomLine_kept {s : State} : Kept s (s.bloomLine) := by
  unfold State.bloomLine
  refine Kept.ite (fun _ => ?_) (fun _ => ?_)
  · exact Kept.refl _
  · split
    · exact Kept.refl _
    · refine Kept.trans ?_ State.closeNow_kept
      exact State.setBlm_kept
    · dsimp only
      split
      · refine Kept.ite (fun _ => ?_) (fun _ => ?_)
        · refine Kept.trans ?_ State.cropsDue_kept
          refine Kept.trans ?_ State.bloomLabel_kept
          refine Kept.trans ?_ State.setBlm_kept
          refine Kept.ite (fun _ => ?_) (fun _ => ?_)
          · refine Kept.trans ?_ State.blmFlag_kept
            refine Kept.trans ?_ State.bump_kept
            refine Kept.trans ?_ State.classSource_kept
            refine Kept.ite (fun _ => ?_) (fun _ => ?_)
            · refine Kept.trans ?_ State.ostBoundary_kept
              refine Kept.trans ?_ State.takeBlmCfg_kept
              refine Kept.trans ?_ State.syncBuffer_kept
              exact State.setBlm_kept
            · refine Kept.trans ?_ State.syncBuffer_kept
              exact State.setBlm_kept
          · refine Kept.trans ?_ State.bump_kept
            refine Kept.trans ?_ State.classSource_kept
            refine Kept.ite (fun _ => ?_) (fun _ => ?_)
            · refine Kept.trans ?_ State.ostBoundary_kept
              refine Kept.trans ?_ State.takeBlmCfg_kept
              refine Kept.trans ?_ State.syncBuffer_kept
              exact State.setBlm_kept
            · refine Kept.trans ?_ State.syncBuffer_kept
              exact State.setBlm_kept
        · refine Kept.trans ?_ State.bloomLabel_kept
          refine Kept.trans ?_ State.setBlm_kept
          refine Kept.ite (fun _ => ?_) (fun _ => ?_)
          · refine Kept.trans ?_ State.blmFlag_kept
            refine Kept.trans ?_ State.bump_kept
            refine Kept.trans ?_ State.classSource_kept
            refine Kept.ite (fun _ => ?_) (fun _ => ?_)
            · refine Kept.trans ?_ State.ostBoundary_kept
              refine Kept.trans ?_ State.takeBlmCfg_kept
              refine Kept.trans ?_ State.syncBuffer_kept
              exact State.setBlm_kept
            · refine Kept.trans ?_ State.syncBuffer_kept
              exact State.setBlm_kept
          · refine Kept.trans ?_ State.bump_kept
            refine Kept.trans ?_ State.classSource_kept
            refine Kept.ite (fun _ => ?_) (fun _ => ?_)
            · refine Kept.trans ?_ State.ostBoundary_kept
              refine Kept.trans ?_ State.takeBlmCfg_kept
              refine Kept.trans ?_ State.syncBuffer_kept
              exact State.setBlm_kept
            · refine Kept.trans ?_ State.syncBuffer_kept
              exact State.setBlm_kept
      · refine Kept.trans ?_ State.bloomLabel_kept
        refine Kept.ite (fun _ => ?_) (fun _ => ?_)
        · refine Kept.trans ?_ State.blmFlag_kept
          refine Kept.trans ?_ State.bump_kept
          refine Kept.trans ?_ State.classSource_kept
          refine Kept.ite (fun _ => ?_) (fun _ => ?_)
          · refine Kept.trans ?_ State.ostBoundary_kept
            refine Kept.trans ?_ State.takeBlmCfg_kept
            refine Kept.trans ?_ State.syncBuffer_kept
            exact State.setBlm_kept
          · refine Kept.trans ?_ State.syncBuffer_kept
            exact State.setBlm_kept
        · refine Kept.trans ?_ State.bump_kept
          refine Kept.trans ?_ State.classSource_kept
          refine Kept.ite (fun _ => ?_) (fun _ => ?_)
          · refine Kept.trans ?_ State.ostBoundary_kept
            refine Kept.trans ?_ State.takeBlmCfg_kept
            refine Kept.trans ?_ State.syncBuffer_kept
            exact State.setBlm_kept
          · refine Kept.trans ?_ State.syncBuffer_kept
            exact State.setBlm_kept

theorem State.cropCut_kept {s : State} {ecc : EccResult} : Kept s (s.cropCut ecc) := by
  unfold State.cropCut
  split
  · split
    · refine Kept.ite (fun _ => ?_) (fun _ => ?_)
      · split
        · exact (State.blockEcc_eq (by assumption))
        · refine Kept.trans ?_ State.setRecords_kept
          exact (State.blockEcc_eq (by assumption))
      · exact Kept.refl _
    · exact Kept.refl _
  · exact Kept.refl _

theorem State.writeCrop_kept {s : State} {c : Crop} : Kept s (s.writeCrop c).1 := by
  unfold State.writeCrop
  exact Kept.foldlFst (fun _ _ => State.writeBuffer_kept) _ (s, 0)
theorem State.writeCrop_eq {s : State} {c : Crop} {v t} (e : s.writeCrop c = (t, v)) : Kept s t := by
  have h := State.writeCrop_kept (s := s) (c := c)
  rw [e] at h; exact h

theorem State.cropDone_kept {s : State} : Kept s (s.cropDone) := by
  unfold State.cropDone
  split
  · split
    · refine Kept.ite (fun _ => ?_) (fun _ => ?_)
      · exact Kept.refl _
      · split
        dsimp only
        refine Kept.trans ?_ (upTo_kept fun _ _ => ?_)
        · refine Kept.trans ?_ State.setRecords_kept
          refine Kept.trans ?_ State.hearthTraffic_kept
          exact (State.writeCrop_eq (by assumption))
        · exact State.blmFlag_kept
    · exact Kept.refl _
  · exact Kept.refl _

theorem State.releaseCrop_kept {s : State} {h : BitVec 32} : Kept s (s.releaseCrop h) := by
  unfold State.releaseCrop
  split
  · refine Kept.trans ?_ State.hearthSync_kept
    exact State.setBuffer_kept
  · exact Kept.refl _

theorem State.recordPush_kept {s : State} : Kept s (s.recordPush) := by
  unfold State.recordPush
  split
  · exact Kept.refl _
  · dsimp only
    refine Kept.ite (fun _ => ?_) (fun _ => ?_)
    · refine Kept.ite (fun _ => ?_) (fun _ => ?_)
      · refine Kept.trans ?_ State.pushPacket_kept
        exact State.setRecords_kept
      · refine Kept.trans ?_ State.releaseCrop_kept
        refine Kept.trans ?_ State.pushPacket_kept
        exact State.setRecords_kept
    · exact Kept.refl _

/-! ### Machine/DataPath.lean -/

theorem State.dropPixelPath_kept {s : State} : Kept s (s.dropPixelPath) := by
  unfold State.dropPixelPath
  dsimp only
  refine Kept.upd ?_
  refine Kept.trans ?_ State.setBlm_kept
  refine Kept.trans ?_ State.setAnv_kept
  refine Kept.trans ?_ State.setSti_kept
  refine Kept.trans ?_ State.setCor_kept
  exact State.setInt_kept

theorem State.stopDataPath_kept {s : State} : Kept s (s.stopDataPath) := by
  unfold State.stopDataPath
  refine Kept.trans ?_ State.dropPixelPath_kept
  refine Kept.trans ?_ State.ostAllIdle_kept
  exact State.allLinksDown_kept

/-! ### Machine/Security.lean -/

theorem State.setSec_kept {s : State} {x : Security}
    (hs : s.sec.fuses.within x.fuses = true := by exact Fuses.within_refl _) : Kept s (s.setSec x) := by
  unfold State.setSec
  exact (Kept.refl s).upd (hs := hs)

theorem State.extend_kept {s : State} {r : Nat} {d : BitVec 512} : Kept s (s.extend r d) := by
  unfold State.extend
  dsimp only
  exact State.setSec_kept

theorem State.verifyFail_kept {s : State} {use reason : Nat} : Kept s (s.verifyFail use reason) := by
  unfold State.verifyFail
  refine Kept.trans ?_ State.secFlag_kept
  exact State.wr_kept

theorem State.secRequest_kept {s : State} {j : SecJob} : Kept s (s.secRequest j) := by
  unfold State.secRequest
  exact State.setSec_kept

theorem State.registerUnlock_kept {s : State} {v : BitVec 32} : Kept s (s.registerUnlock v) := by
  unfold State.registerUnlock
  dsimp only
  refine Kept.ite (fun _ => ?_) (fun _ => ?_)
  · exact State.secRequest_kept
  · exact Kept.refl _

theorem State.unlockDone_kept {s : State} {signer : UnlockSigner} : Kept s (s.unlockDone signer) := by
  unfold State.unlockDone
  dsimp only
  split
  · refine Kept.ite (fun _ => ?_) (fun _ => ?_)
    · refine Kept.trans ?_ State.verifyFail_kept
      exact State.setSec_kept
    · refine Kept.ite (fun _ => ?_) (fun _ => ?_)
      · refine Kept.trans ?_ State.extend_kept
        refine Kept.trans ?_ State.secFlag_kept
        refine Kept.trans ?_ State.setSec_kept
        exact State.setSec_kept
      · refine Kept.trans ?_ State.verifyFail_kept
        exact State.setSec_kept
  · refine Kept.ite (fun _ => ?_) (fun _ => ?_)
    · refine Kept.trans ?_ State.verifyFail_kept
      exact State.setSec_kept
    · refine Kept.ite (fun _ => ?_) (fun _ => ?_)
      · refine Kept.trans ?_ State.extend_kept
        refine Kept.trans ?_ State.secFlag_kept
        refine Kept.trans ?_ State.setSec_kept
        exact State.setSec_kept
      · refine Kept.trans ?_ State.verifyFail_kept
        exact State.setSec_kept
  · exact Kept.refl _

theorem State.writeProvCmd_kept {s : State} {v : BitVec 32} : Kept s (s.writeProvCmd v) := by
  unfold State.writeProvCmd
  refine Kept.ite (fun _ => ?_) (fun _ => ?_)
  · exact Kept.refl _
  · dsimp only
    refine Kept.ite (fun _ => ?_) (fun _ => ?_)
    · refine Kept.trans ?_ State.setFld_kept
      exact State.setSec_kept
    · exact State.setFld_kept

theorem State.provision_kept {s : State} {op : Nat} {v : BitVec 32} : Kept s (s.provision op v) := by
  unfold State.provision
  refine Kept.trans ?_ (State.hostWrite_kept ?_)
  · exact Kept.refl _
  · intro _
    refine Kept.ite (fun _ => ?_) (fun _ => ?_)
    · exact State.writeProvCmd_kept
    · exact Kept.refl _

theorem State.provFuses_within (s : State) (op : Nat) : s.sec.fuses.within (s.provFuses op) = true := by
  unfold State.provFuses
  have h := Fuses.within_refl s.sec.fuses
  simp only [Fuses.within, Bool.and_eq_true, Bool.or_eq_true, decide_eq_true_eq, beq_iff_eq] at h ⊢
  split
  · refine ⟨⟨⟨⟨?_, h.1.1.1.2⟩, h.1.1.2⟩, h.1.2⟩, h.2⟩
    cases s.sec.fuses.custKey <;> simp
  · exact ⟨⟨⟨⟨.inr rfl, h.1.1.1.2⟩, h.1.1.2⟩, Nat.le_max_left _ _⟩, h.2⟩
  · exact ⟨⟨⟨⟨.inr rfl, h.1.1.1.2⟩, h.1.1.2⟩, h.1.2⟩, Nat.le_max_left _ _⟩
  · exact ⟨⟨⟨⟨.inr rfl, h.1.1.1.2⟩, .inr rfl⟩, h.1.2⟩, h.2⟩
theorem Fuses.within_dead (a : Fuses) : a.within { a with slotDead := true } = true := by
  have h := Fuses.within_refl a
  simp only [Fuses.within, Bool.and_eq_true, Bool.or_eq_true, decide_eq_true_eq, beq_iff_eq] at h ⊢
  exact ⟨⟨⟨⟨h.1.1.1.1, .inr trivial⟩, h.1.1.2⟩, h.1.2⟩, h.2⟩
theorem State.provisionDone_kept {s : State} {r : FuseResult} : Kept s (s.provisionDone r) := by
  unfold State.provisionDone
  split
  · exact Kept.refl _
  · split
    · dsimp only
      refine Kept.trans ?_ State.extend_kept
      refine Kept.trans ?_ State.secFlag_kept
      refine Kept.trans ?_ State.setFld_kept
      refine Kept.trans ?_ (State.setSec_kept (State.provFuses_within _ _))
      refine Kept.trans ?_ State.setSec_kept
      exact State.setFld_kept
    · dsimp only
      refine Kept.trans ?_ State.secFlag_kept
      refine Kept.trans ?_ State.setFld_kept
      refine Kept.ite (fun _ => ?_) (fun _ => ?_)
      · refine Kept.trans ?_ (State.setSec_kept (Fuses.within_dead _))
        refine Kept.trans ?_ State.setSec_kept
        exact State.setFld_kept
      · refine Kept.trans ?_ State.setSec_kept
        exact State.setFld_kept

theorem State.advanceMeas_kept {s : State} : Kept s (s.advanceMeas) := by
  unfold State.advanceMeas
  exact State.setFld_kept

theorem State.advancePubkey_kept {s : State} : Kept s (s.advancePubkey) := by
  unfold State.advancePubkey
  exact State.setFld_kept

theorem State.withTap_held {s : State} {f : State → State} (hf : ∀ (y0 : State), Held y0 (f y0)) : Held s (s.withTap f) := by
  unfold State.withTap
  refine Held.ite (fun _ => ?_) (fun _ => ?_)
  · exact Held.refl _
  · exact hf _

theorem State.withTap_kept {s : State} {f : State → State} (hf : ∀ (y0 : State), Kept y0 (f y0)) : Kept s (s.withTap f) := by
  unfold State.withTap
  refine Kept.ite (fun _ => ?_) (fun _ => ?_)
  · exact Kept.refl _
  · exact hf _

theorem State.debugAccess_kept {s : State} {n : Nat} {op : DebugOp} : Kept s (s.debugAccess n op) := by
  unfold State.debugAccess
  dsimp only
  split
  · exact State.setCore_kept
  · exact State.setCore_kept
  · exact State.setCore_kept
  · exact State.emit_kept
  · exact State.setCore_kept
  · exact State.emit_kept
  · exact State.setCore_kept
  · exact State.emit_kept
  · exact State.setCore_kept
  · exact State.emit_kept
  · exact State.setCore_kept

/-! ### Machine/Reset.lean -/

/-- Clearing whole domains keeps the register file canonical. -/
theorem keepDomains_wf {keep : List ResetDomain} {m : List (Nat × BitVec 32)} (h : swf regReset m = true) :
    swf regReset (keepDomains keep m) = true := swf_skeep h
theorem State.linkReset_kept {s : State} : Kept s s.linkReset := by
  unfold State.linkReset
  dsimp only
  refine Kept.trans ?_ State.endPins_kept
  refine Kept.trans ?_ State.hearthSync_kept
  refine Kept.upd ?_ (hr := keepDomains_wf)
  refine Kept.upd ?_
  exact State.loseSpilled_kept

theorem State.countLinkReset_kept {s : State} : Kept s (s.countLinkReset) := by
  unfold State.countLinkReset
  exact State.setFld_kept

theorem State.quenchAgain_held {s : State} : Held s (s.quenchAgain) := by
  unfold State.quenchAgain
  refine Held.ite (fun _ => ?_) (fun _ => ?_)
  · exact State.setQuench_held
  · exact Held.refl _

theorem State.keepRetired_kept {s : State} {n : Nat} : Kept s (s.keepRetired n) := by
  unfold State.keepRetired
  dsimp only
  refine Kept.trans ?_ State.setFld_kept
  refine Kept.trans ?_ State.setFld_kept
  refine Kept.trans ?_ State.setFld_kept
  refine Kept.trans ?_ State.setFld_kept
  refine Kept.trans ?_ State.setFld_kept
  exact State.setFld_kept

theorem State.deviceReset_held {s : State} {cause : Nat} : Held s (s.deviceReset cause) := by
  unfold State.deviceReset
  dsimp only
  refine Held.trans ?_ State.quenchAgain_held
  refine Held.trans ?_ State.syncCapacity_kept.toHeld
  refine Held.trans ?_ State.enter_held
  refine Held.trans ?_ State.setFld_kept.toHeld
  exact (Held.refl s).upd (hr := keepDomains_wf) (hh := fun _ => rfl) (hw := fun _ => rfl) (hc := fun _ => rfl)

theorem State.gradeRegs_kept {s : State} : Kept s (s.gradeRegs) := by
  unfold State.gradeRegs
  split
  · exact Kept.refl _
  · refine Kept.trans ?_ State.setFld_kept
    exact State.setFld_kept

theorem State.porReset_held {s : State} {cause : Nat} {off : Bool} : Held s (s.porReset cause off) := by
  unfold State.porReset
  dsimp only
  refine Held.ite (fun _ => ?_) (fun _ => ?_)
  · refine Held.trans ?_ State.enter_held
    refine Held.trans ?_ State.syncCapacity_kept.toHeld
    refine Held.trans ?_ State.setFld_kept.toHeld
    refine Held.trans ?_ State.gradeRegs_kept.toHeld
    exact (Held.refl s).upd (hr := fun _ => rfl) (hh := fun _ => rfl) (hw := fun _ => rfl) (hc := fun _ => rfl)
  · refine Held.trans ?_ State.quenchAgain_held
    refine Held.trans ?_ State.syncCapacity_kept.toHeld
    refine Held.trans ?_ State.setFld_kept.toHeld
    refine Held.trans ?_ State.gradeRegs_kept.toHeld
    exact (Held.refl s).upd (hr := fun _ => rfl) (hh := fun _ => rfl) (hw := fun _ => rfl) (hc := fun _ => rfl)

theorem State.linkOnly_kept {s : State} {perst : Bool} : Kept s (s.linkOnly perst) := by
  unfold State.linkOnly
  refine Kept.ite (fun _ => ?_) (fun _ => ?_)
  · exact Kept.refl _
  · dsimp only
    refine Kept.ite (fun _ => ?_) (fun _ => ?_)
    · refine Kept.trans ?_ State.startWake_kept
      refine Kept.trans ?_ State.countLinkReset_kept
      exact State.linkReset_kept
    · refine Kept.trans ?_ State.countLinkReset_kept
      exact State.linkReset_kept

theorem State.writeBlwCmd_held {s : State} {v : BitVec 32} : Held s (s.writeBlwCmd v) := by
  unfold State.writeBlwCmd
  refine Held.ite (fun _ => ?_) (fun _ => ?_)
  · exact State.deviceReset_held
  · exact Held.refl _

/-! ### Machine/FaultEntry.lean -/

theorem State.freeTags_kept {s : State} {n : Nat} : Kept s (s.freeTags n) := by
  unfold State.freeTags
  exact State.setCore_kept

theorem State.cancelTemper_kept {s : State} : Kept s (s.cancelTemper) := by
  unfold State.cancelTemper
  refine Kept.trans ?_ State.setFld_kept
  exact State.setTmp_kept

theorem State.dropService_kept {s : State} {n : Nat} : Kept s (s.dropService n) := by
  unfold State.dropService
  dsimp only
  refine Kept.trans ?_ State.setCore_kept
  refine Kept.ite (fun _ => ?_) (fun _ => ?_)
  · refine Kept.trans ?_ State.setFld_kept
    refine Kept.upd ?_
    exact Kept.refl _
  · refine Kept.upd ?_
    exact Kept.refl _

theorem State.stopCore_kept {s : State} {n : Nat} : Kept s (s.stopCore n) := by
  unfold State.stopCore
  split
  · exact Kept.refl _
  · exact Kept.refl _
  · refine Kept.trans ?_ State.wckFlag_kept
    refine Kept.trans ?_ State.dropService_kept
    exact State.setCore_kept

theorem State.enterFault_kept {s : State} {cause : Nat} : Kept s (s.enterFault cause) := by
  unfold State.enterFault
  dsimp only
  refine Kept.ite (fun _ => Kept.refl _) (fun h => ?_)
  refine Kept.trans ?_ State.journal_kept
  refine Kept.trans ?_ State.stopDataPath_kept
  refine Kept.trans ?_ State.cancelTemper_kept
  refine Kept.trans ?_ State.stopCore_kept
  refine Kept.trans ?_ State.stopCore_kept
  refine Kept.trans ?_ State.stopCore_kept
  refine Kept.upd ?_
  refine State.enter_kept ?_
  simp only [State.inStates, List.contains_cons, List.contains_nil] at h
  revert h
  cases s.blw.state <;> decide

theorem State.haltCore_kept {s : State} {n : Nat} {cause : BitVec 8} : Kept s (s.haltCore n cause) := by
  unfold State.haltCore
  dsimp only
  refine Kept.ite (fun _ => ?_) (fun _ => ?_)
  · refine Kept.trans ?_ State.enterFault_kept
    refine Kept.trans ?_ State.wckFlag_kept
    refine Kept.ite (fun _ => ?_) (fun _ => ?_)
    · refine Kept.trans ?_ State.wckFlag_kept
      refine Kept.ite (fun _ => ?_) (fun _ => ?_)
      · exact State.setCore_kept
      · refine Kept.trans ?_ State.dropService_kept
        refine Kept.trans ?_ State.freeTags_kept
        exact State.setCore_kept
    · refine Kept.ite (fun _ => ?_) (fun _ => ?_)
      · exact State.setCore_kept
      · refine Kept.trans ?_ State.dropService_kept
        refine Kept.trans ?_ State.freeTags_kept
        exact State.setCore_kept
  · refine Kept.ite (fun _ => ?_) (fun _ => ?_)
    · refine Kept.ite (fun _ => ?_) (fun _ => ?_)
      · refine Kept.trans ?_ State.wckFlag_kept
        refine Kept.ite (fun _ => ?_) (fun _ => ?_)
        · exact State.setCore_kept
        · refine Kept.trans ?_ State.dropService_kept
          refine Kept.trans ?_ State.freeTags_kept
          exact State.setCore_kept
      · refine Kept.ite (fun _ => ?_) (fun _ => ?_)
        · exact State.setCore_kept
        · refine Kept.trans ?_ State.dropService_kept
          refine Kept.trans ?_ State.freeTags_kept
          exact State.setCore_kept
    · refine Kept.trans ?_ State.wckFlag_kept
      refine Kept.ite (fun _ => ?_) (fun _ => ?_)
      · refine Kept.trans ?_ State.wckFlag_kept
        refine Kept.ite (fun _ => ?_) (fun _ => ?_)
        · exact State.setCore_kept
        · refine Kept.trans ?_ State.dropService_kept
          refine Kept.trans ?_ State.freeTags_kept
          exact State.setCore_kept
      · refine Kept.ite (fun _ => ?_) (fun _ => ?_)
        · exact State.setCore_kept
        · refine Kept.trans ?_ State.dropService_kept
          refine Kept.trans ?_ State.freeTags_kept
          exact State.setCore_kept

/-! ### Machine/Commit.lean -/

theorem State.pruneLines_kept {s : State} : Kept s (s.pruneLines) := by
  unfold State.pruneLines
  dsimp only
  exact State.setAnv_kept

theorem State.classEnter_kept {s : State} : Kept s (s.classEnter) := by
  unfold State.classEnter
  split
  · exact Kept.refl _
  · refine Kept.ite (fun _ => ?_) (fun _ => ?_)
    · dsimp only
      refine Kept.ite (fun _ => ?_) (fun _ => ?_)
      · refine Kept.trans ?_ State.pruneLines_kept
        exact State.setAnv_kept
      · refine Kept.trans ?_ State.pruneLines_kept
        refine Kept.trans ?_ State.syncBuffer_kept
        refine Kept.trans ?_ State.setBlm_kept
        refine Kept.trans ?_ State.mapIval_kept
        exact State.setAnv_kept
    · exact Kept.refl _

theorem State.noteSlice_kept {s : State} {q : Nat × BitVec 32} : Kept s (s.noteSlice q) := by
  unfold State.noteSlice
  refine Kept.trans ?_ State.anvFlag_kept
  refine Kept.trans ?_ State.wr_kept
  exact State.bump_kept

theorem State.report_kept {s : State} {v : Ival} {lines : List CommitLine} {lasting : Bool} {stripes : BitVec 16} :
    Kept s (s.report v lines lasting stripes) := by
  unfold State.report
  refine Kept.ite (fun _ => ?_) (fun _ => ?_)
  · exact Kept.refl _
  · dsimp only
    refine Kept.ite (fun _ => ?_) (fun _ => ?_)
    · exact State.pushPacket_kept
    · exact State.embFlag_kept

theorem State.takeRate_kept {s : State} {v : Ival} : Kept s (s.takeRate v) := by
  unfold State.takeRate
  refine Kept.ite (fun _ => ?_) (fun _ => ?_)
  · exact Kept.refl _
  · exact State.setAnv_kept

theorem State.publishBudget_kept {s : State} {v : Ival} : Kept s (s.publishBudget v) := by
  unfold State.publishBudget
  dsimp only
  refine Kept.trans ?_ (upTo_kept fun _ _ => ?_)
  · exact Kept.refl _
  · refine Kept.ite (fun _ => ?_) (fun _ => ?_)
    · exact State.setFld_kept
    · refine Kept.trans ?_ State.setFld_kept
      exact State.setFld_kept

theorem State.commitIval_kept {s : State} {v : Ival} {lines : List CommitLine} {lasting : Bool} {stripes : BitVec 16} {last : Bool} :
    Kept s (s.commitIval v lines lasting stripes last) := by
  unfold State.commitIval
  dsimp only
  refine Kept.ite (fun _ => ?_) (fun _ => ?_)
  · refine Kept.trans ?_ State.requestCloseAll_kept
    refine Kept.trans ?_ (upTo_kept fun _ _ => ?_)
    · refine Kept.trans ?_ State.pruneLines_kept
      refine Kept.trans ?_ State.syncBuffer_kept
      refine Kept.ite (fun _ => ?_) (fun _ => ?_)
      · refine Kept.trans ?_ State.setBlm_kept
        refine Kept.trans ?_ State.setSti_kept
        refine Kept.trans ?_ State.keepCursor_kept
        refine Kept.trans ?_ State.report_kept
        refine Kept.trans ?_ State.publishBudget_kept
        refine Kept.trans ?_ State.commitMeasure_kept
        refine Kept.trans ?_ State.takeRate_kept
        exact State.setBlm_kept
      · refine Kept.trans ?_ State.mapIval_kept
        refine Kept.trans ?_ State.report_kept
        refine Kept.trans ?_ State.publishBudget_kept
        refine Kept.trans ?_ State.commitMeasure_kept
        refine Kept.trans ?_ State.takeRate_kept
        exact State.setBlm_kept
    · exact State.settleCor_kept
  · refine Kept.trans ?_ (upTo_kept fun _ _ => ?_)
    · refine Kept.trans ?_ State.pruneLines_kept
      refine Kept.trans ?_ State.syncBuffer_kept
      refine Kept.ite (fun _ => ?_) (fun _ => ?_)
      · refine Kept.trans ?_ State.setBlm_kept
        refine Kept.trans ?_ State.setSti_kept
        refine Kept.trans ?_ State.keepCursor_kept
        refine Kept.trans ?_ State.report_kept
        refine Kept.trans ?_ State.publishBudget_kept
        refine Kept.trans ?_ State.commitMeasure_kept
        refine Kept.trans ?_ State.takeRate_kept
        exact State.setBlm_kept
      · refine Kept.trans ?_ State.mapIval_kept
        refine Kept.trans ?_ State.report_kept
        refine Kept.trans ?_ State.publishBudget_kept
        refine Kept.trans ?_ State.commitMeasure_kept
        refine Kept.trans ?_ State.takeRate_kept
        exact State.setBlm_kept
    · exact State.settleCor_kept

theorem State.restoreCor_kept {s : State} {j c : Nat} : Kept s (s.restoreCor j c) := by
  unfold State.restoreCor
  dsimp only
  split
  · exact Kept.refl _
  · refine Kept.ite (fun _ => ?_) (fun _ => ?_)
    · exact Kept.refl _
    · refine Kept.trans ?_ State.setCorCtx_kept
      exact State.setCor_kept

theorem State.dropWork_kept {s : State} {j : Nat} : Kept s (s.dropWork j) := by
  unfold State.dropWork
  dsimp only
  refine Kept.trans ?_ State.syncStore_kept
  refine Kept.trans ?_ State.syncBuffer_kept
  refine Kept.trans ?_ State.setBlm_kept
  refine Kept.trans ?_ State.setAnv_kept
  refine Kept.trans ?_ State.endStall_kept
  refine Kept.trans ?_ State.setSti_kept
  refine Kept.trans ?_ State.setCor_kept
  refine Kept.trans ?_ State.setInt_kept
  refine Kept.trans ?_ (upTo_kept fun _ _ => ?_)
  · exact Kept.refl _
  · split
    · refine Kept.ite (fun _ => ?_) (fun _ => ?_)
      · refine Kept.trans ?_ State.setOnLane_kept
        refine Kept.ite (fun _ => ?_) (fun _ => ?_)
        · exact State.bump_kept
        · exact Kept.refl _
      · exact Kept.refl _
    · exact Kept.refl _

theorem State.feederEnd_kept {s : State} : Kept s (s.feederEnd) := by
  unfold State.feederEnd
  refine Kept.ite (fun _ => ?_) (fun _ => ?_)
  · refine Kept.trans ?_ (upTo_kept fun _ _ => ?_)
    · refine Kept.upd ?_
      exact Kept.refl _
    · exact State.takeNext_kept
  · exact Kept.refl _

theorem State.rewind_kept {s : State} {v : Ival} {bad banks : List Nat} : Kept s (s.rewind v bad banks) := by
  unfold State.rewind
  dsimp only
  refine Kept.trans ?_ State.feederEnd_kept
  refine Kept.upd ?_
  refine Kept.ite (fun _ => ?_) (fun _ => ?_)
  · refine Kept.trans ?_ State.bump_kept
    refine Kept.upd ?_
    refine Kept.trans ?_ State.bumpBy_kept
    refine Kept.trans ?_ State.embFlag_kept
    refine Kept.trans ?_ State.bump_kept
    refine Kept.trans ?_ (upTo_kept fun _ _ => ?_)
    · refine Kept.trans ?_ State.setInt_kept
      refine Kept.trans ?_ (upTo_kept fun _ _ => ?_)
      · refine Kept.trans ?_ State.setSti_kept
        exact State.dropWork_kept
      · exact State.restoreCor_kept
    · exact State.syncLane_kept
  · refine Kept.trans ?_ State.bumpBy_kept
    refine Kept.trans ?_ State.embFlag_kept
    refine Kept.trans ?_ State.bump_kept
    refine Kept.trans ?_ (upTo_kept fun _ _ => ?_)
    · refine Kept.trans ?_ State.setInt_kept
      refine Kept.trans ?_ (upTo_kept fun _ _ => ?_)
      · refine Kept.trans ?_ State.setSti_kept
        exact State.dropWork_kept
      · exact State.restoreCor_kept
    · exact State.syncLane_kept

theorem State.fenceSlice_kept {s : State} {n : Nat} : Kept s (s.fenceSlice n) := by
  unfold State.fenceSlice
  dsimp only
  refine Kept.trans ?_ State.raise_kept
  refine Kept.trans ?_ State.journal_kept
  refine Kept.trans ?_ State.setFld_kept
  refine Kept.trans ?_ State.wr_kept
  refine Kept.trans ?_ State.wr_kept
  exact State.setAnv_kept

theorem State.spareBank_kept {s : State} {b : Nat} : Kept s (s.spareBank b) := by
  unfold State.spareBank
  split
  · refine Kept.trans ?_ State.embFlag_kept
    refine Kept.trans ?_ State.journal_kept
    exact State.setBlm_kept
  · exact State.enterFault_kept

theorem State.lasting_kept {s : State} {v : Ival} {held : List CommitLine} {bad : List Nat} {ent : List (Nat × Nat × Nat)} {last : Bool} :
    Kept s (s.lasting v held bad ent last) := by
  unfold State.lasting
  dsimp only
  refine Kept.trans ?_ State.commitIval_kept
  refine Kept.trans ?_ (Kept.foldl (fun _ _ => ?_) _ _)
  · refine Kept.trans ?_ State.degrade_kept
    refine Kept.trans ?_ State.bump_kept
    refine Kept.trans ?_ State.embFlag_kept
    refine Kept.trans ?_ (Kept.foldl (fun _ _ => ?_) _ _)
    · exact Kept.refl _
    · exact State.fenceSlice_kept
  · exact State.spareBank_kept

theorem State.checkIval_kept {s : State} {v : Ival} {held : List CommitLine} {f : CommitChecks} {last : Bool} :
    Kept s (s.checkIval v held f last) := by
  unfold State.checkIval
  dsimp only
  refine Kept.ite (fun _ => ?_) (fun _ => ?_)
  · refine Kept.trans ?_ State.commitIval_kept
    refine Kept.trans ?_ (Kept.foldl (fun _ _ => ?_) _ _)
    · exact State.mapIval_kept
    · exact State.noteSlice_kept
  · refine Kept.ite (fun _ => ?_) (fun _ => ?_)
    · refine Kept.trans ?_ State.lasting_kept
      refine Kept.trans ?_ (Kept.foldl (fun _ _ => ?_) _ _)
      · exact State.mapIval_kept
      · exact State.noteSlice_kept
    · refine Kept.trans ?_ State.rewind_kept
      refine Kept.trans ?_ (Kept.foldl (fun _ _ => ?_) _ _)
      · exact State.mapIval_kept
      · exact State.noteSlice_kept

theorem State.intervalCommit_kept {s : State} {f : CommitChecks} : Kept s (s.intervalCommit f) := by
  unfold State.intervalCommit
  split
  · exact Kept.refl _
  · dsimp only
    refine Kept.ite (fun _ => ?_) (fun _ => ?_)
    · exact State.checkIval_kept
    · exact Kept.refl _

theorem State.drainCommit_kept {s : State} {f : CommitChecks} : Kept s (s.drainCommit f) := by
  unfold State.drainCommit
  refine Kept.ite (fun _ => ?_) (fun _ => ?_)
  · split
    · refine Kept.ite (fun _ => ?_) (fun _ => ?_)
      · exact State.requestCloseAll_kept
      · exact Kept.refl _
    · exact State.checkIval_kept
  · exact Kept.refl _

theorem State.suspectIval_kept {s : State} {j : Nat} : Kept s (s.suspectIval j) := by
  unfold State.suspectIval
  dsimp only
  refine Kept.trans ?_ State.setBlm_kept
  refine Kept.trans ?_ State.setAnv_kept
  exact State.setSti_kept

theorem State.loseLine_kept {s : State} {c seq : Nat} {interval : Option Nat} : Kept s (s.loseLine c seq interval) := by
  unfold State.loseLine
  dsimp only
  refine Kept.trans ?_ State.formAll_kept
  refine Kept.trans ?_ (Kept.foldl (fun _ _ => ?_) _ _)
  · refine Kept.trans ?_ State.suspectIval_kept
    refine Kept.trans ?_ State.mapIval_kept
    refine Kept.trans ?_ State.bump_kept
    exact State.embFlag_kept
  · refine Kept.trans ?_ State.setSti_kept
    refine Kept.trans ?_ (upTo_kept fun _ _ => ?_)
    · exact Kept.refl _
    · refine Kept.trans ?_ State.stiFlag_kept
      exact State.bump_kept

theorem State.feederLine_kept {s : State} {ecc : EccResult} : Kept s (s.feederLine ecc) := by
  unfold State.feederLine
  refine Kept.ite (fun _ => ?_) (fun _ => ?_)
  · exact Kept.refl _
  · split
    · exact Kept.refl _
    · dsimp only
      split
      · exact (State.blockEcc_eq (by assumption))
      · refine Kept.trans ?_ State.feederEnd_kept
        refine Kept.trans ?_ State.takeNext_kept
        split
        · refine Kept.trans ?_ State.loseLine_kept
          refine Kept.trans ?_ State.hearthTraffic_kept
          refine Kept.upd ?_
          exact (State.blockEcc_eq (by assumption))
        · refine Kept.trans ?_ State.takeLine_kept
          refine Kept.trans ?_ State.hearthTraffic_kept
          refine Kept.upd ?_
          exact (State.blockEcc_eq (by assumption))

theorem State.retrainStart_kept {s : State} : Kept s (s.retrainStart) := by
  unfold State.retrainStart
  refine Kept.ite (fun _ => ?_) (fun _ => ?_)
  · dsimp only
    refine Kept.trans ?_ State.setInt_kept
    exact State.startRetraining_kept
  · exact Kept.refl _

/-! ### Machine/WickCore.lean -/

theorem State.setCoreMem_kept {s : State} {n : Nat} {p : Place} {m : List Host.Cell}
    (hm : Memory.wf (s.coreMem n p) = true → Memory.wf m = true) : Kept s (s.setCoreMem n p m) := by
  unfold State.setCoreMem
  unfold State.coreMem at hm
  split
  · rename_i h
    simp only [h, ↓reduceIte] at hm
    exact State.setCore_kept (fun h => hm (State.core_wf h _))
  · rename_i h
    simp only [h, ↓reduceIte] at hm
    exact (Kept.refl s).upd (hw := hm)

theorem State.takeException_kept {s : State} {n code : Nat} {bad epc : BitVec 32} : Kept s (s.takeException n code bad epc) := by
  unfold State.takeException
  dsimp only
  refine Kept.ite (fun _ => ?_) (fun _ => ?_)
  · exact State.haltCore_kept
  · split
    · exact State.setCore_kept
    · refine Kept.trans ?_ State.haltCore_kept
      exact State.setCore_kept

theorem State.wickExc_kept {s : State} {n code : Nat} {bad : optParam (BitVec 32) 0} : Kept s (s.wickExc n code bad) := by
  unfold State.wickExc
  exact State.takeException_kept

theorem State.wickNext_kept {s : State} {n : Nat} {c : WickCore}
    (hc : coresWf s.wck.cores = true → Memory.wf c.mem = true := by
      first
      | exact fun h => State.core_wf h _
      | exact fun h => by simpa using State.core_wf h _) : Kept s (s.wickNext n c) := by
  unfold State.wickNext
  exact State.setCore_kept hc
@[simp] theorem WickCore.setControl_mem (c : WickCore) (k : Nat) (v : Word64) (now : Nat) : (c.setControl k v now).mem = c.mem := by
  unfold WickCore.setControl; split <;> rfl

theorem State.wickStall_kept {s : State} {n op : Nat} {w : BitVec 24} : Kept s (s.wickStall n op w) := by
  unfold State.wickStall
  exact State.setCore_kept

theorem State.wickRun_held {s : State} {n op : Nat} {w : BitVec 24} {body : WickCore → State → State}
    (h : ∀ x, Held x (body (x.core n) x)) : Held s (s.wickRun n op w body) := by
  unfold State.wickRun
  refine Held.ite (fun _ => ?_) (fun _ => Held.refl _)
  dsimp only
  have hs : Kept s (s.setCore n { s.core n with entry := none, debugStep := false }) := State.setCore_kept
  refine Held.ite (fun _ => ?_) (fun _ => ?_)
  · exact hs.toHeld.trans (h _)
  · exact (hs.trans State.takeException_kept).toHeld
theorem State.wickRun_kept {s : State} {n op : Nat} {w : BitVec 24} {body : WickCore → State → State}
    (h : ∀ x, Kept x (body (x.core n) x)) : Kept s (s.wickRun n op w body) := by
  unfold State.wickRun
  refine Kept.ite (fun _ => ?_) (fun _ => Kept.refl _)
  dsimp only
  have hs : Kept s (s.setCore n { s.core n with entry := none, debugStep := false }) := State.setCore_kept
  refine Kept.ite (fun _ => ?_) (fun _ => ?_)
  · exact hs.trans (h _)
  · exact hs.trans State.takeException_kept

theorem State.legal_held {s : State} {n : Nat} {ok : Bool} {f : State → State} (h : Held s (f s)) :
    Held s (s.legal n ok f) := by
  unfold State.legal
  exact Held.ite (fun _ => h) (fun _ => State.wickExc_kept.toHeld)
theorem State.legal_kept {s : State} {n : Nat} {ok : Bool} {f : State → State} (h : Kept s (f s)) :
    Kept s (s.legal n ok f) := by
  unfold State.legal
  exact Kept.ite (fun _ => h) (fun _ => State.wickExc_kept)

theorem State.wickWrite_kept {s : State} {n : Nat} {c : WickCore} {d : Nat} {v : Word64}
    (hc : coresWf s.wck.cores = true → Memory.wf c.mem = true := by
      first
      | exact fun h => State.core_wf h _
      | exact fun h => by simpa using State.core_wf h _) : Kept s (s.wickWrite n c d v) := by
  unfold State.wickWrite
  exact State.wickNext_kept (fun h => by simpa using hc h)

theorem State.commitCore_kept {s : State} {src : Nat} : Kept s (s.commitCore src) := by
  unfold State.commitCore
  refine Kept.trans ?_ State.setFld_kept
  exact State.setFld_kept

theorem State.restoreSource_kept {s : State} {src : Nat} : Kept s (s.restoreSource src) := by
  unfold State.restoreSource
  refine Kept.trans ?_ State.setFld_kept
  exact State.setFld_kept

theorem State.enterHandler_kept {s : State} {n src : Nat} {epc : BitVec 32} {frame : State → State}
    (hf : ∀ x, Kept x (frame x)) : Kept s (s.enterHandler n src epc frame) := by
  unfold State.enterHandler
  split
  · refine Kept.trans ?_ State.setCore_kept
    exact State.commitCore_kept.trans (hf _)
  · exact State.takeException_kept

theorem State.pushFrame_kept {s : State} {n src : Nat} {p : Place} : Kept s (s.pushFrame n src p) := by
  unfold State.pushFrame
  exact (State.setCoreMem_kept Memory.wf_writes).trans State.setCore_kept

theorem State.interruptEntry_kept {s : State} {n : Nat} : Kept s (s.interruptEntry n) := by
  unfold State.interruptEntry
  dsimp only
  refine Kept.ite (fun _ => Kept.refl _) (fun _ => ?_)
  split
  · split
    · exact State.enterHandler_kept fun _ => State.restoreSource_kept
    · exact Kept.refl _
  · split
    · exact Kept.refl _
    · refine Kept.ite (fun _ => State.takeException_kept) (fun _ => ?_)
      split
      · exact State.enterHandler_kept fun _ => State.pushFrame_kept
      · exact State.takeException_kept

theorem State.wickEcc_kept {s : State} {ecc : EccResult} : Kept s (s.wickEcc ecc) := by
  unfold State.wickEcc
  split
  · exact State.bumpBy_kept
  · refine Kept.trans ?_ State.wckFlag_kept
    exact State.bump_kept
  · exact Kept.refl _

theorem State.endService_kept {s : State} {n status value : Nat} : Kept s (s.endService n status value) := by
  unfold State.endService
  dsimp only
  refine Kept.ite (fun _ => ?_) (fun _ => ?_)
  · refine Kept.trans ?_ State.setCore_kept
    refine Kept.upd ?_
    exact State.setFld_kept
  · refine Kept.trans ?_ State.wickNext_kept
    refine Kept.upd ?_
    exact State.setFld_kept

theorem State.serviceDone_kept {s : State} {n : Nat} {v : BitVec 32} : Kept s (s.serviceDone n v) := by
  unfold State.serviceDone
  split
  · refine Kept.ite (fun _ => ?_) (fun _ => ?_)
    · exact State.endService_kept
    · exact Kept.refl _
  · exact Kept.refl _

theorem State.writeSwi_kept {s : State} {n : Nat} {v : BitVec 32} : Kept s (s.writeSwi n v) := by
  unfold State.writeSwi
  refine Kept.trans ?_ (upTo_kept fun _ _ => ?_)
  · exact Kept.refl _
  · refine Kept.ite (fun _ => ?_) (fun _ => ?_)
    · exact State.raise_kept
    · exact Kept.refl _

/-! ### Machine/HostCmd.lean -/

theorem State.journalCommand_kept {s : State} {it : JournalItem} : Kept s (s.journalCommand it) := by
  unfold State.journalCommand
  exact State.journal_kept

theorem State.setCmd_kept {s : State} {c : Option HostCmd} : Kept s (s.setCmd c) := by
  unfold State.setCmd
  refine Kept.trans ?_ State.setFld_kept
  refine Kept.upd ?_
  exact Kept.refl _

theorem State.respond_kept {s : State} {opcode code status seq value : Nat} :
    Kept s (s.respond opcode code status seq value) := by
  unfold State.respond
  dsimp only
  refine Kept.trans ?_ State.journalCommand_kept
  refine Kept.upd ?_
  exact State.pushPacket_kept

theorem State.pushResponse_kept {s : State} {code : Nat} : Kept s (s.pushResponse code) := by
  unfold State.pushResponse
  split
  · split
    · refine Kept.ite (fun _ => ?_) (fun _ => ?_)
      · refine Kept.trans ?_ State.setCmd_kept
        exact State.respond_kept
      · exact Kept.refl _
    · exact Kept.refl _
  · exact Kept.refl _

theorem State.endCommand_kept {s : State} {status value : Nat} : Kept s (s.endCommand status value) := by
  unfold State.endCommand
  split
  · refine Kept.trans ?_ State.pushResponse_kept
    refine Kept.upd ?_
    exact Kept.refl _
  · exact Kept.refl _

theorem State.acceptCommand_kept {s : State} {w : Word} {args : List Word} {rest : List QSlot} :
    Kept s (s.acceptCommand w args rest) := by
  unfold State.acceptCommand
  dsimp only
  refine Kept.trans ?_ State.setCmd_kept
  refine Kept.trans ?_ State.journalCommand_kept
  exact State.setQueue_kept

theorem State.command_held {s : State} {op argc : Nat} {legal : List DevState} {f : List Word → State → State} (hf : ∀ (y0 : List Word) (y1 : State), Held y1 (f y0 y1)) :
    Held s (s.command op argc legal f) := by
  unfold State.command
  refine Held.ite (fun _ => ?_) (fun _ => ?_)
  · split
    · refine Held.ite (fun _ => ?_) (fun _ => ?_)
      · dsimp only
        refine Held.ite (fun _ => ?_) (fun _ => ?_)
        · refine Held.trans ?_ (Kept.toHeld State.endCommand_kept)
          exact Kept.toHeld State.acceptCommand_kept
        · refine Held.ite (fun _ => ?_) (fun _ => ?_)
          · refine Held.trans ?_ (Kept.toHeld State.endCommand_kept)
            exact Kept.toHeld State.acceptCommand_kept
          · refine Held.trans ?_ (hf _ _)
            exact Kept.toHeld State.acceptCommand_kept
      · exact Held.refl _
    · exact Held.refl _
  · exact Held.refl _

theorem State.command_kept {s : State} {op argc : Nat} {legal : List DevState} {f : List Word → State → State} (hf : ∀ (y0 : List Word) (y1 : State), Kept y1 (f y0 y1)) :
    Kept s (s.command op argc legal f) := by
  unfold State.command
  refine Kept.ite (fun _ => ?_) (fun _ => ?_)
  · split
    · refine Kept.ite (fun _ => ?_) (fun _ => ?_)
      · dsimp only
        refine Kept.ite (fun _ => ?_) (fun _ => ?_)
        · refine Kept.trans ?_ State.endCommand_kept
          exact State.acceptCommand_kept
        · refine Kept.ite (fun _ => ?_) (fun _ => ?_)
          · refine Kept.trans ?_ State.endCommand_kept
            exact State.acceptCommand_kept
          · refine Kept.trans ?_ (hf _ _)
            exact State.acceptCommand_kept
      · exact Kept.refl _
    · exact Kept.refl _
  · exact Kept.refl _

theorem State.loseRestored_kept {s : State} : Kept s (s.loseRestored) := by
  unfold State.loseRestored
  dsimp only
  refine Kept.trans ?_ State.setFld_kept
  refine Kept.upd ?_
  refine Kept.trans ?_ (Kept.foldl (fun _ _ => ?_) _ _)
  · exact Kept.refl _
  · exact State.journal_kept

theorem State.restoreMarks_kept {s : State} : Kept s (s.restoreMarks) := by
  unfold State.restoreMarks
  split
  · exact Kept.refl _
  · refine Kept.ite (fun _ => ?_) (fun _ => ?_)
    · exact State.loseRestored_kept
    · dsimp only
      refine Kept.trans ?_ State.setFld_kept
      refine Kept.trans ?_ State.setFld_kept
      refine Kept.trans ?_ (Kept.foldl (fun _ _ => ?_) _ _)
      · refine Kept.upd ?_
        exact Kept.refl _
      · refine Kept.trans ?_ State.createMark_kept
        exact State.journal_kept

theorem State.enterRun_held {s : State} : Held s (s.enterRun) := by
  unfold State.enterRun
  refine Held.trans ?_ (Kept.toHeld State.restoreMarks_kept)
  refine Held.trans ?_ (Kept.toHeld State.thawMarks_kept)
  exact State.enter_held

theorem State.start_held {s : State} : Held s (s.start).2 := by
  unfold State.start
  split
  · dsimp only
    exact Held.refl _
  · dsimp only
    exact State.enterRun_held
theorem State.start_eq {s : State} {v t} (he : s.start = (v, t)) :
    Held s t := by
  have h := State.start_held (s := s)
  rw [he] at h; exact h

theorem State.hold_held {s : State} : Held s (s.hold).2 := by
  unfold State.hold
  split
  · dsimp only
    exact State.enter_held
  · dsimp only
    exact Held.refl _
theorem State.hold_eq {s : State} {v t} (he : s.hold = (v, t)) :
    Held s t := by
  have h := State.hold_held (s := s)
  rw [he] at h; exact h

theorem State.resume_held {s : State} : Held s (s.resume).2 := by
  unfold State.resume
  split
  · dsimp only
    exact Held.refl _
  · split
    · dsimp only
      exact Held.refl _
    · dsimp only
      exact State.enterRun_held
theorem State.resume_eq {s : State} {v t} (he : s.resume = (v, t)) :
    Held s t := by
  have h := State.resume_held (s := s)
  rw [he] at h; exact h

theorem State.stop_held {s : State} : Held s (s.stop).2 := by
  unfold State.stop
  split
  · dsimp only
    refine Held.trans ?_ (Kept.toHeld State.discardMarks_kept)
    refine Held.trans ?_ (Kept.toHeld State.requestCloseAll_kept)
    exact State.enter_held
  · dsimp only
    exact Held.refl _
theorem State.stop_eq {s : State} {v t} (he : s.stop = (v, t)) :
    Held s t := by
  have h := State.stop_held (s := s)
  rw [he] at h; exact h

theorem endWith_kept {s : State} {r : Nat × State} (h : Kept s r.2) : Kept s (endWith r) := h.trans State.endCommand_kept
theorem endWith_held {s : State} {r : Nat × State} (h : Held s r.2) : Held s (endWith r) :=
  h.trans State.endCommand_kept.toHeld

theorem State.hearthCommand_kept {s : State} {op : Nat} : Kept s (s.hearthCommand op) := by
  unfold State.hearthCommand
  dsimp only
  refine Kept.ite (fun _ => ?_) (fun _ => ?_)
  · exact State.writeApCmd_kept
  · refine Kept.trans ?_ State.endCommand_kept
    exact State.writeApCmd_kept

theorem State.hearthCmd_kept {s : State} {op : Nat} : Kept s (s.hearthCmd op) := by
  unfold State.hearthCmd
  refine Kept.trans ?_ (State.command_kept ?_)
  · exact Kept.refl _
  · intro _ _
    refine Kept.ite (fun _ => ?_) (fun _ => ?_)
    · exact State.endCommand_kept
    · refine Kept.ite (fun _ => ?_) (fun _ => ?_)
      · refine Kept.trans ?_ State.hearthCommand_kept
        exact State.setFld_kept
      · refine Kept.trans ?_ State.hearthCommand_kept
        exact State.wr_kept

theorem State.endHearthCmd_kept {s : State} : Kept s (s.endHearthCmd) := by
  unfold State.endHearthCmd
  split
  · refine Kept.ite (fun _ => ?_) (fun _ => ?_)
    · exact State.endCommand_kept
    · exact Kept.refl _
  · exact Kept.refl _

theorem State.attestDone_kept {s : State} : Kept s (s.attestDone) := by
  unfold State.attestDone
  split
  · dsimp only
    split
    · refine Kept.trans ?_ State.endCommand_kept
      exact State.setSec_kept
    · split
      · exact Kept.refl _
      · refine Kept.trans ?_ State.endCommand_kept
        refine Kept.trans ?_ (State.blockWrite_eq (by assumption))
        exact State.setSec_kept
  · exact Kept.refl _

theorem State.serve_held {s : State} {num : Nat → Bool} {f : Nat → Nat → State → State} (hf : ∀ (y0 : Nat) (y1 : Nat) (y2 : State), Held y2 (f y0 y1 y2)) :
    Held s (s.serve num f) := by
  unfold State.serve
  split
  · refine Held.ite (fun _ => ?_) (fun _ => ?_)
    · exact hf _ _ _
    · exact Held.refl _
  · exact Held.refl _

theorem State.serve_kept {s : State} {num : Nat → Bool} {f : Nat → Nat → State → State} (hf : ∀ (y0 : Nat) (y1 : Nat) (y2 : State), Kept y2 (f y0 y1 y2)) :
    Kept s (s.serve num f) := by
  unfold State.serve
  split
  · refine Kept.ite (fun _ => ?_) (fun _ => ?_)
    · exact hf _ _ _
    · exact Kept.refl _
  · exact Kept.refl _

end Sys2Proof.Machine
end

