-- ==== Sys2Proof/Laws/KeptHost.lean ====
section
/-! SUPPORT. What each operation keeps (`Kept`, `Held`): the encoder, compression, the host window, the loader, banking, the Wick memory accesses and the tick. -/

set_option Elab.async false
namespace Sys2Proof.Machine

/-! ### Machine/Encoder.lean -/

theorem State.encFlag_kept {s : State} {n b : Nat} : Kept s (s.encFlag n b) := by
  unfold State.encFlag
  exact State.flagRaise_kept

theorem State.dropPeriod_kept {s : State} {n need : Nat} : Kept s (s.dropPeriod n need) := by
  unfold State.dropPeriod
  refine Kept.trans ?_ State.setFld_kept
  exact State.setEnc_kept

theorem State.standStill_kept {s : State} {n : Nat} : Kept s (s.standStill n) := by
  unfold State.standStill
  dsimp only
  refine Kept.ite (fun _ => ?_) (fun _ => ?_)
  · refine Kept.trans ?_ State.sendLates_kept
    refine Kept.trans ?_ State.cancelMarks_kept
    refine Kept.trans ?_ State.encFlag_kept
    refine Kept.trans ?_ State.setEnc_kept
    refine Kept.trans ?_ State.setFld_kept
    exact State.dropPeriod_kept
  · refine Kept.trans ?_ State.encFlag_kept
    refine Kept.trans ?_ State.setEnc_kept
    refine Kept.trans ?_ State.setFld_kept
    exact State.dropPeriod_kept

theorem State.countEdge_kept {s : State} {n : Nat} {up flipped : Bool} {cnt tq sample lt : Nat} :
    Kept s (s.countEdge n up flipped cnt tq sample lt) := by
  unfold State.countEdge
  dsimp only
  refine Kept.ite (fun _ => ?_) (fun _ => ?_)
  · refine Kept.trans ?_ State.evalMarks_kept
    refine Kept.ite (fun _ => ?_) (fun _ => ?_)
    · refine Kept.trans ?_ State.cancelMarks_kept
      refine Kept.trans ?_ State.trigAtEdge_kept
      refine Kept.ite (fun _ => ?_) (fun _ => ?_)
      · refine Kept.trans ?_ State.encFlag_kept
        refine Kept.trans ?_ State.setFld_kept
        refine Kept.trans ?_ State.setFld_kept
        refine Kept.ite (fun _ => ?_) (fun _ => ?_)
        · refine Kept.trans ?_ State.setFld_kept
          refine Kept.trans ?_ State.setFld_kept
          refine Kept.trans ?_ State.setEnc_kept
          refine Kept.ite (fun _ => ?_) (fun _ => ?_)
          · exact State.standStill_kept
          · exact Kept.refl _
        · refine Kept.trans ?_ State.setFld_kept
          refine Kept.trans ?_ State.setEnc_kept
          refine Kept.ite (fun _ => ?_) (fun _ => ?_)
          · exact State.standStill_kept
          · exact Kept.refl _
      · refine Kept.trans ?_ State.setFld_kept
        refine Kept.trans ?_ State.setFld_kept
        refine Kept.ite (fun _ => ?_) (fun _ => ?_)
        · refine Kept.trans ?_ State.setFld_kept
          refine Kept.trans ?_ State.setFld_kept
          refine Kept.trans ?_ State.setEnc_kept
          refine Kept.ite (fun _ => ?_) (fun _ => ?_)
          · exact State.standStill_kept
          · exact Kept.refl _
        · refine Kept.trans ?_ State.setFld_kept
          refine Kept.trans ?_ State.setEnc_kept
          refine Kept.ite (fun _ => ?_) (fun _ => ?_)
          · exact State.standStill_kept
          · exact Kept.refl _
    · refine Kept.trans ?_ State.trigAtEdge_kept
      refine Kept.ite (fun _ => ?_) (fun _ => ?_)
      · refine Kept.trans ?_ State.encFlag_kept
        refine Kept.trans ?_ State.setFld_kept
        refine Kept.trans ?_ State.setFld_kept
        refine Kept.ite (fun _ => ?_) (fun _ => ?_)
        · refine Kept.trans ?_ State.setFld_kept
          refine Kept.trans ?_ State.setFld_kept
          refine Kept.trans ?_ State.setEnc_kept
          refine Kept.ite (fun _ => ?_) (fun _ => ?_)
          · exact State.standStill_kept
          · exact Kept.refl _
        · refine Kept.trans ?_ State.setFld_kept
          refine Kept.trans ?_ State.setEnc_kept
          refine Kept.ite (fun _ => ?_) (fun _ => ?_)
          · exact State.standStill_kept
          · exact Kept.refl _
      · refine Kept.trans ?_ State.setFld_kept
        refine Kept.trans ?_ State.setFld_kept
        refine Kept.ite (fun _ => ?_) (fun _ => ?_)
        · refine Kept.trans ?_ State.setFld_kept
          refine Kept.trans ?_ State.setFld_kept
          refine Kept.trans ?_ State.setEnc_kept
          refine Kept.ite (fun _ => ?_) (fun _ => ?_)
          · exact State.standStill_kept
          · exact Kept.refl _
        · refine Kept.trans ?_ State.setFld_kept
          refine Kept.trans ?_ State.setEnc_kept
          refine Kept.ite (fun _ => ?_) (fun _ => ?_)
          · exact State.standStill_kept
          · exact Kept.refl _
  · refine Kept.trans ?_ State.trigAtEdge_kept
    refine Kept.ite (fun _ => ?_) (fun _ => ?_)
    · refine Kept.trans ?_ State.encFlag_kept
      refine Kept.trans ?_ State.setFld_kept
      refine Kept.trans ?_ State.setFld_kept
      refine Kept.ite (fun _ => ?_) (fun _ => ?_)
      · refine Kept.trans ?_ State.setFld_kept
        refine Kept.trans ?_ State.setFld_kept
        refine Kept.trans ?_ State.setEnc_kept
        refine Kept.ite (fun _ => ?_) (fun _ => ?_)
        · exact State.standStill_kept
        · exact Kept.refl _
      · refine Kept.trans ?_ State.setFld_kept
        refine Kept.trans ?_ State.setEnc_kept
        refine Kept.ite (fun _ => ?_) (fun _ => ?_)
        · exact State.standStill_kept
        · exact Kept.refl _
    · refine Kept.trans ?_ State.setFld_kept
      refine Kept.trans ?_ State.setFld_kept
      refine Kept.ite (fun _ => ?_) (fun _ => ?_)
      · refine Kept.trans ?_ State.setFld_kept
        refine Kept.trans ?_ State.setFld_kept
        refine Kept.trans ?_ State.setEnc_kept
        refine Kept.ite (fun _ => ?_) (fun _ => ?_)
        · exact State.standStill_kept
        · exact Kept.refl _
      · refine Kept.trans ?_ State.setFld_kept
        refine Kept.trans ?_ State.setEnc_kept
        refine Kept.ite (fun _ => ?_) (fun _ => ?_)
        · exact State.standStill_kept
        · exact Kept.refl _

theorem State.preset_kept {s : State} {n : Nat} : Kept s (s.preset n) := by
  unfold State.preset
  dsimp only
  refine Kept.trans ?_ State.dropPeriod_kept
  exact State.setEnc_kept

theorem State.takeReference_kept {s : State} {n tq sample counter : Nat} : Kept s (s.takeReference n tq sample counter) := by
  unfold State.takeReference
  dsimp only
  refine Kept.ite (fun _ => ?_) (fun _ => ?_)
  · refine Kept.ite (fun _ => ?_) (fun _ => ?_)
    · refine Kept.trans ?_ State.encFlag_kept
      refine Kept.trans ?_ State.setEnc_kept
      refine Kept.trans ?_ State.latchSource_kept
      exact State.encFlag_kept
    · refine Kept.trans ?_ State.preset_kept
      refine Kept.trans ?_ State.setEnc_kept
      refine Kept.trans ?_ State.latchSource_kept
      exact State.encFlag_kept
  · refine Kept.trans ?_ State.latchSource_kept
    exact State.encFlag_kept

theorem State.writeEncCmd_kept {s : State} {n : Nat} {v : BitVec 32} : Kept s (s.writeEncCmd n v) := by
  unfold State.writeEncCmd
  refine Kept.ite (fun _ => ?_) (fun _ => ?_)
  · exact Kept.refl _
  · refine Kept.ite (fun _ => ?_) (fun _ => ?_)
    · exact State.encFlag_kept
    · dsimp only
      refine Kept.ite (fun _ => ?_) (fun _ => ?_)
      · refine Kept.trans ?_ State.preset_kept
        refine Kept.ite (fun _ => ?_) (fun _ => ?_)
        · exact State.setEnc_kept
        · exact Kept.refl _
      · refine Kept.ite (fun _ => ?_) (fun _ => ?_)
        · exact State.setEnc_kept
        · exact Kept.refl _

theorem State.writeEncCfg_kept {s : State} {n : Nat} {v : BitVec 32} : Kept s (s.writeEncCfg n v) := by
  unfold State.writeEncCfg
  refine Kept.ite (fun _ => ?_) (fun _ => ?_)
  · refine Kept.ite (fun _ => ?_) (fun _ => ?_)
    · exact Kept.refl _
    · refine Kept.trans ?_ State.dropPeriod_kept
      exact State.setFld_kept
  · dsimp only
    refine Kept.ite (fun _ => ?_) (fun _ => ?_)
    · refine Kept.trans ?_ State.dropPeriod_kept
      refine Kept.trans ?_ State.setEnc_kept
      exact State.plainWrite_kept
    · exact State.plainWrite_kept

theorem State.writeEncStill_kept {s : State} {n : Nat} {v : BitVec 32} : Kept s (s.writeEncStill n v) := by
  unfold State.writeEncStill
  refine Kept.ite (fun _ => ?_) (fun _ => ?_)
  · exact Kept.refl _
  · exact State.plainWrite_kept

/-! ### Machine/Compress.lean -/

theorem State.cmpFlag_kept {s : State} {b : Nat} : Kept s (s.cmpFlag b) := by
  unfold State.cmpFlag
  exact State.flagRaise_kept

theorem State.setCmp_kept {s : State} {x : Compression} : Kept s (s.setCmp x) := by
  unfold State.setCmp
  refine Kept.upd ?_
  exact Kept.refl _

theorem State.setCmpEngine_kept {s : State} {e : Nat} {x : CmpEngine} : Kept s (s.setCmpEngine e x) := by
  unfold State.setCmpEngine
  exact State.setCmp_kept

theorem State.setCmpStream_kept {s : State} {n : Nat} {x : Option CmpStream} : Kept s (s.setCmpStream n x) := by
  unfold State.setCmpStream
  dsimp only
  exact State.setCmp_kept

theorem State.openBytes_kept {s : State} {n : Nat} : Kept s (s.openBytes n).2 := by
  unfold State.openBytes
  split
  dsimp only
  exact (State.fresh_eq (by assumption))
theorem State.openBytes_eq {s : State} {n : Nat} {v t} (he : s.openBytes n = (v, t)) :
    Kept s t := by
  have h := State.openBytes_kept (s := s) (n := n)
  rw [he] at h; exact h

theorem State.saveStream_kept {s : State} {e : Nat} : Kept s (s.saveStream e).2 := by
  unfold State.saveStream
  split
  · dsimp only
    exact Kept.refl _
  · split
    split
    · dsimp only
      refine Kept.trans ?_ (State.blockWrite_eq (by assumption))
      exact (State.openBytes_eq (by assumption))
    · dsimp only
      refine Kept.trans ?_ State.bump_kept
      refine Kept.trans ?_ State.hearthTraffic_kept
      refine Kept.trans ?_ State.setCmpEngine_kept
      refine Kept.trans ?_ (State.blockWrite_eq (by assumption))
      exact (State.openBytes_eq (by assumption))
theorem State.saveStream_eq {s : State} {e : Nat} {v t} (he : s.saveStream e = (v, t)) :
    Kept s t := by
  have h := State.saveStream_kept (s := s) (e := e)
  rw [he] at h; exact h

theorem State.restoreStream_kept {s : State} {e n : Nat} : Kept s (s.restoreStream e n).2 := by
  unfold State.restoreStream
  split
  · dsimp only
    exact (State.saveStream_eq (by assumption))
  · split
    · dsimp only
      refine Kept.trans ?_ State.setCmpEngine_kept
      exact (State.saveStream_eq (by assumption))
    · split
      · dsimp only
        refine Kept.trans ?_ (State.bulkRead_eq (by assumption))
        exact (State.saveStream_eq (by assumption))
      · split
        · dsimp only
          refine Kept.trans ?_ (State.bulkRead_eq (by assumption))
          exact (State.saveStream_eq (by assumption))
        · dsimp only
          refine Kept.trans ?_ State.hearthTraffic_kept
          refine Kept.trans ?_ State.bump_kept
          refine Kept.trans ?_ State.setCmpEngine_kept
          refine Kept.trans ?_ (State.bulkRead_eq (by assumption))
          exact (State.saveStream_eq (by assumption))
theorem State.restoreStream_eq {s : State} {e n : Nat} {v t} (he : s.restoreStream e n = (v, t)) :
    Kept s t := by
  have h := State.restoreStream_kept (s := s) (e := e) (n := n)
  rw [he] at h; exact h

theorem State.makeResident_kept {s : State} {e n : Nat} : Kept s (s.makeResident e n).2 := by
  unfold State.makeResident
  split
  · dsimp only
    exact Kept.refl _
  · split
    · exact State.restoreStream_kept
    · split
      · dsimp only
        exact Kept.refl _
      · split
        · dsimp only
          exact (State.saveStream_eq (by assumption))
        · refine Kept.trans ?_ State.restoreStream_kept
          exact (State.saveStream_eq (by assumption))
theorem State.makeResident_eq {s : State} {e n : Nat} {v t} (he : s.makeResident e n = (v, t)) :
    Kept s t := by
  have h := State.makeResident_kept (s := s) (e := e) (n := n)
  rw [he] at h; exact h

theorem State.checkSaved_kept {s : State} : Kept s (s.checkSaved) := by
  unfold State.checkSaved
  refine Kept.ite (fun _ => ?_) (fun _ => ?_)
  · refine Kept.trans ?_ State.cmpFlag_kept
    exact State.setCmp_kept
  · exact Kept.refl _

theorem State.saveIfDue_kept {s : State} {e : Nat} : Kept s (s.saveIfDue e) := by
  unfold State.saveIfDue
  dsimp only
  refine Kept.ite (fun _ => ?_) (fun _ => ?_)
  · split
    · exact (State.saveStream_eq (by assumption))
    · refine Kept.trans ?_ State.checkSaved_kept
      refine Kept.trans ?_ State.setCmpEngine_kept
      exact (State.saveStream_eq (by assumption))
  · exact Kept.refl _

theorem State.endJob_kept {s : State} {e : Nat} {j : CmpJob} {status outBytes check : Nat} :
    Kept s (s.endJob e j status outBytes check) := by
  unfold State.endJob
  dsimp only
  refine Kept.trans ?_ State.saveIfDue_kept
  refine Kept.ite (fun _ => ?_) (fun _ => ?_)
  · refine Kept.trans ?_ State.bump_kept
    refine Kept.trans ?_ State.setFld_kept
    exact State.setCmpEngine_kept
  · refine Kept.trans ?_ State.bump_kept
    refine Kept.trans ?_ State.setFld_kept
    exact State.setCmpEngine_kept

theorem State.failJob_kept {s : State} {e : Nat} {j : CmpJob} {status : Nat} : Kept s (s.failJob e j status) := by
  unfold State.failJob
  split
  refine Kept.trans ?_ State.endJob_kept
  refine Kept.trans ?_ State.cmpFlag_kept
  exact (State.orFresh_eq (by assumption))

theorem State.spoilFrame_kept {h : BitVec 32} {off : Nat} {bs : List Byte} {s : State} {i : Nat} :
    Kept s (State.spoilFrame h off bs s i) := by
  unfold State.spoilFrame
  refine Kept.ite (fun _ => ?_) (fun _ => ?_)
  · exact Kept.refl _
  · exact State.writeFrame_kept

theorem State.spoil_kept {s : State} {j : CmpJob} : Kept s (s.spoil j) := by
  unfold State.spoil
  split
  refine Kept.ite (fun _ => ?_) (fun _ => ?_)
  · exact (State.openBytes_eq (by assumption))
  · refine Kept.trans ?_ (Kept.foldl (fun _ _ => ?_) _ _)
    · exact (State.openBytes_eq (by assumption))
    · exact State.spoilFrame_kept

theorem State.failRunning_kept {s : State} {e : Nat} {j : CmpJob} {status : Nat} : Kept s (s.failRunning e j status) := by
  unfold State.failRunning
  dsimp only
  refine Kept.ite (fun _ => ?_) (fun _ => ?_)
  · refine Kept.trans ?_ State.setCmpEngine_kept
    refine Kept.trans ?_ State.failJob_kept
    exact State.spoil_kept
  · refine Kept.trans ?_ State.failJob_kept
    exact State.spoil_kept

theorem State.passJob_kept {s : State} {e : Nat} {j : CmpJob} {input out : List Byte} {x : CmpStream} :
    Kept s (s.passJob e j input out x) := by
  unfold State.passJob
  dsimp only
  refine Kept.trans ?_ State.endJob_kept
  refine Kept.trans ?_ State.wr_kept
  refine Kept.trans ?_ State.wr_kept
  refine Kept.trans ?_ State.setCmpEngine_kept
  refine Kept.trans ?_ State.setCmpStream_kept
  refine Kept.ite (fun _ => ?_) (fun _ => ?_)
  · exact State.bump_kept
  · exact Kept.refl _

theorem State.startJob_kept {s : State} {e : Nat} {j : CmpJob} : Kept s (s.startJob e j) := by
  unfold State.startJob
  dsimp only
  refine Kept.ite (fun _ => ?_) (fun _ => ?_)
  · refine Kept.trans ?_ State.failJob_kept
    exact State.setCmpEngine_kept
  · split
    · exact (State.makeResident_eq (by assumption))
    · refine Kept.trans ?_ State.setCmpEngine_kept
      refine Kept.trans ?_ State.setCmpEngine_kept
      exact (State.makeResident_eq (by assumption))
    · refine Kept.trans ?_ State.setCmpStream_kept
      refine Kept.trans ?_ State.failJob_kept
      refine Kept.trans ?_ State.spoil_kept
      refine Kept.trans ?_ State.setCmpEngine_kept
      exact (State.makeResident_eq (by assumption))

theorem State.startIfFirst_kept {s : State} {e : Nat} : Kept s (s.startIfFirst e) := by
  unfold State.startIfFirst
  split
  · exact Kept.refl _
  · dsimp only
    refine Kept.ite (fun _ => ?_) (fun _ => ?_)
    · exact Kept.refl _
    · refine Kept.ite (fun _ => ?_) (fun _ => ?_)
      · exact State.startJob_kept
      · refine Kept.trans ?_ State.setCmp_kept
        exact State.startJob_kept

theorem State.startWaiting_kept {s : State} : Kept s (s.startWaiting) := by
  unfold State.startWaiting
  refine Kept.trans ?_ (Kept.foldl (fun _ _ => ?_) _ _)
  · exact Kept.refl _
  · exact State.startIfFirst_kept

theorem State.jobComplete_kept {s : State} {e : Nat} {ecc : EccResult} : Kept s (s.jobComplete e ecc) := by
  unfold State.jobComplete
  split
  · exact Kept.refl _
  · refine Kept.ite (fun _ => ?_) (fun _ => ?_)
    · exact Kept.refl _
    · split
      · exact (State.blockRead_eq (by assumption))
      · refine Kept.trans ?_ State.startWaiting_kept
        refine Kept.trans ?_ State.failRunning_kept
        exact (State.blockRead_eq (by assumption))
      · dsimp only
        split
        · refine Kept.trans ?_ State.startWaiting_kept
          refine Kept.trans ?_ State.failRunning_kept
          refine Kept.trans ?_ State.badAccess_kept
          refine Kept.trans ?_ State.hearthTraffic_kept
          exact (State.blockRead_eq (by assumption))
        · refine Kept.ite (fun _ => ?_) (fun _ => ?_)
          · refine Kept.trans ?_ State.startWaiting_kept
            refine Kept.trans ?_ State.failRunning_kept
            refine Kept.trans ?_ State.hearthTraffic_kept
            exact (State.blockRead_eq (by assumption))
          · refine Kept.ite (fun _ => ?_) (fun _ => ?_)
            · refine Kept.trans ?_ State.startWaiting_kept
              refine Kept.trans ?_ State.failRunning_kept
              refine Kept.trans ?_ State.hearthTraffic_kept
              exact (State.blockRead_eq (by assumption))
            · split
              · refine Kept.trans ?_ (State.bulkWrite_eq (by assumption))
                refine Kept.trans ?_ State.hearthTraffic_kept
                exact (State.blockRead_eq (by assumption))
              · refine Kept.trans ?_ State.startWaiting_kept
                refine Kept.trans ?_ State.passJob_kept
                refine Kept.trans ?_ State.hearthTraffic_kept
                refine Kept.trans ?_ (State.bulkWrite_eq (by assumption))
                refine Kept.trans ?_ State.hearthTraffic_kept
                exact (State.blockRead_eq (by assumption))

theorem State.takeJob_kept {s : State} {e : Nat} {j : CmpJob} : Kept s (s.takeJob e j) := by
  unfold State.takeJob
  dsimp only
  refine Kept.trans ?_ State.startIfFirst_kept
  refine Kept.trans ?_ State.setCmp_kept
  exact State.setCmpEngine_kept

theorem State.compressionJob_kept {s : State} {e : Nat} {ecc : EccResult} {badWord : Nat} :
    Kept s (s.compressionJob e ecc badWord) := by
  unfold State.compressionJob
  refine Kept.ite (fun _ => ?_) (fun _ => ?_)
  · dsimp only
    split
    · exact State.setQueue_kept
    · refine Kept.ite (fun _ => ?_) (fun _ => ?_)
      · exact State.eccLasting_kept
      · split
        · refine Kept.trans ?_ State.cmpFlag_kept
          refine Kept.trans ?_ State.setQueue_kept
          refine Kept.ite (fun _ => ?_) (fun _ => ?_)
          · exact Kept.refl _
          · exact State.bump_kept
        · refine Kept.trans ?_ State.takeJob_kept
          refine Kept.trans ?_ State.setQueue_kept
          refine Kept.ite (fun _ => ?_) (fun _ => ?_)
          · exact Kept.refl _
          · exact State.bump_kept
    · exact Kept.refl _
  · exact Kept.refl _

theorem State.completionPush_kept {s : State} {e : Nat} : Kept s (s.completionPush e) := by
  unfold State.completionPush
  split
  · exact Kept.refl _
  · refine Kept.ite (fun _ => ?_) (fun _ => ?_)
    · refine Kept.trans ?_ State.pushPacket_kept
      exact State.setCmpEngine_kept
    · exact Kept.refl _

theorem State.tickCompression_kept {s : State} : Kept s (s.tickCompression) := by
  unfold State.tickCompression
  refine Kept.trans ?_ State.startWaiting_kept
  refine Kept.trans ?_ (upTo_kept fun _ _ => ?_)
  · exact Kept.refl _
  · exact State.saveIfDue_kept

theorem State.saveStreams_kept {s : State} : Kept s (s.saveStreams) := by
  unfold State.saveStreams
  dsimp only
  refine Kept.trans ?_ (upTo_kept fun _ _ => ?_)
  · refine Kept.trans ?_ (upTo_kept fun _ _ => ?_)
    · exact Kept.refl _
    · exact State.setCmpEngine_kept
  · exact State.saveIfDue_kept

theorem State.saveAllStreams_kept {s : State} : Kept s (s.saveAllStreams) := by
  unfold State.saveAllStreams
  refine Kept.trans ?_ State.saveStreams_kept
  exact State.setCmp_kept

theorem State.writeCmpCmd_kept {s : State} {v : BitVec 32} : Kept s (s.writeCmpCmd v) := by
  unfold State.writeCmpCmd
  dsimp only
  refine Kept.ite (fun _ => ?_) (fun _ => ?_)
  · refine Kept.trans ?_ State.saveAllStreams_kept
    refine Kept.trans ?_ State.startWaiting_kept
    refine Kept.trans ?_ (upTo_kept fun _ _ => ?_)
    · exact Kept.refl _
    · split
      · refine Kept.ite (fun _ => ?_) (fun _ => ?_)
        · exact State.failRunning_kept
        · exact Kept.refl _
      · exact Kept.refl _
  · refine Kept.trans ?_ State.startWaiting_kept
    refine Kept.trans ?_ (upTo_kept fun _ _ => ?_)
    · exact Kept.refl _
    · split
      · refine Kept.ite (fun _ => ?_) (fun _ => ?_)
        · exact State.failRunning_kept
        · exact Kept.refl _
      · exact Kept.refl _

theorem State.advanceTable_kept {s : State} : Kept s (s.advanceTable) := by
  unfold State.advanceTable
  dsimp only
  exact State.setFld_kept

theorem State.storeLength_kept {s : State} {key : Nat} {v : BitVec 4} : Kept s (s.storeLength key v) := by
  unfold State.storeLength
  refine Kept.ite (fun _ => ?_) (fun _ => ?_)
  · exact State.cmpFlag_kept
  · exact State.setCmp_kept

theorem State.writeTable_kept {s : State} {v : BitVec 32} : Kept s (s.writeTable v) := by
  unfold State.writeTable
  refine Kept.trans ?_ State.advanceTable_kept
  exact State.storeLength_kept

theorem State.readTable_kept {s : State} : Kept s (s.readTable).2 := by
  unfold State.readTable
  dsimp only
  exact State.advanceTable_kept
theorem State.readTable_eq {s : State} {v t} (he : s.readTable = (v, t)) :
    Kept s t := by
  have h := State.readTable_kept (s := s)
  rw [he] at h; exact h

theorem State.writeStateHandle_kept {s : State} {v : BitVec 32} : Kept s (s.writeStateHandle v) := by
  unfold State.writeStateHandle
  refine Kept.ite (fun _ => ?_) (fun _ => ?_)
  · exact State.wr_kept
  · exact Kept.refl _

theorem State.writeEngCfg_kept {s : State} {e : Nat} {v : BitVec 32} : Kept s (s.writeEngCfg e v) := by
  unfold State.writeEngCfg
  dsimp only
  exact State.plainWrite_kept

/-! ### Machine/Bus.lean -/

theorem State.storeParts_kept {s : State} {ks : List Nat} {v : Nat} : Kept s (s.storeParts ks v) := by
  induction ks generalizing s v with
  | nil => exact Kept.refl _
  | cons k ks ih => exact State.wr_kept.trans ih

theorem State.takeParts_kept {s : State} {k : Nat} : Kept s (s.takeParts k) := by
  unfold State.takeParts
  split
  · exact State.storeParts_kept
  · exact Kept.refl _

theorem State.clearRc_kept {s : State} {k : Nat} : Kept s (s.clearRc k) := by
  unfold State.clearRc
  refine Kept.ite (fun _ => ?_) (fun _ => ?_)
  · exact State.setFld_kept
  · refine Kept.trans ?_ (Kept.foldl (fun _ _ => ?_) _ _)
    · exact Kept.refl _
    · exact State.setFld_kept

theorem State.readCdr_kept {s : State} {lane : Nat} : Kept s (s.readCdr lane).2 := by
  unfold State.readCdr
  dsimp only
  refine Kept.ite (fun _ => ?_) (fun _ => ?_)
  · exact Kept.refl _
  · exact State.sampleCdr_kept
theorem State.readCdr_eq {s : State} {lane : Nat} {v t} (he : s.readCdr lane = (v, t)) :
    Kept s t := by
  have h := State.readCdr_kept (s := s) (lane := lane)
  rw [he] at h; exact h

theorem State.busRead_kept {s : State} {k : Nat} : Kept s (s.busRead k).2 := by
  unfold State.busRead
  refine Kept.onRegSnd (fun _ => ?_) ?_
  · exact State.readNextLo_kept
  · refine Kept.onRegSnd (fun _ => ?_) ?_
    · exact State.readNextHi_kept
    · refine Kept.onOneSnd ?_ ?_
      · exact State.readStoreData_kept
      · refine Kept.onOneSnd ?_ ?_
        · exact State.readLutData_kept
        · refine Kept.onOneSnd ?_ ?_
          · exact State.readKnot_kept
          · refine Kept.onOneSnd ?_ ?_
            · exact State.readAnvLut_kept
            · refine Kept.onOneSnd ?_ ?_
              · exact State.readTable_kept
              · refine Kept.onOneSnd ?_ ?_
                · dsimp only
                  exact State.advanceCoef_kept
                · refine Kept.onOneSnd ?_ ?_
                  · dsimp only
                    exact State.advanceMeas_kept
                  · refine Kept.onOneSnd ?_ ?_
                    · dsimp only
                      exact State.advancePubkey_kept
                    · refine Kept.onRegSnd (fun _ => ?_) ?_
                      · exact State.readCdr_kept
                      · dsimp only
                        refine Kept.trans ?_ State.clearRc_kept
                        exact State.takeParts_kept
theorem State.busRead_eq {s : State} {k : Nat} {v t} (he : s.busRead k = (v, t)) :
    Kept s t := by
  have h := State.busRead_kept (s := s) (k := k)
  rw [he] at h; exact h

theorem State.writeTherm_kept {s : State} {v : BitVec 32} : Kept s (s.writeTherm v) := by
  unfold State.writeTherm
  dsimp only
  exact State.wr_kept

theorem State.writeTmpCmd_kept {s : State} {v : BitVec 32} : Kept s (s.writeTmpCmd v) := by
  unfold State.writeTmpCmd
  dsimp only
  refine Kept.ite (fun _ => ?_) (fun _ => ?_)
  · refine Kept.trans ?_ State.runTdc_kept
    refine Kept.ite (fun _ => ?_) (fun _ => ?_)
    · exact State.runHbm_kept
    · exact Kept.refl _
  · refine Kept.ite (fun _ => ?_) (fun _ => ?_)
    · exact State.runHbm_kept
    · exact Kept.refl _

theorem State.writePpCfg_kept {s : State} {k : Nat} {v : BitVec 32} : Kept s (s.writePpCfg k v) := by
  unfold State.writePpCfg
  dsimp only
  refine Kept.ite (fun _ => ?_) (fun _ => ?_)
  · exact State.setFld_kept
  · exact State.plainWrite_kept

theorem State.writeWdog_kept {s : State} {n : Nat} {v : BitVec 32} : Kept s (s.writeWdog n v) := by
  unfold State.writeWdog
  dsimp only
  refine Kept.ite (fun _ => ?_) (fun _ => ?_)
  · exact State.plainWrite_kept
  · refine Kept.trans ?_ State.setCore_kept
    exact State.plainWrite_kept

theorem State.writeHrtWm_kept {s : State} {v : BitVec 32} : Kept s (s.writeHrtWm v) := by
  unfold State.writeHrtWm
  refine Kept.ite (fun _ => ?_) (fun _ => ?_)
  · exact State.plainWrite_kept
  · exact Kept.refl _

theorem State.writeSpill_kept {s : State} {k : Nat} {v : BitVec 32} : Kept s (s.writeSpill k v) := by
  unfold State.writeSpill
  refine Kept.ite (fun _ => ?_) (fun _ => ?_)
  · exact State.plainWrite_kept
  · exact Kept.refl _

theorem State.writeProvData_kept {s : State} {i : Nat} {v : BitVec 32} : Kept s (s.writeProvData i v) := by
  unfold State.writeProvData
  exact State.setSec_kept

theorem State.writeLanes_kept {s : State} {k : Nat} {v : BitVec 32} : Kept s (s.writeLanes k v) := by
  unfold State.writeLanes
  refine Kept.onReg (fun _ => ?_) ?_
  · exact State.writePortCfg_kept
  · refine Kept.onReg (fun _ => ?_) ?_
    · exact State.writePortCmd_kept
    · refine Kept.onReg (fun _ => ?_) ?_
      · exact State.writeCcCmd_kept
      · refine Kept.onReg (fun _ => ?_) ?_
        · exact State.writeEyeCtrl_kept
        · exact State.plainWrite_kept

theorem State.writeIntake_kept {s : State} {k : Nat} {v : BitVec 32} : Kept s (s.writeIntake k v) := by
  unfold State.writeIntake
  refine Kept.onReg (fun _ => ?_) ?_
  · exact State.writeCtxCfg_kept
  · refine Kept.onReg (fun _ => ?_) ?_
    · exact State.writeCtxReg_kept
    · refine Kept.onReg (fun _ => ?_) ?_
      · exact State.writeCtxReg_kept
      · refine Kept.onReg (fun _ => ?_) ?_
        · exact State.writeCtxReg_kept
        · refine Kept.onOne ?_ ?_
          · exact State.writeReinjCmd_kept
          · refine Kept.onReg (fun _ => ?_) ?_
            · refine Kept.ite (fun _ => ?_) (fun _ => ?_)
              · exact Kept.refl _
              · exact State.plainWrite_kept
            · exact State.plainWrite_kept

theorem State.writeCorrection_kept {s : State} {k : Nat} {v : BitVec 32} : Kept s (s.writeCorrection k v) := by
  unfold State.writeCorrection
  refine Kept.onReg (fun _ => ?_) ?_
  · refine Kept.ite (fun _ => ?_) (fun _ => ?_)
    · exact State.applyCor_kept
    · exact Kept.refl _
  · refine Kept.onOne ?_ ?_
    · exact State.writeStoreData_kept
    · refine Kept.onOne ?_ ?_
      · exact State.writeLutData_kept
      · refine Kept.onOne ?_ ?_
        · refine Kept.ite (fun _ => ?_) (fun _ => ?_)
          · exact State.coefLoadGo_kept
          · exact Kept.refl _
        · refine Kept.onOne ?_ ?_
          · exact State.writeCapCmd_kept
          · exact State.plainWrite_kept

theorem State.writeStitcher_kept {s : State} {k : Nat} {v : BitVec 32} : Kept s (s.writeStitcher k v) := by
  unfold State.writeStitcher
  refine Kept.onOne ?_ ?_
  · refine Kept.ite (fun _ => ?_) (fun _ => ?_)
    · exact State.stiApply_kept
    · exact Kept.refl _
  · refine Kept.onOne ?_ ?_
    · exact State.writeKnot_kept
    · exact State.plainWrite_kept

theorem State.writeAnvil_kept {s : State} {k : Nat} {v : BitVec 32} : Kept s (s.writeAnvil k v) := by
  unfold State.writeAnvil
  refine Kept.onOne ?_ ?_
  · refine Kept.ite (fun _ => ?_) (fun _ => ?_)
    · exact State.anvApply_kept
    · exact Kept.refl _
  · refine Kept.onOne ?_ ?_
    · exact State.writeParam_kept
    · refine Kept.onOne ?_ ?_
      · exact State.writeBundle_kept
      · refine Kept.onOne ?_ ?_
        · exact State.writeAnvLut_kept
        · refine Kept.onOne ?_ ?_
          · refine Kept.ite (fun _ => ?_) (fun _ => ?_)
            · exact State.anvLoadGo_kept
            · exact Kept.refl _
          · exact State.plainWrite_kept

theorem State.writeBloom_kept {s : State} {k : Nat} {v : BitVec 32} : Kept s (s.writeBloom k v) := by
  unfold State.writeBloom
  refine Kept.onOne ?_ ?_
  · refine Kept.ite (fun _ => ?_) (fun _ => ?_)
    · exact State.flushBlooms_kept
    · exact Kept.refl _
  · refine Kept.onReg (fun _ => ?_) ?_
    · refine Kept.ite (fun _ => ?_) (fun _ => ?_)
      · exact Kept.refl _
      · exact State.plainWrite_kept
    · exact State.plainWrite_kept

theorem State.writePosition_kept {s : State} {k : Nat} {v : BitVec 32} : Kept s (s.writePosition k v) := by
  unfold State.writePosition
  refine Kept.onReg (fun _ => ?_) ?_
  · exact State.writeEncCfg_kept
  · refine Kept.onReg (fun _ => ?_) ?_
    · exact State.writeEncStill_kept
    · refine Kept.onReg (fun _ => ?_) ?_
      · exact State.writeEncCmd_kept
      · refine Kept.onReg (fun _ => ?_) ?_
        · exact State.writeTrgCfg_kept
        · refine Kept.onReg (fun _ => ?_) ?_
          · exact State.writeTrgNextLo_kept
          · refine Kept.onReg (fun _ => ?_) ?_
            · exact State.writeTrgNextHi_kept
            · refine Kept.onReg (fun _ => ?_) ?_
              · exact State.writeTrgPeriod_kept
              · refine Kept.onReg (fun _ => ?_) ?_
                · exact State.writeTrgMinint_kept
                · refine Kept.onReg (fun _ => ?_) ?_
                  · exact State.writeLatCfg_kept
                  · refine Kept.onReg (fun _ => ?_) ?_
                    · exact State.writeLatCmd_kept
                    · exact State.plainWrite_kept

theorem State.writeTongs_kept {s : State} {k : Nat} {v : BitVec 32} : Kept s (s.writeTongs k v) := by
  unfold State.writeTongs
  refine Kept.onReg (fun _ => ?_) ?_
  · exact State.writeLinkCfg_kept
  · refine Kept.onReg (fun _ => ?_) ?_
    · exact State.writeChWidth_kept
    · exact State.plainWrite_kept

theorem State.writeCompression_kept {s : State} {k : Nat} {v : BitVec 32} : Kept s (s.writeCompression k v) := by
  unfold State.writeCompression
  refine Kept.onOne ?_ ?_
  · exact State.writeStateHandle_kept
  · refine Kept.onOne ?_ ?_
    · exact State.writeCmpCmd_kept
    · refine Kept.onOne ?_ ?_
      · exact State.writeTable_kept
      · refine Kept.onReg (fun _ => ?_) ?_
        · exact State.writeEngCfg_kept
        · exact State.plainWrite_kept

theorem State.writeHearthReg_kept {s : State} {k : Nat} {v : BitVec 32} : Kept s (s.writeHearthReg k v) := by
  unfold State.writeHearthReg
  refine Kept.onReg (fun _ => ?_) ?_
  · exact State.writeApCmd_kept
  · refine Kept.onOne ?_ ?_
    · exact State.writeHrtWm_kept
    · refine Kept.onReg (fun _ => ?_) ?_
      · exact State.writeSpill_kept
      · exact State.plainWrite_kept

theorem State.writeWick_kept {s : State} {ag : Agent} {k : Nat} {v : BitVec 32} : Kept s (s.writeWick ag k v) := by
  unfold State.writeWick
  dsimp only
  refine Kept.onReg (fun _ => ?_) ?_
  · exact State.writeSwi_kept
  · refine Kept.onReg (fun _ => ?_) ?_
    · refine Kept.ite (fun _ => ?_) (fun _ => ?_)
      · exact State.serviceDone_kept
      · exact Kept.refl _
    · refine Kept.onReg (fun _ => ?_) ?_
      · refine Kept.ite (fun _ => ?_) (fun _ => ?_)
        · exact State.plainWrite_kept
        · exact Kept.refl _
      · refine Kept.onReg (fun _ => ?_) ?_
        · refine Kept.ite (fun _ => ?_) (fun _ => ?_)
          · exact State.plainWrite_kept
          · exact Kept.refl _
        · refine Kept.onReg (fun _ => ?_) ?_
          · exact State.writeWdog_kept
          · exact State.plainWrite_kept

theorem State.writeHost_held {s : State} {ag : Agent} {k : Nat} {v : BitVec 32} : Held s (s.writeHost ag k v) := by
  unfold State.writeHost
  dsimp only
  refine Held.onOne ?_ ?_
  · exact Kept.toHeld State.writeBulkReg_kept
  · refine Held.onOne ?_ ?_
    · exact Kept.toHeld State.writeBulkReg_kept
    · refine Held.onOne ?_ ?_
      · exact State.writeQuench_held
      · refine Held.onOne ?_ ?_
        · exact Kept.toHeld State.writeBulkReg_kept
        · refine Held.onReg (fun _ => ?_) ?_
          · split
            · exact Kept.toHeld State.hostQueueCfg_kept
            · exact Kept.toHeld State.writeQueueCfg_kept
          · refine Held.onReg (fun _ => ?_) ?_
            · exact Kept.toHeld State.writeQueueCtrl_kept
            · refine Held.onReg (fun _ => ?_) ?_
              · exact Kept.toHeld State.writeRingCfg_kept
              · refine Held.onReg (fun _ => ?_) ?_
                · refine Held.ite (fun _ => ?_) (fun _ => ?_)
                  · exact Held.refl _
                  · exact Kept.toHeld State.plainWrite_kept
                · refine Held.onReg (fun _ => ?_) ?_
                  · refine Held.ite (fun _ => ?_) (fun _ => ?_)
                    · exact Held.refl _
                    · exact Kept.toHeld State.plainWrite_kept
                  · refine Held.onReg (fun _ => ?_) ?_
                    · refine Held.ite (fun _ => ?_) (fun _ => ?_)
                      · exact Held.refl _
                      · exact Kept.toHeld State.plainWrite_kept
                    · refine Held.onReg (fun _ => ?_) ?_
                      · refine Held.ite (fun _ => ?_) (fun _ => ?_)
                        · exact Held.refl _
                        · exact Kept.toHeld State.plainWrite_kept
                      · exact Kept.toHeld State.plainWrite_kept

theorem State.writeEvents_kept {s : State} {ag : Agent} {k : Nat} {v : BitVec 32} : Kept s (s.writeEvents ag k v) := by
  unfold State.writeEvents
  refine Kept.onReg (fun _ => ?_) ?_
  · exact State.writeSource_kept
  · refine Kept.onOne ?_ ?_
    · exact State.writeLanternCfg_kept
    · exact State.plainWrite_kept

theorem State.writeSystem_held {s : State} {k : Nat} {v : BitVec 32} : Held s (s.writeSystem k v) := by
  unfold State.writeSystem
  refine Held.onOne ?_ ?_
  · exact State.writeBlwCmd_held
  · refine Held.onOne ?_ ?_
    · exact Kept.toHeld State.writeTherm_kept
    · refine Held.onOne ?_ ?_
      · exact Kept.toHeld State.writeTimCfg_kept
      · refine Held.onOne ?_ ?_
        · exact Kept.toHeld State.hostOffset_kept
        · refine Held.onOne ?_ ?_
          · exact Kept.toHeld State.wr_kept
          · refine Held.onReg (fun _ => ?_) ?_
            · exact Kept.toHeld State.writePpCfg_kept
            · refine Held.onOne ?_ ?_
              · exact Kept.toHeld State.writeTmpCmd_kept
              · refine Held.onReg (fun _ => ?_) ?_
                · exact Kept.toHeld State.writeProvData_kept
                · refine Held.onOne ?_ ?_
                  · exact Kept.toHeld State.writeProvCmd_kept
                  · refine Held.onOne ?_ ?_
                    · exact Kept.toHeld State.registerUnlock_kept
                    · exact Kept.toHeld State.plainWrite_kept

theorem State.busWrite_held {s : State} {ag : Agent} {k : Nat} {v : BitVec 32} : Held s (s.busWrite ag k v) := by
  unfold State.busWrite
  split
  · exact Kept.toHeld State.writeLanes_kept
  · exact Kept.toHeld State.writeLanes_kept
  · exact Kept.toHeld State.writeIntake_kept
  · exact Kept.toHeld State.writeCorrection_kept
  · exact Kept.toHeld State.writeStitcher_kept
  · exact Kept.toHeld State.writeAnvil_kept
  · exact Kept.toHeld State.writeBloom_kept
  · exact Kept.toHeld State.writePosition_kept
  · exact Kept.toHeld State.writeTongs_kept
  · refine Held.onReg (fun _ => ?_) ?_
    · exact Kept.toHeld State.writeOstCmd_kept
    · exact Kept.toHeld State.plainWrite_kept
  · exact Kept.toHeld State.writeCompression_kept
  · exact Kept.toHeld State.writeHearthReg_kept
  · exact Kept.toHeld State.writeWick_kept
  · exact State.writeHost_held
  · exact Kept.toHeld State.writeEvents_kept
  · exact State.writeSystem_held

theorem State.hostRead_kept {s : State} {off : Nat} : Kept s (s.hostRead off) := by
  unfold State.hostRead
  split
  refine Kept.trans ?_ State.emit_kept
  exact (State.busRead_eq (by assumption))

theorem State.agentRead_kept {s : State} {ag : Agent} {off : Nat} : Kept s (s.agentRead ag off) := by
  unfold State.agentRead
  split
  · refine Kept.trans ?_ (State.hostAccess_kept ?_)
    · exact Kept.refl _
    · intro _
      exact State.hostRead_kept
  · refine Kept.ite (fun _ => ?_) (fun _ => ?_)
    · exact Kept.refl _
    · exact State.busRead_kept

theorem State.collide_kept {s : State} {k : Nat} {c : Option Reg32} : Kept s (s.collide k c) := by
  unfold State.collide
  split
  · exact Kept.refl _
  · refine Kept.trans ?_ (Kept.foldl (fun _ _ => ?_) _ _)
    · exact Kept.refl _
    · exact State.setFld_kept

theorem State.metadataFails_kept {s : State} {x n : Nat} : Kept s (s.metadataFails x n) := by
  unfold State.metadataFails
  refine Kept.ite (fun _ => ?_) (fun _ => ?_)
  · dsimp only
    refine Kept.trans ?_ State.enterFault_kept
    refine Kept.trans ?_ State.advanceStream_kept
    refine Kept.trans ?_ State.sendCompletions_kept
    exact State.openBytes_kept
  · refine Kept.trans ?_ State.enterFault_kept
    exact State.bulkLater_kept

/-! ### Machine/Loader.lean -/

theorem State.clearRecipe_kept {s : State} : Kept s (s.clearRecipe) := by
  unfold State.clearRecipe
  dsimp only
  refine Kept.upd ?_
  refine Kept.trans ?_ (upTo_kept fun _ _ => ?_)
  · refine Kept.trans ?_ (Kept.foldl (fun _ _ => ?_) _ _)
    · refine Kept.trans ?_ (Kept.foldl (fun _ _ => ?_) _ _)
      · exact Kept.refl _
      · exact State.hearthDrop_kept
    · exact State.wr_kept
  · exact State.setFld_kept

theorem LoadResult.next_held {s : State} {r : LoadResult} {f : State → LoadResult} (hr : Held s r.2)
    (hf : ∀ x, Held x (f x).2) : Held s (r.next f).2 := by
  unfold LoadResult.next
  split
  · exact hr.trans (hf _)
  · exact hr
theorem LoadResult.next_kept {s : State} {r : LoadResult} {f : State → LoadResult} (hr : Kept s r.2)
    (hf : ∀ x, Kept x (f x).2) : Kept s (r.next f).2 := by
  unfold LoadResult.next
  split
  · exact hr.trans (hf _)
  · exact hr

theorem loadEach_held {α : Type} {f : α → State → LoadResult} (hf : ∀ x s, Held s (f x s).2) (l : List α) (s : State) :
    Held s (loadEach f l s).2 := by
  induction l generalizing s with
  | nil => exact Held.refl s
  | cons x l ih =>
    unfold loadEach
    split
    · exact (hf x s).trans (ih _)
    · exact hf x s
theorem loadEach_kept {α : Type} {f : α → State → LoadResult} (hf : ∀ x s, Kept s (f x s).2) (l : List α) (s : State) :
    Kept s (loadEach f l s).2 := by
  induction l generalizing s with
  | nil => exact Kept.refl s
  | cons x l ih =>
    unfold loadEach
    split
    · exact (hf x s).trans (ih _)
    · exact hf x s

theorem State.loadFixed_kept {w : Word} {s : State} : Kept s (State.loadFixed w s).2 := by
  unfold State.loadFixed
  dsimp only
  split
  · dsimp only
    exact Kept.refl _
  · dsimp only
    exact State.wr_kept
theorem State.loadFixed_eq {w : Word} {s : State} {v t} (he : State.loadFixed w s = (v, t)) :
    Kept s t := by
  have h := State.loadFixed_kept (w := w) (s := s)
  rw [he] at h; exact h

theorem State.loadRegister_held {w : Word} {s : State} : Held s (State.loadRegister w s).2 := by
  unfold State.loadRegister
  dsimp only
  split
  · dsimp only
    exact Held.refl _
  · refine Held.onRegSnd (fun _ => ?_) ?_
    · split
      · dsimp only
        exact State.busWrite_held
      · dsimp only
        exact State.busWrite_held
    · dsimp only
      exact State.busWrite_held
theorem State.loadRegister_eq {w : Word} {s : State} {v t} (he : State.loadRegister w s = (v, t)) :
    Held s t := by
  have h := State.loadRegister_held (w := w) (s := s)
  rw [he] at h; exact h

theorem State.takeRing_kept {s : State} {bytes slotBytes slots handleReg : Nat} :
    Kept s (s.takeRing bytes slotBytes slots handleReg).2 := by
  delta State.takeRing
  split
  · dsimp only
    refine Kept.trans ?_ State.wr_kept
    refine Kept.upd ?_
    exact (State.hearthTake_eq (by assumption))
  · dsimp only
    exact Kept.refl _
theorem State.takeRing_eq {s : State} {bytes slotBytes slots handleReg : Nat} {v t} (he : s.takeRing bytes slotBytes slots handleReg = (v, t)) :
    Kept s t := by
  have h := State.takeRing_kept (s := s) (bytes := bytes) (slotBytes := slotBytes) (slots := slots) (handleReg := handleReg)
  rw [he] at h; exact h

theorem State.loadRing_kept {c : Nat} {s : State} : Kept s (State.loadRing c s).2 := by
  unfold State.loadRing
  dsimp only
  split
  · refine Kept.trans ?_ State.takeRing_kept
    exact State.setFld_kept
  · dsimp only
    exact Kept.refl _
theorem State.loadRing_eq {c : Nat} {s : State} {v t} (he : State.loadRing c s = (v, t)) :
    Kept s t := by
  have h := State.loadRing_kept (c := c) (s := s)
  rw [he] at h; exact h

theorem State.loadChannel_kept {c : Nat} {s : State} : Kept s (State.loadChannel c s).2 := by
  unfold State.loadChannel
  dsimp only
  split
  · split
    · exact State.takeRing_kept
    · dsimp only
      exact Kept.refl _
  · dsimp only
    exact Kept.refl _
theorem State.loadChannel_eq {c : Nat} {s : State} {v t} (he : State.loadChannel c s = (v, t)) :
    Kept s t := by
  have h := State.loadChannel_kept (c := c) (s := s)
  rw [he] at h; exact h

theorem State.loadStream_kept {u : Nat} {s : State} : Kept s (State.loadStream u s).2 := by
  unfold State.loadStream
  dsimp only
  split
  · dsimp only
    exact Kept.refl _
  · split
    · exact State.takeRing_kept
    · dsimp only
      exact Kept.refl _
theorem State.loadStream_eq {u : Nat} {s : State} {v t} (he : State.loadStream u s = (v, t)) :
    Kept s t := by
  have h := State.loadStream_kept (u := u) (s := s)
  rw [he] at h; exact h

theorem State.withoutRings_kept {s : State} : Kept s (s.withoutRings) := by
  unfold State.withoutRings
  refine Kept.trans ?_ (Kept.foldl (fun _ _ => ?_) _ _)
  · exact Kept.refl _
  · exact State.setFld_kept

theorem State.loadRings_kept {s : State} : Kept s s.loadRings.2 := by
  unfold State.loadRings
  dsimp only
  split
  · exact Kept.refl _
  · refine LoadResult.next_kept (LoadResult.next_kept (LoadResult.next_kept ?_ fun x => ?_) fun x => ?_) fun x => ?_
    · exact loadEach_kept (fun _ _ => State.loadRing_kept) _ _
    · exact loadEach_kept (fun _ _ => State.loadChannel_kept) _ _
    · exact loadEach_kept (fun _ _ => State.loadStream_kept) _ _
    · exact State.withoutRings_kept.trans State.takeRing_kept

theorem State.storeEntry_kept {s : State} {table e v : Nat} : Kept s (s.storeEntry table e v) := by
  unfold State.storeEntry
  split
  · exact State.setCor_kept
  · exact State.setCor_kept
  · exact State.setAnv_kept
  · exact State.setAnv_kept
  · exact State.storeLength_kept
  · exact State.setSti_kept

theorem State.loadTable_kept {s : State} {x : Section} : Kept s (s.loadTable x) := by
  unfold State.loadTable
  dsimp only
  split
  · refine Kept.trans ?_ (upTo_kept fun _ _ => ?_)
    · exact Kept.refl _
    · exact State.setAnv_kept
  · refine Kept.trans ?_ (upTo_kept fun _ _ => ?_)
    · exact Kept.refl _
    · exact State.storeEntry_kept
  · refine Kept.trans ?_ (upTo_kept fun _ _ => ?_)
    · exact Kept.refl _
    · refine Kept.trans ?_ (upTo_kept fun _ _ => ?_)
      · exact Kept.refl _
      · exact State.storeEntry_kept

theorem State.loadRegions_kept {s : State} : Kept s s.loadRegions.2 := by
  unfold State.loadRegions
  dsimp only
  split
  · exact Kept.refl _
  · exact Kept.foldlFst (fun _ _ => State.setFld_kept) _ (s, 0)

theorem State.emptyPipeline_kept {s : State} : Kept s (s.emptyPipeline) := by
  unfold State.emptyPipeline
  dsimp only
  refine Kept.trans ?_ State.syncBuffer_kept
  refine Kept.trans ?_ State.setRecords_kept
  refine Kept.trans ?_ State.setBlooms_kept
  refine Kept.trans ?_ State.setBlm_kept
  refine Kept.trans ?_ (upTo_kept fun _ _ => ?_)
  · refine Kept.trans ?_ (upTo_kept fun _ _ => ?_)
    · refine Kept.trans ?_ State.blockDone_kept
      refine Kept.trans ?_ State.setFld_kept
      refine Kept.trans ?_ State.setAnv_kept
      refine Kept.trans ?_ (upTo_kept fun _ _ => ?_)
      · refine Kept.trans ?_ State.blockDone_kept
        refine Kept.trans ?_ State.setFld_kept
        refine Kept.trans ?_ State.setSti_kept
        exact State.dropPixelPath_kept
      · exact State.setShift_kept
    · refine Kept.trans ?_ State.blockDone_kept
      refine Kept.trans ?_ State.setFld_kept
      exact State.setOst_kept
  · refine Kept.trans ?_ State.blockDone_kept
    refine Kept.trans ?_ State.setFld_kept
    exact State.setCorCtx_kept

theorem State.takeLoadedSets_kept {s : State} : Kept s (s.takeLoadedSets) := by
  unfold State.takeLoadedSets
  dsimp only
  refine Kept.ite (fun _ => ?_) (fun _ => ?_)
  · refine Kept.ite (fun _ => ?_) (fun _ => ?_)
    · refine Kept.ite (fun _ => ?_) (fun _ => ?_)
      · exact State.setSti_kept
      · exact State.setSti_kept
    · exact Kept.refl _
  · refine Kept.ite (fun _ => ?_) (fun _ => ?_)
    · refine Kept.trans ?_ State.setAnv_kept
      refine Kept.ite (fun _ => ?_) (fun _ => ?_)
      · refine Kept.ite (fun _ => ?_) (fun _ => ?_)
        · exact State.setSti_kept
        · exact State.setSti_kept
      · exact Kept.refl _
    · refine Kept.trans ?_ State.setFld_kept
      refine Kept.trans ?_ State.setAnv_kept
      refine Kept.ite (fun _ => ?_) (fun _ => ?_)
      · refine Kept.ite (fun _ => ?_) (fun _ => ?_)
        · exact State.setSti_kept
        · exact State.setSti_kept
      · exact Kept.refl _

theorem State.restartSequences_kept {s : State} : Kept s (s.restartSequences) := by
  delta State.restartSequences
  dsimp only
  refine Kept.trans ?_ State.openInterval_kept
  refine Kept.trans ?_ State.takeLoadedSets_kept
  refine Kept.trans ?_ State.setFld_kept
  refine Kept.trans ?_ (upTo_kept fun _ _ => ?_)
  · refine Kept.upd ?_
    refine Kept.trans ?_ State.setBlm_kept
    refine Kept.upd ?_
    refine Kept.trans ?_ (upTo_kept fun _ _ => ?_)
    · exact Kept.refl _
    · exact State.setIctx_kept
  · refine Kept.trans ?_ State.setFld_kept
    exact State.setFld_kept

theorem State.loadMemory_kept {s : State} {x : Section} : Kept s (s.loadMemory x) := by
  unfold State.loadMemory
  split
  · exact State.setCore_kept
  · refine Kept.upd ?_
    exact Kept.refl _
  · exact Kept.refl _

theorem State.loadSections_held {s : State} {l : List Section} : Held s (s.loadSections l).2 := by
  unfold State.loadSections
  dsimp only
  refine LoadResult.next_held (LoadResult.next_held (LoadResult.next_held (LoadResult.next_held (LoadResult.next_held
    ?_ fun x => ?_) fun x => ?_) fun x => ?_) fun x => ?_) fun x => ?_
  · exact loadEach_held (fun _ _ => State.loadFixed_kept.toHeld) _ _
  · exact loadEach_held (fun _ _ => State.loadRegister_held) _ _
  · exact State.loadRegions_kept.toHeld
  · exact State.loadRings_kept.toHeld
  · exact Held.foldl (fun _ _ => State.loadTable_kept.toHeld) _ _
  · split
    · exact Held.refl _
    · refine Held.trans ?_ State.restartSequences_kept.toHeld
      exact Held.foldl (fun _ _ => State.loadMemory_kept.toHeld) _ _

theorem State.setRcp_kept {s : State} {r : Recipe} : Kept s (s.setRcp r) := by
  unfold State.setRcp
  refine Kept.upd ?_
  exact Kept.refl _

theorem State.releaseImage_kept {s : State} {r : LoadRun} : Kept s (s.releaseImage r) := by
  unfold State.releaseImage
  split
  · refine Kept.ite (fun _ => ?_) (fun _ => ?_)
    · exact Kept.refl _
    · refine Kept.trans ?_ State.hearthSync_kept
      exact State.setBuffer_kept
  · exact Kept.refl _

theorem State.endLoad_kept {s : State} {r : LoadRun} {status value : Nat} : Kept s (s.endLoad r status value) := by
  unfold State.endLoad
  dsimp only
  refine Kept.trans ?_ State.endCommand_kept
  refine Kept.trans ?_ State.setRcp_kept
  exact State.releaseImage_kept

theorem State.beginVerify_kept {s : State} {h : BitVec 32} {b : Buffer} : Kept s (s.beginVerify h b) := by
  unfold State.beginVerify
  dsimp only
  refine Kept.trans ?_ State.secRequest_kept
  refine Kept.trans ?_ State.setRcp_kept
  split
  · exact State.setBuffer_kept
  · exact Kept.refl _

theorem State.startLoad_kept {s : State} {h : BitVec 32} {b : Buffer} : Kept s (s.startLoad h b) := by
  unfold State.startLoad
  split
  · refine Kept.trans ?_ State.beginVerify_kept
    exact (State.hearthPin_eq (by assumption))
  · refine Kept.trans ?_ State.endCommand_kept
    exact (State.hearthPin_eq (by assumption))
  · refine Kept.trans ?_ State.beginVerify_kept
    exact (State.hearthPin_eq (by assumption))

theorem State.loaderHalt_kept {s : State} {n : Nat} : Kept s (s.loaderHalt n) := by
  unfold State.loaderHalt
  refine Kept.ite (fun _ => ?_) (fun _ => ?_)
  · exact State.haltCore_kept
  · exact Kept.refl _

theorem State.haltRecipe_kept {s : State} : Kept s (s.haltRecipe) := by
  unfold State.haltRecipe
  refine Kept.trans ?_ State.loaderHalt_kept
  refine Kept.trans ?_ State.loaderHalt_kept
  exact State.loaderHalt_kept

theorem State.recipeVerified_kept {s : State} {signatureOk : Bool} : Kept s (s.recipeVerified signatureOk) := by
  unfold State.recipeVerified
  split
  · refine Kept.ite (fun _ => ?_) (fun _ => ?_)
    · exact Kept.refl _
    · dsimp only
      refine Kept.ite (fun _ => ?_) (fun _ => ?_)
      · refine Kept.trans ?_ State.endLoad_kept
        refine Kept.trans ?_ State.verifyFail_kept
        exact State.setSec_kept
      · refine Kept.trans ?_ State.extend_kept
        refine Kept.trans ?_ State.haltRecipe_kept
        refine Kept.trans ?_ State.setRcp_kept
        exact State.setSec_kept
  · exact Kept.refl _

theorem State.freeRecipeTags_kept {s : State} : Kept s (s.freeRecipeTags) := by
  unfold State.freeRecipeTags
  dsimp only
  refine Kept.upd ?_
  refine Kept.trans ?_ (upTo_kept fun _ _ => ?_)
  · refine Kept.trans ?_ (upTo_kept fun _ _ => ?_)
    · exact Kept.refl _
    · refine Kept.trans ?_ State.setCore_kept
      exact State.freeTags_kept
  · exact State.setFld_kept

theorem State.failLoad_held {s : State} {r : LoadRun} {status : Nat} : Held s (s.failLoad r status) := by
  unfold State.failLoad
  refine Held.trans ?_ (Kept.toHeld State.endLoad_kept)
  refine Held.trans ?_ State.enter_held
  refine Held.trans ?_ (Kept.toHeld State.emptyPipeline_kept)
  exact Kept.toHeld State.clearRecipe_kept

theorem State.loadDrained_held {s : State} {r : LoadRun} : Held s (s.loadDrained r) := by
  unfold State.loadDrained
  dsimp only
  split
  · refine Held.trans ?_ State.failLoad_held
    refine Held.trans ?_ (Kept.toHeld State.setRcp_kept)
    refine Held.trans ?_ (Kept.toHeld State.emptyPipeline_kept)
    refine Held.trans ?_ (Kept.toHeld State.clearRecipe_kept)
    exact Kept.toHeld State.freeRecipeTags_kept
  · refine Held.ite (fun _ => ?_) (fun _ => ?_)
    · refine Held.ite (fun _ => ?_) (fun _ => ?_)
      · refine Held.trans ?_ (Kept.toHeld State.setRcp_kept)
        refine Held.trans ?_ State.loadSections_held
        refine Held.trans ?_ (Kept.toHeld State.setRcp_kept)
        refine Held.trans ?_ (Kept.toHeld State.emptyPipeline_kept)
        refine Held.trans ?_ (Kept.toHeld State.clearRecipe_kept)
        exact Kept.toHeld State.freeRecipeTags_kept
      · refine Held.trans ?_ State.failLoad_held
        refine Held.trans ?_ State.loadSections_held
        refine Held.trans ?_ (Kept.toHeld State.setRcp_kept)
        refine Held.trans ?_ (Kept.toHeld State.emptyPipeline_kept)
        refine Held.trans ?_ (Kept.toHeld State.clearRecipe_kept)
        exact Kept.toHeld State.freeRecipeTags_kept
    · refine Held.trans ?_ State.failLoad_held
      refine Held.trans ?_ (Kept.toHeld State.setRcp_kept)
      refine Held.trans ?_ (Kept.toHeld State.emptyPipeline_kept)
      refine Held.trans ?_ (Kept.toHeld State.clearRecipe_kept)
      exact Kept.toHeld State.freeRecipeTags_kept

theorem State.resumeCore_kept {s : State} {r : LoadRun} {n : Nat} {c : WickCore} : Kept s (s.resumeCore r n c) := by
  unfold State.resumeCore
  dsimp only
  exact State.setCore_kept

theorem State.releaseCore_kept {s : State} {n : Nat} {w : List Nat} : Kept s (s.releaseCore n w) := by
  unfold State.releaseCore
  dsimp only
  exact State.setCore_kept

theorem State.loadLinksUp_held {s : State} {r : LoadRun} : Held s (s.loadLinksUp r) := by
  unfold State.loadLinksUp
  dsimp only
  refine Held.trans ?_ (Kept.toHeld State.endLoad_kept)
  refine Held.trans ?_ (Held.foldl (fun _ _ => ?_) _ _)
  · refine Held.trans ?_ State.enter_held
    refine Held.trans ?_ (Kept.toHeld State.setSec_kept)
    refine Held.trans ?_ (Kept.toHeld State.setRcp_kept)
    exact Kept.toHeld State.journal_kept
  · exact Kept.toHeld State.releaseCore_kept

/-! ### Machine/Bellows.lean -/

theorem State.setBlw_kept {s : State} {b : Bellows} (hb : b.state = s.blw.state := by first | (dsimp only; done) | rfl) : Kept s (s.setBlw b) := by
  unfold State.setBlw
  exact (Kept.refl s).upd (hb := hb)

theorem State.dieSample_kept {s : State} {t : Int} : Kept s (s.dieSample t) := by
  unfold State.dieSample
  dsimp only
  refine Kept.ite (fun _ => ?_) (fun _ => ?_)
  · refine Kept.ite (fun _ => ?_) (fun _ => ?_)
    · refine Kept.trans ?_ State.enterFault_kept
      refine Kept.trans ?_ State.setBlw_kept
      refine Kept.ite (fun _ => ?_) (fun _ => ?_)
      · refine Kept.trans ?_ State.blwFlag_kept
        exact State.setFld_kept
      · exact State.setFld_kept
    · refine Kept.trans ?_ State.setBlw_kept
      refine Kept.ite (fun _ => ?_) (fun _ => ?_)
      · refine Kept.trans ?_ State.blwFlag_kept
        exact State.setFld_kept
      · exact State.setFld_kept
  · exact State.setFld_kept

theorem State.stackSample_kept {s : State} {t : Int} : Kept s (s.stackSample t) := by
  unfold State.stackSample
  dsimp only
  refine Kept.ite (fun _ => ?_) (fun _ => ?_)
  · refine Kept.ite (fun _ => ?_) (fun _ => ?_)
    · refine Kept.trans ?_ State.enterFault_kept
      refine Kept.trans ?_ State.setBlw_kept
      refine Kept.ite (fun _ => ?_) (fun _ => ?_)
      · refine Kept.trans ?_ State.blwFlag_kept
        exact State.setFld_kept
      · exact State.setFld_kept
    · refine Kept.trans ?_ State.setBlw_kept
      refine Kept.ite (fun _ => ?_) (fun _ => ?_)
      · refine Kept.trans ?_ State.blwFlag_kept
        exact State.setFld_kept
      · exact State.setFld_kept
  · exact State.setFld_kept

theorem State.loseClock_kept {s : State} {c : ClockLost} : Kept s (s.loseClock c) := by
  unfold State.loseClock
  split
  · refine Kept.trans ?_ State.enterFault_kept
    refine Kept.trans ?_ State.blwFlag_kept
    exact State.setFld_kept
  · refine Kept.trans ?_ State.enterFault_kept
    refine Kept.trans ?_ State.blwFlag_kept
    refine Kept.trans ?_ State.setFld_kept
    exact State.setFld_kept
  · dsimp only
    refine Kept.trans ?_ (upTo_kept fun _ _ => ?_)
    · refine Kept.trans ?_ State.blwFlag_kept
      exact State.setFld_kept
    · exact State.loseLink_kept
  · dsimp only
    refine Kept.upd ?_
    refine Kept.trans ?_ State.blwFlag_kept
    exact State.setFld_kept

theorem State.enablePush_kept {s : State} : Kept s (s.enablePush) := by
  unfold State.enablePush
  refine Kept.trans ?_ State.writeQueueCfg_kept
  exact State.writeQueueCfg_kept

theorem State.enterBoot_held {s : State} : Held s s.enterBoot := by
  unfold State.enterBoot
  dsimp only
  refine Held.ite (fun _ => ?_) (fun _ => ?_)
  · refine Held.trans ?_ (Kept.toHeld State.enablePush_kept)
    refine Held.trans ?_ State.enter_held
    refine Held.trans ?_ (Kept.toHeld State.extend_kept)
    refine Held.trans ?_ (Kept.toHeld (State.setCore_kept (fun _ => rfl)))
    refine Held.trans ?_ (Kept.toHeld State.setBlw_kept)
    exact Kept.toHeld State.wr_kept
  · refine Held.trans ?_ State.enter_held
    refine Held.trans ?_ (Kept.toHeld State.extend_kept)
    refine Held.trans ?_ (Kept.toHeld (State.setCore_kept (fun _ => rfl)))
    refine Held.trans ?_ (Kept.toHeld State.setBlw_kept)
    exact Kept.toHeld State.wr_kept

theorem State.leaveReset_held {s : State} : Held s (s.leaveReset) := by
  unfold State.leaveReset
  refine Held.ite (fun _ => ?_) (fun _ => ?_)
  · exact State.enterBoot_held
  · exact Held.refl _

theorem State.startFirmware_kept {s : State} {i : FirmwareImage} {pushed : Bool} : Kept s (s.startFirmware i pushed) := by
  unfold State.startFirmware
  dsimp only
  refine Kept.trans ?_ State.setBlw_kept
  refine Kept.trans ?_ State.setSec_kept
  refine Kept.trans ?_ State.extend_kept
  refine Kept.upd ?_ (hw := Memory.wf_foldl)
  exact State.setCore_kept (fun h => Memory.wf_foldl (State.core_wf h _))

theorem State.flashFailed_kept {s : State} {reason : Nat} : Kept s (s.flashFailed reason) := by
  unfold State.flashFailed
  dsimp only
  refine Kept.ite (fun _ => ?_) (fun _ => ?_)
  · refine Kept.trans ?_ State.enterFault_kept
    refine Kept.trans ?_ State.setSec_kept
    exact State.verifyFail_kept
  · refine Kept.trans ?_ State.enablePush_kept
    refine Kept.trans ?_ State.setSec_kept
    exact State.verifyFail_kept

theorem State.flashImage_kept {s : State} {i : FirmwareImage} : Kept s (s.flashImage i) := by
  unfold State.flashImage
  refine Kept.ite (fun _ => ?_) (fun _ => ?_)
  · exact State.enablePush_kept
  · dsimp only
    refine Kept.ite (fun _ => ?_) (fun _ => ?_)
    · exact State.startFirmware_kept
    · exact State.flashFailed_kept

theorem State.pushImage_kept {s : State} {i : FirmwareImage} : Kept s (s.pushImage i) := by
  unfold State.pushImage
  dsimp only
  refine Kept.ite (fun _ => ?_) (fun _ => ?_)
  · refine Kept.trans ?_ State.startFirmware_kept
    exact State.endCommand_kept
  · refine Kept.trans ?_ State.endCommand_kept
    refine Kept.trans ?_ State.setBlw_kept
    exact State.verifyFail_kept

theorem State.restoreRetired_kept {s : State} {readable : Bool} : Kept s (s.restoreRetired readable) := by
  unfold State.restoreRetired
  exact State.keepRetired_kept

theorem State.recover_kept {s : State} {readable : Bool} : Kept s (s.recover readable) := by
  unfold State.recover
  dsimp only
  refine Kept.ite (fun _ => ?_) (fun _ => ?_)
  · refine Kept.trans ?_ State.embFlag_kept
    refine Kept.upd ?_
    refine Kept.trans ?_ State.wr_kept
    refine Kept.trans ?_ State.setFld_kept
    refine Kept.trans ?_ State.setFld_kept
    refine Kept.trans ?_ State.setFld_kept
    exact State.setFld_kept
  · refine Kept.upd ?_
    refine Kept.trans ?_ State.setFld_kept
    refine Kept.trans ?_ State.setFld_kept
    exact State.setFld_kept

theorem State.settleJournal_kept {s : State} : Kept s (s.settleJournal) := by
  unfold State.settleJournal
  dsimp only
  refine Kept.upd ?_
  refine Kept.trans ?_ (Kept.foldl (fun _ _ => ?_) _ _)
  · refine Kept.trans ?_ (Kept.foldl (fun _ _ => ?_) _ _)
    · exact Kept.refl _
    · exact State.journal_kept
  · exact State.journal_kept

theorem State.recoveryAnswer_kept {s : State} : Kept s (s.recoveryAnswer) := by
  unfold State.recoveryAnswer
  split
  · refine Kept.ite (fun _ => ?_) (fun _ => ?_)
    · dsimp only
      refine Kept.trans ?_ State.setFld_kept
      refine Kept.upd ?_
      exact State.respond_kept
    · exact Kept.refl _
  · exact Kept.refl _

theorem State.bootTemper_kept {s : State} {hbm : HbmResult} {tdc : TdcResult} {readable : Bool} :
    Kept s (s.bootTemper hbm tdc readable) := by
  unfold State.bootTemper
  dsimp only
  refine Kept.trans ?_ State.tdcFinish_kept
  refine Kept.trans ?_ State.retrainEnd_kept
  refine Kept.ite (fun _ => ?_) (fun _ => ?_)
  · exact State.setTmp_kept
  · exact Kept.refl _

theorem State.enterReady_held {s : State} {readable : Bool} : Held s (s.enterReady readable) := by
  unfold State.enterReady
  dsimp only
  refine Held.ite (fun _ => ?_) (fun _ => ?_)
  · refine Held.trans ?_ (Kept.toHeld State.recover_kept)
    refine Held.trans ?_ State.enter_held
    refine Held.trans ?_ (Kept.toHeld State.setFld_kept)
    refine Held.ite (fun _ => ?_) (fun _ => ?_)
    · refine Held.ite (fun _ => ?_) (fun _ => ?_)
      · exact Held.refl _
      · exact Kept.toHeld State.writeQueueCfg_kept
    · refine Held.trans ?_ (Kept.toHeld State.writeQueueCfg_kept)
      refine Held.ite (fun _ => ?_) (fun _ => ?_)
      · exact Held.refl _
      · exact Kept.toHeld State.writeQueueCfg_kept
  · refine Held.ite (fun _ => ?_) (fun _ => ?_)
    · refine Held.trans ?_ (Kept.toHeld State.settleJournal_kept)
      refine Held.trans ?_ State.enter_held
      refine Held.trans ?_ (Kept.toHeld State.setFld_kept)
      refine Held.ite (fun _ => ?_) (fun _ => ?_)
      · refine Held.ite (fun _ => ?_) (fun _ => ?_)
        · exact Held.refl _
        · exact Kept.toHeld State.writeQueueCfg_kept
      · refine Held.trans ?_ (Kept.toHeld State.writeQueueCfg_kept)
        refine Held.ite (fun _ => ?_) (fun _ => ?_)
        · exact Held.refl _
        · exact Kept.toHeld State.writeQueueCfg_kept
    · refine Held.upd ?_
      refine Held.trans ?_ State.enter_held
      refine Held.trans ?_ (Kept.toHeld State.setFld_kept)
      refine Held.ite (fun _ => ?_) (fun _ => ?_)
      · refine Held.ite (fun _ => ?_) (fun _ => ?_)
        · exact Held.refl _
        · exact Kept.toHeld State.writeQueueCfg_kept
      · refine Held.trans ?_ (Kept.toHeld State.writeQueueCfg_kept)
        refine Held.ite (fun _ => ?_) (fun _ => ?_)
        · exact Held.refl _
        · exact Kept.toHeld State.writeQueueCfg_kept

theorem State.startBank_kept {s : State} : Kept s (s.startBank) := by
  unfold State.startBank
  dsimp only
  refine Kept.trans ?_ State.saveStreams_kept
  refine Kept.trans ?_ State.setBlw_kept
  refine Kept.trans ?_ State.ostAllIdle_kept
  refine Kept.upd ?_
  exact State.bankLinks_kept

theorem State.emptyArray_kept {s : State} : Kept s (s.emptyArray) := by
  unfold State.emptyArray
  exact State.setAnv_kept

theorem State.bankResponse_kept {s : State} : Kept s (s.bankResponse) := by
  unfold State.bankResponse
  split
  · dsimp only
    refine Kept.trans ?_ (Kept.foldl (fun _ _ => ?_) _ _)
    · refine Kept.trans ?_ State.pushResponse_kept
      refine Kept.upd ?_
      exact Kept.refl _
    · refine Kept.ite (fun _ => ?_) (fun _ => ?_)
      · refine Kept.trans ?_ (upTo_kept fun _ _ => ?_)
        · exact Kept.refl _
        · exact State.queueOutMove_kept
      · exact Kept.refl _
  · exact Kept.refl _

theorem State.enterBanked_held {s : State} : Held s (s.enterBanked) := by
  unfold State.enterBanked
  dsimp only
  refine Held.trans ?_ (Kept.toHeld State.wakePending_kept)
  refine Held.trans ?_ State.enter_held
  refine Held.upd ?_
  refine Held.trans ?_ (Kept.toHeld State.setBlw_kept)
  refine Held.trans ?_ (Kept.toHeld State.bump_kept)
  refine Held.trans ?_ (Kept.toHeld State.setFld_kept)
  refine Held.trans ?_ (Kept.toHeld State.emptyArray_kept)
  refine Held.trans ?_ (Kept.toHeld State.loseTime_kept)
  refine Held.trans ?_ (Kept.toHeld State.bankResponse_kept)
  exact Kept.toHeld State.cancelTemper_kept

theorem State.bankFails_kept {s : State} : Kept s (s.bankFails) := by
  unfold State.bankFails
  dsimp only
  refine Kept.trans ?_ State.endCommand_kept
  refine Kept.trans ?_ State.blwFlag_kept
  refine Kept.trans ?_ State.resumeLinks_kept
  refine Kept.trans ?_ (upTo_kept fun _ _ => ?_)
  · refine Kept.upd ?_
    exact State.setBlw_kept
  · exact State.setOst_kept

theorem State.completeAccess_held {s : State} {a : BusAccess} : Held s (s.completeAccess a) := by
  unfold State.completeAccess
  split
  · exact Kept.toHeld State.hostRead_kept
  · exact State.busWrite_held
  · exact Kept.toHeld State.bar2Read_kept
  · exact Kept.toHeld State.bar2Write_kept

theorem State.wakeCores_kept {s : State} : Kept s (s.wakeCores) := by
  unfold State.wakeCores
  split
  · refine Kept.ite (fun _ => ?_) (fun _ => ?_)
    · refine Kept.trans ?_ State.resumeLinks_kept
      exact State.setBlw_kept
    · exact Kept.refl _
  · exact Kept.refl _

theorem State.finishWake_held {s : State} {w : WakeRun} : Held s (s.finishWake w) := by
  unfold State.finishWake
  dsimp only
  refine Held.trans ?_ (Held.foldl (fun _ _ => ?_) _ _)
  · refine Held.trans ?_ (Kept.toHeld State.flagRaise_kept)
    refine Held.trans ?_ (Kept.toHeld State.setFld_kept)
    refine Held.trans ?_ (Kept.toHeld State.setFld_kept)
    refine Held.trans ?_ State.enter_held
    exact Kept.toHeld State.setBlw_kept
  · exact State.completeAccess_held

/-! ### Machine/WickAlu.lean -/

theorem State.wickRRR_kept {s : State} {n op : Nat} {w : BitVec 24} {f : Word64 → Word64 → Word64} :
    Kept s (s.wickRRR n op w f) := by
  unfold State.wickRRR
  refine Kept.trans ?_ (State.wickRun_kept ?_)
  · exact Kept.refl _
  · intro _
    refine Kept.trans ?_ (State.legal_kept ?_)
    · exact Kept.refl _
    · exact State.wickWrite_kept

theorem State.wickRRI_kept {s : State} {n op : Nat} {w : BitVec 24} {f : Word64 → Word64} : Kept s (s.wickRRI n op w f) := by
  unfold State.wickRRI
  refine Kept.trans ?_ (State.wickRun_kept ?_)
  · exact Kept.refl _
  · intro _
    refine Kept.trans ?_ (State.legal_kept ?_)
    · exact Kept.refl _
    · exact State.wickWrite_kept

theorem State.wickShiftI_kept {s : State} {n op : Nat} {w : BitVec 24} {f : Word64 → Nat → Word64} :
    Kept s (s.wickShiftI n op w f) := by
  unfold State.wickShiftI
  refine Kept.trans ?_ (State.wickRun_kept ?_)
  · exact Kept.refl _
  · intro _
    refine Kept.trans ?_ (State.legal_kept ?_)
    · exact Kept.refl _
    · exact State.wickWrite_kept

theorem State.wickBranch_kept {s : State} {n op : Nat} {w : BitVec 24} {f : Word64 → Word64 → Bool} :
    Kept s (s.wickBranch n op w f) := by
  unfold State.wickBranch
  refine Kept.trans ?_ (State.wickRun_kept ?_)
  · exact Kept.refl _
  · intro _
    refine Kept.trans ?_ (State.legal_kept ?_)
    · exact Kept.refl _
    · refine Kept.ite (fun _ => ?_) (fun _ => ?_)
      · exact State.setCore_kept
      · exact State.wickNext_kept

theorem State.wickMove_kept {s : State} {n op : Nat} {w : BitVec 24} {dStream aStream : Bool} {f : WickCore → WickCore}
    (hf : ∀ c, (f c).mem = c.mem) : Kept s (s.wickMove n op w dStream aStream f) := by
  unfold State.wickMove
  refine State.wickRun_kept fun x => ?_
  refine State.legal_kept ?_
  exact State.wickNext_kept (fun h => by rw [hf]; exact State.core_wf h _)

/-! ### Machine/WickMem.lean -/

theorem State.wickAccess_held {s : State} {n : Nat} {op : MemOp} {word : Bool} {a size align : Nat} {f : Place → State} (hf : ∀ (y0 : Place), Held s (f y0)) :
    Held s (s.wickAccess n op word a size align f) := by
  unfold State.wickAccess
  refine Held.ite (fun _ => ?_) (fun _ => ?_)
  · exact Kept.toHeld State.wickExc_kept
  · split
    · exact Kept.toHeld State.wickExc_kept
    · refine Held.ite (fun _ => ?_) (fun _ => ?_)
      · exact hf _
      · exact Kept.toHeld State.wickExc_kept

theorem State.wickAccess_kept {s : State} {n : Nat} {op : MemOp} {word : Bool} {a size align : Nat} {f : Place → State} (hf : ∀ (y0 : Place), Kept s (f y0)) :
    Kept s (s.wickAccess n op word a size align f) := by
  unfold State.wickAccess
  refine Kept.ite (fun _ => ?_) (fun _ => ?_)
  · exact State.wickExc_kept
  · split
    · exact State.wickExc_kept
    · refine Kept.ite (fun _ => ?_) (fun _ => ?_)
      · exact hf _
      · exact State.wickExc_kept

theorem State.coreRead_kept {s : State} {n : Nat} {p : Place} {a size : Nat} : Kept s (s.coreRead n p a size).2 := by
  cases p
  case device => unfold State.coreRead; exact State.busRead_kept
  all_goals exact Kept.refl s
theorem State.coreRead_eq {s : State} {n : Nat} {p : Place} {a size : Nat} {v t} (he : s.coreRead n p a size = (v, t)) :
    Kept s t := by
  have h := State.coreRead_kept (s := s) (n := n) (p := p) (a := a) (size := size)
  rw [he] at h; exact h

theorem State.coreWrite_held {s : State} {n : Nat} {p : Place} {a : Nat} {bs : List Byte} : Held s (s.coreWrite n p a bs) := by
  cases p
  case device => exact State.busWrite_held
  case rom => exact Held.refl s
  all_goals exact Kept.toHeld (State.setCoreMem_kept Memory.wf_writes)

theorem State.guardedRead_held {s : State} {n : Nat} {p : Place} {a size : Nat} {ecc : EccResult} {f : Nat → State → State} (hf : ∀ (y0 : Nat) (y1 : State), Held y1 (f y0 y1)) :
    Held s (s.guardedRead n p a size ecc f) := by
  unfold State.guardedRead
  dsimp only
  refine Held.ite (fun _ => ?_) (fun _ => ?_)
  · exact Kept.toHeld State.wickExc_kept
  · refine Held.trans ?_ (hf _ _)
    refine Held.trans ?_ (Kept.toHeld State.coreRead_kept)
    refine Held.ite (fun _ => ?_) (fun _ => ?_)
    · exact Kept.toHeld State.wickEcc_kept
    · exact Held.refl _

theorem State.guardedRead_kept {s : State} {n : Nat} {p : Place} {a size : Nat} {ecc : EccResult} {f : Nat → State → State} (hf : ∀ (y0 : Nat) (y1 : State), Kept y1 (f y0 y1)) :
    Kept s (s.guardedRead n p a size ecc f) := by
  unfold State.guardedRead
  dsimp only
  refine Kept.ite (fun _ => ?_) (fun _ => ?_)
  · exact State.wickExc_kept
  · refine Kept.trans ?_ (hf _ _)
    refine Kept.trans ?_ State.coreRead_kept
    refine Kept.ite (fun _ => ?_) (fun _ => ?_)
    · exact State.wickEcc_kept
    · exact Kept.refl _

theorem State.wickLoad_kept {s : State} {n op : Nat} {w : BitVec 24} {size : Nat} {sign : Bool} {ecc : EccResult} :
    Kept s (s.wickLoad n op w size sign ecc) := by
  unfold State.wickLoad
  refine Kept.trans ?_ (State.wickRun_kept ?_)
  · exact Kept.refl _
  · intro _
    refine Kept.trans ?_ (State.legal_kept ?_)
    · exact Kept.refl _
    · dsimp only
      refine Kept.trans ?_ (State.wickAccess_kept ?_)
      · exact Kept.refl _
      · intro _
        refine Kept.trans ?_ (State.guardedRead_kept ?_)
        · exact Kept.refl _
        · intro _ _
          exact State.wickWrite_kept

theorem State.wickStore_held {s : State} {n op : Nat} {w : BitVec 24} {size : Nat} : Held s (s.wickStore n op w size) := by
  unfold State.wickStore
  refine Held.trans ?_ (State.wickRun_held ?_)
  · exact Held.refl _
  · intro _
    refine Held.trans ?_ (State.legal_held ?_)
    · exact Held.refl _
    · dsimp only
      refine Held.trans ?_ (State.wickAccess_held ?_)
      · exact Held.refl _
      · intro _
        refine Held.trans ?_ State.coreWrite_held
        exact Kept.toHeld State.wickNext_kept

theorem State.wickAtomic_held {s : State} {n op : Nat} {w : BitVec 24} {ecc : EccResult} {f : WickCore → Word64 → Word64} :
    Held s (s.wickAtomic n op w ecc f) := by
  unfold State.wickAtomic
  refine Held.trans ?_ (State.wickRun_held ?_)
  · exact Held.refl _
  · intro _
    refine Held.trans ?_ (State.legal_held ?_)
    · exact Held.refl _
    · dsimp only
      refine Held.trans ?_ (State.wickAccess_held ?_)
      · exact Held.refl _
      · intro _
        refine Held.trans ?_ (State.guardedRead_held ?_)
        · exact Held.refl _
        · intro _ _
          refine Held.trans ?_ State.coreWrite_held
          exact Kept.toHeld State.wickWrite_kept

theorem State.endTag_kept {s : State} {n t result : Nat} : Kept s (s.endTag n t result) := by
  unfold State.endTag
  split
  · exact State.setCore_kept
  · exact Kept.refl _

theorem State.issueCommand_held {s : State} {n t target index key : Nat} {v : BitVec 32} :
    Held s (s.issueCommand n t target index key v) := by
  unfold State.issueCommand
  dsimp only
  split
  · refine Held.ite (fun _ => ?_) (fun _ => ?_)
    · exact Kept.toHeld State.setCore_kept
    · refine Held.ite (fun _ => ?_) (fun _ => ?_)
      · refine Held.trans ?_ State.busWrite_held
        exact Kept.toHeld State.setCore_kept
      · refine Held.trans ?_ (Kept.toHeld State.endTag_kept)
        refine Held.trans ?_ State.busWrite_held
        exact Kept.toHeld State.setCore_kept
  · split
    · refine Held.ite (fun _ => ?_) (fun _ => ?_)
      · refine Held.trans ?_ (Kept.toHeld State.endTag_kept)
        refine Held.trans ?_ State.busWrite_held
        exact Kept.toHeld State.setCore_kept
      · refine Held.ite (fun _ => ?_) (fun _ => ?_)
        · refine Held.trans ?_ State.busWrite_held
          exact Kept.toHeld State.setCore_kept
        · refine Held.trans ?_ (Kept.toHeld State.endTag_kept)
          refine Held.trans ?_ State.busWrite_held
          exact Kept.toHeld State.setCore_kept
    · refine Held.trans ?_ (Kept.toHeld State.endTag_kept)
      refine Held.trans ?_ State.busWrite_held
      exact Kept.toHeld State.setCore_kept

theorem State.moveWord_kept {s : State} {m : BulkMove} {ecc : EccResult} : Kept s (s.moveWord m ecc).2 := by
  unfold State.moveWord
  dsimp only
  split
  · have hs : Kept s (if ecc = .lasting then s.fresh else (ofBytes (Memory.reads (s.core m.core).mem m.slot 9), s.wickEcc ecc)).2 := by
      split
      · exact State.fresh_kept
      · exact State.wickEcc_kept
    split
    · exact hs.trans (State.bulkWrite_eq (by assumption))
    · exact hs.trans (State.bulkWrite_eq (by assumption))
  · split
    · exact State.bulkRead_eq (by assumption)
    · refine Kept.trans ?_ (State.setCore_kept (fun h => Memory.wf_writes (State.core_wf h _)))
      exact State.bulkRead_eq (by assumption)
theorem State.moveWord_eq {s : State} {m : BulkMove} {ecc : EccResult} {v t} (he : s.moveWord m ecc = (v, t)) : Kept s t := by
  have h := State.moveWord_kept (s := s) (m := m) (ecc := ecc)
  rw [he] at h; exact h

theorem State.runMove_kept {s : State} {m : BulkMove} {ecc : EccResult} {n : Nat} : Kept s (s.runMove m ecc n) := by
  induction n generalizing s m ecc with
  | zero => exact State.blockDone_kept
  | succ n ih =>
    unfold State.runMove
    split
    · refine Kept.trans ?_ (Kept.upd (Kept.refl _))
      exact State.moveWord_eq (by assumption)
    · exact (State.moveWord_eq (by assumption)).trans ih

theorem State.runMoves_kept {s : State} : Kept s (s.runMoves) := by
  unfold State.runMoves
  dsimp only
  refine Kept.trans ?_ (Kept.foldl (fun _ _ => ?_) _ _)
  · refine Kept.upd ?_
    exact Kept.refl _
  · exact State.runMove_kept

/-! ### Machine/WickQueue.lean -/

theorem State.queueStatus_kept {s : State} {n : Nat} {w : BitVec 24} {st : Nat} : Kept s (s.queueStatus n w st) := by
  unfold State.queueStatus
  exact State.wickWrite_kept

/-! ### Machine/Tick.lean -/

theorem State.tickCores_kept {s : State} : Kept s (s.tickCores) := by
  unfold State.tickCores
  refine Kept.ite (fun _ => ?_) (fun _ => ?_)
  · exact Kept.refl _
  · refine Kept.trans ?_ (upTo_kept fun _ _ => ?_)
    · exact Kept.refl _
    · refine Kept.ite (fun _ => ?_) (fun _ => ?_)
      · exact Kept.refl _
      · exact State.setCore_kept

theorem State.tickEvents_kept {s : State} : Kept s (s.tickEvents) := by
  unfold State.tickEvents
  refine Kept.ite (fun _ => ?_) (fun _ => ?_)
  · exact Kept.refl _
  · refine Kept.upd ?_
    exact Kept.refl _

theorem State.loseTransition_kept {s : State} : Kept s (s.loseTransition) := by
  unfold State.loseTransition
  split
  · refine Kept.ite (fun _ => ?_) (fun _ => ?_)
    · dsimp only
      refine Kept.trans ?_ State.endCommand_kept
      refine Kept.trans ?_ State.setSec_kept
      refine Kept.upd ?_
      split
      · refine Kept.trans ?_ State.releaseImage_kept
        refine Kept.ite (fun _ => ?_) (fun _ => ?_)
        · exact State.clearRecipe_kept
        · exact Kept.refl _
      · exact Kept.refl _
    · exact Kept.refl _
  · exact Kept.refl _

theorem State.tickHearth_kept {s : State} : Kept s (s.tickHearth) := by
  unfold State.tickHearth
  refine Kept.trans ?_ State.tickCompression_kept
  refine Kept.trans ?_ State.scrubPeriod_kept
  refine Kept.trans ?_ State.drainBulk_kept
  refine Kept.trans ?_ State.runMoves_kept
  exact State.endPins_kept

theorem State.tickWaiting_kept {s : State} : Kept s (s.tickWaiting) := by
  unfold State.tickWaiting
  refine Kept.trans ?_ State.wakeCores_kept
  refine Kept.trans ?_ State.recoveryAnswer_kept
  refine Kept.trans ?_ State.pushResponse_kept
  refine Kept.trans ?_ State.endHearthCmd_kept
  refine Kept.trans ?_ State.tickHearth_kept
  exact State.loseTransition_kept

theorem State.tick_held {s : State} : Held s (s.tick) := by
  unfold State.tick
  refine Held.ite (fun _ => ?_) (fun _ => ?_)
  · exact Held.refl _
  · dsimp only
    refine Held.ite (fun _ => ?_) (fun _ => ?_)
    · refine Held.trans ?_ State.leaveReset_held
      refine Held.trans ?_ (Kept.toHeld State.tickTime_kept)
      refine Held.trans ?_ (Kept.toHeld State.tickEvents_kept)
      refine Held.upd ?_
      exact Held.refl _
    · refine Held.trans ?_ (Kept.toHeld State.tickWaiting_kept)
      refine Held.trans ?_ (Kept.toHeld State.tickCores_kept)
      refine Held.trans ?_ (Kept.toHeld State.stallTick_kept)
      refine Held.trans ?_ (Kept.toHeld State.trigTick_kept)
      refine Held.trans ?_ (Kept.toHeld State.tickTdc_kept)
      refine Held.trans ?_ (Kept.toHeld State.tickTime_kept)
      refine Held.trans ?_ (Kept.toHeld State.tickEvents_kept)
      refine Held.upd ?_
      exact Held.refl _

end Sys2Proof.Machine
end

