-- ==== Sys2Proof/Laws/KeptCommands.lean ====
section
/-! SUPPORT. Every command answers a next state and keeps what `Kept` (or `Held`) says: one lemma `<meaning>_next` each. -/

set_option Elab.async false
namespace Sys2Proof.Machine

/-! ### Machine/Anvil.lean -/

theorem execWordDispatch_next {slice : Fin 16} {corrected : Nat} {s : State} :
    ∃ z, execWordDispatch slice corrected s = .next z ∧ Kept s z := by
  unfold execWordDispatch; exact ⟨_, rfl, State.dispatch_kept⟩

theorem execStitchedLinePass_next {cyc : Fin 10} {s : State} : ∃ z, execStitchedLinePass cyc s = .next z ∧ Kept s z := by
  unfold execStitchedLinePass; exact ⟨_, rfl, State.passLine_kept⟩

theorem execMaxBundlesReached_next {slice : Fin 16} {engine : Fin 8} {s : State} :
    ∃ z, execMaxBundlesReached slice engine s = .next z ∧ Kept s z := by
  unfold execMaxBundlesReached; exact ⟨_, rfl, State.maxBundles_kept⟩

theorem execEndOfFlow_next {s : State} : ∃ z, execEndOfFlow s = .next z ∧ Kept s z := by
  unfold execEndOfFlow; exact ⟨_, rfl, State.endOfFlow_kept⟩

theorem execAnvilApply_next {v : Reg32} {s : State} : ∃ z, execAnvilApply v s = .next z ∧ Kept s z := by
  unfold execAnvilApply; refine ⟨_, rfl, ?_⟩
  refine Kept.trans ?_ (State.hostWrite_kept ?_)
  · exact Kept.refl _
  · intro _
    refine Kept.ite (fun _ => ?_) (fun _ => ?_)
    · exact State.anvApply_kept
    · exact Kept.refl _

theorem execParamWordWrite_next {v : Reg32} {s : State} : ∃ z, execParamWordWrite v s = .next z ∧ Kept s z := by
  unfold execParamWordWrite; refine ⟨_, rfl, ?_⟩
  refine Kept.trans ?_ (State.hostWrite_kept ?_)
  · exact Kept.refl _
  · intro _
    exact State.writeParam_kept

theorem execBundleStoreWrite_next {v : Reg32} {s : State} : ∃ z, execBundleStoreWrite v s = .next z ∧ Kept s z := by
  unfold execBundleStoreWrite; refine ⟨_, rfl, ?_⟩
  refine Kept.trans ?_ (State.hostWrite_kept ?_)
  · exact Kept.refl _
  · intro _
    exact State.writeBundle_kept

theorem execAnvilLutAccess_next {v : Option Reg32} {s : State} : ∃ z, execAnvilLutAccess v s = .next z ∧ Kept s z := by
  unfold execAnvilLutAccess; refine ⟨_, rfl, ?_⟩
  split
  · refine Kept.trans ?_ (State.hostWrite_kept ?_)
    · exact Kept.refl _
    · intro _
      exact State.writeAnvLut_kept
  · refine Kept.trans ?_ (State.hostAccess_kept ?_)
    · exact Kept.refl _
    · intro _
      split
      refine Kept.trans ?_ State.emit_kept
      exact (State.readAnvLut_eq (by assumption))

theorem execAnvilLoadGo_next {v : Reg32} {s : State} : ∃ z, execAnvilLoadGo v s = .next z ∧ Kept s z := by
  unfold execAnvilLoadGo; refine ⟨_, rfl, ?_⟩
  refine Kept.trans ?_ (State.hostWrite_kept ?_)
  · exact Kept.refl _
  · intro _
    refine Kept.ite (fun _ => ?_) (fun _ => ?_)
    · exact State.anvLoadGo_kept
    · exact Kept.refl _

theorem execAnvilLoadDone_next {failed : Option Nat} {ecc : EccResult} {s : State} :
    ∃ z, execAnvilLoadDone failed s ecc = .next z ∧ Kept s z := by
  unfold execAnvilLoadDone; exact ⟨_, rfl, State.anvLoadDone_kept⟩

/-! ### Machine/AnvilOps.lean -/

theorem execAnvilNop_next {slice : Fin 16} {engine : Fin 8} {slot : Fin 3} {bits : BitVec 34} {close : Option (BitVec 8)} {s : State} :
    ∃ z, execAnvilNop slice engine slot bits close s = .next z ∧ Kept s z := by
  unfold execAnvilNop; exact ⟨_, rfl, State.anvInstr_kept⟩

theorem execAnvilAdd_next {slice : Fin 16} {engine : Fin 8} {slot : Fin 3} {bits : BitVec 34} {close : Option (BitVec 8)} {s : State} :
    ∃ z, execAnvilAdd slice engine slot bits close s = .next z ∧ Kept s z := by
  unfold execAnvilAdd; exact ⟨_, rfl, State.anvInstr_kept⟩

theorem execAnvilSub_next {slice : Fin 16} {engine : Fin 8} {slot : Fin 3} {bits : BitVec 34} {close : Option (BitVec 8)} {s : State} :
    ∃ z, execAnvilSub slice engine slot bits close s = .next z ∧ Kept s z := by
  unfold execAnvilSub; exact ⟨_, rfl, State.anvInstr_kept⟩

theorem execAnvilAvg_next {slice : Fin 16} {engine : Fin 8} {slot : Fin 3} {bits : BitVec 34} {close : Option (BitVec 8)} {s : State} :
    ∃ z, execAnvilAvg slice engine slot bits close s = .next z ∧ Kept s z := by
  unfold execAnvilAvg; exact ⟨_, rfl, State.anvInstr_kept⟩

theorem execAnvilAbsd_next {slice : Fin 16} {engine : Fin 8} {slot : Fin 3} {bits : BitVec 34} {close : Option (BitVec 8)} {s : State} :
    ∃ z, execAnvilAbsd slice engine slot bits close s = .next z ∧ Kept s z := by
  unfold execAnvilAbsd; exact ⟨_, rfl, State.anvInstr_kept⟩

theorem execAnvilMin_next {slice : Fin 16} {engine : Fin 8} {slot : Fin 3} {bits : BitVec 34} {close : Option (BitVec 8)} {s : State} :
    ∃ z, execAnvilMin slice engine slot bits close s = .next z ∧ Kept s z := by
  unfold execAnvilMin; exact ⟨_, rfl, State.anvInstr_kept⟩

theorem execAnvilMax_next {slice : Fin 16} {engine : Fin 8} {slot : Fin 3} {bits : BitVec 34} {close : Option (BitVec 8)} {s : State} :
    ∃ z, execAnvilMax slice engine slot bits close s = .next z ∧ Kept s z := by
  unfold execAnvilMax; exact ⟨_, rfl, State.anvInstr_kept⟩

theorem execAnvilAnd_next {slice : Fin 16} {engine : Fin 8} {slot : Fin 3} {bits : BitVec 34} {close : Option (BitVec 8)} {s : State} :
    ∃ z, execAnvilAnd slice engine slot bits close s = .next z ∧ Kept s z := by
  unfold execAnvilAnd; exact ⟨_, rfl, State.anvInstr_kept⟩

theorem execAnvilOr_next {slice : Fin 16} {engine : Fin 8} {slot : Fin 3} {bits : BitVec 34} {close : Option (BitVec 8)} {s : State} :
    ∃ z, execAnvilOr slice engine slot bits close s = .next z ∧ Kept s z := by
  unfold execAnvilOr; exact ⟨_, rfl, State.anvInstr_kept⟩

theorem execAnvilXor_next {slice : Fin 16} {engine : Fin 8} {slot : Fin 3} {bits : BitVec 34} {close : Option (BitVec 8)} {s : State} :
    ∃ z, execAnvilXor slice engine slot bits close s = .next z ∧ Kept s z := by
  unfold execAnvilXor; exact ⟨_, rfl, State.anvInstr_kept⟩

theorem execAnvilShl_next {slice : Fin 16} {engine : Fin 8} {slot : Fin 3} {bits : BitVec 34} {close : Option (BitVec 8)} {s : State} :
    ∃ z, execAnvilShl slice engine slot bits close s = .next z ∧ Kept s z := by
  unfold execAnvilShl; exact ⟨_, rfl, State.anvInstr_kept⟩

theorem execAnvilShr_next {slice : Fin 16} {engine : Fin 8} {slot : Fin 3} {bits : BitVec 34} {close : Option (BitVec 8)} {s : State} :
    ∃ z, execAnvilShr slice engine slot bits close s = .next z ∧ Kept s z := by
  unfold execAnvilShr; exact ⟨_, rfl, State.anvInstr_kept⟩

theorem execAnvilSel_next {slice : Fin 16} {engine : Fin 8} {slot : Fin 3} {bits : BitVec 34} {close : Option (BitVec 8)} {s : State} :
    ∃ z, execAnvilSel slice engine slot bits close s = .next z ∧ Kept s z := by
  unfold execAnvilSel; exact ⟨_, rfl, State.anvInstr_kept⟩

theorem execAnvilMov_next {slice : Fin 16} {engine : Fin 8} {slot : Fin 3} {bits : BitVec 34} {close : Option (BitVec 8)} {s : State} :
    ∃ z, execAnvilMov slice engine slot bits close s = .next z ∧ Kept s z := by
  unfold execAnvilMov; exact ⟨_, rfl, State.anvInstr_kept⟩

theorem execAnvilCls_next {slice : Fin 16} {engine : Fin 8} {slot : Fin 3} {bits : BitVec 34} {close : Option (BitVec 8)} {s : State} :
    ∃ z, execAnvilCls slice engine slot bits close s = .next z ∧ Kept s z := by
  unfold execAnvilCls; exact ⟨_, rfl, State.anvInstr_kept⟩

theorem execAnvilPk6_next {slice : Fin 16} {engine : Fin 8} {slot : Fin 3} {bits : BitVec 34} {close : Option (BitVec 8)} {s : State} :
    ∃ z, execAnvilPk6 slice engine slot bits close s = .next z ∧ Kept s z := by
  unfold execAnvilPk6; exact ⟨_, rfl, State.anvInstr_kept⟩

theorem execAnvilCmpeq_next {slice : Fin 16} {engine : Fin 8} {slot : Fin 3} {bits : BitVec 34} {close : Option (BitVec 8)} {s : State} :
    ∃ z, execAnvilCmpeq slice engine slot bits close s = .next z ∧ Kept s z := by
  unfold execAnvilCmpeq; exact ⟨_, rfl, State.anvInstr_kept⟩

theorem execAnvilCmplt_next {slice : Fin 16} {engine : Fin 8} {slot : Fin 3} {bits : BitVec 34} {close : Option (BitVec 8)} {s : State} :
    ∃ z, execAnvilCmplt slice engine slot bits close s = .next z ∧ Kept s z := by
  unfold execAnvilCmplt; exact ⟨_, rfl, State.anvInstr_kept⟩

theorem execAnvilCmple_next {slice : Fin 16} {engine : Fin 8} {slot : Fin 3} {bits : BitVec 34} {close : Option (BitVec 8)} {s : State} :
    ∃ z, execAnvilCmple slice engine slot bits close s = .next z ∧ Kept s z := by
  unfold execAnvilCmple; exact ⟨_, rfl, State.anvInstr_kept⟩

theorem execAnvilAddi_next {slice : Fin 16} {engine : Fin 8} {slot : Fin 3} {bits : BitVec 34} {close : Option (BitVec 8)} {s : State} :
    ∃ z, execAnvilAddi slice engine slot bits close s = .next z ∧ Kept s z := by
  unfold execAnvilAddi; exact ⟨_, rfl, State.anvInstr_kept⟩

theorem execAnvilShli_next {slice : Fin 16} {engine : Fin 8} {slot : Fin 3} {bits : BitVec 34} {close : Option (BitVec 8)} {s : State} :
    ∃ z, execAnvilShli slice engine slot bits close s = .next z ∧ Kept s z := by
  unfold execAnvilShli; exact ⟨_, rfl, State.anvInstr_kept⟩

theorem execAnvilShri_next {slice : Fin 16} {engine : Fin 8} {slot : Fin 3} {bits : BitVec 34} {close : Option (BitVec 8)} {s : State} :
    ∃ z, execAnvilShri slice engine slot bits close s = .next z ∧ Kept s z := by
  unfold execAnvilShri; exact ⟨_, rfl, State.anvInstr_kept⟩

theorem execAnvilMovi_next {slice : Fin 16} {engine : Fin 8} {slot : Fin 3} {bits : BitVec 34} {close : Option (BitVec 8)} {s : State} :
    ∃ z, execAnvilMovi slice engine slot bits close s = .next z ∧ Kept s z := by
  unfold execAnvilMovi; exact ⟨_, rfl, State.anvInstr_kept⟩

theorem execAnvilCmplti_next {slice : Fin 16} {engine : Fin 8} {slot : Fin 3} {bits : BitVec 34} {close : Option (BitVec 8)} {s : State} :
    ∃ z, execAnvilCmplti slice engine slot bits close s = .next z ∧ Kept s z := by
  unfold execAnvilCmplti; exact ⟨_, rfl, State.anvInstr_kept⟩

theorem execAnvilCmpgei_next {slice : Fin 16} {engine : Fin 8} {slot : Fin 3} {bits : BitVec 34} {close : Option (BitVec 8)} {s : State} :
    ∃ z, execAnvilCmpgei slice engine slot bits close s = .next z ∧ Kept s z := by
  unfold execAnvilCmpgei; exact ⟨_, rfl, State.anvInstr_kept⟩

theorem execAnvilMul_next {slice : Fin 16} {engine : Fin 8} {slot : Fin 3} {bits : BitVec 34} {close : Option (BitVec 8)} {s : State} :
    ∃ z, execAnvilMul slice engine slot bits close s = .next z ∧ Kept s z := by
  unfold execAnvilMul; exact ⟨_, rfl, State.anvInstr_kept⟩

theorem execAnvilMac_next {slice : Fin 16} {engine : Fin 8} {slot : Fin 3} {bits : BitVec 34} {close : Option (BitVec 8)} {s : State} :
    ∃ z, execAnvilMac slice engine slot bits close s = .next z ∧ Kept s z := by
  unfold execAnvilMac; exact ⟨_, rfl, State.anvInstr_kept⟩

theorem execAnvilLut_next {slice : Fin 16} {engine : Fin 8} {slot : Fin 3} {bits : BitVec 34} {close : Option (BitVec 8)} {s : State} :
    ∃ z, execAnvilLut slice engine slot bits close s = .next z ∧ Kept s z := by
  unfold execAnvilLut; exact ⟨_, rfl, State.anvInstr_kept⟩

theorem execAnvilSumh_next {slice : Fin 16} {engine : Fin 8} {slot : Fin 3} {bits : BitVec 34} {close : Option (BitVec 8)} {s : State} :
    ∃ z, execAnvilSumh slice engine slot bits close s = .next z ∧ Kept s z := by
  unfold execAnvilSumh; exact ⟨_, rfl, State.anvInstr_kept⟩

theorem execAnvilWin_next {slice : Fin 16} {engine : Fin 8} {slot : Fin 3} {bits : BitVec 34} {close : Option (BitVec 8)} {s : State} :
    ∃ z, execAnvilWin slice engine slot bits close s = .next z ∧ Kept s z := by
  unfold execAnvilWin; exact ⟨_, rfl, State.anvInstr_kept⟩

theorem execAnvilLdp_next {slice : Fin 16} {engine : Fin 8} {slot : Fin 3} {bits : BitVec 34} {close : Option (BitVec 8)} {s : State} :
    ∃ z, execAnvilLdp slice engine slot bits close s = .next z ∧ Kept s z := by
  unfold execAnvilLdp; exact ⟨_, rfl, State.anvInstr_kept⟩

theorem execAnvilEmc_next {slice : Fin 16} {engine : Fin 8} {slot : Fin 3} {bits : BitVec 34} {close : Option (BitVec 8)} {s : State} :
    ∃ z, execAnvilEmc slice engine slot bits close s = .next z ∧ Kept s z := by
  unfold execAnvilEmc; exact ⟨_, rfl, State.anvInstr_kept⟩

theorem execAnvilEmi_next {slice : Fin 16} {engine : Fin 8} {slot : Fin 3} {bits : BitVec 34} {close : Option (BitVec 8)} {s : State} :
    ∃ z, execAnvilEmi slice engine slot bits close s = .next z ∧ Kept s z := by
  unfold execAnvilEmi; exact ⟨_, rfl, State.anvInstr_kept⟩

theorem execAnvilBr_next {slice : Fin 16} {engine : Fin 8} {slot : Fin 3} {bits : BitVec 34} {close : Option (BitVec 8)} {s : State} :
    ∃ z, execAnvilBr slice engine slot bits close s = .next z ∧ Kept s z := by
  unfold execAnvilBr; exact ⟨_, rfl, State.anvInstr_kept⟩

theorem execAnvilPand_next {slice : Fin 16} {engine : Fin 8} {slot : Fin 3} {bits : BitVec 34} {close : Option (BitVec 8)} {s : State} :
    ∃ z, execAnvilPand slice engine slot bits close s = .next z ∧ Kept s z := by
  unfold execAnvilPand; exact ⟨_, rfl, State.anvInstr_kept⟩

theorem execAnvilPor_next {slice : Fin 16} {engine : Fin 8} {slot : Fin 3} {bits : BitVec 34} {close : Option (BitVec 8)} {s : State} :
    ∃ z, execAnvilPor slice engine slot bits close s = .next z ∧ Kept s z := by
  unfold execAnvilPor; exact ⟨_, rfl, State.anvInstr_kept⟩

theorem execAnvilPxor_next {slice : Fin 16} {engine : Fin 8} {slot : Fin 3} {bits : BitVec 34} {close : Option (BitVec 8)} {s : State} :
    ∃ z, execAnvilPxor slice engine slot bits close s = .next z ∧ Kept s z := by
  unfold execAnvilPxor; exact ⟨_, rfl, State.anvInstr_kept⟩

theorem execAnvilPandn_next {slice : Fin 16} {engine : Fin 8} {slot : Fin 3} {bits : BitVec 34} {close : Option (BitVec 8)} {s : State} :
    ∃ z, execAnvilPandn slice engine slot bits close s = .next z ∧ Kept s z := by
  unfold execAnvilPandn; exact ⟨_, rfl, State.anvInstr_kept⟩

theorem execAnvilPset_next {slice : Fin 16} {engine : Fin 8} {slot : Fin 3} {bits : BitVec 34} {close : Option (BitVec 8)} {s : State} :
    ∃ z, execAnvilPset slice engine slot bits close s = .next z ∧ Kept s z := by
  unfold execAnvilPset; exact ⟨_, rfl, State.anvInstr_kept⟩

/-! ### Machine/Bellows.lean -/

theorem execThermalSample_next {sensors : List (BitVec 12)} {s : State} :
    ∃ z, execThermalSample sensors s = .next z ∧ Kept s z := by
  unfold execThermalSample; refine ⟨_, rfl, ?_⟩
  split
  · refine Kept.ite (fun _ => ?_) (fun _ => ?_)
    · exact State.dieSample_kept
    · exact Kept.refl _
  · exact Kept.refl _

theorem execHbmTempSample_next {reading : BitVec 12} {s : State} : ∃ z, execHbmTempSample reading s = .next z ∧ Kept s z := by
  unfold execHbmTempSample; refine ⟨_, rfl, ?_⟩
  refine Kept.ite (fun _ => ?_) (fun _ => ?_)
  · exact Kept.refl _
  · exact State.stackSample_kept

theorem execClockLoss_next {clock : ClockLost} {s : State} : ∃ z, execClockLoss clock s = .next z ∧ Kept s z := by
  unfold execClockLoss; refine ⟨_, rfl, ?_⟩
  refine Kept.ite (fun _ => ?_) (fun _ => ?_)
  · exact State.loseClock_kept
  · exact Kept.refl _

theorem execFirmwareVerified_next {image : FirmwareImage} {s : State} :
    ∃ z, execFirmwareVerified image s = .next z ∧ Kept s z := by
  unfold execFirmwareVerified; refine ⟨_, rfl, ?_⟩
  refine Kept.ite (fun _ => ?_) (fun _ => ?_)
  · exact Kept.refl _
  · refine Kept.ite (fun _ => ?_) (fun _ => ?_)
    · exact State.pushImage_kept
    · refine Kept.ite (fun _ => ?_) (fun _ => ?_)
      · exact Kept.refl _
      · exact State.flashImage_kept

theorem execBootReady_next {hbm : HbmResult} {tdc : TdcResult} {readable : Bool} {s : State} :
    ∃ z, execBootReady hbm tdc s readable = .next z ∧ Held s z := by
  unfold execBootReady; refine ⟨_, rfl, ?_⟩
  refine Held.ite (fun _ => ?_) (fun _ => ?_)
  · refine Held.trans ?_ State.enterReady_held
    refine Held.trans ?_ (Kept.toHeld State.bootTemper_kept)
    refine Held.trans ?_ (Kept.toHeld State.hearthSync_kept)
    exact Kept.toHeld State.restoreRetired_kept
  · exact Held.refl _

theorem execRestoreHoldExpiry_next {s : State} : ∃ z, execRestoreHoldExpiry s = .next z ∧ Kept s z := by
  unfold execRestoreHoldExpiry; refine ⟨_, rfl, ?_⟩
  split
  · refine Kept.ite (fun _ => ?_) (fun _ => ?_)
    · exact State.loseRestored_kept
    · exact Kept.refl _
  · exact Kept.refl _

theorem execRetireDone_next {handle : BitVec 32} {frame : Nat} {unreadable : List Nat} {s : State} :
    ∃ z, execRetireDone handle frame unreadable s = .next z ∧ Kept s z := by
  unfold execRetireDone; refine ⟨_, rfl, ?_⟩
  dsimp only
  refine Kept.ite (fun _ => ?_) (fun _ => ?_)
  · exact State.retireFrame_kept
  · refine Kept.trans ?_ State.journal_kept
    exact State.retireFrame_kept

theorem execBank_next {s : State} : ∃ z, execBank s = .next z ∧ Kept s z := by
  unfold execBank; refine ⟨_, rfl, ?_⟩
  refine Kept.trans ?_ (State.command_kept ?_)
  · exact Kept.refl _
  · intro _ _
    refine Kept.ite (fun _ => ?_) (fun _ => ?_)
    · exact State.endCommand_kept
    · refine Kept.ite (fun _ => ?_) (fun _ => ?_)
      · exact State.startBank_kept
      · refine Kept.trans ?_ State.endCommand_kept
        exact State.blwFlag_kept

theorem execBankSaveDone_next {s : State} : ∃ z, execBankSaveDone s = .next z ∧ Held s z := by
  unfold execBankSaveDone; refine ⟨_, rfl, ?_⟩
  refine Held.ite (fun _ => ?_) (fun _ => ?_)
  · exact State.enterBanked_held
  · exact Held.refl _

theorem execBankTimeout_next {s : State} : ∃ z, execBankTimeout s = .next z ∧ Kept s z := by
  unfold execBankTimeout; refine ⟨_, rfl, ?_⟩
  split
  · refine Kept.ite (fun _ => ?_) (fun _ => ?_)
    · exact State.bankFails_kept
    · exact Kept.refl _
  · exact Kept.refl _

theorem execWakeComplete_next {s : State} : ∃ z, execWakeComplete s = .next z ∧ Held s z := by
  unfold execWakeComplete; refine ⟨_, rfl, ?_⟩
  split
  · refine Held.ite (fun _ => ?_) (fun _ => ?_)
    · exact State.finishWake_held
    · exact Held.refl _
  · exact Held.refl _

/-! ### Machine/Bloom.lean -/

theorem execFlush_next {v : Reg32} {s : State} : ∃ z, execFlush v s = .next z ∧ Kept s z := by
  unfold execFlush; refine ⟨_, rfl, ?_⟩
  refine Kept.trans ?_ (State.hostWrite_kept ?_)
  · exact Kept.refl _
  · intro _
    refine Kept.ite (fun _ => ?_) (fun _ => ?_)
    · exact State.flushBlooms_kept
    · exact Kept.refl _

theorem execBloomLine_next {s : State} : ∃ z, execBloomLine s = .next z ∧ Kept s z := by
  unfold execBloomLine; exact ⟨_, rfl, State.bloomLine_kept⟩

theorem execCropCut_next {ecc : EccResult} {s : State} : ∃ z, execCropCut s ecc = .next z ∧ Kept s z := by
  unfold execCropCut; exact ⟨_, rfl, State.cropCut_kept⟩

theorem execCropDone_next {s : State} : ∃ z, execCropDone s = .next z ∧ Kept s z := by
  unfold execCropDone; exact ⟨_, rfl, State.cropDone_kept⟩

theorem execRecordPush_next {s : State} : ∃ z, execRecordPush s = .next z ∧ Kept s z := by
  unfold execRecordPush; exact ⟨_, rfl, State.recordPush_kept⟩

/-! ### Machine/Bus.lean -/

theorem execRegisterWrite_next {ag : Agent} {offset : BitVec 26} {size : Nat} {v : Reg32} {s : State} :
    ∃ z, execRegisterWrite ag offset size v s = .next z ∧ Held s z := by
  unfold execRegisterWrite; refine ⟨_, rfl, ?_⟩
  dsimp only
  split
  · refine Held.ite (fun _ => ?_) (fun _ => ?_)
    · refine Held.trans ?_ (State.hostWrite_held ?_)
      · exact Held.refl _
      · intro _
        exact State.busWrite_held
    · refine Held.ite (fun _ => ?_) (fun _ => ?_)
      · exact Held.refl _
      · exact Kept.toHeld State.hstFlag_kept
  · refine Held.ite (fun _ => ?_) (fun _ => ?_)
    · exact Held.refl _
    · exact State.busWrite_held

theorem execRcRead_next {ag : Agent} {offset : BitVec 26} {collide : Option Reg32} {s : State} :
    ∃ z, execRcRead ag offset collide s = .next z ∧ Kept s z := by
  unfold execRcRead; refine ⟨_, rfl, ?_⟩
  refine Kept.ite (fun _ => ?_) (fun _ => ?_)
  · exact Kept.refl _
  · refine Kept.trans ?_ State.collide_kept
    exact State.agentRead_kept

theorem execSnapshotRead_next {ag : Agent} {offset : BitVec 26} {s : State} :
    ∃ z, execSnapshotRead ag offset s = .next z ∧ Kept s z := by
  unfold execSnapshotRead; refine ⟨_, rfl, ?_⟩
  refine Kept.ite (fun _ => ?_) (fun _ => ?_)
  · exact State.agentRead_kept
  · exact Kept.refl _

theorem execBar0Read_next {offset : BitVec 26} {size : Nat} {s : State} :
    ∃ z, execBar0Read offset size s = .next z ∧ Kept s z := by
  unfold execBar0Read; refine ⟨_, rfl, ?_⟩
  dsimp only
  refine Kept.ite (fun _ => ?_) (fun _ => ?_)
  · refine Kept.trans ?_ (State.hostAccess_kept ?_)
    · exact Kept.refl _
    · intro _
      exact State.hostRead_kept
  · refine Kept.ite (fun _ => ?_) (fun _ => ?_)
    · exact Kept.refl _
    · refine Kept.trans ?_ State.hstFlag_kept
      exact State.emit_kept

theorem execSmbusReadWord_next {command : BitVec 8} {s : State} : ∃ z, execSmbusReadWord command s = .next z ∧ Kept s z := by
  unfold execSmbusReadWord; refine ⟨_, rfl, ?_⟩
  refine Kept.ite (fun _ => ?_) (fun _ => ?_)
  · exact Kept.refl _
  · split
    · exact State.emit_kept
    · exact Kept.refl _

theorem execBar2Read_next {offset : BitVec 24} {length : Nat} {ecc : EccResult} {s : State} {metadata : Bool} :
    ∃ z, execBar2Read offset length ecc s metadata = .next z ∧ Kept s z := by
  unfold execBar2Read; refine ⟨_, rfl, State.hostAccess_kept fun _ => Kept.ite (fun _ => ?_) (fun _ => ?_)⟩
  · exact State.metadataFails_kept
  · exact State.bar2Read_kept

/-! ### Machine/Commit.lean -/

theorem execClassLineEnter_next {s : State} : ∃ z, execClassLineEnter s = .next z ∧ Kept s z := by
  unfold execClassLineEnter; exact ⟨_, rfl, State.classEnter_kept⟩

theorem execIntervalCommit_next {found : CommitChecks} {s : State} : ∃ z, execIntervalCommit found s = .next z ∧ Kept s z := by
  unfold execIntervalCommit; exact ⟨_, rfl, State.intervalCommit_kept⟩

theorem execDrainCommit_next {found : CommitChecks} {s : State} : ∃ z, execDrainCommit found s = .next z ∧ Kept s z := by
  unfold execDrainCommit; exact ⟨_, rfl, State.drainCommit_kept⟩

theorem execFeederLine_next {ecc : EccResult} {s : State} : ∃ z, execFeederLine s ecc = .next z ∧ Kept s z := by
  unfold execFeederLine; exact ⟨_, rfl, State.feederLine_kept⟩

theorem execRetrainStart_next {s : State} : ∃ z, execRetrainStart s = .next z ∧ Kept s z := by
  unfold execRetrainStart; exact ⟨_, rfl, State.retrainStart_kept⟩

/-! ### Machine/Compress.lean -/

theorem execJobComplete_next {engine : Fin 8} {ecc : EccResult} {s : State} :
    ∃ z, execJobComplete engine s ecc = .next z ∧ Kept s z := by
  unfold execJobComplete; exact ⟨_, rfl, State.jobComplete_kept⟩

theorem execCompressionJob_next {engine : Fin 8} {ecc : EccResult} {badWord : Nat} {s : State} :
    ∃ z, execCompressionJob engine ecc badWord s = .next z ∧ Kept s z := by
  unfold execCompressionJob; exact ⟨_, rfl, State.compressionJob_kept⟩

theorem execCompletionPush_next {engine : Fin 8} {s : State} : ∃ z, execCompletionPush engine s = .next z ∧ Kept s z := by
  unfold execCompletionPush; exact ⟨_, rfl, State.completionPush_kept⟩

theorem execJobAbort_next {v : Reg32} {s : State} : ∃ z, execJobAbort v s = .next z ∧ Kept s z := by
  unfold execJobAbort; refine ⟨_, rfl, ?_⟩
  refine Kept.trans ?_ (State.hostWrite_kept ?_)
  · exact Kept.refl _
  · intro _
    refine Kept.ite (fun _ => ?_) (fun _ => ?_)
    · exact Kept.refl _
    · exact State.writeCmpCmd_kept

theorem execSaveAll_next {v : Reg32} {s : State} : ∃ z, execSaveAll v s = .next z ∧ Kept s z := by
  unfold execSaveAll; refine ⟨_, rfl, ?_⟩
  refine Kept.trans ?_ (State.hostWrite_kept ?_)
  · exact Kept.refl _
  · intro _
    refine Kept.ite (fun _ => ?_) (fun _ => ?_)
    · exact State.writeCmpCmd_kept
    · exact Kept.refl _

theorem execTableSetAccess_next {v : Option Reg32} {s : State} : ∃ z, execTableSetAccess v s = .next z ∧ Kept s z := by
  unfold execTableSetAccess; refine ⟨_, rfl, ?_⟩
  split
  · refine Kept.trans ?_ (State.hostWrite_kept ?_)
    · exact Kept.refl _
    · intro _
      exact State.writeTable_kept
  · refine Kept.trans ?_ (State.hostAccess_kept ?_)
    · exact Kept.refl _
    · intro _
      split
      refine Kept.trans ?_ State.emit_kept
      exact (State.readTable_eq (by assumption))

theorem execStateHandleWrite_next {v : Reg32} {s : State} : ∃ z, execStateHandleWrite v s = .next z ∧ Kept s z := by
  unfold execStateHandleWrite; refine ⟨_, rfl, ?_⟩
  refine Kept.trans ?_ (State.hostWrite_kept ?_)
  · exact Kept.refl _
  · intro _
    exact State.writeStateHandle_kept

/-! ### Machine/Correction.lean -/

theorem execCoefStoreAccess_next {v : Option Reg32} {s : State} : ∃ z, execCoefStoreAccess v s = .next z ∧ Kept s z := by
  unfold execCoefStoreAccess; refine ⟨_, rfl, ?_⟩
  split
  · refine Kept.trans ?_ (State.hostWrite_kept ?_)
    · exact Kept.refl _
    · intro _
      exact State.writeStoreData_kept
  · refine Kept.trans ?_ (State.hostAccess_kept ?_)
    · exact Kept.refl _
    · intro _
      split
      refine Kept.trans ?_ State.emit_kept
      exact (State.readStoreData_eq (by assumption))

theorem execCorrectionLutAccess_next {v : Option Reg32} {s : State} : ∃ z, execCorrectionLutAccess v s = .next z ∧ Kept s z := by
  unfold execCorrectionLutAccess; refine ⟨_, rfl, ?_⟩
  split
  · refine Kept.trans ?_ (State.hostWrite_kept ?_)
    · exact Kept.refl _
    · intro _
      exact State.writeLutData_kept
  · refine Kept.trans ?_ (State.hostAccess_kept ?_)
    · exact Kept.refl _
    · intro _
      split
      refine Kept.trans ?_ State.emit_kept
      exact (State.readLutData_eq (by assumption))

theorem execCorrectionApply_next {c : Fin 64} {v : Reg32} {s : State} : ∃ z, execCorrectionApply c v s = .next z ∧ Kept s z := by
  unfold execCorrectionApply; refine ⟨_, rfl, ?_⟩
  refine Kept.trans ?_ (State.hostWrite_kept ?_)
  · exact Kept.refl _
  · intro _
    refine Kept.ite (fun _ => ?_) (fun _ => ?_)
    · exact State.applyCor_kept
    · exact Kept.refl _

theorem execCoefLoadGo_next {v : Reg32} {s : State} : ∃ z, execCoefLoadGo v s = .next z ∧ Kept s z := by
  unfold execCoefLoadGo; refine ⟨_, rfl, ?_⟩
  refine Kept.trans ?_ (State.hostWrite_kept ?_)
  · exact Kept.refl _
  · intro _
    refine Kept.ite (fun _ => ?_) (fun _ => ?_)
    · exact State.coefLoadGo_kept
    · exact Kept.refl _

theorem execCoefLoadDone_next {failed : Option Nat} {ecc : EccResult} {s : State} :
    ∃ z, execCoefLoadDone failed s ecc = .next z ∧ Kept s z := by
  unfold execCoefLoadDone; refine ⟨_, rfl, ?_⟩
  split
  · exact Kept.refl _
  · split
    · exact (State.loadWords_eq (by assumption))
    · dsimp only
      refine Kept.trans ?_ State.endCoefLoad_kept
      refine Kept.trans ?_ (Kept.foldl (fun _ _ => ?_) _ _)
      · exact (State.loadWords_eq (by assumption))
      · refine Kept.trans ?_ (upTo_kept fun _ _ => ?_)
        · exact Kept.refl _
        · exact State.storeCoef_kept

theorem execCaptureGo_next {v : Reg32} {s : State} : ∃ z, execCaptureGo v s = .next z ∧ Kept s z := by
  unfold execCaptureGo; refine ⟨_, rfl, ?_⟩
  refine Kept.trans ?_ (State.hostWrite_kept ?_)
  · exact Kept.refl _
  · intro _
    refine Kept.ite (fun _ => ?_) (fun _ => ?_)
    · exact State.writeCapCmd_kept
    · exact Kept.refl _

theorem execCaptureAbort_next {v : Reg32} {s : State} : ∃ z, execCaptureAbort v s = .next z ∧ Kept s z := by
  unfold execCaptureAbort; refine ⟨_, rfl, ?_⟩
  refine Kept.trans ?_ (State.hostWrite_kept ?_)
  · exact Kept.refl _
  · intro _
    refine Kept.ite (fun _ => ?_) (fun _ => ?_)
    · exact State.writeCapCmd_kept
    · exact Kept.refl _

theorem execCaptureDone_next {s : State} : ∃ z, execCaptureDone s = .next z ∧ Kept s z := by
  unfold execCaptureDone; refine ⟨_, rfl, ?_⟩
  split
  · exact Kept.refl _
  · refine Kept.ite (fun _ => ?_) (fun _ => ?_)
    · exact Kept.refl _
    · split
      · exact (State.blockWrite_eq (by assumption))
      · refine Kept.trans ?_ State.endCapture_kept
        exact (State.blockWrite_eq (by assumption))

theorem execLineSent_next {lane : Fin 16} {ecc : CorEcc} {s : State} : ∃ z, execLineSent lane ecc s = .next z ∧ Kept s z := by
  unfold execLineSent; exact ⟨_, rfl, State.lineSent_kept⟩

theorem execSnapshotWaitEnd_next {lane : Fin 16} {s : State} : ∃ z, execSnapshotWaitEnd lane s = .next z ∧ Kept s z := by
  unfold execSnapshotWaitEnd; exact ⟨_, rfl, State.releaseHeld_kept⟩

/-! ### Machine/Encoder.lean -/

theorem execQuadratureEdge_next {n : Fin 4} {a b : Bool} {tap : Fin 32} {s : State} :
    ∃ z, execQuadratureEdge n a b tap s = .next z ∧ Kept s z := by
  unfold execQuadratureEdge; refine ⟨_, rfl, ?_⟩
  dsimp only
  refine Kept.ite (fun _ => ?_) (fun _ => ?_)
  · exact Kept.refl _
  · refine Kept.ite (fun _ => ?_) (fun _ => ?_)
    · exact State.setEnc_kept
    · refine Kept.ite (fun _ => ?_) (fun _ => ?_)
      · refine Kept.trans ?_ State.encFlag_kept
        refine Kept.trans ?_ State.dropPeriod_kept
        refine Kept.trans ?_ State.setEnc_kept
        refine Kept.trans ?_ State.setFld_kept
        exact State.setEnc_kept
      · refine Kept.trans ?_ State.countEdge_kept
        exact State.setEnc_kept

theorem execPulseTrainEdge_next {n : Fin 4} {b : Bool} {tap : Fin 32} {s : State} :
    ∃ z, execPulseTrainEdge n b tap s = .next z ∧ Kept s z := by
  unfold execPulseTrainEdge; refine ⟨_, rfl, ?_⟩
  refine Kept.ite (fun _ => ?_) (fun _ => ?_)
  · exact Kept.refl _
  · dsimp only
    refine Kept.ite (fun _ => ?_) (fun _ => ?_)
    · exact State.setEnc_kept
    · refine Kept.ite (fun _ => ?_) (fun _ => ?_)
      · refine Kept.trans ?_ State.takeReference_kept
        refine Kept.trans ?_ State.countEdge_kept
        exact State.setEnc_kept
      · refine Kept.ite (fun _ => ?_) (fun _ => ?_)
        · refine Kept.trans ?_ State.takeReference_kept
          exact State.setEnc_kept
        · refine Kept.trans ?_ State.countEdge_kept
          exact State.setEnc_kept

theorem execReference_next {n : Fin 4} {level : Bool} {tap : Fin 32} {s : State} :
    ∃ z, execReference n tap s level = .next z ∧ Kept s z := by
  unfold execReference; refine ⟨_, rfl, ?_⟩
  refine Kept.ite (fun _ => ?_) (fun _ => ?_)
  · exact Kept.refl _
  · dsimp only
    refine Kept.ite (fun _ => ?_) (fun _ => ?_)
    · refine Kept.trans ?_ State.takeReference_kept
      exact State.setEnc_kept
    · exact State.setEnc_kept

theorem execStandstill_next {n : Fin 4} {s : State} : ∃ z, execStandstill n s = .next z ∧ Kept s z := by
  unfold execStandstill; refine ⟨_, rfl, ?_⟩
  split
  · refine Kept.ite (fun _ => ?_) (fun _ => ?_)
    · exact State.standStill_kept
    · exact Kept.refl _
  · exact Kept.refl _

theorem execPresetNow_next {n : Fin 4} {v : Reg32} {s : State} : ∃ z, execPresetNow n v s = .next z ∧ Kept s z := by
  unfold execPresetNow; refine ⟨_, rfl, ?_⟩
  refine Kept.trans ?_ (State.hostWrite_kept ?_)
  · exact Kept.refl _
  · intro _
    refine Kept.ite (fun _ => ?_) (fun _ => ?_)
    · exact State.writeEncCmd_kept
    · exact Kept.refl _

theorem execArmRef_next {n : Fin 4} {v : Reg32} {s : State} : ∃ z, execArmRef n v s = .next z ∧ Kept s z := by
  unfold execArmRef; refine ⟨_, rfl, ?_⟩
  refine Kept.trans ?_ (State.hostWrite_kept ?_)
  · exact Kept.refl _
  · intro _
    refine Kept.ite (fun _ => ?_) (fun _ => ?_)
    · exact State.writeEncCmd_kept
    · exact Kept.refl _

theorem execEncCfgWrite_next {n : Fin 4} {v : Reg32} {s : State} : ∃ z, execEncCfgWrite n v s = .next z ∧ Kept s z := by
  unfold execEncCfgWrite; refine ⟨_, rfl, ?_⟩
  refine Kept.trans ?_ (State.hostWrite_kept ?_)
  · exact Kept.refl _
  · intro _
    exact State.writeEncCfg_kept

/-! ### Machine/Events.lean -/

theorem execGateOpen_next {g : Fin 32} {s : State} : ∃ z, execGateOpen g s = .next z ∧ Kept s z := by
  unfold execGateOpen; refine ⟨_, rfl, ?_⟩
  refine Kept.ite (fun _ => ?_) (fun _ => ?_)
  · exact State.openGate_kept
  · exact Kept.refl _

theorem execSourceConfigWrite_next {src : Fin 512} {v : Reg32} {s : State} :
    ∃ z, execSourceConfigWrite src v s = .next z ∧ Kept s z := by
  unfold execSourceConfigWrite; refine ⟨_, rfl, ?_⟩
  refine Kept.trans ?_ (State.hostWrite_kept ?_)
  · exact Kept.refl _
  · intro _
    exact State.writeSource_kept

theorem execVectorUnmask_next {w : MsixWrite} {s : State} : ∃ z, execVectorUnmask w s = .next z ∧ Kept s z := by
  unfold execVectorUnmask; refine ⟨_, rfl, ?_⟩
  split
  · exact State.writeMsix_kept
  · refine Kept.ite (fun _ => ?_) (fun _ => ?_)
    · exact Kept.refl _
    · exact State.writeMsix_kept

/-! ### Machine/Hearth.lean -/

theorem execApAllocate_next {port : Fin 5} {s : State} : ∃ z, execApAllocate port s = .next z ∧ Kept s z := by
  unfold execApAllocate; exact ⟨_, rfl, State.agentApCmd_kept⟩

theorem execApAllocatePinned_next {port : Fin 5} {s : State} : ∃ z, execApAllocatePinned port s = .next z ∧ Kept s z := by
  unfold execApAllocatePinned; exact ⟨_, rfl, State.agentApCmd_kept⟩

theorem execApFree_next {port : Fin 5} {s : State} : ∃ z, execApFree port s = .next z ∧ Kept s z := by
  unfold execApFree; exact ⟨_, rfl, State.agentApCmd_kept⟩

theorem execApPin_next {port : Fin 5} {s : State} : ∃ z, execApPin port s = .next z ∧ Kept s z := by
  unfold execApPin; exact ⟨_, rfl, State.agentApCmd_kept⟩

theorem execApUnpin_next {port : Fin 5} {s : State} : ∃ z, execApUnpin port s = .next z ∧ Kept s z := by
  unfold execApUnpin; exact ⟨_, rfl, State.agentApCmd_kept⟩

theorem execApQuery_next {port : Fin 5} {s : State} : ∃ z, execApQuery port s = .next z ∧ Kept s z := by
  unfold execApQuery; exact ⟨_, rfl, State.agentApCmd_kept⟩

theorem execBar2Write_next {offset : BitVec 24} {bytes : List Byte} {s : State} :
    ∃ z, execBar2Write offset bytes s = .next z ∧ Kept s z := by
  unfold execBar2Write; refine ⟨_, rfl, ?_⟩
  refine Kept.trans ?_ (State.hostAccess_kept ?_)
  · exact Kept.refl _
  · intro _
    exact State.bar2Write_kept

theorem execBulkPortBaseCommit_next {v : Reg32} {s : State} : ∃ z, execBulkPortBaseCommit v s = .next z ∧ Kept s z := by
  unfold execBulkPortBaseCommit; refine ⟨_, rfl, ?_⟩
  refine Kept.trans ?_ (State.hostWrite_kept ?_)
  · exact Kept.refl _
  · intro _
    exact State.writeBulkReg_kept

theorem execPageOutDone_next {h : BitVec 32} {frame : Nat} {passed : List (BitVec 32 × Nat)} {s : State} :
    ∃ z, execPageOutDone h frame passed s = .next z ∧ Kept s z := by
  unfold execPageOutDone; exact ⟨_, rfl, State.pageOut_kept⟩

theorem execPageInDone_next {h : BitVec 32} {frame : Nat} {crc : EccResult} {s : State} :
    ∃ z, execPageInDone h frame crc s = .next z ∧ Kept s z := by
  unfold execPageInDone; exact ⟨_, rfl, State.pageIn_kept⟩

theorem execScrubRead_next {h : BitVec 32} {frame : Nat} {ecc : EccResult} {s : State} :
    ∃ z, execScrubRead h frame ecc s = .next z ∧ Kept s z := by
  unfold execScrubRead; exact ⟨_, rfl, State.scrub_kept⟩

theorem execStarvation_next {cls : Fin 5} {s : State} : ∃ z, execStarvation cls s = .next z ∧ Kept s z := by
  unfold execStarvation; refine ⟨_, rfl, ?_⟩
  refine Kept.trans ?_ State.hrtFlag_kept
  exact State.wr_kept

/-! ### Machine/HostCmd.lean -/

theorem execBadCommandPacket_next {s : State} : ∃ z, execBadCommandPacket s = .next z ∧ Kept s z := by
  unfold execBadCommandPacket; refine ⟨_, rfl, ?_⟩
  refine Kept.ite (fun _ => ?_) (fun _ => ?_)
  · split
    · refine Kept.trans ?_ State.bump_kept
      exact State.setQueue_kept
    · refine Kept.ite (fun _ => ?_) (fun _ => ?_)
      · refine Kept.trans ?_ State.bump_kept
        exact State.setQueue_kept
      · refine Kept.ite (fun _ => ?_) (fun _ => ?_)
        · exact Kept.refl _
        · refine Kept.trans ?_ State.endCommand_kept
          exact State.acceptCommand_kept
    · exact Kept.refl _
  · exact Kept.refl _

theorem execIdentify_next {s : State} : ∃ z, execIdentify s = .next z ∧ Kept s z := by
  unfold execIdentify; refine ⟨_, rfl, ?_⟩
  refine Kept.trans ?_ (State.command_kept ?_)
  · exact Kept.refl _
  · intro _ _
    exact State.endCommand_kept

theorem execReset_next {s : State} : ∃ z, execReset s = .next z ∧ Kept s z := by
  unfold execReset; refine ⟨_, rfl, ?_⟩
  refine Kept.trans ?_ (State.command_kept ?_)
  · exact Kept.refl _
  · intro _ _
    refine Kept.ite (fun _ => ?_) (fun _ => ?_)
    · exact State.endCommand_kept
    · refine Kept.trans ?_ State.endCommand_kept
      refine Kept.upd ?_
      exact Kept.refl _

theorem execBootPush_next {s : State} : ∃ z, execBootPush s = .next z ∧ Kept s z := by
  unfold execBootPush; refine ⟨_, rfl, ?_⟩
  refine Kept.ite (fun _ => ?_) (fun _ => ?_)
  · split
    · refine Kept.ite (fun _ => ?_) (fun _ => ?_)
      · refine Kept.trans ?_ State.respond_kept
        exact State.setQueue_kept
      · exact Kept.refl _
    · exact Kept.refl _
  · refine Kept.trans ?_ (State.command_kept ?_)
    · exact Kept.refl _
    · intro _ _
      dsimp only
      refine Kept.ite (fun _ => ?_) (fun _ => ?_)
      · exact State.endCommand_kept
      · refine Kept.upd ?_
        exact Kept.refl _

theorem execStart_next {s : State} : ∃ z, execStart s = .next z ∧ Held s z := by
  unfold execStart; exact ⟨_, rfl, State.command_held fun _ _ => endWith_held State.start_held⟩

theorem execStop_next {s : State} : ∃ z, execStop s = .next z ∧ Held s z := by
  unfold execStop; exact ⟨_, rfl, State.command_held fun _ _ => endWith_held State.stop_held⟩

theorem execHold_next {s : State} : ∃ z, execHold s = .next z ∧ Held s z := by
  unfold execHold; exact ⟨_, rfl, State.command_held fun _ _ => endWith_held State.hold_held⟩

theorem execResume_next {s : State} : ∃ z, execResume s = .next z ∧ Held s z := by
  unfold execResume; exact ⟨_, rfl, State.command_held fun _ _ => endWith_held State.resume_held⟩

theorem execHrtAlloc_next {s : State} : ∃ z, execHrtAlloc s = .next z ∧ Kept s z := by
  unfold execHrtAlloc; exact ⟨_, rfl, State.hearthCmd_kept⟩

theorem execHrtAllocPin_next {s : State} : ∃ z, execHrtAllocPin s = .next z ∧ Kept s z := by
  unfold execHrtAllocPin; exact ⟨_, rfl, State.hearthCmd_kept⟩

theorem execHrtFree_next {s : State} : ∃ z, execHrtFree s = .next z ∧ Kept s z := by
  unfold execHrtFree; exact ⟨_, rfl, State.hearthCmd_kept⟩

theorem execHrtPin_next {s : State} : ∃ z, execHrtPin s = .next z ∧ Kept s z := by
  unfold execHrtPin; exact ⟨_, rfl, State.hearthCmd_kept⟩

theorem execHrtUnpin_next {s : State} : ∃ z, execHrtUnpin s = .next z ∧ Kept s z := by
  unfold execHrtUnpin; exact ⟨_, rfl, State.hearthCmd_kept⟩

theorem execHrtQuery_next {s : State} : ∃ z, execHrtQuery s = .next z ∧ Kept s z := by
  unfold execHrtQuery; exact ⟨_, rfl, State.hearthCmd_kept⟩

theorem execTimeRestep_next {s : State} : ∃ z, execTimeRestep s = .next z ∧ Kept s z := by
  unfold execTimeRestep; refine ⟨_, rfl, ?_⟩
  refine Kept.trans ?_ (State.command_kept ?_)
  · exact Kept.refl _
  · intro _ _
    refine Kept.ite (fun _ => ?_) (fun _ => ?_)
    · refine Kept.trans ?_ State.endCommand_kept
      exact State.setTim_kept
    · exact State.endCommand_kept

theorem execSnuff_next {s : State} : ∃ z, execSnuff s = .next z ∧ Kept s z := by
  unfold execSnuff; refine ⟨_, rfl, ?_⟩
  refine Kept.trans ?_ (State.command_kept ?_)
  · exact Kept.refl _
  · intro _ _
    dsimp only
    refine Kept.ite (fun _ => ?_) (fun _ => ?_)
    · exact State.endCommand_kept
    · refine Kept.trans ?_ State.endCommand_kept
      exact State.snuffQueue_kept

theorem execAttest_next {s : State} : ∃ z, execAttest s = .next z ∧ Kept s z := by
  unfold execAttest; refine ⟨_, rfl, ?_⟩
  refine Kept.trans ?_ (State.command_kept ?_)
  · exact Kept.refl _
  · intro _ _
    split
    · exact State.endCommand_kept
    · exact State.secRequest_kept

theorem execAttestDone_next {s : State} : ∃ z, execAttestDone s = .next z ∧ Kept s z := by
  unfold execAttestDone; exact ⟨_, rfl, State.attestDone_kept⟩

theorem execSvcVersion_next {s : State} : ∃ z, execSvcVersion s = .next z ∧ Kept s z := by
  unfold execSvcVersion; refine ⟨_, rfl, ?_⟩
  refine Kept.trans ?_ (State.serve_kept ?_)
  · exact Kept.refl _
  · intro _ _ _
    refine Kept.ite (fun _ => ?_) (fun _ => ?_)
    · exact State.endService_kept
    · exact State.endService_kept

theorem execSvcDevstate_next {s : State} : ∃ z, execSvcDevstate s = .next z ∧ Held s z := by
  unfold execSvcDevstate; refine ⟨_, rfl, ?_⟩
  refine Held.trans ?_ (State.serve_held ?_)
  · exact Held.refl _
  · intro _ _ _
    dsimp only
    split
    · refine Held.trans ?_ (Kept.toHeld State.endService_kept)
      exact State.hold_held
    · refine Held.trans ?_ (Kept.toHeld State.endService_kept)
      exact State.resume_held
    · refine Held.trans ?_ (Kept.toHeld State.endService_kept)
      exact State.stop_held
    · exact Kept.toHeld State.endService_kept

theorem execSvcRoute_next {s : State} : ∃ z, execSvcRoute s = .next z ∧ Kept s z := by
  unfold execSvcRoute; refine ⟨_, rfl, ?_⟩
  refine Kept.trans ?_ (State.serve_kept ?_)
  · exact Kept.refl _
  · intro _ _ _
    dsimp only
    refine Kept.ite (fun _ => ?_) (fun _ => ?_)
    · exact State.endService_kept
    · refine Kept.ite (fun _ => ?_) (fun _ => ?_)
      · exact State.endService_kept
      · refine Kept.trans ?_ State.endService_kept
        exact State.writeSource_kept

theorem execSvcNotify_next {s : State} : ∃ z, execSvcNotify s = .next z ∧ Kept s z := by
  unfold execSvcNotify; refine ⟨_, rfl, ?_⟩
  refine Kept.trans ?_ (State.serve_kept ?_)
  · exact Kept.refl _
  · intro _ _ _
    refine Kept.ite (fun _ => ?_) (fun _ => ?_)
    · refine Kept.trans ?_ State.endService_kept
      exact State.pushPacket_kept
    · exact State.endService_kept

/-! ### Machine/Intake.lean -/

theorem execLineTimeout_next {c : Fin 64} {s : State} : ∃ z, execLineTimeout c s = .next z ∧ Kept s z := by
  unfold execLineTimeout; refine ⟨_, rfl, ?_⟩
  split
  · refine Kept.ite (fun _ => ?_) (fun _ => ?_)
    · exact State.endLine_kept
    · exact Kept.refl _
  · exact Kept.refl _

theorem execRingWriteDone_next {c : Fin 64} {s : State} : ∃ z, execRingWriteDone c s = .next z ∧ Kept s z := by
  unfold execRingWriteDone; exact ⟨_, rfl, State.ringWritten_kept⟩

theorem execContextEnable_next {c : Fin 64} {v : Reg32} {s : State} : ∃ z, execContextEnable c v s = .next z ∧ Kept s z := by
  unfold execContextEnable; refine ⟨_, rfl, ?_⟩
  refine Kept.trans ?_ (State.hostWrite_kept ?_)
  · exact Kept.refl _
  · intro _
    refine Kept.ite (fun _ => ?_) (fun _ => ?_)
    · exact State.writeCtxCfg_kept
    · exact Kept.refl _

theorem execContextDisable_next {c : Fin 64} {v : Reg32} {s : State} : ∃ z, execContextDisable c v s = .next z ∧ Kept s z := by
  unfold execContextDisable; refine ⟨_, rfl, ?_⟩
  refine Kept.trans ?_ (State.hostWrite_kept ?_)
  · exact Kept.refl _
  · intro _
    refine Kept.ite (fun _ => ?_) (fun _ => ?_)
    · exact Kept.refl _
    · exact State.writeCtxCfg_kept

theorem execReinjectGo_next {v : Reg32} {s : State} : ∃ z, execReinjectGo v s = .next z ∧ Kept s z := by
  unfold execReinjectGo; refine ⟨_, rfl, ?_⟩
  refine Kept.trans ?_ (State.hostWrite_kept ?_)
  · exact Kept.refl _
  · intro _
    refine Kept.ite (fun _ => ?_) (fun _ => ?_)
    · exact State.writeReinjCmd_kept
    · exact Kept.refl _

theorem execReinjectAbort_next {v : Reg32} {s : State} : ∃ z, execReinjectAbort v s = .next z ∧ Kept s z := by
  unfold execReinjectAbort; refine ⟨_, rfl, ?_⟩
  refine Kept.trans ?_ (State.hostWrite_kept ?_)
  · exact Kept.refl _
  · intro _
    refine Kept.ite (fun _ => ?_) (fun _ => ?_)
    · exact State.writeReinjCmd_kept
    · exact Kept.refl _

theorem execReinjectLine_next {c : Fin 64} {ecc : EccResult} {s : State} :
    ∃ z, execReinjectLine c s ecc = .next z ∧ Kept s z := by
  unfold execReinjectLine; exact ⟨_, rfl, State.reinjectLine_kept⟩

theorem execReinjectDone_next {s : State} : ∃ z, execReinjectDone s = .next z ∧ Kept s z := by
  unfold execReinjectDone; refine ⟨_, rfl, ?_⟩
  split
  · exact Kept.refl _
  · dsimp only
    refine Kept.ite (fun _ => ?_) (fun _ => ?_)
    · exact Kept.refl _
    · refine Kept.trans ?_ State.reinjEnd_kept
      refine Kept.trans ?_ (upTo_kept fun _ _ => ?_)
      · exact State.setInt_kept
      · exact State.syncLane_kept

/-! ### Machine/Journal.lean -/

theorem execJournalWrite_next {n : Nat} {r : BlockWrite} {s : State} : ∃ z, execJournalWrite n r s = .next z ∧ Kept s z := by
  unfold execJournalWrite; exact ⟨_, rfl, State.journalWrite_kept⟩

theorem execAckCheckpoint_next {s : State} : ∃ z, execAckCheckpoint s = .next z ∧ Kept s z := by
  unfold execAckCheckpoint; refine ⟨_, rfl, ?_⟩
  refine Kept.ite (fun _ => ?_) (fun _ => ?_)
  · refine Kept.trans ?_ (upTo_kept fun _ _ => ?_)
    · refine Kept.upd ?_
      exact Kept.refl _
    · exact State.checkpoint_kept
  · exact Kept.refl _

/-! ### Machine/Lanes.lean -/

theorem execMailboxRead_next {p : Fin 16} {v : Reg32} {s : State} : ∃ z, execMailboxRead p v s = .next z ∧ Kept s z := by
  unfold execMailboxRead; refine ⟨_, rfl, ?_⟩
  refine Kept.trans ?_ (State.hostWrite_kept ?_)
  · exact Kept.refl _
  · intro _
    refine Kept.ite (fun _ => ?_) (fun _ => ?_)
    · exact Kept.refl _
    · exact State.writeCcCmd_kept

theorem execMailboxWrite_next {p : Fin 16} {v : Reg32} {s : State} : ∃ z, execMailboxWrite p v s = .next z ∧ Kept s z := by
  unfold execMailboxWrite; refine ⟨_, rfl, ?_⟩
  refine Kept.trans ?_ (State.hostWrite_kept ?_)
  · exact Kept.refl _
  · intro _
    refine Kept.ite (fun _ => ?_) (fun _ => ?_)
    · exact State.writeCcCmd_kept
    · exact Kept.refl _

theorem execPortStart_next {p : Fin 16} {v : Reg32} {s : State} : ∃ z, execPortStart p v s = .next z ∧ Kept s z := by
  unfold execPortStart; refine ⟨_, rfl, ?_⟩
  refine Kept.trans ?_ (State.hostWrite_kept ?_)
  · exact Kept.refl _
  · intro _
    refine Kept.ite (fun _ => ?_) (fun _ => ?_)
    · exact State.writePortCmd_kept
    · exact Kept.refl _

theorem execPortStop_next {p : Fin 16} {v : Reg32} {s : State} : ∃ z, execPortStop p v s = .next z ∧ Kept s z := by
  unfold execPortStop; refine ⟨_, rfl, ?_⟩
  refine Kept.trans ?_ (State.hostWrite_kept ?_)
  · exact Kept.refl _
  · intro _
    refine Kept.ite (fun _ => ?_) (fun _ => ?_)
    · exact State.writePortCmd_kept
    · exact Kept.refl _

theorem execPortRestart_next {p : Fin 16} {v : Reg32} {s : State} : ∃ z, execPortRestart p v s = .next z ∧ Kept s z := by
  unfold execPortRestart; refine ⟨_, rfl, ?_⟩
  refine Kept.trans ?_ (State.hostWrite_kept ?_)
  · exact Kept.refl _
  · intro _
    refine Kept.ite (fun _ => ?_) (fun _ => ?_)
    · exact State.writePortCmd_kept
    · exact Kept.refl _

theorem execPortCfgWrite_next {p : Fin 16} {v : Reg32} {s : State} : ∃ z, execPortCfgWrite p v s = .next z ∧ Kept s z := by
  unfold execPortCfgWrite; refine ⟨_, rfl, ?_⟩
  refine Kept.trans ?_ (State.hostWrite_kept ?_)
  · exact Kept.refl _
  · intro _
    exact State.writePortCfg_kept

theorem execControlAck_next {link : Fin 64} {ack : ControlAck} {s : State} :
    ∃ z, execControlAck link ack s = .next z ∧ Kept s z := by
  unfold execControlAck; exact ⟨_, rfl, State.controlAck_kept⟩

theorem execControlAckTimeout_next {link : Fin 64} {s : State} : ∃ z, execControlAckTimeout link s = .next z ∧ Kept s z := by
  unfold execControlAckTimeout; refine ⟨_, rfl, ?_⟩
  refine Kept.ite (fun _ => ?_) (fun _ => ?_)
  · split
    · refine Kept.ite (fun _ => ?_) (fun _ => ?_)
      · exact State.retryStep_kept
      · exact Kept.refl _
    · exact Kept.refl _
  · split
    · refine Kept.ite (fun _ => ?_) (fun _ => ?_)
      · exact State.retryMail_kept
      · exact Kept.refl _
    · exact Kept.refl _

theorem execLaneLock_next {lane : Fin 64} {skew : BitVec 8} {s : State} :
    ∃ z, execLaneLock lane skew s = .next z ∧ Kept s z := by
  unfold execLaneLock; refine ⟨_, rfl, ?_⟩
  refine Kept.ite (fun _ => ?_) (fun _ => ?_)
  · exact Kept.refl _
  · exact State.gainLock_kept

theorem execBlockLockGain_next {lane : Fin 64} {skew : BitVec 8} {s : State} :
    ∃ z, execBlockLockGain lane skew s = .next z ∧ Kept s z := by
  unfold execBlockLockGain; refine ⟨_, rfl, ?_⟩
  refine Kept.ite (fun _ => ?_) (fun _ => ?_)
  · exact State.gainLock_kept
  · exact Kept.refl _

theorem execBlockLockLoss_next {lane : Fin 64} {s : State} : ∃ z, execBlockLockLoss lane s = .next z ∧ Kept s z := by
  unfold execBlockLockLoss; refine ⟨_, rfl, ?_⟩
  refine Kept.ite (fun _ => ?_) (fun _ => ?_)
  · dsimp only
    refine Kept.trans ?_ State.setFld_kept
    refine Kept.trans ?_ State.setFld_kept
    refine Kept.upd ?_
    exact Kept.refl _
  · exact Kept.refl _

theorem execDiscoveryTimeout_next {link : Fin 64} {s : State} : ∃ z, execDiscoveryTimeout link s = .next z ∧ Kept s z := by
  unfold execDiscoveryTimeout; refine ⟨_, rfl, ?_⟩
  refine Kept.ite (fun _ => ?_) (fun _ => ?_)
  · exact State.linkDown_kept
  · exact Kept.refl _

theorem execRetuneTimeout_next {link : Fin 64} {s : State} : ∃ z, execRetuneTimeout link s = .next z ∧ Kept s z := by
  unfold execRetuneTimeout; refine ⟨_, rfl, ?_⟩
  dsimp only
  refine Kept.ite (fun _ => ?_) (fun _ => ?_)
  · exact State.linkDiscover_kept
  · exact Kept.refl _

theorem execWimenSwitch_next {link : Fin 64} {s : State} : ∃ z, execWimenSwitch link s = .next z ∧ Kept s z := by
  unfold execWimenSwitch; refine ⟨_, rfl, ?_⟩
  dsimp only
  refine Kept.ite (fun _ => ?_) (fun _ => ?_)
  · refine Kept.trans ?_ State.putLink_kept
    refine Kept.trans ?_ State.selectCtle_kept
    exact State.setRxRate_kept
  · exact Kept.refl _

theorem execWimenLockTimeout_next {link : Fin 64} {s : State} : ∃ z, execWimenLockTimeout link s = .next z ∧ Kept s z := by
  unfold execWimenLockTimeout; refine ⟨_, rfl, ?_⟩
  dsimp only
  refine Kept.ite (fun _ => ?_) (fun _ => ?_)
  · exact State.wimenFails_kept
  · exact Kept.refl _

theorem execLinkLoss_next {lane : Fin 64} {signal : Bool} {s : State} :
    ∃ z, execLinkLoss lane s signal = .next z ∧ Kept s z := by
  unfold execLinkLoss; refine ⟨_, rfl, ?_⟩
  refine Kept.ite (fun _ => ?_) (fun _ => ?_)
  · exact Kept.refl _
  · refine Kept.trans ?_ State.loseLink_kept
    refine Kept.trans ?_ State.setFld_kept
    exact State.unlockLane_kept

theorem execResumeTimeout_next {link : Fin 64} {s : State} : ∃ z, execResumeTimeout link s = .next z ∧ Kept s z := by
  unfold execResumeTimeout; refine ⟨_, rfl, ?_⟩
  dsimp only
  refine Kept.ite (fun _ => ?_) (fun _ => ?_)
  · exact State.linkDiscover_kept
  · exact Kept.refl _

theorem execStreamPacket_next {lane : Fin 64} {p : StreamPacket} {s : State} :
    ∃ z, execStreamPacket lane p s = .next z ∧ Kept s z := by
  unfold execStreamPacket; exact ⟨_, rfl, State.streamPacket_kept⟩

theorem execCameraEventPacket_next {lane : Fin 64} {words : List Word} {codeErrors : Nat} {tap : Fin 32} {s : State} :
    ∃ z, execCameraEventPacket lane words tap s codeErrors = .next z ∧ Kept s z := by
  unfold execCameraEventPacket; refine ⟨_, rfl, ?_⟩
  dsimp only
  refine Kept.ite (fun _ => ?_) (fun _ => ?_)
  · refine Kept.ite (fun _ => ?_) (fun _ => ?_)
    · refine Kept.trans ?_ State.pushPacket_kept
      exact State.itemErrors_kept
    · refine Kept.trans ?_ State.portFlag_kept
      exact State.itemErrors_kept
  · exact State.itemErrors_kept

theorem execTriggerAckPacket_next {lane : Fin 64} {codeErrors : Nat} {s : State} :
    ∃ z, execTriggerAckPacket lane s codeErrors = .next z ∧ Kept s z := by
  unfold execTriggerAckPacket; refine ⟨_, rfl, ?_⟩
  dsimp only
  refine Kept.ite (fun _ => ?_) (fun _ => ?_)
  · refine Kept.trans ?_ State.bump_kept
    exact State.itemErrors_kept
  · exact State.itemErrors_kept

theorem execUnsupportedPacket_next {lane : Fin 64} {codeErrors : Nat} {s : State} :
    ∃ z, execUnsupportedPacket lane s codeErrors = .next z ∧ Kept s z := by
  unfold execUnsupportedPacket; refine ⟨_, rfl, ?_⟩
  dsimp only
  refine Kept.ite (fun _ => ?_) (fun _ => ?_)
  · refine Kept.trans ?_ State.portFlag_kept
    exact State.itemErrors_kept
  · exact State.itemErrors_kept

theorem execLaneMarker_next {lane : Fin 64} {count : BitVec 40} {skew : BitVec 8} {s : State} :
    ∃ z, execLaneMarker lane count skew s = .next z ∧ Kept s z := by
  unfold execLaneMarker; exact ⟨_, rfl, State.laneMarker_kept⟩

theorem execDeskewMove_next {lane : Fin 64} {s : State} : ∃ z, execDeskewMove lane s = .next z ∧ Kept s z := by
  unfold execDeskewMove; refine ⟨_, rfl, ?_⟩
  dsimp only
  refine Kept.ite (fun _ => ?_) (fun _ => ?_)
  · refine Kept.trans ?_ State.journal_kept
    exact State.setTmp_kept
  · exact Kept.refl _

theorem execDfeUpdate_next {lane : Fin 64} {ePos d1 d2 d3 d4 d5 : Bool} {s : State} :
    ∃ z, execDfeUpdate lane ePos d1 d2 d3 d4 d5 s = .next z ∧ Kept s z := by
  unfold execDfeUpdate; refine ⟨_, rfl, ?_⟩
  dsimp only
  refine Kept.ite (fun _ => ?_) (fun _ => ?_)
  · exact State.wr_kept
  · exact Kept.refl _

theorem execEyeScanStart_next {lane : Fin 64} {v : Reg32} {s : State} : ∃ z, execEyeScanStart lane v s = .next z ∧ Kept s z := by
  unfold execEyeScanStart; refine ⟨_, rfl, ?_⟩
  refine Kept.trans ?_ (State.hostWrite_kept ?_)
  · exact Kept.refl _
  · intro _
    refine Kept.ite (fun _ => ?_) (fun _ => ?_)
    · exact State.writeEyeCtrl_kept
    · exact Kept.refl _

theorem execEyeScanDone_next {lane : Fin 64} {errors : Nat} {s : State} :
    ∃ z, execEyeScanDone lane errors s = .next z ∧ Kept s z := by
  unfold execEyeScanDone; refine ⟨_, rfl, ?_⟩
  dsimp only
  refine Kept.ite (fun _ => ?_) (fun _ => ?_)
  · exact Kept.refl _
  · refine Kept.ite (fun _ => ?_) (fun _ => ?_)
    · refine Kept.trans ?_ State.wr_kept
      refine Kept.trans ?_ State.setFld_kept
      refine Kept.upd ?_
      exact Kept.refl _
    · exact Kept.refl _

/-! ### Machine/Loader.lean -/

theorem execLoad_next {s : State} : ∃ z, execLoad s = .next z ∧ Kept s z := by
  unfold execLoad; refine ⟨_, rfl, ?_⟩
  refine Kept.trans ?_ (State.command_kept ?_)
  · exact Kept.refl _
  · intro _ _
    dsimp only
    split
    · exact State.endCommand_kept
    · refine Kept.ite (fun _ => ?_) (fun _ => ?_)
      · exact State.endCommand_kept
      · exact State.startLoad_kept

theorem execRecipeVerified_next {signatureOk : Bool} {s : State} :
    ∃ z, execRecipeVerified signatureOk s = .next z ∧ Kept s z := by
  unfold execRecipeVerified; exact ⟨_, rfl, State.recipeVerified_kept⟩

theorem execLoadDrainDone_next {s : State} : ∃ z, execLoadDrainDone s = .next z ∧ Held s z := by
  unfold execLoadDrainDone; refine ⟨_, rfl, ?_⟩
  split
  · refine Held.ite (fun _ => ?_) (fun _ => ?_)
    · exact State.loadDrained_held
    · exact Held.refl _
  · exact Held.refl _

theorem execLoadDrainTimeout_next {s : State} : ∃ z, execLoadDrainTimeout s = .next z ∧ Kept s z := by
  unfold execLoadDrainTimeout; refine ⟨_, rfl, ?_⟩
  split
  · refine Kept.ite (fun _ => ?_) (fun _ => ?_)
    · refine Kept.trans ?_ State.endLoad_kept
      refine Kept.trans ?_ (Kept.foldl (fun _ _ => ?_) _ _)
      · exact Kept.refl _
      · exact State.resumeCore_kept
    · exact Kept.refl _
  · exact Kept.refl _

theorem execLoadLinksUp_next {s : State} : ∃ z, execLoadLinksUp s = .next z ∧ Held s z := by
  unfold execLoadLinksUp; refine ⟨_, rfl, ?_⟩
  split
  · refine Held.ite (fun _ => ?_) (fun _ => ?_)
    · exact State.loadLinksUp_held
    · exact Held.refl _
  · exact Held.refl _

theorem execLinkWaitTimeout_next {s : State} : ∃ z, execLinkWaitTimeout s = .next z ∧ Held s z := by
  unfold execLinkWaitTimeout; refine ⟨_, rfl, ?_⟩
  split
  · refine Held.ite (fun _ => ?_) (fun _ => ?_)
    · exact State.failLoad_held
    · exact Held.refl _
  · exact Held.refl _

theorem execUnload_next {s : State} : ∃ z, execUnload s = .next z ∧ Kept s z := by
  unfold execUnload; refine ⟨_, rfl, ?_⟩
  refine Kept.trans ?_ (State.command_kept ?_)
  · exact Kept.refl _
  · intro _ _
    exact State.setRcp_kept

theorem execUnloadDrainDone_next {s : State} : ∃ z, execUnloadDrainDone s = .next z ∧ Held s z := by
  unfold execUnloadDrainDone; refine ⟨_, rfl, ?_⟩
  split
  · refine Held.ite (fun _ => ?_) (fun _ => ?_)
    · refine Held.trans ?_ (Kept.toHeld State.endLoad_kept)
      refine Held.trans ?_ State.enter_held
      refine Held.trans ?_ (Kept.toHeld State.emptyPipeline_kept)
      refine Held.trans ?_ (Kept.toHeld State.clearRecipe_kept)
      refine Held.trans ?_ (Kept.toHeld State.freeRecipeTags_kept)
      exact Kept.toHeld State.haltRecipe_kept
    · exact Held.refl _
  · exact Held.refl _

/-! ### Machine/OutStream.lean -/

theorem execStreamApply_next {u : Fin 8} {v : Reg32} {s : State} : ∃ z, execStreamApply u v s = .next z ∧ Kept s z := by
  unfold execStreamApply; refine ⟨_, rfl, ?_⟩
  refine Kept.trans ?_ (State.hostWrite_kept ?_)
  · exact Kept.refl _
  · intro _
    refine Kept.ite (fun _ => ?_) (fun _ => ?_)
    · exact State.writeOstCmd_kept
    · exact Kept.refl _

theorem execStreamStop_next {u : Fin 8} {v : Reg32} {s : State} : ∃ z, execStreamStop u v s = .next z ∧ Kept s z := by
  unfold execStreamStop; refine ⟨_, rfl, ?_⟩
  refine Kept.trans ?_ (State.hostWrite_kept ?_)
  · exact Kept.refl _
  · intro _
    refine Kept.ite (fun _ => ?_) (fun _ => ?_)
    · exact State.writeOstCmd_kept
    · exact Kept.refl _

/-! ### Machine/Plant.lean -/

theorem execDatagramSend_next {k : Fin 2} {tap : Fin 32} {s : State} : ∃ z, execDatagramSend k tap s = .next z ∧ Kept s z := by
  unfold execDatagramSend; exact ⟨_, rfl, State.sendDatagram_kept⟩

theorem execArpRequest_next {k : Fin 2} {ip : BitVec 32} {vlan : Option (BitVec 12)} {s : State} :
    ∃ z, execArpRequest k ip vlan s = .next z ∧ Kept s z := by
  unfold execArpRequest; refine ⟨_, rfl, ?_⟩
  refine Kept.ite (fun _ => ?_) (fun _ => ?_)
  · dsimp only
    refine Kept.ite (fun _ => ?_) (fun _ => ?_)
    · refine Kept.trans ?_ State.emit_kept
      exact State.rxFrame_kept
    · refine Kept.trans ?_ State.discardFrame_kept
      exact State.rxFrame_kept
  · exact Kept.refl _

theorem execEchoRequest_next {k : Fin 2} {ip : BitVec 32} {vlan : Option (BitVec 12)} {s : State} :
    ∃ z, execEchoRequest k ip vlan s = .next z ∧ Kept s z := by
  unfold execEchoRequest; refine ⟨_, rfl, ?_⟩
  refine Kept.ite (fun _ => ?_) (fun _ => ?_)
  · dsimp only
    refine Kept.ite (fun _ => ?_) (fun _ => ?_)
    · refine Kept.trans ?_ State.emit_kept
      exact State.rxFrame_kept
    · refine Kept.trans ?_ State.discardFrame_kept
      exact State.rxFrame_kept
  · exact Kept.refl _

theorem execFrameDiscard_next {k : Fin 2} {f : PlantFrame} {s : State} : ∃ z, execFrameDiscard k f s = .next z ∧ Kept s z := by
  unfold execFrameDiscard; refine ⟨_, rfl, ?_⟩
  refine Kept.ite (fun _ => ?_) (fun _ => ?_)
  · refine Kept.trans ?_ State.discardFrame_kept
    exact State.rxFrame_kept
  · exact Kept.refl _

theorem execPlantLinkChange_next {k : Fin 2} {up : Bool} {s : State} : ∃ z, execPlantLinkChange k up s = .next z ∧ Kept s z := by
  unfold execPlantLinkChange; refine ⟨_, rfl, ?_⟩
  refine Kept.ite (fun _ => ?_) (fun _ => ?_)
  · exact Kept.refl _
  · refine Kept.trans ?_ State.timFlag_kept
    exact State.setFld_kept

/-! ### Machine/Quench.lean -/

theorem execQuench_next {s : State} : ∃ z, execQuench s = .next z ∧ Held s z := by
  unfold execQuench; refine ⟨_, rfl, ?_⟩
  refine Held.trans ?_ (State.hostWrite_held ?_)
  · exact Held.refl _
  · intro _
    exact State.setQuench_held

theorem execQuenchRelease_next {s : State} : ∃ z, execQuenchRelease s = .next z ∧ Kept s z := by
  unfold execQuenchRelease; refine ⟨_, rfl, ?_⟩
  refine Kept.trans ?_ (State.hostWrite_kept ?_)
  · exact Kept.refl _
  · intro _
    exact State.releaseQuench_kept

theorem execQuenchNAssert_next {asserted : Bool} {s : State} : ∃ z, execQuenchNAssert asserted s = .next z ∧ Held s z := by
  unfold execQuenchNAssert; refine ⟨_, rfl, ?_⟩
  dsimp only
  refine Held.ite (fun _ => ?_) (fun _ => ?_)
  · refine Held.trans ?_ State.setQuench_held
    refine Held.upd ?_
    exact Held.refl _
  · refine Held.upd ?_
    exact Held.refl _

theorem execQuenchDatagram_next {k : Fin 2} {f : PlantFrame} {s : State} :
    ∃ z, execQuenchDatagram k f s = .next z ∧ Held s z := by
  unfold execQuenchDatagram; refine ⟨_, rfl, ?_⟩
  refine Held.ite (fun _ => ?_) (fun _ => ?_)
  · dsimp only
    refine Held.ite (fun _ => ?_) (fun _ => ?_)
    · refine Held.trans ?_ State.setQuench_held
      refine Held.trans ?_ (Kept.toHeld State.timFlag_kept)
      refine Held.trans ?_ (Kept.toHeld State.bump_kept)
      exact Kept.toHeld State.rxFrame_kept
    · refine Held.trans ?_ (Kept.toHeld State.timFlag_kept)
      refine Held.trans ?_ (Kept.toHeld State.bump_kept)
      exact Kept.toHeld State.rxFrame_kept
  · exact Held.refl _

/-! ### Machine/Queues.lean -/

theorem execQueueEnable_next {q : Fin 64} {v : Reg32} {s : State} : ∃ z, execQueueEnable q v s = .next z ∧ Kept s z := by
  unfold execQueueEnable; refine ⟨_, rfl, ?_⟩
  refine Kept.trans ?_ (State.hostWrite_kept ?_)
  · exact Kept.refl _
  · intro _
    refine Kept.ite (fun _ => ?_) (fun _ => ?_)
    · exact State.hostQueueCfg_kept
    · exact Kept.refl _

theorem execQueueDisable_next {q : Fin 64} {v : Reg32} {s : State} : ∃ z, execQueueDisable q v s = .next z ∧ Kept s z := by
  unfold execQueueDisable; refine ⟨_, rfl, ?_⟩
  refine Kept.trans ?_ (State.hostWrite_kept ?_)
  · exact Kept.refl _
  · intro _
    refine Kept.ite (fun _ => ?_) (fun _ => ?_)
    · exact State.hostQueueCfg_kept
    · exact Kept.refl _

theorem execQueueSnuff_next {q : Fin 64} {v : Reg32} {s : State} : ∃ z, execQueueSnuff q v s = .next z ∧ Kept s z := by
  unfold execQueueSnuff; refine ⟨_, rfl, ?_⟩
  refine Kept.trans ?_ (State.hostWrite_kept ?_)
  · exact Kept.refl _
  · intro _
    exact State.writeQueueCtrl_kept

/-! ### Machine/Reset.lean -/

theorem execPowerUp_next {s : State} : ∃ z, execPowerUp s = .next z ∧ Held s z := by
  unfold execPowerUp; refine ⟨_, rfl, ?_⟩
  refine Held.ite (fun _ => ?_) (fun _ => ?_)
  · exact State.porReset_held
  · exact Held.refl _

theorem execPowerDown_next {s : State} : ∃ z, execPowerDown s = .next z ∧ Held s z := by
  unfold execPowerDown; exact ⟨_, rfl, State.porReset_held⟩

theorem execUndervoltage_next {_rail : Fin 13} {s : State} : ∃ z, execUndervoltage _rail s = .next z ∧ Held s z := by
  unfold execUndervoltage; exact ⟨_, rfl, State.porReset_held⟩

theorem execSupplyWarn_next {rail : Fin 13} {below : Bool} {s : State} :
    ∃ z, execSupplyWarn rail below s = .next z ∧ Kept s z := by
  unfold execSupplyWarn; refine ⟨_, rfl, ?_⟩
  refine Kept.ite (fun _ => ?_) (fun _ => ?_)
  · exact Kept.refl _
  · dsimp only
    refine Kept.ite (fun _ => ?_) (fun _ => ?_)
    · refine Kept.ite (fun _ => ?_) (fun _ => ?_)
      · exact Kept.refl _
      · refine Kept.trans ?_ State.blwFlag_kept
        exact State.wr_kept
    · exact State.wr_kept

theorem execPorNAssert_next {s : State} : ∃ z, execPorNAssert s = .next z ∧ Held s z := by
  unfold execPorNAssert; refine ⟨_, rfl, ?_⟩
  refine Held.ite (fun _ => ?_) (fun _ => ?_)
  · exact Held.refl _
  · exact State.porReset_held

theorem execPorNDeassert_next {straps : BitVec 2} {s : State} : ∃ z, execPorNDeassert straps s = .next z ∧ Kept s z := by
  unfold execPorNDeassert; refine ⟨_, rfl, ?_⟩
  refine Kept.ite (fun _ => ?_) (fun _ => ?_)
  · dsimp only
    refine Kept.trans ?_ State.setFld_kept
    refine Kept.upd ?_
    exact Kept.refl _
  · exact Kept.refl _

theorem execPerstNAssert_next {s : State} : ∃ z, execPerstNAssert s = .next z ∧ Kept s z := by
  unfold execPerstNAssert; refine ⟨_, rfl, ?_⟩
  refine Kept.trans ?_ State.linkOnly_kept
  refine Kept.upd ?_
  exact Kept.refl _

theorem execConventionalReset_next {s : State} : ∃ z, execConventionalReset s = .next z ∧ Kept s z := by
  unfold execConventionalReset; exact ⟨_, rfl, State.linkOnly_kept⟩

theorem execFunctionLevelReset_next {s : State} : ∃ z, execFunctionLevelReset s = .next z ∧ Kept s z := by
  unfold execFunctionLevelReset; exact ⟨_, rfl, State.linkOnly_kept⟩

theorem execFaultReset_next {s : State} : ∃ z, execFaultReset s = .next z ∧ Held s z := by
  unfold execFaultReset; refine ⟨_, rfl, ?_⟩
  split
  · refine Held.ite (fun _ => ?_) (fun _ => ?_)
    · exact State.deviceReset_held
    · exact Held.refl _
  · exact Held.refl _

theorem execDeviceReset_next {v : Reg32} {s : State} : ∃ z, execDeviceReset v s = .next z ∧ Held s z := by
  unfold execDeviceReset; refine ⟨_, rfl, ?_⟩
  refine Held.trans ?_ (State.hostWrite_held ?_)
  · exact Held.refl _
  · intro _
    exact State.writeBlwCmd_held

theorem execResetAfterResponse_next {s : State} : ∃ z, execResetAfterResponse s = .next z ∧ Held s z := by
  unfold execResetAfterResponse; refine ⟨_, rfl, ?_⟩
  split
  · refine Held.ite (fun _ => ?_) (fun _ => ?_)
    · exact State.deviceReset_held
    · exact Held.refl _
  · exact Held.refl _

/-! ### Machine/Rings.lean -/

theorem execDoorbell_next {d : Fin 64} {size : Nat} {v : Reg32} {s : State} :
    ∃ z, execDoorbell d v s size = .next z ∧ Kept s z := by
  unfold execDoorbell; refine ⟨_, rfl, ?_⟩
  refine Kept.ite (fun _ => ?_) (fun _ => ?_)
  · exact Kept.refl _
  · refine Kept.ite (fun _ => ?_) (fun _ => ?_)
    · exact State.doorbell_kept
    · exact State.hstFlag_kept

theorem execRingEnable_next {d : Fin 64} {v : Reg32} {s : State} : ∃ z, execRingEnable d v s = .next z ∧ Kept s z := by
  unfold execRingEnable; refine ⟨_, rfl, ?_⟩
  refine Kept.trans ?_ (State.hostWrite_kept ?_)
  · exact Kept.refl _
  · intro _
    refine Kept.ite (fun _ => ?_) (fun _ => ?_)
    · exact State.writeRingCfg_kept
    · exact Kept.refl _

theorem execRingDisable_next {d : Fin 64} {v : Reg32} {s : State} : ∃ z, execRingDisable d v s = .next z ∧ Kept s z := by
  unfold execRingDisable; refine ⟨_, rfl, ?_⟩
  refine Kept.trans ?_ (State.hostWrite_kept ?_)
  · exact Kept.refl _
  · intro _
    refine Kept.ite (fun _ => ?_) (fun _ => ?_)
    · exact State.writeRingCfg_kept
    · exact Kept.refl _

theorem execQueueInPush_next {d : Fin 64} {len : Word} {ws : List Word} {pcieOk : Bool} {s : State} :
    ∃ z, execQueueInPush d len ws pcieOk s = .next z ∧ Kept s z := by
  unfold execQueueInPush; exact ⟨_, rfl, State.queueInPush_kept⟩

theorem execQueueOutMove_next {d : Fin 64} {ecc : EccResult} {badWord : Nat} {pcieOk : Bool} {s : State} :
    ∃ z, execQueueOutMove d ecc badWord pcieOk s = .next z ∧ Kept s z := by
  unfold execQueueOutMove; exact ⟨_, rfl, State.queueOutMove_kept⟩

theorem execReceiveItem_next {d : Fin 64} {x : Descriptor} {ecc : EccResult} {pcieOk : Bool} {s : State} :
    ∃ z, execReceiveItem d x pcieOk s ecc = .next z ∧ Kept s z := by
  unfold execReceiveItem; exact ⟨_, rfl, State.receiveItem_kept⟩

theorem execCopyDescriptor_next {d : Fin 64} {x : Descriptor} {hostBytes : List Byte} {ecc : EccResult} {pcieOk : Bool} {s : State} :
    ∃ z, execCopyDescriptor d x hostBytes pcieOk s ecc = .next z ∧ Kept s z := by
  unfold execCopyDescriptor; exact ⟨_, rfl, State.copyDescriptor_kept⟩

theorem execPcieLinkTrained_next {speed : Fin 7} {width : Fin 9} {flit : Bool} {s : State} :
    ∃ z, execPcieLinkTrained speed width flit s = .next z ∧ Kept s z := by
  unfold execPcieLinkTrained; refine ⟨_, rfl, ?_⟩
  refine Kept.ite (fun _ => ?_) (fun _ => ?_)
  · exact Kept.refl _
  · dsimp only
    refine Kept.ite (fun _ => ?_) (fun _ => ?_)
    · refine Kept.trans ?_ State.hstFlag_kept
      refine Kept.upd ?_
      refine Kept.trans ?_ State.setFld_kept
      refine Kept.trans ?_ State.setFld_kept
      refine Kept.trans ?_ State.setFld_kept
      exact State.setFld_kept
    · refine Kept.upd ?_
      refine Kept.trans ?_ State.setFld_kept
      refine Kept.trans ?_ State.setFld_kept
      refine Kept.trans ?_ State.setFld_kept
      exact State.setFld_kept

theorem execD3hot_next {enter : Bool} {s : State} : ∃ z, execD3hot enter s = .next z ∧ Kept s z := by
  unfold execD3hot; refine ⟨_, rfl, ?_⟩
  refine Kept.upd ?_
  exact Kept.refl _

/-! ### Machine/Security.lean -/

theorem execRegisterUnlock_next {v : Reg32} {s : State} : ∃ z, execRegisterUnlock v s = .next z ∧ Kept s z := by
  unfold execRegisterUnlock; refine ⟨_, rfl, ?_⟩
  refine Kept.trans ?_ (State.hostWrite_kept ?_)
  · exact Kept.refl _
  · intro _
    exact State.registerUnlock_kept

theorem execTapUnlock_next {level : BitVec 8} {s : State} : ∃ z, execTapUnlock level s = .next z ∧ Kept s z := by
  unfold execTapUnlock; refine ⟨_, rfl, ?_⟩
  refine Kept.ite (fun _ => ?_) (fun _ => ?_)
  · exact Kept.refl _
  · exact State.secRequest_kept

theorem execUnlockDone_next {signer : UnlockSigner} {s : State} : ∃ z, execUnlockDone signer s = .next z ∧ Kept s z := by
  unfold execUnlockDone; exact ⟨_, rfl, State.unlockDone_kept⟩

theorem execProgramCustomerKey_next {v : Reg32} {s : State} : ∃ z, execProgramCustomerKey v s = .next z ∧ Kept s z := by
  unfold execProgramCustomerKey; exact ⟨_, rfl, State.provision_kept⟩

theorem execRaiseFwSvnMin_next {v : Reg32} {s : State} : ∃ z, execRaiseFwSvnMin v s = .next z ∧ Kept s z := by
  unfold execRaiseFwSvnMin; exact ⟨_, rfl, State.provision_kept⟩

theorem execRaiseRcpSvnMin_next {v : Reg32} {s : State} : ∃ z, execRaiseRcpSvnMin v s = .next z ∧ Kept s z := by
  unfold execRaiseRcpSvnMin; exact ⟨_, rfl, State.provision_kept⟩

theorem execDisableDebug_next {v : Reg32} {s : State} : ∃ z, execDisableDebug v s = .next z ∧ Kept s z := by
  unfold execDisableDebug; exact ⟨_, rfl, State.provision_kept⟩

theorem execProvisionDone_next {r : FuseResult} {s : State} : ∃ z, execProvisionDone r s = .next z ∧ Kept s z := by
  unfold execProvisionDone; exact ⟨_, rfl, State.provisionDone_kept⟩

theorem execMeasurementRead_next {s : State} : ∃ z, execMeasurementRead s = .next z ∧ Kept s z := by
  unfold execMeasurementRead; refine ⟨_, rfl, ?_⟩
  refine Kept.trans ?_ (State.hostAccess_kept ?_)
  · exact Kept.refl _
  · intro _
    refine Kept.trans ?_ State.advanceMeas_kept
    exact State.emit_kept

theorem execPubkeyRead_next {s : State} : ∃ z, execPubkeyRead s = .next z ∧ Kept s z := by
  unfold execPubkeyRead; refine ⟨_, rfl, ?_⟩
  refine Kept.trans ?_ (State.hostAccess_kept ?_)
  · exact Kept.refl _
  · intro _
    refine Kept.trans ?_ State.advancePubkey_kept
    exact State.emit_kept

theorem execBypass_next {tdi : Bool} {s : State} : ∃ z, execBypass tdi s = .next z ∧ Kept s z := by
  unfold execBypass; refine ⟨_, rfl, ?_⟩
  refine Kept.trans ?_ (State.withTap_kept ?_)
  · exact Kept.refl _
  · intro _
    dsimp only
    refine Kept.trans ?_ State.emit_kept
    exact State.setSec_kept

theorem execIdcode_next {s : State} : ∃ z, execIdcode s = .next z ∧ Kept s z := by
  unfold execIdcode; refine ⟨_, rfl, ?_⟩
  refine Kept.trans ?_ (State.withTap_kept ?_)
  · exact Kept.refl _
  · intro _
    refine Kept.trans ?_ State.emit_kept
    exact State.setSec_kept

theorem execSamplePreload_next {levels : List (Nat × Bool)} {s : State} :
    ∃ z, execSamplePreload levels s = .next z ∧ Kept s z := by
  unfold execSamplePreload; refine ⟨_, rfl, ?_⟩
  refine Kept.trans ?_ (State.withTap_kept ?_)
  · exact Kept.refl _
  · intro _
    split
    refine Kept.trans ?_ State.emit_kept
    refine Kept.trans ?_ State.setSec_kept
    exact (State.fresh_eq (by assumption))

theorem execExtest_next {levels : List (Nat × Bool)} {s : State} : ∃ z, execExtest levels s = .next z ∧ Kept s z := by
  unfold execExtest; refine ⟨_, rfl, ?_⟩
  refine Kept.trans ?_ (State.withTap_kept ?_)
  · exact Kept.refl _
  · intro _
    refine Kept.ite (fun _ => ?_) (fun _ => ?_)
    · exact State.setSec_kept
    · exact State.setSec_kept

theorem execClamp_next {s : State} : ∃ z, execClamp s = .next z ∧ Kept s z := by
  unfold execClamp; refine ⟨_, rfl, ?_⟩
  refine Kept.trans ?_ (State.withTap_kept ?_)
  · exact Kept.refl _
  · intro _
    refine Kept.ite (fun _ => ?_) (fun _ => ?_)
    · exact State.setSec_kept
    · exact State.setSec_kept

theorem execHighz_next {s : State} : ∃ z, execHighz s = .next z ∧ Kept s z := by
  unfold execHighz; refine ⟨_, rfl, ?_⟩
  refine Kept.trans ?_ (State.withTap_kept ?_)
  · exact Kept.refl _
  · intro _
    refine Kept.ite (fun _ => ?_) (fun _ => ?_)
    · exact State.setSec_kept
    · exact State.setSec_kept

theorem execWickDebugAccess_next {core : Fin 4} {op : DebugOp} {s : State} :
    ∃ z, execWickDebugAccess core op s = .next z ∧ Kept s z := by
  unfold execWickDebugAccess; refine ⟨_, rfl, ?_⟩
  refine Kept.trans ?_ (State.withTap_kept ?_)
  · exact Kept.refl _
  · intro _
    refine Kept.ite (fun _ => ?_) (fun _ => ?_)
    · refine Kept.trans ?_ State.debugAccess_kept
      exact State.setSec_kept
    · exact State.setSec_kept

/-! ### Machine/Stitcher.lean -/

theorem execStitchApply_next {v : Reg32} {s : State} : ∃ z, execStitchApply v s = .next z ∧ Kept s z := by
  unfold execStitchApply; refine ⟨_, rfl, ?_⟩
  refine Kept.trans ?_ (State.hostWrite_kept ?_)
  · exact Kept.refl _
  · intro _
    refine Kept.ite (fun _ => ?_) (fun _ => ?_)
    · exact State.stiApply_kept
    · exact Kept.refl _

theorem execKnotAccess_next {v : Option Reg32} {s : State} : ∃ z, execKnotAccess v s = .next z ∧ Kept s z := by
  unfold execKnotAccess; refine ⟨_, rfl, ?_⟩
  split
  · refine Kept.trans ?_ (State.hostWrite_kept ?_)
    · exact Kept.refl _
    · intro _
      exact State.writeKnot_kept
  · refine Kept.trans ?_ (State.hostAccess_kept ?_)
    · exact Kept.refl _
    · intro _
      split
      refine Kept.trans ?_ State.emit_kept
      exact (State.readKnot_eq (by assumption))

theorem execLineLeavesCorrection_next {ctx : Fin 64} {s : State} : ∃ z, execLineLeavesCorrection ctx s = .next z ∧ Kept s z := by
  unfold execLineLeavesCorrection; exact ⟨_, rfl, State.lineLeaves_kept⟩

theorem execSegmentWaitTimeout_next {segment : Fin 16} {s : State} :
    ∃ z, execSegmentWaitTimeout segment s = .next z ∧ Kept s z := by
  unfold execSegmentWaitTimeout; exact ⟨_, rfl, State.waitTimeout_kept⟩

theorem execReferenceLoss_next {s : State} : ∃ z, execReferenceLoss s = .next z ∧ Kept s z := by
  unfold execReferenceLoss; exact ⟨_, rfl, State.referenceLoss_kept⟩

/-! ### Machine/Temper.lean -/

theorem execRetrainDue_next {s : State} : ∃ z, execRetrainDue s = .next z ∧ Kept s z := by
  unfold execRetrainDue; refine ⟨_, rfl, ?_⟩
  refine Kept.ite (fun _ => ?_) (fun _ => ?_)
  · exact State.makeHbmDue_kept
  · exact Kept.refl _

theorem execRunHbm_next {s : State} : ∃ z, execRunHbm s = .next z ∧ Kept s z := by
  unfold execRunHbm; refine ⟨_, rfl, ?_⟩
  refine Kept.trans ?_ (State.hostWrite_kept ?_)
  · exact Kept.refl _
  · intro _
    exact State.runHbm_kept

theorem execRetrainOverdue_next {s : State} : ∃ z, execRetrainOverdue s = .next z ∧ Kept s z := by
  unfold execRetrainOverdue; refine ⟨_, rfl, ?_⟩
  split
  · refine Kept.ite (fun _ => ?_) (fun _ => ?_)
    · refine Kept.trans ?_ State.tmpFlag_kept
      exact State.setTmp_kept
    · exact Kept.refl _
  · exact Kept.refl _

theorem execRetrainEnd_next {r : HbmResult} {s : State} : ∃ z, execRetrainEnd r s = .next z ∧ Kept s z := by
  unfold execRetrainEnd; refine ⟨_, rfl, ?_⟩
  split
  · refine Kept.ite (fun _ => ?_) (fun _ => ?_)
    · exact State.retrainEnd_kept
    · exact Kept.refl _
  · exact Kept.refl _

theorem execTdcDue_next {s : State} : ∃ z, execTdcDue s = .next z ∧ Kept s z := by
  unfold execTdcDue; refine ⟨_, rfl, ?_⟩
  refine Kept.ite (fun _ => ?_) (fun _ => ?_)
  · exact State.setTmp_kept
  · exact Kept.refl _

theorem execRunTdc_next {s : State} : ∃ z, execRunTdc s = .next z ∧ Kept s z := by
  unfold execRunTdc; refine ⟨_, rfl, ?_⟩
  refine Kept.trans ?_ (State.hostWrite_kept ?_)
  · exact Kept.refl _
  · intro _
    exact State.runTdc_kept

theorem execTdcEnd_next {r : TdcResult} {s : State} : ∃ z, execTdcEnd r s = .next z ∧ Kept s z := by
  unfold execTdcEnd; refine ⟨_, rfl, ?_⟩
  split
  · refine Kept.ite (fun _ => ?_) (fun _ => ?_)
    · exact State.tdcFinish_kept
    · exact Kept.refl _
  · exact Kept.refl _

theorem execCoefDataRead_next {s : State} : ∃ z, execCoefDataRead s = .next z ∧ Kept s z := by
  unfold execCoefDataRead; refine ⟨_, rfl, ?_⟩
  refine Kept.trans ?_ (State.hostAccess_kept ?_)
  · exact Kept.refl _
  · intro _
    refine Kept.trans ?_ State.advanceCoef_kept
    exact State.emit_kept

/-! ### Machine/TimeBase.lean -/

theorem execHeldEnd_next {s : State} : ∃ z, execHeldEnd s = .next z ∧ Kept s z := by
  unfold execHeldEnd; refine ⟨_, rfl, ?_⟩
  refine Kept.ite (fun _ => ?_) (fun _ => ?_)
  · refine Kept.trans ?_ State.raise_kept
    exact State.setTim_kept
  · exact Kept.refl _

theorem execHostOffset_next {hi : Reg32} {s : State} : ∃ z, execHostOffset hi s = .next z ∧ Kept s z := by
  unfold execHostOffset; refine ⟨_, rfl, ?_⟩
  refine Kept.trans ?_ (State.hostWrite_kept ?_)
  · exact Kept.refl _
  · intro _
    exact State.hostOffset_kept

theorem execSourceChange_next {v : Reg32} {s : State} : ∃ z, execSourceChange v s = .next z ∧ Kept s z := by
  unfold execSourceChange; refine ⟨_, rfl, ?_⟩
  refine Kept.trans ?_ (State.hostWrite_kept ?_)
  · exact Kept.refl _
  · intro _
    exact State.writeTimCfg_kept

theorem execPtpSync_next {m : PtpMsg} {s : State} : ∃ z, execPtpSync m s = .next z ∧ Kept s z := by
  unfold execPtpSync; exact ⟨_, rfl, State.ptpSync_kept⟩

theorem execFollowUp_next {m : PtpMsg} {s : State} : ∃ z, execFollowUp m s = .next z ∧ Kept s z := by
  unfold execFollowUp; exact ⟨_, rfl, State.followUp_kept⟩

theorem execDelayReq_next {k : Fin 2} {tap : Fin 32} {s : State} : ∃ z, execDelayReq k tap s = .next z ∧ Kept s z := by
  unfold execDelayReq; exact ⟨_, rfl, State.delayReq_kept⟩

theorem execDelayResp_next {m : PtpMsg} {s : State} : ∃ z, execDelayResp m s = .next z ∧ Kept s z := by
  unfold execDelayResp; exact ⟨_, rfl, State.delayResp_kept⟩

theorem execAnnounce_next {m : PtpMsg} {d : AnnounceData} {s : State} : ∃ z, execAnnounce m d s = .next z ∧ Kept s z := by
  unfold execAnnounce; exact ⟨_, rfl, State.announce_kept⟩

theorem execReceivedDelayReq_next {m : PtpMsg} {s : State} : ∃ z, execReceivedDelayReq m s = .next z ∧ Kept s z := by
  unfold execReceivedDelayReq; refine ⟨_, rfl, ?_⟩
  refine Kept.ite (fun _ => ?_) (fun _ => ?_)
  · refine Kept.trans ?_ State.tcForward_kept
    exact State.rxFrame_kept
  · exact Kept.refl _

theorem execMasterLost_next {s : State} : ∃ z, execMasterLost s = .next z ∧ Kept s z := by
  unfold execMasterLost; refine ⟨_, rfl, ?_⟩
  refine Kept.ite (fun _ => ?_) (fun _ => ?_)
  · refine Kept.trans ?_ State.loseTime_kept
    refine Kept.trans ?_ State.timFlag_kept
    exact State.setTim_kept
  · exact Kept.refl _

/-! ### Machine/Tongs.lean -/

theorem execMarkSend_next {id : Nat} {s : State} : ∃ z, execMarkSend id s = .next z ∧ Kept s z := by
  unfold execMarkSend; refine ⟨_, rfl, ?_⟩
  split
  · refine Kept.ite (fun _ => ?_) (fun _ => ?_)
    · exact Kept.refl _
    · split
      · refine Kept.ite (fun _ => ?_) (fun _ => ?_)
        · exact State.lateMark_kept
        · refine Kept.ite (fun _ => ?_) (fun _ => ?_)
          · exact State.sendMark_kept
          · exact Kept.refl _
      · exact Kept.refl _
  · exact Kept.refl _

theorem execMarkFired_next {id : Nat} {s : State} : ∃ z, execMarkFired id s = .next z ∧ Kept s z := by
  unfold execMarkFired; refine ⟨_, rfl, ?_⟩
  split
  · refine Kept.ite (fun _ => ?_) (fun _ => ?_)
    · dsimp only
      split
      · refine Kept.ite (fun _ => ?_) (fun _ => ?_)
        · refine Kept.trans ?_ State.dropMark_kept
          refine Kept.trans ?_ State.bump_kept
          exact State.bump_kept
        · refine Kept.trans ?_ State.sendLate_kept
          refine Kept.trans ?_ State.dropMark_kept
          refine Kept.trans ?_ State.bump_kept
          exact State.bump_kept
      · refine Kept.trans ?_ State.dropMark_kept
        refine Kept.trans ?_ State.bump_kept
        exact State.bump_kept
    · exact Kept.refl _
  · exact Kept.refl _

theorem execFireFrame_next {m : Fin 8} {s : State} : ∃ z, execFireFrame m s = .next z ∧ Kept s z := by
  unfold execFireFrame; exact ⟨_, rfl, State.markFrame_kept⟩

theorem execCancelFrame_next {m : Fin 8} {s : State} : ∃ z, execCancelFrame m s = .next z ∧ Kept s z := by
  unfold execCancelFrame; exact ⟨_, rfl, State.markFrame_kept⟩

theorem execSyncDue_next {m : Fin 8} {s : State} : ∃ z, execSyncDue m s = .next z ∧ Kept s z := by
  unfold execSyncDue; refine ⟨_, rfl, ?_⟩
  dsimp only
  refine Kept.ite (fun _ => ?_) (fun _ => ?_)
  · exact State.setLink_kept
  · exact Kept.refl _

theorem execSyncFrame_next {m : Fin 8} {s : State} : ∃ z, execSyncFrame m s = .next z ∧ Kept s z := by
  unfold execSyncFrame; refine ⟨_, rfl, ?_⟩
  dsimp only
  refine Kept.ite (fun _ => ?_) (fun _ => ?_)
  · refine Kept.trans ?_ State.bump_kept
    refine Kept.trans ?_ State.emit_kept
    exact State.setLink_kept
  · exact Kept.refl _

theorem execConfigFrame_next {m : Fin 8} {s : State} : ∃ z, execConfigFrame m s = .next z ∧ Kept s z := by
  unfold execConfigFrame; refine ⟨_, rfl, ?_⟩
  dsimp only
  split
  · refine Kept.ite (fun _ => ?_) (fun _ => ?_)
    · refine Kept.trans ?_ State.bump_kept
      refine Kept.trans ?_ State.emit_kept
      exact State.setLink_kept
    · exact Kept.refl _
  · exact Kept.refl _

theorem execMarkerLinkEnable_next {m : Fin 8} {v : Reg32} {s : State} :
    ∃ z, execMarkerLinkEnable m v s = .next z ∧ Kept s z := by
  unfold execMarkerLinkEnable; refine ⟨_, rfl, ?_⟩
  refine Kept.trans ?_ (State.hostWrite_kept ?_)
  · exact Kept.refl _
  · intro _
    refine Kept.ite (fun _ => ?_) (fun _ => ?_)
    · exact State.writeLinkCfg_kept
    · exact Kept.refl _

theorem execMarkerLinkDisable_next {m : Fin 8} {v : Reg32} {s : State} :
    ∃ z, execMarkerLinkDisable m v s = .next z ∧ Kept s z := by
  unfold execMarkerLinkDisable; refine ⟨_, rfl, ?_⟩
  refine Kept.trans ?_ (State.hostWrite_kept ?_)
  · exact Kept.refl _
  · intro _
    refine Kept.ite (fun _ => ?_) (fun _ => ?_)
    · exact Kept.refl _
    · exact State.writeLinkCfg_kept

theorem execChannelWidthWrite_next {ch : Fin 1024} {v : Reg32} {s : State} :
    ∃ z, execChannelWidthWrite ch v s = .next z ∧ Kept s z := by
  unfold execChannelWidthWrite; refine ⟨_, rfl, ?_⟩
  refine Kept.trans ?_ (State.hostWrite_kept ?_)
  · exact Kept.refl _
  · intro _
    exact State.writeChWidth_kept

/-! ### Machine/TrigPacket.lean -/

theorem execTriggerPacketStart_next {l : Fin 64} {ended : Bool} {s : State} : ∃ z, execTriggerPacketStart l ended s = .next z ∧ Kept s z := by
  unfold execTriggerPacketStart; refine ⟨_, rfl, ?_⟩
  dsimp only
  refine Kept.ite (fun _ => ?_) (fun _ => ?_)
  · refine Kept.trans ?_ State.bump_kept
    refine Kept.trans ?_ State.emit_kept
    refine Kept.trans ?_ State.setTrigPlaces_kept
    exact Kept.ite (fun _ => State.trigShift_kept) fun _ => Kept.refl _
  · exact Kept.ite (fun _ => State.trigShift_kept) fun _ => Kept.refl _

/-! ### Machine/Trigger.lean -/

theorem execGpioEdge_next {m : Fin 32} {level : Bool} {tap : Fin 32} {s : State} :
    ∃ z, execGpioEdge m level tap s = .next z ∧ Kept s z := by
  unfold execGpioEdge; refine ⟨_, rfl, ?_⟩
  refine Kept.ite (fun _ => ?_) (fun _ => ?_)
  · dsimp only
    refine Kept.trans ?_ State.latchSource_kept
    refine Kept.upd ?_
    exact Kept.refl _
  · exact Kept.refl _

theorem execLatchNow_next {j : Fin 16} {v : Reg32} {s : State} : ∃ z, execLatchNow j v s = .next z ∧ Kept s z := by
  unfold execLatchNow; refine ⟨_, rfl, ?_⟩
  refine Kept.trans ?_ (State.hostWrite_kept ?_)
  · exact Kept.refl _
  · intro _
    exact State.writeLatCmd_kept

theorem execLatchCfgWrite_next {j : Fin 16} {v : Reg32} {s : State} : ∃ z, execLatchCfgWrite j v s = .next z ∧ Kept s z := by
  unfold execLatchCfgWrite; refine ⟨_, rfl, ?_⟩
  refine Kept.trans ?_ (State.hostWrite_kept ?_)
  · exact Kept.refl _
  · intro _
    exact State.writeLatCfg_kept

theorem execTriggerFire_next {k : Fin 16} {i : Fin 5} {s : State} : ∃ z, execTriggerFire k i s = .next z ∧ Kept s z := by
  unfold execTriggerFire; refine ⟨_, rfl, ?_⟩
  dsimp only
  refine Kept.ite (fun _ => ?_) (fun _ => ?_)
  · refine Kept.ite (fun _ => ?_) (fun _ => ?_)
    · exact Kept.refl _
    · refine Kept.ite (fun _ => ?_) (fun _ => ?_)
      · exact State.trigSkip_kept
      · exact State.trigFire_kept
  · exact State.trigCheck_kept

theorem execLtrigPulseEnd_next {k : Fin 16} {s : State} : ∃ z, execLtrigPulseEnd k s = .next z ∧ Kept s z := by
  unfold execLtrigPulseEnd; refine ⟨_, rfl, ?_⟩
  split
  · refine Kept.ite (fun _ => ?_) (fun _ => ?_)
    · refine Kept.trans ?_ State.emit_kept
      exact State.setTrig_kept
    · exact Kept.refl _
  · exact Kept.refl _

theorem execTriggerNextWrite_next {k : Fin 16} {v : Reg32} {s : State} :
    ∃ z, execTriggerNextWrite k v s = .next z ∧ Kept s z := by
  unfold execTriggerNextWrite; refine ⟨_, rfl, ?_⟩
  refine Kept.trans ?_ (State.hostWrite_kept ?_)
  · exact Kept.refl _
  · intro _
    exact State.writeTrgNextHi_kept

theorem execTriggerCfgWrite_next {k : Fin 16} {v : Reg32} {s : State} : ∃ z, execTriggerCfgWrite k v s = .next z ∧ Kept s z := by
  unfold execTriggerCfgWrite; refine ⟨_, rfl, ?_⟩
  refine Kept.trans ?_ (State.hostWrite_kept ?_)
  · exact Kept.refl _
  · intro _
    exact State.writeTrgCfg_kept

theorem execTriggerPeriodWrite_next {k : Fin 16} {v : Reg32} {s : State} :
    ∃ z, execTriggerPeriodWrite k v s = .next z ∧ Kept s z := by
  unfold execTriggerPeriodWrite; refine ⟨_, rfl, ?_⟩
  refine Kept.trans ?_ (State.hostWrite_kept ?_)
  · exact Kept.refl _
  · intro _
    exact State.writeTrgPeriod_kept

/-! ### Machine/WickAlu.lean -/

theorem execAdd_next {n : Fin 4} {w : BitVec 24} {s : State} : ∃ z, execAdd n w s = .next z ∧ Kept s z := by
  unfold execAdd; exact ⟨_, rfl, State.wickRRR_kept⟩

theorem execSub_next {n : Fin 4} {w : BitVec 24} {s : State} : ∃ z, execSub n w s = .next z ∧ Kept s z := by
  unfold execSub; exact ⟨_, rfl, State.wickRRR_kept⟩

theorem execAnd_next {n : Fin 4} {w : BitVec 24} {s : State} : ∃ z, execAnd n w s = .next z ∧ Kept s z := by
  unfold execAnd; exact ⟨_, rfl, State.wickRRR_kept⟩

theorem execOr_next {n : Fin 4} {w : BitVec 24} {s : State} : ∃ z, execOr n w s = .next z ∧ Kept s z := by
  unfold execOr; exact ⟨_, rfl, State.wickRRR_kept⟩

theorem execXor_next {n : Fin 4} {w : BitVec 24} {s : State} : ∃ z, execXor n w s = .next z ∧ Kept s z := by
  unfold execXor; exact ⟨_, rfl, State.wickRRR_kept⟩

theorem execShl_next {n : Fin 4} {w : BitVec 24} {s : State} : ∃ z, execShl n w s = .next z ∧ Kept s z := by
  unfold execShl; exact ⟨_, rfl, State.wickRRR_kept⟩

theorem execShr_next {n : Fin 4} {w : BitVec 24} {s : State} : ∃ z, execShr n w s = .next z ∧ Kept s z := by
  unfold execShr; exact ⟨_, rfl, State.wickRRR_kept⟩

theorem execShra_next {n : Fin 4} {w : BitVec 24} {s : State} : ∃ z, execShra n w s = .next z ∧ Kept s z := by
  unfold execShra; exact ⟨_, rfl, State.wickRRR_kept⟩

theorem execClt_next {n : Fin 4} {w : BitVec 24} {s : State} : ∃ z, execClt n w s = .next z ∧ Kept s z := by
  unfold execClt; exact ⟨_, rfl, State.wickRRR_kept⟩

theorem execCltu_next {n : Fin 4} {w : BitVec 24} {s : State} : ∃ z, execCltu n w s = .next z ∧ Kept s z := by
  unfold execCltu; exact ⟨_, rfl, State.wickRRR_kept⟩

theorem execMin_next {n : Fin 4} {w : BitVec 24} {s : State} : ∃ z, execMin n w s = .next z ∧ Kept s z := by
  unfold execMin; exact ⟨_, rfl, State.wickRRR_kept⟩

theorem execMax_next {n : Fin 4} {w : BitVec 24} {s : State} : ∃ z, execMax n w s = .next z ∧ Kept s z := by
  unfold execMax; exact ⟨_, rfl, State.wickRRR_kept⟩

theorem execMinu_next {n : Fin 4} {w : BitVec 24} {s : State} : ∃ z, execMinu n w s = .next z ∧ Kept s z := by
  unfold execMinu; exact ⟨_, rfl, State.wickRRR_kept⟩

theorem execMaxu_next {n : Fin 4} {w : BitVec 24} {s : State} : ∃ z, execMaxu n w s = .next z ∧ Kept s z := by
  unfold execMaxu; exact ⟨_, rfl, State.wickRRR_kept⟩

theorem execMul_next {n : Fin 4} {w : BitVec 24} {s : State} : ∃ z, execMul n w s = .next z ∧ Kept s z := by
  unfold execMul; exact ⟨_, rfl, State.wickRRR_kept⟩

theorem execMulhs_next {n : Fin 4} {w : BitVec 24} {s : State} : ∃ z, execMulhs n w s = .next z ∧ Kept s z := by
  unfold execMulhs; exact ⟨_, rfl, State.wickRRR_kept⟩

theorem execMulhu_next {n : Fin 4} {w : BitVec 24} {s : State} : ∃ z, execMulhu n w s = .next z ∧ Kept s z := by
  unfold execMulhu; exact ⟨_, rfl, State.wickRRR_kept⟩

theorem execQuo_next {n : Fin 4} {w : BitVec 24} {s : State} : ∃ z, execQuo n w s = .next z ∧ Kept s z := by
  unfold execQuo; exact ⟨_, rfl, State.wickRRR_kept⟩

theorem execQuou_next {n : Fin 4} {w : BitVec 24} {s : State} : ∃ z, execQuou n w s = .next z ∧ Kept s z := by
  unfold execQuou; exact ⟨_, rfl, State.wickRRR_kept⟩

theorem execMod_next {n : Fin 4} {w : BitVec 24} {s : State} : ∃ z, execMod n w s = .next z ∧ Kept s z := by
  unfold execMod; exact ⟨_, rfl, State.wickRRR_kept⟩

theorem execModu_next {n : Fin 4} {w : BitVec 24} {s : State} : ∃ z, execModu n w s = .next z ∧ Kept s z := by
  unfold execModu; exact ⟨_, rfl, State.wickRRR_kept⟩

theorem execAddi_next {n : Fin 4} {w : BitVec 24} {s : State} : ∃ z, execAddi n w s = .next z ∧ Kept s z := by
  unfold execAddi; exact ⟨_, rfl, State.wickRRI_kept⟩

theorem execAndi_next {n : Fin 4} {w : BitVec 24} {s : State} : ∃ z, execAndi n w s = .next z ∧ Kept s z := by
  unfold execAndi; exact ⟨_, rfl, State.wickRRI_kept⟩

theorem execOri_next {n : Fin 4} {w : BitVec 24} {s : State} : ∃ z, execOri n w s = .next z ∧ Kept s z := by
  unfold execOri; exact ⟨_, rfl, State.wickRRI_kept⟩

theorem execXori_next {n : Fin 4} {w : BitVec 24} {s : State} : ∃ z, execXori n w s = .next z ∧ Kept s z := by
  unfold execXori; exact ⟨_, rfl, State.wickRRI_kept⟩

theorem execShli_next {n : Fin 4} {w : BitVec 24} {s : State} : ∃ z, execShli n w s = .next z ∧ Kept s z := by
  unfold execShli; exact ⟨_, rfl, State.wickShiftI_kept⟩

theorem execShri_next {n : Fin 4} {w : BitVec 24} {s : State} : ∃ z, execShri n w s = .next z ∧ Kept s z := by
  unfold execShri; exact ⟨_, rfl, State.wickShiftI_kept⟩

theorem execShrai_next {n : Fin 4} {w : BitVec 24} {s : State} : ∃ z, execShrai n w s = .next z ∧ Kept s z := by
  unfold execShrai; exact ⟨_, rfl, State.wickShiftI_kept⟩

theorem execClti_next {n : Fin 4} {w : BitVec 24} {s : State} : ∃ z, execClti n w s = .next z ∧ Kept s z := by
  unfold execClti; exact ⟨_, rfl, State.wickRRI_kept⟩

theorem execCltui_next {n : Fin 4} {w : BitVec 24} {s : State} : ∃ z, execCltui n w s = .next z ∧ Kept s z := by
  unfold execCltui; exact ⟨_, rfl, State.wickRRI_kept⟩

theorem execIhi_next {n : Fin 4} {w : BitVec 24} {s : State} : ∃ z, execIhi n w s = .next z ∧ Kept s z := by
  unfold execIhi; refine ⟨_, rfl, ?_⟩
  refine Kept.trans ?_ (State.wickRun_kept ?_)
  · exact Kept.refl _
  · intro _
    refine Kept.trans ?_ (State.legal_kept ?_)
    · exact Kept.refl _
    · exact State.wickWrite_kept

theorem execBeq_next {n : Fin 4} {w : BitVec 24} {s : State} : ∃ z, execBeq n w s = .next z ∧ Kept s z := by
  unfold execBeq; exact ⟨_, rfl, State.wickBranch_kept⟩

theorem execBne_next {n : Fin 4} {w : BitVec 24} {s : State} : ∃ z, execBne n w s = .next z ∧ Kept s z := by
  unfold execBne; exact ⟨_, rfl, State.wickBranch_kept⟩

theorem execBlt_next {n : Fin 4} {w : BitVec 24} {s : State} : ∃ z, execBlt n w s = .next z ∧ Kept s z := by
  unfold execBlt; exact ⟨_, rfl, State.wickBranch_kept⟩

theorem execBge_next {n : Fin 4} {w : BitVec 24} {s : State} : ∃ z, execBge n w s = .next z ∧ Kept s z := by
  unfold execBge; exact ⟨_, rfl, State.wickBranch_kept⟩

theorem execBltu_next {n : Fin 4} {w : BitVec 24} {s : State} : ∃ z, execBltu n w s = .next z ∧ Kept s z := by
  unfold execBltu; exact ⟨_, rfl, State.wickBranch_kept⟩

theorem execBgeu_next {n : Fin 4} {w : BitVec 24} {s : State} : ∃ z, execBgeu n w s = .next z ∧ Kept s z := by
  unfold execBgeu; exact ⟨_, rfl, State.wickBranch_kept⟩

theorem execCall_next {n : Fin 4} {w : BitVec 24} {s : State} : ∃ z, execCall n w s = .next z ∧ Kept s z := by
  unfold execCall; refine ⟨_, rfl, ?_⟩
  refine Kept.trans ?_ (State.wickRun_kept ?_)
  · exact Kept.refl _
  · intro _
    refine Kept.trans ?_ (State.legal_kept ?_)
    · exact Kept.refl _
    · dsimp only
      exact State.setCore_kept

theorem execCallr_next {n : Fin 4} {w : BitVec 24} {s : State} : ∃ z, execCallr n w s = .next z ∧ Kept s z := by
  unfold execCallr; refine ⟨_, rfl, ?_⟩
  refine Kept.trans ?_ (State.wickRun_kept ?_)
  · exact Kept.refl _
  · intro _
    refine Kept.trans ?_ (State.legal_kept ?_)
    · exact Kept.refl _
    · dsimp only
      exact State.setCore_kept

theorem execSlo_next {n : Fin 4} {w : BitVec 24} {s : State} : ∃ z, execSlo n w s = .next z ∧ Kept s z := by
  unfold execSlo; exact ⟨_, rfl, State.wickMove_kept fun c => by simp⟩

theorem execShi_next {n : Fin 4} {w : BitVec 24} {s : State} : ∃ z, execShi n w s = .next z ∧ Kept s z := by
  unfold execShi; exact ⟨_, rfl, State.wickMove_kept fun c => by simp⟩

theorem execGlo_next {n : Fin 4} {w : BitVec 24} {s : State} : ∃ z, execGlo n w s = .next z ∧ Kept s z := by
  unfold execGlo; exact ⟨_, rfl, State.wickMove_kept fun c => by simp⟩

theorem execGhi_next {n : Fin 4} {w : BitVec 24} {s : State} : ∃ z, execGhi n w s = .next z ∧ Kept s z := by
  unfold execGhi; exact ⟨_, rfl, State.wickMove_kept fun c => by simp⟩

theorem execSmv_next {n : Fin 4} {w : BitVec 24} {s : State} : ∃ z, execSmv n w s = .next z ∧ Kept s z := by
  unfold execSmv; exact ⟨_, rfl, State.wickMove_kept fun c => by simp⟩

/-! ### Machine/WickCore.lean -/

theorem execInterruptEntry_next {n : Fin 4} {s : State} : ∃ z, execInterruptEntry n s = .next z ∧ Kept s z := by
  unfold execInterruptEntry; exact ⟨_, rfl, State.interruptEntry_kept⟩

theorem execReti_next {n : Fin 4} {w : BitVec 24} {ecc : EccResult} {s : State} :
    ∃ z, execReti n w ecc s = .next z ∧ Kept s z := by
  unfold execReti; refine ⟨_, rfl, ?_⟩
  refine Kept.trans ?_ (State.wickRun_kept ?_)
  · exact Kept.refl _
  · intro _
    refine Kept.trans ?_ (State.legal_kept ?_)
    · exact Kept.refl _
    · refine Kept.ite (fun _ => ?_) (fun _ => ?_)
      · exact State.haltCore_kept
      · dsimp only
        split
        · split
          · refine Kept.trans ?_ (State.enterHandler_kept ?_)
            · exact State.wickEcc_kept
            · intro _
              exact Kept.refl _
          · refine Kept.trans ?_ State.setCore_kept
            exact State.wickEcc_kept
        · refine Kept.trans ?_ State.wickExc_kept
          exact State.wickEcc_kept

theorem execWfi_next {n : Fin 4} {w : BitVec 24} {s : State} : ∃ z, execWfi n w s = .next z ∧ Kept s z := by
  unfold execWfi; refine ⟨_, rfl, ?_⟩
  refine Kept.trans ?_ (State.wickRun_kept ?_)
  · exact Kept.refl _
  · intro _
    refine Kept.trans ?_ (State.legal_kept ?_)
    · exact Kept.refl _
    · refine Kept.ite (fun _ => ?_) (fun _ => ?_)
      · exact State.wickNext_kept
      · exact State.wickStall_kept

theorem execWfiWake_next {n : Fin 4} {s : State} : ∃ z, execWfiWake n s = .next z ∧ Kept s z := by
  unfold execWfiWake; refine ⟨_, rfl, ?_⟩
  dsimp only
  split
  · refine Kept.ite (fun _ => ?_) (fun _ => ?_)
    · exact State.wickNext_kept
    · exact Kept.refl _
  · exact Kept.refl _

theorem execDi_next {n : Fin 4} {w : BitVec 24} {s : State} : ∃ z, execDi n w s = .next z ∧ Kept s z := by
  unfold execDi; refine ⟨_, rfl, ?_⟩
  refine Kept.trans ?_ (State.wickRun_kept ?_)
  · exact Kept.refl _
  · intro _
    refine Kept.trans ?_ (State.legal_kept ?_)
    · exact Kept.refl _
    · exact State.wickNext_kept

theorem execEi_next {n : Fin 4} {w : BitVec 24} {s : State} : ∃ z, execEi n w s = .next z ∧ Kept s z := by
  unfold execEi; refine ⟨_, rfl, ?_⟩
  refine Kept.trans ?_ (State.wickRun_kept ?_)
  · exact Kept.refl _
  · intro _
    refine Kept.trans ?_ (State.legal_kept ?_)
    · exact Kept.refl _
    · exact State.wickNext_kept

theorem execRete_next {n : Fin 4} {w : BitVec 24} {s : State} : ∃ z, execRete n w s = .next z ∧ Kept s z := by
  unfold execRete; refine ⟨_, rfl, ?_⟩
  refine Kept.trans ?_ (State.wickRun_kept ?_)
  · exact Kept.refl _
  · intro _
    refine Kept.trans ?_ (State.legal_kept ?_)
    · exact Kept.refl _
    · exact State.setCore_kept

theorem execSwi_next {n : Fin 4} {w : BitVec 24} {s : State} : ∃ z, execSwi n w s = .next z ∧ Kept s z := by
  unfold execSwi; refine ⟨_, rfl, ?_⟩
  refine Kept.trans ?_ (State.wickRun_kept ?_)
  · exact Kept.refl _
  · intro _
    refine Kept.trans ?_ (State.legal_kept ?_)
    · exact Kept.refl _
    · refine Kept.trans ?_ State.raise_kept
      exact State.wickNext_kept

theorem execFence_next {n : Fin 4} {w : BitVec 24} {s : State} : ∃ z, execFence n w s = .next z ∧ Kept s z := by
  unfold execFence; refine ⟨_, rfl, ?_⟩
  refine Kept.trans ?_ (State.wickRun_kept ?_)
  · exact Kept.refl _
  · intro _
    refine Kept.trans ?_ (State.legal_kept ?_)
    · exact Kept.refl _
    · refine Kept.ite (fun _ => ?_) (fun _ => ?_)
      · exact State.wickStall_kept
      · exact State.wickNext_kept

theorem execBrk_next {n : Fin 4} {w : BitVec 24} {s : State} : ∃ z, execBrk n w s = .next z ∧ Kept s z := by
  unfold execBrk; refine ⟨_, rfl, ?_⟩
  refine Kept.trans ?_ (State.wickRun_kept ?_)
  · exact Kept.refl _
  · intro _
    refine Kept.trans ?_ (State.legal_kept ?_)
    · exact Kept.refl _
    · exact State.wickExc_kept

theorem execSvc_next {n : Fin 4} {w : BitVec 24} {s : State} : ∃ z, execSvc n w s = .next z ∧ Kept s z := by
  unfold execSvc; refine ⟨_, rfl, ?_⟩
  refine Kept.trans ?_ (State.wickRun_kept ?_)
  · exact Kept.refl _
  · intro _
    refine Kept.trans ?_ (State.legal_kept ?_)
    · exact Kept.refl _
    · dsimp only
      refine Kept.trans ?_ State.raise_kept
      refine Kept.upd ?_
      refine Kept.trans ?_ State.setCore_kept
      refine Kept.trans ?_ State.setFld_kept
      refine Kept.trans ?_ State.setFld_kept
      refine Kept.trans ?_ (upTo_kept fun _ _ => ?_)
      · exact Kept.refl _
      · exact State.wr_kept

theorem execServiceDone_next {n : Fin 4} {v : Reg32} {s : State} : ∃ z, execServiceDone n v s = .next z ∧ Kept s z := by
  unfold execServiceDone; exact ⟨_, rfl, State.serviceDone_kept⟩

theorem execMfc_next {n : Fin 4} {w : BitVec 24} {s : State} : ∃ z, execMfc n w s = .next z ∧ Kept s z := by
  unfold execMfc; refine ⟨_, rfl, ?_⟩
  refine Kept.trans ?_ (State.wickRun_kept ?_)
  · exact Kept.refl _
  · intro _
    refine Kept.trans ?_ (State.legal_kept ?_)
    · exact Kept.refl _
    · split
      · exact State.wickWrite_kept
      · exact State.wickExc_kept

theorem execMtc_next {n : Fin 4} {w : BitVec 24} {s : State} : ∃ z, execMtc n w s = .next z ∧ Kept s z := by
  unfold execMtc; refine ⟨_, rfl, ?_⟩
  refine Kept.trans ?_ (State.wickRun_kept ?_)
  · exact Kept.refl _
  · intro _
    refine Kept.trans ?_ (State.legal_kept ?_)
    · exact Kept.refl _
    · refine Kept.ite (fun _ => ?_) (fun _ => ?_)
      · exact State.wickExc_kept
      · exact State.wickNext_kept

theorem execNop_next {n : Fin 4} {w : BitVec 24} {s : State} : ∃ z, execNop n w s = .next z ∧ Kept s z := by
  unfold execNop; refine ⟨_, rfl, ?_⟩
  refine Kept.trans ?_ (State.wickRun_kept ?_)
  · exact Kept.refl _
  · intro _
    refine Kept.trans ?_ (State.legal_kept ?_)
    · exact Kept.refl _
    · exact State.wickNext_kept

theorem execReservedOpcode_next {n : Fin 4} {op : BitVec 8} {w : BitVec 24} {s : State} :
    ∃ z, execReservedOpcode n op w s = .next z ∧ Kept s z := by
  unfold execReservedOpcode; refine ⟨_, rfl, ?_⟩
  refine Kept.ite (fun _ => ?_) (fun _ => ?_)
  · exact Kept.refl _
  · refine Kept.trans ?_ (State.wickRun_kept ?_)
    · exact Kept.refl _
    · intro _
      exact State.wickExc_kept

theorem execTimerMatch_next {n : Fin 4} {s : State} : ∃ z, execTimerMatch n s = .next z ∧ Kept s z := by
  unfold execTimerMatch; refine ⟨_, rfl, ?_⟩
  dsimp only
  refine Kept.ite (fun _ => ?_) (fun _ => ?_)
  · refine Kept.trans ?_ State.raise_kept
    exact State.setCore_kept
  · exact Kept.refl _

theorem execWatchdogTimeout_next {n : Fin 4} {s : State} : ∃ z, execWatchdogTimeout n s = .next z ∧ Kept s z := by
  unfold execWatchdogTimeout; refine ⟨_, rfl, ?_⟩
  dsimp only
  refine Kept.ite (fun _ => ?_) (fun _ => ?_)
  · exact State.haltCore_kept
  · exact Kept.refl _

theorem execWckSwiWrite_next {ag : Agent} {n : Fin 4} {v : Reg32} {s : State} :
    ∃ z, execWckSwiWrite ag n v s = .next z ∧ Kept s z := by
  unfold execWckSwiWrite; refine ⟨_, rfl, ?_⟩
  split
  · refine Kept.trans ?_ (State.hostWrite_kept ?_)
    · exact Kept.refl _
    · intro _
      exact State.writeSwi_kept
  · refine Kept.ite (fun _ => ?_) (fun _ => ?_)
    · exact State.writeSwi_kept
    · exact Kept.refl _

theorem execTagComplete_next {n : Fin 4} {t : Fin 16} {s : State} : ∃ z, execTagComplete n t s = .next z ∧ Kept s z := by
  unfold execTagComplete; refine ⟨_, rfl, ?_⟩
  split
  · refine Kept.trans ?_ State.raise_kept
    exact State.setCore_kept
  · exact Kept.refl _

/-! ### Machine/WickMem.lean -/

theorem execLd8_next {n : Fin 4} {w : BitVec 24} {ecc : EccResult} {s : State} :
    ∃ z, execLd8 n w ecc s = .next z ∧ Kept s z := by
  unfold execLd8; exact ⟨_, rfl, State.wickLoad_kept⟩

theorem execLd8u_next {n : Fin 4} {w : BitVec 24} {ecc : EccResult} {s : State} :
    ∃ z, execLd8u n w ecc s = .next z ∧ Kept s z := by
  unfold execLd8u; exact ⟨_, rfl, State.wickLoad_kept⟩

theorem execLd16_next {n : Fin 4} {w : BitVec 24} {ecc : EccResult} {s : State} :
    ∃ z, execLd16 n w ecc s = .next z ∧ Kept s z := by
  unfold execLd16; exact ⟨_, rfl, State.wickLoad_kept⟩

theorem execLd16u_next {n : Fin 4} {w : BitVec 24} {ecc : EccResult} {s : State} :
    ∃ z, execLd16u n w ecc s = .next z ∧ Kept s z := by
  unfold execLd16u; exact ⟨_, rfl, State.wickLoad_kept⟩

theorem execLd32_next {n : Fin 4} {w : BitVec 24} {ecc : EccResult} {s : State} :
    ∃ z, execLd32 n w ecc s = .next z ∧ Kept s z := by
  unfold execLd32; exact ⟨_, rfl, State.wickLoad_kept⟩

theorem execLd32u_next {n : Fin 4} {w : BitVec 24} {ecc : EccResult} {s : State} :
    ∃ z, execLd32u n w ecc s = .next z ∧ Kept s z := by
  unfold execLd32u; exact ⟨_, rfl, State.wickLoad_kept⟩

theorem execLd64_next {n : Fin 4} {w : BitVec 24} {ecc : EccResult} {s : State} :
    ∃ z, execLd64 n w ecc s = .next z ∧ Kept s z := by
  unfold execLd64; exact ⟨_, rfl, State.wickLoad_kept⟩

theorem execSt8_next {n : Fin 4} {w : BitVec 24} {s : State} : ∃ z, execSt8 n w s = .next z ∧ Held s z := by
  unfold execSt8; exact ⟨_, rfl, State.wickStore_held⟩

theorem execSt16_next {n : Fin 4} {w : BitVec 24} {s : State} : ∃ z, execSt16 n w s = .next z ∧ Held s z := by
  unfold execSt16; exact ⟨_, rfl, State.wickStore_held⟩

theorem execSt32_next {n : Fin 4} {w : BitVec 24} {s : State} : ∃ z, execSt32 n w s = .next z ∧ Held s z := by
  unfold execSt32; exact ⟨_, rfl, State.wickStore_held⟩

theorem execSt64_next {n : Fin 4} {w : BitVec 24} {s : State} : ∃ z, execSt64 n w s = .next z ∧ Held s z := by
  unfold execSt64; exact ⟨_, rfl, State.wickStore_held⟩

theorem execLds_next {n : Fin 4} {w : BitVec 24} {ecc : EccResult} {s : State} :
    ∃ z, execLds n w ecc s = .next z ∧ Kept s z := by
  unfold execLds; refine ⟨_, rfl, ?_⟩
  refine Kept.trans ?_ (State.wickRun_kept ?_)
  · exact Kept.refl _
  · intro _
    refine Kept.trans ?_ (State.legal_kept ?_)
    · exact Kept.refl _
    · dsimp only
      refine Kept.trans ?_ (State.wickAccess_kept ?_)
      · exact Kept.refl _
      · intro _
        refine Kept.trans ?_ (State.guardedRead_kept ?_)
        · exact Kept.refl _
        · intro _ _
          exact State.wickNext_kept

theorem execSts_next {n : Fin 4} {w : BitVec 24} {s : State} : ∃ z, execSts n w s = .next z ∧ Held s z := by
  unfold execSts; refine ⟨_, rfl, ?_⟩
  refine Held.trans ?_ (State.wickRun_held ?_)
  · exact Held.refl _
  · intro _
    refine Held.trans ?_ (State.legal_held ?_)
    · exact Held.refl _
    · dsimp only
      refine Held.trans ?_ (State.wickAccess_held ?_)
      · exact Held.refl _
      · intro _
        refine Held.trans ?_ State.coreWrite_held
        exact Kept.toHeld State.wickNext_kept

theorem execAtadd_next {n : Fin 4} {w : BitVec 24} {ecc : EccResult} {s : State} :
    ∃ z, execAtadd n w ecc s = .next z ∧ Held s z := by
  unfold execAtadd; exact ⟨_, rfl, State.wickAtomic_held⟩

theorem execAtswp_next {n : Fin 4} {w : BitVec 24} {ecc : EccResult} {s : State} :
    ∃ z, execAtswp n w ecc s = .next z ∧ Held s z := by
  unfold execAtswp; exact ⟨_, rfl, State.wickAtomic_held⟩

theorem execAtcas_next {n : Fin 4} {w : BitVec 24} {ecc : EccResult} {s : State} :
    ∃ z, execAtcas n w ecc s = .next z ∧ Held s z := by
  unfold execAtcas; exact ⟨_, rfl, State.wickAtomic_held⟩

theorem execIss_next {n : Fin 4} {w : BitVec 24} {s : State} : ∃ z, execIss n w s = .next z ∧ Held s z := by
  unfold execIss; refine ⟨_, rfl, ?_⟩
  refine Held.trans ?_ (State.wickRun_held ?_)
  · exact Held.refl _
  · intro _
    refine Held.trans ?_ (State.legal_held ?_)
    · exact Held.refl _
    · split
      · exact Kept.toHeld State.wickExc_kept
      · refine Held.ite (fun _ => ?_) (fun _ => ?_)
        · exact Kept.toHeld State.wickExc_kept
        · refine Held.trans ?_ State.issueCommand_held
          exact Kept.toHeld State.wickNext_kept

theorem execBld_next {n : Fin 4} {w : BitVec 24} {ecc : EccResult} {s : State} :
    ∃ z, execBld n w ecc s = .next z ∧ Kept s z := by
  unfold execBld; refine ⟨_, rfl, ?_⟩
  refine Kept.trans ?_ (State.wickRun_kept ?_)
  · exact Kept.refl _
  · intro _
    refine Kept.trans ?_ (State.legal_kept ?_)
    · exact Kept.refl _
    · split
      · refine Kept.trans ?_ State.wickStall_kept
        exact (State.bulkRead_eq (by assumption))
      · refine Kept.trans ?_ State.wickExc_kept
        exact (State.bulkRead_eq (by assumption))
      · refine Kept.trans ?_ State.wickNext_kept
        exact (State.bulkRead_eq (by assumption))

theorem execBst_next {n : Fin 4} {w : BitVec 24} {s : State} : ∃ z, execBst n w s = .next z ∧ Kept s z := by
  unfold execBst; refine ⟨_, rfl, ?_⟩
  refine Kept.trans ?_ (State.wickRun_kept ?_)
  · exact Kept.refl _
  · intro _
    refine Kept.trans ?_ (State.legal_kept ?_)
    · exact Kept.refl _
    · split
      · refine Kept.trans ?_ State.wickStall_kept
        exact (State.bulkWrite_eq (by assumption))
      · refine Kept.trans ?_ State.wickNext_kept
        exact (State.bulkWrite_eq (by assumption))

theorem execBmv_next {n : Fin 4} {w : BitVec 24} {ecc : EccResult} {s : State} :
    ∃ z, execBmv n w ecc s = .next z ∧ Kept s z := by
  unfold execBmv; refine ⟨_, rfl, ?_⟩
  refine Kept.trans ?_ (State.wickRun_kept ?_)
  · exact Kept.refl _
  · intro _
    refine Kept.trans ?_ (State.legal_kept ?_)
    · exact Kept.refl _
    · dsimp only
      refine Kept.ite (fun _ => ?_) (fun _ => ?_)
      · exact State.wickExc_kept
      · refine Kept.ite (fun _ => ?_) (fun _ => ?_)
        · exact State.wickExc_kept
        · refine Kept.ite (fun _ => ?_) (fun _ => ?_)
          · exact State.wickExc_kept
          · refine Kept.trans ?_ State.runMove_kept
            exact State.wickNext_kept

/-! ### Machine/WickQueue.lean -/

theorem execQpop_next {n : Fin 4} {w : BitVec 24} {ecc : EccResult} {s : State} :
    ∃ z, execQpop n w ecc s = .next z ∧ Kept s z := by
  unfold execQpop; refine ⟨_, rfl, ?_⟩
  refine Kept.trans ?_ (State.wickRun_kept ?_)
  · exact Kept.refl _
  · intro _
    refine Kept.trans ?_ (State.legal_kept ?_)
    · exact Kept.refl _
    · dsimp only
      split
      · refine Kept.trans ?_ State.queueStatus_kept
        refine Kept.trans ?_ State.setCore_kept
        split
        · dsimp only
          exact Kept.refl _
        · exact State.popWord_kept
      · refine Kept.ite (fun _ => ?_) (fun _ => ?_)
        · refine Kept.trans ?_ State.wickStall_kept
          split
          · dsimp only
            exact Kept.refl _
          · exact State.popWord_kept
        · refine Kept.trans ?_ State.queueStatus_kept
          refine Kept.trans ?_ State.setCore_kept
          split
          · dsimp only
            exact Kept.refl _
          · exact State.popWord_kept

theorem execQpush_next {n : Fin 4} {w : BitVec 24} {s : State} : ∃ z, execQpush n w s = .next z ∧ Kept s z := by
  unfold execQpush; refine ⟨_, rfl, ?_⟩
  refine Kept.trans ?_ (State.wickRun_kept ?_)
  · exact Kept.refl _
  · intro _
    refine Kept.trans ?_ (State.legal_kept ?_)
    · exact Kept.refl _
    · dsimp only
      split
      · refine Kept.ite (fun _ => ?_) (fun _ => ?_)
        · refine Kept.trans ?_ State.queueStatus_kept
          exact State.queueDrop_kept
        · exact State.queueStatus_kept
      · refine Kept.ite (fun _ => ?_) (fun _ => ?_)
        · refine Kept.ite (fun _ => ?_) (fun _ => ?_)
          · exact State.wickStall_kept
          · exact State.queueStatus_kept
        · refine Kept.trans ?_ State.queueStatus_kept
          exact State.setQueue_kept

theorem execQopen_next {n : Fin 4} {w : BitVec 24} {s : State} : ∃ z, execQopen n w s = .next z ∧ Kept s z := by
  unfold execQopen; refine ⟨_, rfl, ?_⟩
  refine Kept.trans ?_ (State.wickRun_kept ?_)
  · exact Kept.refl _
  · intro _
    refine Kept.trans ?_ (State.legal_kept ?_)
    · exact Kept.refl _
    · dsimp only
      refine Kept.ite (fun _ => ?_) (fun _ => ?_)
      · exact State.queueStatus_kept
      · refine Kept.ite (fun _ => ?_) (fun _ => ?_)
        · exact State.queueStatus_kept
        · refine Kept.trans ?_ State.queueStatus_kept
          exact State.setQueue_kept

theorem execQclose_next {n : Fin 4} {w : BitVec 24} {s : State} : ∃ z, execQclose n w s = .next z ∧ Kept s z := by
  unfold execQclose; refine ⟨_, rfl, ?_⟩
  refine Kept.trans ?_ (State.wickRun_kept ?_)
  · exact Kept.refl _
  · intro _
    refine Kept.trans ?_ (State.legal_kept ?_)
    · exact Kept.refl _
    · dsimp only
      split
      · exact State.queueStatus_kept
      · refine Kept.ite (fun _ => ?_) (fun _ => ?_)
        · refine Kept.trans ?_ State.queueStatus_kept
          exact State.setQueue_kept
        · refine Kept.trans ?_ State.queueStatus_kept
          refine Kept.trans ?_ State.queueDrop_kept
          exact State.setQueue_kept

theorem execQlvl_next {n : Fin 4} {w : BitVec 24} {s : State} : ∃ z, execQlvl n w s = .next z ∧ Kept s z := by
  unfold execQlvl; refine ⟨_, rfl, ?_⟩
  refine Kept.trans ?_ (State.wickRun_kept ?_)
  · exact Kept.refl _
  · intro _
    refine Kept.trans ?_ (State.legal_kept ?_)
    · exact Kept.refl _
    · exact State.queueStatus_kept

theorem execAwt_next {n : Fin 4} {w : BitVec 24} {s : State} : ∃ z, execAwt n w s = .next z ∧ Kept s z := by
  unfold execAwt; refine ⟨_, rfl, ?_⟩
  refine Kept.trans ?_ (State.wickRun_kept ?_)
  · exact Kept.refl _
  · intro _
    refine Kept.trans ?_ (State.legal_kept ?_)
    · exact Kept.refl _
    · split
      · exact State.wickWrite_kept
      · exact State.wickWrite_kept
      · refine Kept.ite (fun _ => ?_) (fun _ => ?_)
        · exact State.wickStall_kept
        · exact State.wickWrite_kept

end Sys2Proof.Machine
end

