-- ==== Sys2Proof/Laws/PerInstr.lean ====
section
/-! SUPPORT. Per command: the table of spec/opcode_table.json gives no row bits, so no word spells a command; a command comes as
its constructor with its operands. -/

set_option Elab.async false
open Sys2Proof

/-- No word of the table spells the command. -/
def Sys2Proof.Laws.Recognised.Statement (i : Instr) : Prop := ∀ nbits w : Nat, decodeTableWord nbits w ≠ some i

/-- The decoder reads no command from any word. -/
theorem Sys2Proof.Laws.Recognised.of_no_bits (i : Instr) : Sys2Proof.Laws.Recognised.Statement i :=
  fun _ _ h => nomatch h

theorem Sys2Proof.Laws.Recognised.registerWrite (ag : Agent) (offset : BitVec 26) (size : Nat) (v : Reg32) : Sys2Proof.Laws.Recognised.Statement (.registerWrite ag offset size v) := Sys2Proof.Laws.Recognised.of_no_bits _
theorem Sys2Proof.Laws.Recognised.rcRead (ag : Agent) (offset : BitVec 26) (collide : Option Reg32) : Sys2Proof.Laws.Recognised.Statement (.rcRead ag offset collide) := Sys2Proof.Laws.Recognised.of_no_bits _
theorem Sys2Proof.Laws.Recognised.snapshotRead (ag : Agent) (offset : BitVec 26) : Sys2Proof.Laws.Recognised.Statement (.snapshotRead ag offset) := Sys2Proof.Laws.Recognised.of_no_bits _
theorem Sys2Proof.Laws.Recognised.powerUp : Sys2Proof.Laws.Recognised.Statement (.powerUp) := Sys2Proof.Laws.Recognised.of_no_bits _
theorem Sys2Proof.Laws.Recognised.powerDown : Sys2Proof.Laws.Recognised.Statement (.powerDown) := Sys2Proof.Laws.Recognised.of_no_bits _
theorem Sys2Proof.Laws.Recognised.undervoltage (rail : Fin 13) : Sys2Proof.Laws.Recognised.Statement (.undervoltage rail) := Sys2Proof.Laws.Recognised.of_no_bits _
theorem Sys2Proof.Laws.Recognised.supplyWarn (rail : Fin 13) (below : Bool) : Sys2Proof.Laws.Recognised.Statement (.supplyWarn rail below) := Sys2Proof.Laws.Recognised.of_no_bits _
theorem Sys2Proof.Laws.Recognised.porNAssert : Sys2Proof.Laws.Recognised.Statement (.porNAssert) := Sys2Proof.Laws.Recognised.of_no_bits _
theorem Sys2Proof.Laws.Recognised.porNDeassert (straps : BitVec 2) : Sys2Proof.Laws.Recognised.Statement (.porNDeassert straps) := Sys2Proof.Laws.Recognised.of_no_bits _
theorem Sys2Proof.Laws.Recognised.perstNAssert : Sys2Proof.Laws.Recognised.Statement (.perstNAssert) := Sys2Proof.Laws.Recognised.of_no_bits _
theorem Sys2Proof.Laws.Recognised.conventionalReset : Sys2Proof.Laws.Recognised.Statement (.conventionalReset) := Sys2Proof.Laws.Recognised.of_no_bits _
theorem Sys2Proof.Laws.Recognised.functionLevelReset : Sys2Proof.Laws.Recognised.Statement (.functionLevelReset) := Sys2Proof.Laws.Recognised.of_no_bits _
theorem Sys2Proof.Laws.Recognised.d3hot (enter : Bool) : Sys2Proof.Laws.Recognised.Statement (.d3hot enter) := Sys2Proof.Laws.Recognised.of_no_bits _
theorem Sys2Proof.Laws.Recognised.faultReset : Sys2Proof.Laws.Recognised.Statement (.faultReset) := Sys2Proof.Laws.Recognised.of_no_bits _
theorem Sys2Proof.Laws.Recognised.deviceReset (v : Reg32) : Sys2Proof.Laws.Recognised.Statement (.deviceReset v) := Sys2Proof.Laws.Recognised.of_no_bits _
theorem Sys2Proof.Laws.Recognised.thermalSample (sensors : List (BitVec 12)) : Sys2Proof.Laws.Recognised.Statement (.thermalSample sensors) := Sys2Proof.Laws.Recognised.of_no_bits _
theorem Sys2Proof.Laws.Recognised.hbmTempSample (reading : BitVec 12) : Sys2Proof.Laws.Recognised.Statement (.hbmTempSample reading) := Sys2Proof.Laws.Recognised.of_no_bits _
theorem Sys2Proof.Laws.Recognised.clockLoss (clock : ClockLost) : Sys2Proof.Laws.Recognised.Statement (.clockLoss clock) := Sys2Proof.Laws.Recognised.of_no_bits _
theorem Sys2Proof.Laws.Recognised.firmwareVerified (image : FirmwareImage) : Sys2Proof.Laws.Recognised.Statement (.firmwareVerified image) := Sys2Proof.Laws.Recognised.of_no_bits _
theorem Sys2Proof.Laws.Recognised.bootReady (hbm : HbmResult) (tdc : TdcResult) (readable : Bool) : Sys2Proof.Laws.Recognised.Statement (.bootReady hbm tdc readable) := Sys2Proof.Laws.Recognised.of_no_bits _
theorem Sys2Proof.Laws.Recognised.restoreHoldExpiry : Sys2Proof.Laws.Recognised.Statement (.restoreHoldExpiry) := Sys2Proof.Laws.Recognised.of_no_bits _
theorem Sys2Proof.Laws.Recognised.ackCheckpoint : Sys2Proof.Laws.Recognised.Statement (.ackCheckpoint) := Sys2Proof.Laws.Recognised.of_no_bits _
theorem Sys2Proof.Laws.Recognised.journalWrite (items : Nat) (result : BlockWrite) : Sys2Proof.Laws.Recognised.Statement (.journalWrite items result) := Sys2Proof.Laws.Recognised.of_no_bits _
theorem Sys2Proof.Laws.Recognised.identify : Sys2Proof.Laws.Recognised.Statement (.identify) := Sys2Proof.Laws.Recognised.of_no_bits _
theorem Sys2Proof.Laws.Recognised.reset : Sys2Proof.Laws.Recognised.Statement (.reset) := Sys2Proof.Laws.Recognised.of_no_bits _
theorem Sys2Proof.Laws.Recognised.bootPush : Sys2Proof.Laws.Recognised.Statement (.bootPush) := Sys2Proof.Laws.Recognised.of_no_bits _
theorem Sys2Proof.Laws.Recognised.badCommandPacket : Sys2Proof.Laws.Recognised.Statement (.badCommandPacket) := Sys2Proof.Laws.Recognised.of_no_bits _
theorem Sys2Proof.Laws.Recognised.load : Sys2Proof.Laws.Recognised.Statement (.load) := Sys2Proof.Laws.Recognised.of_no_bits _
theorem Sys2Proof.Laws.Recognised.recipeVerified (signatureOk : Bool) : Sys2Proof.Laws.Recognised.Statement (.recipeVerified signatureOk) := Sys2Proof.Laws.Recognised.of_no_bits _
theorem Sys2Proof.Laws.Recognised.loadDrainDone : Sys2Proof.Laws.Recognised.Statement (.loadDrainDone) := Sys2Proof.Laws.Recognised.of_no_bits _
theorem Sys2Proof.Laws.Recognised.loadDrainTimeout : Sys2Proof.Laws.Recognised.Statement (.loadDrainTimeout) := Sys2Proof.Laws.Recognised.of_no_bits _
theorem Sys2Proof.Laws.Recognised.loadLinksUp : Sys2Proof.Laws.Recognised.Statement (.loadLinksUp) := Sys2Proof.Laws.Recognised.of_no_bits _
theorem Sys2Proof.Laws.Recognised.linkWaitTimeout : Sys2Proof.Laws.Recognised.Statement (.linkWaitTimeout) := Sys2Proof.Laws.Recognised.of_no_bits _
theorem Sys2Proof.Laws.Recognised.unload : Sys2Proof.Laws.Recognised.Statement (.unload) := Sys2Proof.Laws.Recognised.of_no_bits _
theorem Sys2Proof.Laws.Recognised.unloadDrainDone : Sys2Proof.Laws.Recognised.Statement (.unloadDrainDone) := Sys2Proof.Laws.Recognised.of_no_bits _
theorem Sys2Proof.Laws.Recognised.start : Sys2Proof.Laws.Recognised.Statement (.start) := Sys2Proof.Laws.Recognised.of_no_bits _
theorem Sys2Proof.Laws.Recognised.stop : Sys2Proof.Laws.Recognised.Statement (.stop) := Sys2Proof.Laws.Recognised.of_no_bits _
theorem Sys2Proof.Laws.Recognised.hold : Sys2Proof.Laws.Recognised.Statement (.hold) := Sys2Proof.Laws.Recognised.of_no_bits _
theorem Sys2Proof.Laws.Recognised.resume : Sys2Proof.Laws.Recognised.Statement (.resume) := Sys2Proof.Laws.Recognised.of_no_bits _
theorem Sys2Proof.Laws.Recognised.bank : Sys2Proof.Laws.Recognised.Statement (.bank) := Sys2Proof.Laws.Recognised.of_no_bits _
theorem Sys2Proof.Laws.Recognised.bankSaveDone : Sys2Proof.Laws.Recognised.Statement (.bankSaveDone) := Sys2Proof.Laws.Recognised.of_no_bits _
theorem Sys2Proof.Laws.Recognised.bankTimeout : Sys2Proof.Laws.Recognised.Statement (.bankTimeout) := Sys2Proof.Laws.Recognised.of_no_bits _
theorem Sys2Proof.Laws.Recognised.hrtAlloc : Sys2Proof.Laws.Recognised.Statement (.hrtAlloc) := Sys2Proof.Laws.Recognised.of_no_bits _
theorem Sys2Proof.Laws.Recognised.hrtAllocPin : Sys2Proof.Laws.Recognised.Statement (.hrtAllocPin) := Sys2Proof.Laws.Recognised.of_no_bits _
theorem Sys2Proof.Laws.Recognised.hrtFree : Sys2Proof.Laws.Recognised.Statement (.hrtFree) := Sys2Proof.Laws.Recognised.of_no_bits _
theorem Sys2Proof.Laws.Recognised.hrtPin : Sys2Proof.Laws.Recognised.Statement (.hrtPin) := Sys2Proof.Laws.Recognised.of_no_bits _
theorem Sys2Proof.Laws.Recognised.hrtUnpin : Sys2Proof.Laws.Recognised.Statement (.hrtUnpin) := Sys2Proof.Laws.Recognised.of_no_bits _
theorem Sys2Proof.Laws.Recognised.hrtQuery : Sys2Proof.Laws.Recognised.Statement (.hrtQuery) := Sys2Proof.Laws.Recognised.of_no_bits _
theorem Sys2Proof.Laws.Recognised.timeRestep : Sys2Proof.Laws.Recognised.Statement (.timeRestep) := Sys2Proof.Laws.Recognised.of_no_bits _
theorem Sys2Proof.Laws.Recognised.attest : Sys2Proof.Laws.Recognised.Statement (.attest) := Sys2Proof.Laws.Recognised.of_no_bits _
theorem Sys2Proof.Laws.Recognised.attestDone : Sys2Proof.Laws.Recognised.Statement (.attestDone) := Sys2Proof.Laws.Recognised.of_no_bits _
theorem Sys2Proof.Laws.Recognised.snuff : Sys2Proof.Laws.Recognised.Statement (.snuff) := Sys2Proof.Laws.Recognised.of_no_bits _
theorem Sys2Proof.Laws.Recognised.wakeComplete : Sys2Proof.Laws.Recognised.Statement (.wakeComplete) := Sys2Proof.Laws.Recognised.of_no_bits _
theorem Sys2Proof.Laws.Recognised.quench : Sys2Proof.Laws.Recognised.Statement (.quench) := Sys2Proof.Laws.Recognised.of_no_bits _
theorem Sys2Proof.Laws.Recognised.quenchNAssert (asserted : Bool) : Sys2Proof.Laws.Recognised.Statement (.quenchNAssert asserted) := Sys2Proof.Laws.Recognised.of_no_bits _
theorem Sys2Proof.Laws.Recognised.quenchRelease : Sys2Proof.Laws.Recognised.Statement (.quenchRelease) := Sys2Proof.Laws.Recognised.of_no_bits _
theorem Sys2Proof.Laws.Recognised.quenchDatagram (port : Fin 2) (frame : PlantFrame) : Sys2Proof.Laws.Recognised.Statement (.quenchDatagram port frame) := Sys2Proof.Laws.Recognised.of_no_bits _
theorem Sys2Proof.Laws.Recognised.quadratureEdge (enc : Fin 4) (a : Bool) (b : Bool) (tap : Fin 32) : Sys2Proof.Laws.Recognised.Statement (.quadratureEdge enc a b tap) := Sys2Proof.Laws.Recognised.of_no_bits _
theorem Sys2Proof.Laws.Recognised.pulseTrainEdge (enc : Fin 4) (b : Bool) (tap : Fin 32) : Sys2Proof.Laws.Recognised.Statement (.pulseTrainEdge enc b tap) := Sys2Proof.Laws.Recognised.of_no_bits _
theorem Sys2Proof.Laws.Recognised.reference (enc : Fin 4) (tap : Fin 32) (level : Bool) : Sys2Proof.Laws.Recognised.Statement (.reference enc tap level) := Sys2Proof.Laws.Recognised.of_no_bits _
theorem Sys2Proof.Laws.Recognised.standstill (enc : Fin 4) : Sys2Proof.Laws.Recognised.Statement (.standstill enc) := Sys2Proof.Laws.Recognised.of_no_bits _
theorem Sys2Proof.Laws.Recognised.presetNow (enc : Fin 4) (v : Reg32) : Sys2Proof.Laws.Recognised.Statement (.presetNow enc v) := Sys2Proof.Laws.Recognised.of_no_bits _
theorem Sys2Proof.Laws.Recognised.armRef (enc : Fin 4) (v : Reg32) : Sys2Proof.Laws.Recognised.Statement (.armRef enc v) := Sys2Proof.Laws.Recognised.of_no_bits _
theorem Sys2Proof.Laws.Recognised.encCfgWrite (enc : Fin 4) (v : Reg32) : Sys2Proof.Laws.Recognised.Statement (.encCfgWrite enc v) := Sys2Proof.Laws.Recognised.of_no_bits _
theorem Sys2Proof.Laws.Recognised.gpioEdge (ball : Fin 32) (level : Bool) (tap : Fin 32) : Sys2Proof.Laws.Recognised.Statement (.gpioEdge ball level tap) := Sys2Proof.Laws.Recognised.of_no_bits _
theorem Sys2Proof.Laws.Recognised.latchNow (unit : Fin 16) (v : Reg32) : Sys2Proof.Laws.Recognised.Statement (.latchNow unit v) := Sys2Proof.Laws.Recognised.of_no_bits _
theorem Sys2Proof.Laws.Recognised.latchCfgWrite (unit : Fin 16) (v : Reg32) : Sys2Proof.Laws.Recognised.Statement (.latchCfgWrite unit v) := Sys2Proof.Laws.Recognised.of_no_bits _
theorem Sys2Proof.Laws.Recognised.triggerFire (unit : Fin 16) (sample : Fin 5) : Sys2Proof.Laws.Recognised.Statement (.triggerFire unit sample) := Sys2Proof.Laws.Recognised.of_no_bits _
theorem Sys2Proof.Laws.Recognised.triggerNextWrite (unit : Fin 16) (v : Reg32) : Sys2Proof.Laws.Recognised.Statement (.triggerNextWrite unit v) := Sys2Proof.Laws.Recognised.of_no_bits _
theorem Sys2Proof.Laws.Recognised.triggerCfgWrite (unit : Fin 16) (v : Reg32) : Sys2Proof.Laws.Recognised.Statement (.triggerCfgWrite unit v) := Sys2Proof.Laws.Recognised.of_no_bits _
theorem Sys2Proof.Laws.Recognised.triggerPeriodWrite (unit : Fin 16) (v : Reg32) : Sys2Proof.Laws.Recognised.Statement (.triggerPeriodWrite unit v) := Sys2Proof.Laws.Recognised.of_no_bits _
theorem Sys2Proof.Laws.Recognised.ltrigPulseEnd (unit : Fin 16) : Sys2Proof.Laws.Recognised.Statement (.ltrigPulseEnd unit) := Sys2Proof.Laws.Recognised.of_no_bits _
theorem Sys2Proof.Laws.Recognised.triggerPacketStart (lane : Fin 64) (ended : Bool) : Sys2Proof.Laws.Recognised.Statement (.triggerPacketStart lane ended) := Sys2Proof.Laws.Recognised.of_no_bits _
theorem Sys2Proof.Laws.Recognised.portStart (port : Fin 16) (v : Reg32) : Sys2Proof.Laws.Recognised.Statement (.portStart port v) := Sys2Proof.Laws.Recognised.of_no_bits _
theorem Sys2Proof.Laws.Recognised.portStop (port : Fin 16) (v : Reg32) : Sys2Proof.Laws.Recognised.Statement (.portStop port v) := Sys2Proof.Laws.Recognised.of_no_bits _
theorem Sys2Proof.Laws.Recognised.portRestart (port : Fin 16) (v : Reg32) : Sys2Proof.Laws.Recognised.Statement (.portRestart port v) := Sys2Proof.Laws.Recognised.of_no_bits _
theorem Sys2Proof.Laws.Recognised.portCfgWrite (port : Fin 16) (v : Reg32) : Sys2Proof.Laws.Recognised.Statement (.portCfgWrite port v) := Sys2Proof.Laws.Recognised.of_no_bits _
theorem Sys2Proof.Laws.Recognised.laneLock (lane : Fin 64) (skew : BitVec 8) : Sys2Proof.Laws.Recognised.Statement (.laneLock lane skew) := Sys2Proof.Laws.Recognised.of_no_bits _
theorem Sys2Proof.Laws.Recognised.controlAck (link : Fin 64) (ack : ControlAck) : Sys2Proof.Laws.Recognised.Statement (.controlAck link ack) := Sys2Proof.Laws.Recognised.of_no_bits _
theorem Sys2Proof.Laws.Recognised.controlAckTimeout (link : Fin 64) : Sys2Proof.Laws.Recognised.Statement (.controlAckTimeout link) := Sys2Proof.Laws.Recognised.of_no_bits _
theorem Sys2Proof.Laws.Recognised.discoveryTimeout (link : Fin 64) : Sys2Proof.Laws.Recognised.Statement (.discoveryTimeout link) := Sys2Proof.Laws.Recognised.of_no_bits _
theorem Sys2Proof.Laws.Recognised.retuneTimeout (link : Fin 64) : Sys2Proof.Laws.Recognised.Statement (.retuneTimeout link) := Sys2Proof.Laws.Recognised.of_no_bits _
theorem Sys2Proof.Laws.Recognised.wimenSwitch (link : Fin 64) : Sys2Proof.Laws.Recognised.Statement (.wimenSwitch link) := Sys2Proof.Laws.Recognised.of_no_bits _
theorem Sys2Proof.Laws.Recognised.wimenLockTimeout (link : Fin 64) : Sys2Proof.Laws.Recognised.Statement (.wimenLockTimeout link) := Sys2Proof.Laws.Recognised.of_no_bits _
theorem Sys2Proof.Laws.Recognised.blockLockGain (lane : Fin 64) (skew : BitVec 8) : Sys2Proof.Laws.Recognised.Statement (.blockLockGain lane skew) := Sys2Proof.Laws.Recognised.of_no_bits _
theorem Sys2Proof.Laws.Recognised.blockLockLoss (lane : Fin 64) : Sys2Proof.Laws.Recognised.Statement (.blockLockLoss lane) := Sys2Proof.Laws.Recognised.of_no_bits _
theorem Sys2Proof.Laws.Recognised.linkLoss (lane : Fin 64) (signal : Bool) : Sys2Proof.Laws.Recognised.Statement (.linkLoss lane signal) := Sys2Proof.Laws.Recognised.of_no_bits _
theorem Sys2Proof.Laws.Recognised.resumeTimeout (link : Fin 64) : Sys2Proof.Laws.Recognised.Statement (.resumeTimeout link) := Sys2Proof.Laws.Recognised.of_no_bits _
theorem Sys2Proof.Laws.Recognised.dfeUpdate (lane : Fin 64) (ePos d1 d2 d3 d4 d5 : Bool) : Sys2Proof.Laws.Recognised.Statement (.dfeUpdate lane ePos d1 d2 d3 d4 d5) := Sys2Proof.Laws.Recognised.of_no_bits _
theorem Sys2Proof.Laws.Recognised.streamPacket (lane : Fin 64) (packet : StreamPacket) : Sys2Proof.Laws.Recognised.Statement (.streamPacket lane packet) := Sys2Proof.Laws.Recognised.of_no_bits _
theorem Sys2Proof.Laws.Recognised.cameraEventPacket (lane : Fin 64) (words : List Word) (tap : Fin 32) (codeErrors : Nat) : Sys2Proof.Laws.Recognised.Statement (.cameraEventPacket lane words tap codeErrors) := Sys2Proof.Laws.Recognised.of_no_bits _
theorem Sys2Proof.Laws.Recognised.triggerAckPacket (lane : Fin 64) (codeErrors : Nat) : Sys2Proof.Laws.Recognised.Statement (.triggerAckPacket lane codeErrors) := Sys2Proof.Laws.Recognised.of_no_bits _
theorem Sys2Proof.Laws.Recognised.unsupportedPacket (lane : Fin 64) (codeErrors : Nat) : Sys2Proof.Laws.Recognised.Statement (.unsupportedPacket lane codeErrors) := Sys2Proof.Laws.Recognised.of_no_bits _
theorem Sys2Proof.Laws.Recognised.laneMarker (lane : Fin 64) (count : BitVec 40) (skew : BitVec 8) : Sys2Proof.Laws.Recognised.Statement (.laneMarker lane count skew) := Sys2Proof.Laws.Recognised.of_no_bits _
theorem Sys2Proof.Laws.Recognised.deskewMove (lane : Fin 64) : Sys2Proof.Laws.Recognised.Statement (.deskewMove lane) := Sys2Proof.Laws.Recognised.of_no_bits _
theorem Sys2Proof.Laws.Recognised.mailboxRead (port : Fin 16) (v : Reg32) : Sys2Proof.Laws.Recognised.Statement (.mailboxRead port v) := Sys2Proof.Laws.Recognised.of_no_bits _
theorem Sys2Proof.Laws.Recognised.mailboxWrite (port : Fin 16) (v : Reg32) : Sys2Proof.Laws.Recognised.Statement (.mailboxWrite port v) := Sys2Proof.Laws.Recognised.of_no_bits _
theorem Sys2Proof.Laws.Recognised.eyeScanStart (lane : Fin 64) (v : Reg32) : Sys2Proof.Laws.Recognised.Statement (.eyeScanStart lane v) := Sys2Proof.Laws.Recognised.of_no_bits _
theorem Sys2Proof.Laws.Recognised.eyeScanDone (lane : Fin 64) (errors : Nat) : Sys2Proof.Laws.Recognised.Statement (.eyeScanDone lane errors) := Sys2Proof.Laws.Recognised.of_no_bits _
theorem Sys2Proof.Laws.Recognised.lineTimeout (ctx : Fin 64) : Sys2Proof.Laws.Recognised.Statement (.lineTimeout ctx) := Sys2Proof.Laws.Recognised.of_no_bits _
theorem Sys2Proof.Laws.Recognised.ringWriteDone (ctx : Fin 64) : Sys2Proof.Laws.Recognised.Statement (.ringWriteDone ctx) := Sys2Proof.Laws.Recognised.of_no_bits _
theorem Sys2Proof.Laws.Recognised.lineSent (lane : Fin 16) (ecc : CorEcc) : Sys2Proof.Laws.Recognised.Statement (.lineSent lane ecc) := Sys2Proof.Laws.Recognised.of_no_bits _
theorem Sys2Proof.Laws.Recognised.contextEnable (ctx : Fin 64) (v : Reg32) : Sys2Proof.Laws.Recognised.Statement (.contextEnable ctx v) := Sys2Proof.Laws.Recognised.of_no_bits _
theorem Sys2Proof.Laws.Recognised.contextDisable (ctx : Fin 64) (v : Reg32) : Sys2Proof.Laws.Recognised.Statement (.contextDisable ctx v) := Sys2Proof.Laws.Recognised.of_no_bits _
theorem Sys2Proof.Laws.Recognised.reinjectGo (v : Reg32) : Sys2Proof.Laws.Recognised.Statement (.reinjectGo v) := Sys2Proof.Laws.Recognised.of_no_bits _
theorem Sys2Proof.Laws.Recognised.reinjectAbort (v : Reg32) : Sys2Proof.Laws.Recognised.Statement (.reinjectAbort v) := Sys2Proof.Laws.Recognised.of_no_bits _
theorem Sys2Proof.Laws.Recognised.reinjectDone : Sys2Proof.Laws.Recognised.Statement (.reinjectDone) := Sys2Proof.Laws.Recognised.of_no_bits _
theorem Sys2Proof.Laws.Recognised.correctionApply (ctx : Fin 64) (v : Reg32) : Sys2Proof.Laws.Recognised.Statement (.correctionApply ctx v) := Sys2Proof.Laws.Recognised.of_no_bits _
theorem Sys2Proof.Laws.Recognised.snapshotWaitEnd (lane : Fin 16) : Sys2Proof.Laws.Recognised.Statement (.snapshotWaitEnd lane) := Sys2Proof.Laws.Recognised.of_no_bits _
theorem Sys2Proof.Laws.Recognised.coefStoreAccess (v : Option Reg32) : Sys2Proof.Laws.Recognised.Statement (.coefStoreAccess v) := Sys2Proof.Laws.Recognised.of_no_bits _
theorem Sys2Proof.Laws.Recognised.correctionLutAccess (v : Option Reg32) : Sys2Proof.Laws.Recognised.Statement (.correctionLutAccess v) := Sys2Proof.Laws.Recognised.of_no_bits _
theorem Sys2Proof.Laws.Recognised.coefLoadGo (v : Reg32) : Sys2Proof.Laws.Recognised.Statement (.coefLoadGo v) := Sys2Proof.Laws.Recognised.of_no_bits _
theorem Sys2Proof.Laws.Recognised.coefLoadDone (failed : Option Nat) (ecc : EccResult) : Sys2Proof.Laws.Recognised.Statement (.coefLoadDone failed ecc) := Sys2Proof.Laws.Recognised.of_no_bits _
theorem Sys2Proof.Laws.Recognised.captureGo (v : Reg32) : Sys2Proof.Laws.Recognised.Statement (.captureGo v) := Sys2Proof.Laws.Recognised.of_no_bits _
theorem Sys2Proof.Laws.Recognised.captureAbort (v : Reg32) : Sys2Proof.Laws.Recognised.Statement (.captureAbort v) := Sys2Proof.Laws.Recognised.of_no_bits _
theorem Sys2Proof.Laws.Recognised.captureDone : Sys2Proof.Laws.Recognised.Statement (.captureDone) := Sys2Proof.Laws.Recognised.of_no_bits _
theorem Sys2Proof.Laws.Recognised.lineLeavesCorrection (ctx : Fin 64) : Sys2Proof.Laws.Recognised.Statement (.lineLeavesCorrection ctx) := Sys2Proof.Laws.Recognised.of_no_bits _
theorem Sys2Proof.Laws.Recognised.segmentWaitTimeout (segment : Fin 16) : Sys2Proof.Laws.Recognised.Statement (.segmentWaitTimeout segment) := Sys2Proof.Laws.Recognised.of_no_bits _
theorem Sys2Proof.Laws.Recognised.referenceLoss : Sys2Proof.Laws.Recognised.Statement (.referenceLoss) := Sys2Proof.Laws.Recognised.of_no_bits _
theorem Sys2Proof.Laws.Recognised.stitchApply (v : Reg32) : Sys2Proof.Laws.Recognised.Statement (.stitchApply v) := Sys2Proof.Laws.Recognised.of_no_bits _
theorem Sys2Proof.Laws.Recognised.knotAccess (v : Option Reg32) : Sys2Proof.Laws.Recognised.Statement (.knotAccess v) := Sys2Proof.Laws.Recognised.of_no_bits _
theorem Sys2Proof.Laws.Recognised.stitchedLinePass (cyc : Fin 10) : Sys2Proof.Laws.Recognised.Statement (.stitchedLinePass cyc) := Sys2Proof.Laws.Recognised.of_no_bits _
theorem Sys2Proof.Laws.Recognised.wordDispatch (slice : Fin 16) (corrected : Nat) : Sys2Proof.Laws.Recognised.Statement (.wordDispatch slice corrected) := Sys2Proof.Laws.Recognised.of_no_bits _
theorem Sys2Proof.Laws.Recognised.maxBundlesReached (slice : Fin 16) (engine : Fin 8) : Sys2Proof.Laws.Recognised.Statement (.maxBundlesReached slice engine) := Sys2Proof.Laws.Recognised.of_no_bits _
theorem Sys2Proof.Laws.Recognised.anvilNop (slice : Fin 16) (engine : Fin 8) (slot : Fin 3) (bits : BitVec 34) (close : Option (BitVec 8)) : Sys2Proof.Laws.Recognised.Statement (.anvilNop slice engine slot bits close) := Sys2Proof.Laws.Recognised.of_no_bits _
theorem Sys2Proof.Laws.Recognised.anvilAdd (slice : Fin 16) (engine : Fin 8) (slot : Fin 3) (bits : BitVec 34) (close : Option (BitVec 8)) : Sys2Proof.Laws.Recognised.Statement (.anvilAdd slice engine slot bits close) := Sys2Proof.Laws.Recognised.of_no_bits _
theorem Sys2Proof.Laws.Recognised.anvilSub (slice : Fin 16) (engine : Fin 8) (slot : Fin 3) (bits : BitVec 34) (close : Option (BitVec 8)) : Sys2Proof.Laws.Recognised.Statement (.anvilSub slice engine slot bits close) := Sys2Proof.Laws.Recognised.of_no_bits _
theorem Sys2Proof.Laws.Recognised.anvilAvg (slice : Fin 16) (engine : Fin 8) (slot : Fin 3) (bits : BitVec 34) (close : Option (BitVec 8)) : Sys2Proof.Laws.Recognised.Statement (.anvilAvg slice engine slot bits close) := Sys2Proof.Laws.Recognised.of_no_bits _
theorem Sys2Proof.Laws.Recognised.anvilAbsd (slice : Fin 16) (engine : Fin 8) (slot : Fin 3) (bits : BitVec 34) (close : Option (BitVec 8)) : Sys2Proof.Laws.Recognised.Statement (.anvilAbsd slice engine slot bits close) := Sys2Proof.Laws.Recognised.of_no_bits _
theorem Sys2Proof.Laws.Recognised.anvilMin (slice : Fin 16) (engine : Fin 8) (slot : Fin 3) (bits : BitVec 34) (close : Option (BitVec 8)) : Sys2Proof.Laws.Recognised.Statement (.anvilMin slice engine slot bits close) := Sys2Proof.Laws.Recognised.of_no_bits _
theorem Sys2Proof.Laws.Recognised.anvilMax (slice : Fin 16) (engine : Fin 8) (slot : Fin 3) (bits : BitVec 34) (close : Option (BitVec 8)) : Sys2Proof.Laws.Recognised.Statement (.anvilMax slice engine slot bits close) := Sys2Proof.Laws.Recognised.of_no_bits _
theorem Sys2Proof.Laws.Recognised.anvilAnd (slice : Fin 16) (engine : Fin 8) (slot : Fin 3) (bits : BitVec 34) (close : Option (BitVec 8)) : Sys2Proof.Laws.Recognised.Statement (.anvilAnd slice engine slot bits close) := Sys2Proof.Laws.Recognised.of_no_bits _
theorem Sys2Proof.Laws.Recognised.anvilOr (slice : Fin 16) (engine : Fin 8) (slot : Fin 3) (bits : BitVec 34) (close : Option (BitVec 8)) : Sys2Proof.Laws.Recognised.Statement (.anvilOr slice engine slot bits close) := Sys2Proof.Laws.Recognised.of_no_bits _
theorem Sys2Proof.Laws.Recognised.anvilXor (slice : Fin 16) (engine : Fin 8) (slot : Fin 3) (bits : BitVec 34) (close : Option (BitVec 8)) : Sys2Proof.Laws.Recognised.Statement (.anvilXor slice engine slot bits close) := Sys2Proof.Laws.Recognised.of_no_bits _
theorem Sys2Proof.Laws.Recognised.anvilShl (slice : Fin 16) (engine : Fin 8) (slot : Fin 3) (bits : BitVec 34) (close : Option (BitVec 8)) : Sys2Proof.Laws.Recognised.Statement (.anvilShl slice engine slot bits close) := Sys2Proof.Laws.Recognised.of_no_bits _
theorem Sys2Proof.Laws.Recognised.anvilShr (slice : Fin 16) (engine : Fin 8) (slot : Fin 3) (bits : BitVec 34) (close : Option (BitVec 8)) : Sys2Proof.Laws.Recognised.Statement (.anvilShr slice engine slot bits close) := Sys2Proof.Laws.Recognised.of_no_bits _
theorem Sys2Proof.Laws.Recognised.anvilSel (slice : Fin 16) (engine : Fin 8) (slot : Fin 3) (bits : BitVec 34) (close : Option (BitVec 8)) : Sys2Proof.Laws.Recognised.Statement (.anvilSel slice engine slot bits close) := Sys2Proof.Laws.Recognised.of_no_bits _
theorem Sys2Proof.Laws.Recognised.anvilMov (slice : Fin 16) (engine : Fin 8) (slot : Fin 3) (bits : BitVec 34) (close : Option (BitVec 8)) : Sys2Proof.Laws.Recognised.Statement (.anvilMov slice engine slot bits close) := Sys2Proof.Laws.Recognised.of_no_bits _
theorem Sys2Proof.Laws.Recognised.anvilCls (slice : Fin 16) (engine : Fin 8) (slot : Fin 3) (bits : BitVec 34) (close : Option (BitVec 8)) : Sys2Proof.Laws.Recognised.Statement (.anvilCls slice engine slot bits close) := Sys2Proof.Laws.Recognised.of_no_bits _
theorem Sys2Proof.Laws.Recognised.anvilPk6 (slice : Fin 16) (engine : Fin 8) (slot : Fin 3) (bits : BitVec 34) (close : Option (BitVec 8)) : Sys2Proof.Laws.Recognised.Statement (.anvilPk6 slice engine slot bits close) := Sys2Proof.Laws.Recognised.of_no_bits _
theorem Sys2Proof.Laws.Recognised.anvilCmpeq (slice : Fin 16) (engine : Fin 8) (slot : Fin 3) (bits : BitVec 34) (close : Option (BitVec 8)) : Sys2Proof.Laws.Recognised.Statement (.anvilCmpeq slice engine slot bits close) := Sys2Proof.Laws.Recognised.of_no_bits _
theorem Sys2Proof.Laws.Recognised.anvilCmplt (slice : Fin 16) (engine : Fin 8) (slot : Fin 3) (bits : BitVec 34) (close : Option (BitVec 8)) : Sys2Proof.Laws.Recognised.Statement (.anvilCmplt slice engine slot bits close) := Sys2Proof.Laws.Recognised.of_no_bits _
theorem Sys2Proof.Laws.Recognised.anvilCmple (slice : Fin 16) (engine : Fin 8) (slot : Fin 3) (bits : BitVec 34) (close : Option (BitVec 8)) : Sys2Proof.Laws.Recognised.Statement (.anvilCmple slice engine slot bits close) := Sys2Proof.Laws.Recognised.of_no_bits _
theorem Sys2Proof.Laws.Recognised.anvilAddi (slice : Fin 16) (engine : Fin 8) (slot : Fin 3) (bits : BitVec 34) (close : Option (BitVec 8)) : Sys2Proof.Laws.Recognised.Statement (.anvilAddi slice engine slot bits close) := Sys2Proof.Laws.Recognised.of_no_bits _
theorem Sys2Proof.Laws.Recognised.anvilShli (slice : Fin 16) (engine : Fin 8) (slot : Fin 3) (bits : BitVec 34) (close : Option (BitVec 8)) : Sys2Proof.Laws.Recognised.Statement (.anvilShli slice engine slot bits close) := Sys2Proof.Laws.Recognised.of_no_bits _
theorem Sys2Proof.Laws.Recognised.anvilShri (slice : Fin 16) (engine : Fin 8) (slot : Fin 3) (bits : BitVec 34) (close : Option (BitVec 8)) : Sys2Proof.Laws.Recognised.Statement (.anvilShri slice engine slot bits close) := Sys2Proof.Laws.Recognised.of_no_bits _
theorem Sys2Proof.Laws.Recognised.anvilMovi (slice : Fin 16) (engine : Fin 8) (slot : Fin 3) (bits : BitVec 34) (close : Option (BitVec 8)) : Sys2Proof.Laws.Recognised.Statement (.anvilMovi slice engine slot bits close) := Sys2Proof.Laws.Recognised.of_no_bits _
theorem Sys2Proof.Laws.Recognised.anvilCmplti (slice : Fin 16) (engine : Fin 8) (slot : Fin 3) (bits : BitVec 34) (close : Option (BitVec 8)) : Sys2Proof.Laws.Recognised.Statement (.anvilCmplti slice engine slot bits close) := Sys2Proof.Laws.Recognised.of_no_bits _
theorem Sys2Proof.Laws.Recognised.anvilCmpgei (slice : Fin 16) (engine : Fin 8) (slot : Fin 3) (bits : BitVec 34) (close : Option (BitVec 8)) : Sys2Proof.Laws.Recognised.Statement (.anvilCmpgei slice engine slot bits close) := Sys2Proof.Laws.Recognised.of_no_bits _
theorem Sys2Proof.Laws.Recognised.anvilMul (slice : Fin 16) (engine : Fin 8) (slot : Fin 3) (bits : BitVec 34) (close : Option (BitVec 8)) : Sys2Proof.Laws.Recognised.Statement (.anvilMul slice engine slot bits close) := Sys2Proof.Laws.Recognised.of_no_bits _
theorem Sys2Proof.Laws.Recognised.anvilMac (slice : Fin 16) (engine : Fin 8) (slot : Fin 3) (bits : BitVec 34) (close : Option (BitVec 8)) : Sys2Proof.Laws.Recognised.Statement (.anvilMac slice engine slot bits close) := Sys2Proof.Laws.Recognised.of_no_bits _
theorem Sys2Proof.Laws.Recognised.anvilLut (slice : Fin 16) (engine : Fin 8) (slot : Fin 3) (bits : BitVec 34) (close : Option (BitVec 8)) : Sys2Proof.Laws.Recognised.Statement (.anvilLut slice engine slot bits close) := Sys2Proof.Laws.Recognised.of_no_bits _
theorem Sys2Proof.Laws.Recognised.anvilSumh (slice : Fin 16) (engine : Fin 8) (slot : Fin 3) (bits : BitVec 34) (close : Option (BitVec 8)) : Sys2Proof.Laws.Recognised.Statement (.anvilSumh slice engine slot bits close) := Sys2Proof.Laws.Recognised.of_no_bits _
theorem Sys2Proof.Laws.Recognised.anvilWin (slice : Fin 16) (engine : Fin 8) (slot : Fin 3) (bits : BitVec 34) (close : Option (BitVec 8)) : Sys2Proof.Laws.Recognised.Statement (.anvilWin slice engine slot bits close) := Sys2Proof.Laws.Recognised.of_no_bits _
theorem Sys2Proof.Laws.Recognised.anvilLdp (slice : Fin 16) (engine : Fin 8) (slot : Fin 3) (bits : BitVec 34) (close : Option (BitVec 8)) : Sys2Proof.Laws.Recognised.Statement (.anvilLdp slice engine slot bits close) := Sys2Proof.Laws.Recognised.of_no_bits _
theorem Sys2Proof.Laws.Recognised.anvilEmc (slice : Fin 16) (engine : Fin 8) (slot : Fin 3) (bits : BitVec 34) (close : Option (BitVec 8)) : Sys2Proof.Laws.Recognised.Statement (.anvilEmc slice engine slot bits close) := Sys2Proof.Laws.Recognised.of_no_bits _
theorem Sys2Proof.Laws.Recognised.anvilEmi (slice : Fin 16) (engine : Fin 8) (slot : Fin 3) (bits : BitVec 34) (close : Option (BitVec 8)) : Sys2Proof.Laws.Recognised.Statement (.anvilEmi slice engine slot bits close) := Sys2Proof.Laws.Recognised.of_no_bits _
theorem Sys2Proof.Laws.Recognised.anvilBr (slice : Fin 16) (engine : Fin 8) (slot : Fin 3) (bits : BitVec 34) (close : Option (BitVec 8)) : Sys2Proof.Laws.Recognised.Statement (.anvilBr slice engine slot bits close) := Sys2Proof.Laws.Recognised.of_no_bits _
theorem Sys2Proof.Laws.Recognised.anvilPand (slice : Fin 16) (engine : Fin 8) (slot : Fin 3) (bits : BitVec 34) (close : Option (BitVec 8)) : Sys2Proof.Laws.Recognised.Statement (.anvilPand slice engine slot bits close) := Sys2Proof.Laws.Recognised.of_no_bits _
theorem Sys2Proof.Laws.Recognised.anvilPor (slice : Fin 16) (engine : Fin 8) (slot : Fin 3) (bits : BitVec 34) (close : Option (BitVec 8)) : Sys2Proof.Laws.Recognised.Statement (.anvilPor slice engine slot bits close) := Sys2Proof.Laws.Recognised.of_no_bits _
theorem Sys2Proof.Laws.Recognised.anvilPxor (slice : Fin 16) (engine : Fin 8) (slot : Fin 3) (bits : BitVec 34) (close : Option (BitVec 8)) : Sys2Proof.Laws.Recognised.Statement (.anvilPxor slice engine slot bits close) := Sys2Proof.Laws.Recognised.of_no_bits _
theorem Sys2Proof.Laws.Recognised.anvilPandn (slice : Fin 16) (engine : Fin 8) (slot : Fin 3) (bits : BitVec 34) (close : Option (BitVec 8)) : Sys2Proof.Laws.Recognised.Statement (.anvilPandn slice engine slot bits close) := Sys2Proof.Laws.Recognised.of_no_bits _
theorem Sys2Proof.Laws.Recognised.anvilPset (slice : Fin 16) (engine : Fin 8) (slot : Fin 3) (bits : BitVec 34) (close : Option (BitVec 8)) : Sys2Proof.Laws.Recognised.Statement (.anvilPset slice engine slot bits close) := Sys2Proof.Laws.Recognised.of_no_bits _
theorem Sys2Proof.Laws.Recognised.classLineEnter : Sys2Proof.Laws.Recognised.Statement (.classLineEnter) := Sys2Proof.Laws.Recognised.of_no_bits _
theorem Sys2Proof.Laws.Recognised.endOfFlow : Sys2Proof.Laws.Recognised.Statement (.endOfFlow) := Sys2Proof.Laws.Recognised.of_no_bits _
theorem Sys2Proof.Laws.Recognised.anvilApply (v : Reg32) : Sys2Proof.Laws.Recognised.Statement (.anvilApply v) := Sys2Proof.Laws.Recognised.of_no_bits _
theorem Sys2Proof.Laws.Recognised.paramWordWrite (v : Reg32) : Sys2Proof.Laws.Recognised.Statement (.paramWordWrite v) := Sys2Proof.Laws.Recognised.of_no_bits _
theorem Sys2Proof.Laws.Recognised.bundleStoreWrite (v : Reg32) : Sys2Proof.Laws.Recognised.Statement (.bundleStoreWrite v) := Sys2Proof.Laws.Recognised.of_no_bits _
theorem Sys2Proof.Laws.Recognised.anvilLutAccess (v : Option Reg32) : Sys2Proof.Laws.Recognised.Statement (.anvilLutAccess v) := Sys2Proof.Laws.Recognised.of_no_bits _
theorem Sys2Proof.Laws.Recognised.anvilLoadGo (v : Reg32) : Sys2Proof.Laws.Recognised.Statement (.anvilLoadGo v) := Sys2Proof.Laws.Recognised.of_no_bits _
theorem Sys2Proof.Laws.Recognised.anvilLoadDone (failed : Option Nat) (ecc : EccResult) : Sys2Proof.Laws.Recognised.Statement (.anvilLoadDone failed ecc) := Sys2Proof.Laws.Recognised.of_no_bits _
theorem Sys2Proof.Laws.Recognised.intervalCommit (found : CommitChecks) : Sys2Proof.Laws.Recognised.Statement (.intervalCommit found) := Sys2Proof.Laws.Recognised.of_no_bits _
theorem Sys2Proof.Laws.Recognised.drainCommit (found : CommitChecks) : Sys2Proof.Laws.Recognised.Statement (.drainCommit found) := Sys2Proof.Laws.Recognised.of_no_bits _
theorem Sys2Proof.Laws.Recognised.bloomLine : Sys2Proof.Laws.Recognised.Statement (.bloomLine) := Sys2Proof.Laws.Recognised.of_no_bits _
theorem Sys2Proof.Laws.Recognised.flush (v : Reg32) : Sys2Proof.Laws.Recognised.Statement (.flush v) := Sys2Proof.Laws.Recognised.of_no_bits _
theorem Sys2Proof.Laws.Recognised.cropCut (ecc : EccResult) : Sys2Proof.Laws.Recognised.Statement (.cropCut ecc) := Sys2Proof.Laws.Recognised.of_no_bits _
theorem Sys2Proof.Laws.Recognised.cropDone : Sys2Proof.Laws.Recognised.Statement (.cropDone) := Sys2Proof.Laws.Recognised.of_no_bits _
theorem Sys2Proof.Laws.Recognised.recordPush : Sys2Proof.Laws.Recognised.Statement (.recordPush) := Sys2Proof.Laws.Recognised.of_no_bits _
theorem Sys2Proof.Laws.Recognised.feederLine (ecc : EccResult) : Sys2Proof.Laws.Recognised.Statement (.feederLine ecc) := Sys2Proof.Laws.Recognised.of_no_bits _
theorem Sys2Proof.Laws.Recognised.markSend (mark : Nat) : Sys2Proof.Laws.Recognised.Statement (.markSend mark) := Sys2Proof.Laws.Recognised.of_no_bits _
theorem Sys2Proof.Laws.Recognised.markFired (mark : Nat) : Sys2Proof.Laws.Recognised.Statement (.markFired mark) := Sys2Proof.Laws.Recognised.of_no_bits _
theorem Sys2Proof.Laws.Recognised.fireFrame (link : Fin 8) : Sys2Proof.Laws.Recognised.Statement (.fireFrame link) := Sys2Proof.Laws.Recognised.of_no_bits _
theorem Sys2Proof.Laws.Recognised.cancelFrame (link : Fin 8) : Sys2Proof.Laws.Recognised.Statement (.cancelFrame link) := Sys2Proof.Laws.Recognised.of_no_bits _
theorem Sys2Proof.Laws.Recognised.syncDue (link : Fin 8) : Sys2Proof.Laws.Recognised.Statement (.syncDue link) := Sys2Proof.Laws.Recognised.of_no_bits _
theorem Sys2Proof.Laws.Recognised.syncFrame (link : Fin 8) : Sys2Proof.Laws.Recognised.Statement (.syncFrame link) := Sys2Proof.Laws.Recognised.of_no_bits _
theorem Sys2Proof.Laws.Recognised.configFrame (link : Fin 8) : Sys2Proof.Laws.Recognised.Statement (.configFrame link) := Sys2Proof.Laws.Recognised.of_no_bits _
theorem Sys2Proof.Laws.Recognised.markerLinkEnable (link : Fin 8) (v : Reg32) : Sys2Proof.Laws.Recognised.Statement (.markerLinkEnable link v) := Sys2Proof.Laws.Recognised.of_no_bits _
theorem Sys2Proof.Laws.Recognised.markerLinkDisable (link : Fin 8) (v : Reg32) : Sys2Proof.Laws.Recognised.Statement (.markerLinkDisable link v) := Sys2Proof.Laws.Recognised.of_no_bits _
theorem Sys2Proof.Laws.Recognised.channelWidthWrite (ch : Fin 1024) (v : Reg32) : Sys2Proof.Laws.Recognised.Statement (.channelWidthWrite ch v) := Sys2Proof.Laws.Recognised.of_no_bits _
theorem Sys2Proof.Laws.Recognised.streamApply (unit : Fin 8) (v : Reg32) : Sys2Proof.Laws.Recognised.Statement (.streamApply unit v) := Sys2Proof.Laws.Recognised.of_no_bits _
theorem Sys2Proof.Laws.Recognised.streamStop (unit : Fin 8) (v : Reg32) : Sys2Proof.Laws.Recognised.Statement (.streamStop unit v) := Sys2Proof.Laws.Recognised.of_no_bits _
theorem Sys2Proof.Laws.Recognised.compressionJob (engine : Fin 8) (ecc : EccResult) (badWord : Nat) : Sys2Proof.Laws.Recognised.Statement (.compressionJob engine ecc badWord) := Sys2Proof.Laws.Recognised.of_no_bits _
theorem Sys2Proof.Laws.Recognised.jobComplete (engine : Fin 8) (ecc : EccResult) : Sys2Proof.Laws.Recognised.Statement (.jobComplete engine ecc) := Sys2Proof.Laws.Recognised.of_no_bits _
theorem Sys2Proof.Laws.Recognised.completionPush (engine : Fin 8) : Sys2Proof.Laws.Recognised.Statement (.completionPush engine) := Sys2Proof.Laws.Recognised.of_no_bits _
theorem Sys2Proof.Laws.Recognised.jobAbort (v : Reg32) : Sys2Proof.Laws.Recognised.Statement (.jobAbort v) := Sys2Proof.Laws.Recognised.of_no_bits _
theorem Sys2Proof.Laws.Recognised.saveAll (v : Reg32) : Sys2Proof.Laws.Recognised.Statement (.saveAll v) := Sys2Proof.Laws.Recognised.of_no_bits _
theorem Sys2Proof.Laws.Recognised.tableSetAccess (v : Option Reg32) : Sys2Proof.Laws.Recognised.Statement (.tableSetAccess v) := Sys2Proof.Laws.Recognised.of_no_bits _
theorem Sys2Proof.Laws.Recognised.stateHandleWrite (v : Reg32) : Sys2Proof.Laws.Recognised.Statement (.stateHandleWrite v) := Sys2Proof.Laws.Recognised.of_no_bits _
theorem Sys2Proof.Laws.Recognised.apAllocate (port : Fin 5) : Sys2Proof.Laws.Recognised.Statement (.apAllocate port) := Sys2Proof.Laws.Recognised.of_no_bits _
theorem Sys2Proof.Laws.Recognised.apAllocatePinned (port : Fin 5) : Sys2Proof.Laws.Recognised.Statement (.apAllocatePinned port) := Sys2Proof.Laws.Recognised.of_no_bits _
theorem Sys2Proof.Laws.Recognised.apFree (port : Fin 5) : Sys2Proof.Laws.Recognised.Statement (.apFree port) := Sys2Proof.Laws.Recognised.of_no_bits _
theorem Sys2Proof.Laws.Recognised.apPin (port : Fin 5) : Sys2Proof.Laws.Recognised.Statement (.apPin port) := Sys2Proof.Laws.Recognised.of_no_bits _
theorem Sys2Proof.Laws.Recognised.apUnpin (port : Fin 5) : Sys2Proof.Laws.Recognised.Statement (.apUnpin port) := Sys2Proof.Laws.Recognised.of_no_bits _
theorem Sys2Proof.Laws.Recognised.apQuery (port : Fin 5) : Sys2Proof.Laws.Recognised.Statement (.apQuery port) := Sys2Proof.Laws.Recognised.of_no_bits _
theorem Sys2Proof.Laws.Recognised.bar2Read (offset : BitVec 24) (length : Nat) (ecc : EccResult) (metadata : Bool) : Sys2Proof.Laws.Recognised.Statement (.bar2Read offset length ecc metadata) := Sys2Proof.Laws.Recognised.of_no_bits _
theorem Sys2Proof.Laws.Recognised.bar2Write (offset : BitVec 24) (bytes : List Byte) : Sys2Proof.Laws.Recognised.Statement (.bar2Write offset bytes) := Sys2Proof.Laws.Recognised.of_no_bits _
theorem Sys2Proof.Laws.Recognised.bulkPortBaseCommit (v : Reg32) : Sys2Proof.Laws.Recognised.Statement (.bulkPortBaseCommit v) := Sys2Proof.Laws.Recognised.of_no_bits _
theorem Sys2Proof.Laws.Recognised.pageOutDone (handle : BitVec 32) (frame : Nat) (passed : List (BitVec 32 × Nat)) : Sys2Proof.Laws.Recognised.Statement (.pageOutDone handle frame passed) := Sys2Proof.Laws.Recognised.of_no_bits _
theorem Sys2Proof.Laws.Recognised.pageInDone (handle : BitVec 32) (frame : Nat) (crc : EccResult) : Sys2Proof.Laws.Recognised.Statement (.pageInDone handle frame crc) := Sys2Proof.Laws.Recognised.of_no_bits _
theorem Sys2Proof.Laws.Recognised.retireDone (handle : BitVec 32) (frame : Nat) (unreadable : List Nat) : Sys2Proof.Laws.Recognised.Statement (.retireDone handle frame unreadable) := Sys2Proof.Laws.Recognised.of_no_bits _
theorem Sys2Proof.Laws.Recognised.scrubRead (handle : BitVec 32) (frame : Nat) (ecc : EccResult) : Sys2Proof.Laws.Recognised.Statement (.scrubRead handle frame ecc) := Sys2Proof.Laws.Recognised.of_no_bits _
theorem Sys2Proof.Laws.Recognised.starvation (cls : Fin 5) : Sys2Proof.Laws.Recognised.Statement (.starvation cls) := Sys2Proof.Laws.Recognised.of_no_bits _
theorem Sys2Proof.Laws.Recognised.reservedOpcode (core : Fin 4) (op : BitVec 8) (w : BitVec 24) : Sys2Proof.Laws.Recognised.Statement (.reservedOpcode core op w) := Sys2Proof.Laws.Recognised.of_no_bits _
theorem Sys2Proof.Laws.Recognised.nop (core : Fin 4) (w : BitVec 24) : Sys2Proof.Laws.Recognised.Statement (.nop core w) := Sys2Proof.Laws.Recognised.of_no_bits _
theorem Sys2Proof.Laws.Recognised.add (core : Fin 4) (w : BitVec 24) : Sys2Proof.Laws.Recognised.Statement (.add core w) := Sys2Proof.Laws.Recognised.of_no_bits _
theorem Sys2Proof.Laws.Recognised.sub (core : Fin 4) (w : BitVec 24) : Sys2Proof.Laws.Recognised.Statement (.sub core w) := Sys2Proof.Laws.Recognised.of_no_bits _
theorem Sys2Proof.Laws.Recognised.and (core : Fin 4) (w : BitVec 24) : Sys2Proof.Laws.Recognised.Statement (.and core w) := Sys2Proof.Laws.Recognised.of_no_bits _
theorem Sys2Proof.Laws.Recognised.or (core : Fin 4) (w : BitVec 24) : Sys2Proof.Laws.Recognised.Statement (.or core w) := Sys2Proof.Laws.Recognised.of_no_bits _
theorem Sys2Proof.Laws.Recognised.xor (core : Fin 4) (w : BitVec 24) : Sys2Proof.Laws.Recognised.Statement (.xor core w) := Sys2Proof.Laws.Recognised.of_no_bits _
theorem Sys2Proof.Laws.Recognised.shl (core : Fin 4) (w : BitVec 24) : Sys2Proof.Laws.Recognised.Statement (.shl core w) := Sys2Proof.Laws.Recognised.of_no_bits _
theorem Sys2Proof.Laws.Recognised.shr (core : Fin 4) (w : BitVec 24) : Sys2Proof.Laws.Recognised.Statement (.shr core w) := Sys2Proof.Laws.Recognised.of_no_bits _
theorem Sys2Proof.Laws.Recognised.shra (core : Fin 4) (w : BitVec 24) : Sys2Proof.Laws.Recognised.Statement (.shra core w) := Sys2Proof.Laws.Recognised.of_no_bits _
theorem Sys2Proof.Laws.Recognised.clt (core : Fin 4) (w : BitVec 24) : Sys2Proof.Laws.Recognised.Statement (.clt core w) := Sys2Proof.Laws.Recognised.of_no_bits _
theorem Sys2Proof.Laws.Recognised.cltu (core : Fin 4) (w : BitVec 24) : Sys2Proof.Laws.Recognised.Statement (.cltu core w) := Sys2Proof.Laws.Recognised.of_no_bits _
theorem Sys2Proof.Laws.Recognised.min (core : Fin 4) (w : BitVec 24) : Sys2Proof.Laws.Recognised.Statement (.min core w) := Sys2Proof.Laws.Recognised.of_no_bits _
theorem Sys2Proof.Laws.Recognised.max (core : Fin 4) (w : BitVec 24) : Sys2Proof.Laws.Recognised.Statement (.max core w) := Sys2Proof.Laws.Recognised.of_no_bits _
theorem Sys2Proof.Laws.Recognised.minu (core : Fin 4) (w : BitVec 24) : Sys2Proof.Laws.Recognised.Statement (.minu core w) := Sys2Proof.Laws.Recognised.of_no_bits _
theorem Sys2Proof.Laws.Recognised.maxu (core : Fin 4) (w : BitVec 24) : Sys2Proof.Laws.Recognised.Statement (.maxu core w) := Sys2Proof.Laws.Recognised.of_no_bits _
theorem Sys2Proof.Laws.Recognised.mul (core : Fin 4) (w : BitVec 24) : Sys2Proof.Laws.Recognised.Statement (.mul core w) := Sys2Proof.Laws.Recognised.of_no_bits _
theorem Sys2Proof.Laws.Recognised.mulhs (core : Fin 4) (w : BitVec 24) : Sys2Proof.Laws.Recognised.Statement (.mulhs core w) := Sys2Proof.Laws.Recognised.of_no_bits _
theorem Sys2Proof.Laws.Recognised.mulhu (core : Fin 4) (w : BitVec 24) : Sys2Proof.Laws.Recognised.Statement (.mulhu core w) := Sys2Proof.Laws.Recognised.of_no_bits _
theorem Sys2Proof.Laws.Recognised.quo (core : Fin 4) (w : BitVec 24) : Sys2Proof.Laws.Recognised.Statement (.quo core w) := Sys2Proof.Laws.Recognised.of_no_bits _
theorem Sys2Proof.Laws.Recognised.quou (core : Fin 4) (w : BitVec 24) : Sys2Proof.Laws.Recognised.Statement (.quou core w) := Sys2Proof.Laws.Recognised.of_no_bits _
theorem Sys2Proof.Laws.Recognised.mod (core : Fin 4) (w : BitVec 24) : Sys2Proof.Laws.Recognised.Statement (.mod core w) := Sys2Proof.Laws.Recognised.of_no_bits _
theorem Sys2Proof.Laws.Recognised.modu (core : Fin 4) (w : BitVec 24) : Sys2Proof.Laws.Recognised.Statement (.modu core w) := Sys2Proof.Laws.Recognised.of_no_bits _
theorem Sys2Proof.Laws.Recognised.addi (core : Fin 4) (w : BitVec 24) : Sys2Proof.Laws.Recognised.Statement (.addi core w) := Sys2Proof.Laws.Recognised.of_no_bits _
theorem Sys2Proof.Laws.Recognised.andi (core : Fin 4) (w : BitVec 24) : Sys2Proof.Laws.Recognised.Statement (.andi core w) := Sys2Proof.Laws.Recognised.of_no_bits _
theorem Sys2Proof.Laws.Recognised.ori (core : Fin 4) (w : BitVec 24) : Sys2Proof.Laws.Recognised.Statement (.ori core w) := Sys2Proof.Laws.Recognised.of_no_bits _
theorem Sys2Proof.Laws.Recognised.xori (core : Fin 4) (w : BitVec 24) : Sys2Proof.Laws.Recognised.Statement (.xori core w) := Sys2Proof.Laws.Recognised.of_no_bits _
theorem Sys2Proof.Laws.Recognised.shli (core : Fin 4) (w : BitVec 24) : Sys2Proof.Laws.Recognised.Statement (.shli core w) := Sys2Proof.Laws.Recognised.of_no_bits _
theorem Sys2Proof.Laws.Recognised.shri (core : Fin 4) (w : BitVec 24) : Sys2Proof.Laws.Recognised.Statement (.shri core w) := Sys2Proof.Laws.Recognised.of_no_bits _
theorem Sys2Proof.Laws.Recognised.shrai (core : Fin 4) (w : BitVec 24) : Sys2Proof.Laws.Recognised.Statement (.shrai core w) := Sys2Proof.Laws.Recognised.of_no_bits _
theorem Sys2Proof.Laws.Recognised.clti (core : Fin 4) (w : BitVec 24) : Sys2Proof.Laws.Recognised.Statement (.clti core w) := Sys2Proof.Laws.Recognised.of_no_bits _
theorem Sys2Proof.Laws.Recognised.cltui (core : Fin 4) (w : BitVec 24) : Sys2Proof.Laws.Recognised.Statement (.cltui core w) := Sys2Proof.Laws.Recognised.of_no_bits _
theorem Sys2Proof.Laws.Recognised.ihi (core : Fin 4) (w : BitVec 24) : Sys2Proof.Laws.Recognised.Statement (.ihi core w) := Sys2Proof.Laws.Recognised.of_no_bits _
theorem Sys2Proof.Laws.Recognised.ld8 (core : Fin 4) (w : BitVec 24) (ecc : EccResult) : Sys2Proof.Laws.Recognised.Statement (.ld8 core w ecc) := Sys2Proof.Laws.Recognised.of_no_bits _
theorem Sys2Proof.Laws.Recognised.ld8u (core : Fin 4) (w : BitVec 24) (ecc : EccResult) : Sys2Proof.Laws.Recognised.Statement (.ld8u core w ecc) := Sys2Proof.Laws.Recognised.of_no_bits _
theorem Sys2Proof.Laws.Recognised.ld16 (core : Fin 4) (w : BitVec 24) (ecc : EccResult) : Sys2Proof.Laws.Recognised.Statement (.ld16 core w ecc) := Sys2Proof.Laws.Recognised.of_no_bits _
theorem Sys2Proof.Laws.Recognised.ld16u (core : Fin 4) (w : BitVec 24) (ecc : EccResult) : Sys2Proof.Laws.Recognised.Statement (.ld16u core w ecc) := Sys2Proof.Laws.Recognised.of_no_bits _
theorem Sys2Proof.Laws.Recognised.ld32 (core : Fin 4) (w : BitVec 24) (ecc : EccResult) : Sys2Proof.Laws.Recognised.Statement (.ld32 core w ecc) := Sys2Proof.Laws.Recognised.of_no_bits _
theorem Sys2Proof.Laws.Recognised.ld32u (core : Fin 4) (w : BitVec 24) (ecc : EccResult) : Sys2Proof.Laws.Recognised.Statement (.ld32u core w ecc) := Sys2Proof.Laws.Recognised.of_no_bits _
theorem Sys2Proof.Laws.Recognised.ld64 (core : Fin 4) (w : BitVec 24) (ecc : EccResult) : Sys2Proof.Laws.Recognised.Statement (.ld64 core w ecc) := Sys2Proof.Laws.Recognised.of_no_bits _
theorem Sys2Proof.Laws.Recognised.st8 (core : Fin 4) (w : BitVec 24) : Sys2Proof.Laws.Recognised.Statement (.st8 core w) := Sys2Proof.Laws.Recognised.of_no_bits _
theorem Sys2Proof.Laws.Recognised.st16 (core : Fin 4) (w : BitVec 24) : Sys2Proof.Laws.Recognised.Statement (.st16 core w) := Sys2Proof.Laws.Recognised.of_no_bits _
theorem Sys2Proof.Laws.Recognised.st32 (core : Fin 4) (w : BitVec 24) : Sys2Proof.Laws.Recognised.Statement (.st32 core w) := Sys2Proof.Laws.Recognised.of_no_bits _
theorem Sys2Proof.Laws.Recognised.st64 (core : Fin 4) (w : BitVec 24) : Sys2Proof.Laws.Recognised.Statement (.st64 core w) := Sys2Proof.Laws.Recognised.of_no_bits _
theorem Sys2Proof.Laws.Recognised.lds (core : Fin 4) (w : BitVec 24) (ecc : EccResult) : Sys2Proof.Laws.Recognised.Statement (.lds core w ecc) := Sys2Proof.Laws.Recognised.of_no_bits _
theorem Sys2Proof.Laws.Recognised.sts (core : Fin 4) (w : BitVec 24) : Sys2Proof.Laws.Recognised.Statement (.sts core w) := Sys2Proof.Laws.Recognised.of_no_bits _
theorem Sys2Proof.Laws.Recognised.atadd (core : Fin 4) (w : BitVec 24) (ecc : EccResult) : Sys2Proof.Laws.Recognised.Statement (.atadd core w ecc) := Sys2Proof.Laws.Recognised.of_no_bits _
theorem Sys2Proof.Laws.Recognised.atswp (core : Fin 4) (w : BitVec 24) (ecc : EccResult) : Sys2Proof.Laws.Recognised.Statement (.atswp core w ecc) := Sys2Proof.Laws.Recognised.of_no_bits _
theorem Sys2Proof.Laws.Recognised.atcas (core : Fin 4) (w : BitVec 24) (ecc : EccResult) : Sys2Proof.Laws.Recognised.Statement (.atcas core w ecc) := Sys2Proof.Laws.Recognised.of_no_bits _
theorem Sys2Proof.Laws.Recognised.beq (core : Fin 4) (w : BitVec 24) : Sys2Proof.Laws.Recognised.Statement (.beq core w) := Sys2Proof.Laws.Recognised.of_no_bits _
theorem Sys2Proof.Laws.Recognised.bne (core : Fin 4) (w : BitVec 24) : Sys2Proof.Laws.Recognised.Statement (.bne core w) := Sys2Proof.Laws.Recognised.of_no_bits _
theorem Sys2Proof.Laws.Recognised.blt (core : Fin 4) (w : BitVec 24) : Sys2Proof.Laws.Recognised.Statement (.blt core w) := Sys2Proof.Laws.Recognised.of_no_bits _
theorem Sys2Proof.Laws.Recognised.bge (core : Fin 4) (w : BitVec 24) : Sys2Proof.Laws.Recognised.Statement (.bge core w) := Sys2Proof.Laws.Recognised.of_no_bits _
theorem Sys2Proof.Laws.Recognised.bltu (core : Fin 4) (w : BitVec 24) : Sys2Proof.Laws.Recognised.Statement (.bltu core w) := Sys2Proof.Laws.Recognised.of_no_bits _
theorem Sys2Proof.Laws.Recognised.bgeu (core : Fin 4) (w : BitVec 24) : Sys2Proof.Laws.Recognised.Statement (.bgeu core w) := Sys2Proof.Laws.Recognised.of_no_bits _
theorem Sys2Proof.Laws.Recognised.call (core : Fin 4) (w : BitVec 24) : Sys2Proof.Laws.Recognised.Statement (.call core w) := Sys2Proof.Laws.Recognised.of_no_bits _
theorem Sys2Proof.Laws.Recognised.callr (core : Fin 4) (w : BitVec 24) : Sys2Proof.Laws.Recognised.Statement (.callr core w) := Sys2Proof.Laws.Recognised.of_no_bits _
theorem Sys2Proof.Laws.Recognised.slo (core : Fin 4) (w : BitVec 24) : Sys2Proof.Laws.Recognised.Statement (.slo core w) := Sys2Proof.Laws.Recognised.of_no_bits _
theorem Sys2Proof.Laws.Recognised.shi (core : Fin 4) (w : BitVec 24) : Sys2Proof.Laws.Recognised.Statement (.shi core w) := Sys2Proof.Laws.Recognised.of_no_bits _
theorem Sys2Proof.Laws.Recognised.glo (core : Fin 4) (w : BitVec 24) : Sys2Proof.Laws.Recognised.Statement (.glo core w) := Sys2Proof.Laws.Recognised.of_no_bits _
theorem Sys2Proof.Laws.Recognised.ghi (core : Fin 4) (w : BitVec 24) : Sys2Proof.Laws.Recognised.Statement (.ghi core w) := Sys2Proof.Laws.Recognised.of_no_bits _
theorem Sys2Proof.Laws.Recognised.smv (core : Fin 4) (w : BitVec 24) : Sys2Proof.Laws.Recognised.Statement (.smv core w) := Sys2Proof.Laws.Recognised.of_no_bits _
theorem Sys2Proof.Laws.Recognised.mfc (core : Fin 4) (w : BitVec 24) : Sys2Proof.Laws.Recognised.Statement (.mfc core w) := Sys2Proof.Laws.Recognised.of_no_bits _
theorem Sys2Proof.Laws.Recognised.mtc (core : Fin 4) (w : BitVec 24) : Sys2Proof.Laws.Recognised.Statement (.mtc core w) := Sys2Proof.Laws.Recognised.of_no_bits _
theorem Sys2Proof.Laws.Recognised.di (core : Fin 4) (w : BitVec 24) : Sys2Proof.Laws.Recognised.Statement (.di core w) := Sys2Proof.Laws.Recognised.of_no_bits _
theorem Sys2Proof.Laws.Recognised.ei (core : Fin 4) (w : BitVec 24) : Sys2Proof.Laws.Recognised.Statement (.ei core w) := Sys2Proof.Laws.Recognised.of_no_bits _
theorem Sys2Proof.Laws.Recognised.wfi (core : Fin 4) (w : BitVec 24) : Sys2Proof.Laws.Recognised.Statement (.wfi core w) := Sys2Proof.Laws.Recognised.of_no_bits _
theorem Sys2Proof.Laws.Recognised.wfiWake (core : Fin 4) : Sys2Proof.Laws.Recognised.Statement (.wfiWake core) := Sys2Proof.Laws.Recognised.of_no_bits _
theorem Sys2Proof.Laws.Recognised.reti (core : Fin 4) (w : BitVec 24) (ecc : EccResult) : Sys2Proof.Laws.Recognised.Statement (.reti core w ecc) := Sys2Proof.Laws.Recognised.of_no_bits _
theorem Sys2Proof.Laws.Recognised.rete (core : Fin 4) (w : BitVec 24) : Sys2Proof.Laws.Recognised.Statement (.rete core w) := Sys2Proof.Laws.Recognised.of_no_bits _
theorem Sys2Proof.Laws.Recognised.swi (core : Fin 4) (w : BitVec 24) : Sys2Proof.Laws.Recognised.Statement (.swi core w) := Sys2Proof.Laws.Recognised.of_no_bits _
theorem Sys2Proof.Laws.Recognised.fence (core : Fin 4) (w : BitVec 24) : Sys2Proof.Laws.Recognised.Statement (.fence core w) := Sys2Proof.Laws.Recognised.of_no_bits _
theorem Sys2Proof.Laws.Recognised.brk (core : Fin 4) (w : BitVec 24) : Sys2Proof.Laws.Recognised.Statement (.brk core w) := Sys2Proof.Laws.Recognised.of_no_bits _
theorem Sys2Proof.Laws.Recognised.svc (core : Fin 4) (w : BitVec 24) : Sys2Proof.Laws.Recognised.Statement (.svc core w) := Sys2Proof.Laws.Recognised.of_no_bits _
theorem Sys2Proof.Laws.Recognised.qpop (core : Fin 4) (w : BitVec 24) (ecc : EccResult) : Sys2Proof.Laws.Recognised.Statement (.qpop core w ecc) := Sys2Proof.Laws.Recognised.of_no_bits _
theorem Sys2Proof.Laws.Recognised.qpush (core : Fin 4) (w : BitVec 24) : Sys2Proof.Laws.Recognised.Statement (.qpush core w) := Sys2Proof.Laws.Recognised.of_no_bits _
theorem Sys2Proof.Laws.Recognised.qopen (core : Fin 4) (w : BitVec 24) : Sys2Proof.Laws.Recognised.Statement (.qopen core w) := Sys2Proof.Laws.Recognised.of_no_bits _
theorem Sys2Proof.Laws.Recognised.qclose (core : Fin 4) (w : BitVec 24) : Sys2Proof.Laws.Recognised.Statement (.qclose core w) := Sys2Proof.Laws.Recognised.of_no_bits _
theorem Sys2Proof.Laws.Recognised.qlvl (core : Fin 4) (w : BitVec 24) : Sys2Proof.Laws.Recognised.Statement (.qlvl core w) := Sys2Proof.Laws.Recognised.of_no_bits _
theorem Sys2Proof.Laws.Recognised.iss (core : Fin 4) (w : BitVec 24) : Sys2Proof.Laws.Recognised.Statement (.iss core w) := Sys2Proof.Laws.Recognised.of_no_bits _
theorem Sys2Proof.Laws.Recognised.awt (core : Fin 4) (w : BitVec 24) : Sys2Proof.Laws.Recognised.Statement (.awt core w) := Sys2Proof.Laws.Recognised.of_no_bits _
theorem Sys2Proof.Laws.Recognised.bld (core : Fin 4) (w : BitVec 24) (ecc : EccResult) : Sys2Proof.Laws.Recognised.Statement (.bld core w ecc) := Sys2Proof.Laws.Recognised.of_no_bits _
theorem Sys2Proof.Laws.Recognised.bst (core : Fin 4) (w : BitVec 24) : Sys2Proof.Laws.Recognised.Statement (.bst core w) := Sys2Proof.Laws.Recognised.of_no_bits _
theorem Sys2Proof.Laws.Recognised.bmv (core : Fin 4) (w : BitVec 24) (ecc : EccResult) : Sys2Proof.Laws.Recognised.Statement (.bmv core w ecc) := Sys2Proof.Laws.Recognised.of_no_bits _
theorem Sys2Proof.Laws.Recognised.tagComplete (core : Fin 4) (tag : Fin 16) : Sys2Proof.Laws.Recognised.Statement (.tagComplete core tag) := Sys2Proof.Laws.Recognised.of_no_bits _
theorem Sys2Proof.Laws.Recognised.timerMatch (core : Fin 4) : Sys2Proof.Laws.Recognised.Statement (.timerMatch core) := Sys2Proof.Laws.Recognised.of_no_bits _
theorem Sys2Proof.Laws.Recognised.watchdogTimeout (core : Fin 4) : Sys2Proof.Laws.Recognised.Statement (.watchdogTimeout core) := Sys2Proof.Laws.Recognised.of_no_bits _
theorem Sys2Proof.Laws.Recognised.interruptEntry (core : Fin 4) : Sys2Proof.Laws.Recognised.Statement (.interruptEntry core) := Sys2Proof.Laws.Recognised.of_no_bits _
theorem Sys2Proof.Laws.Recognised.wckSwiWrite (ag : Agent) (core : Fin 4) (v : Reg32) : Sys2Proof.Laws.Recognised.Statement (.wckSwiWrite ag core v) := Sys2Proof.Laws.Recognised.of_no_bits _
theorem Sys2Proof.Laws.Recognised.serviceDone (core : Fin 4) (v : Reg32) : Sys2Proof.Laws.Recognised.Statement (.serviceDone core v) := Sys2Proof.Laws.Recognised.of_no_bits _
theorem Sys2Proof.Laws.Recognised.svcVersion : Sys2Proof.Laws.Recognised.Statement (.svcVersion) := Sys2Proof.Laws.Recognised.of_no_bits _
theorem Sys2Proof.Laws.Recognised.svcDevstate : Sys2Proof.Laws.Recognised.Statement (.svcDevstate) := Sys2Proof.Laws.Recognised.of_no_bits _
theorem Sys2Proof.Laws.Recognised.svcRoute : Sys2Proof.Laws.Recognised.Statement (.svcRoute) := Sys2Proof.Laws.Recognised.of_no_bits _
theorem Sys2Proof.Laws.Recognised.svcNotify : Sys2Proof.Laws.Recognised.Statement (.svcNotify) := Sys2Proof.Laws.Recognised.of_no_bits _
theorem Sys2Proof.Laws.Recognised.doorbell (ring : Fin 64) (v : Reg32) (size : Nat) : Sys2Proof.Laws.Recognised.Statement (.doorbell ring v size) := Sys2Proof.Laws.Recognised.of_no_bits _
theorem Sys2Proof.Laws.Recognised.queueInPush (ring : Fin 64) (length : Word) (words : List Word) (pcieOk : Bool) : Sys2Proof.Laws.Recognised.Statement (.queueInPush ring length words pcieOk) := Sys2Proof.Laws.Recognised.of_no_bits _
theorem Sys2Proof.Laws.Recognised.queueOutMove (ring : Fin 64) (ecc : EccResult) (badWord : Nat) (pcieOk : Bool) : Sys2Proof.Laws.Recognised.Statement (.queueOutMove ring ecc badWord pcieOk) := Sys2Proof.Laws.Recognised.of_no_bits _
theorem Sys2Proof.Laws.Recognised.receiveItem (ring : Fin 64) (desc : Descriptor) (pcieOk : Bool) (ecc : EccResult) : Sys2Proof.Laws.Recognised.Statement (.receiveItem ring desc pcieOk ecc) := Sys2Proof.Laws.Recognised.of_no_bits _
theorem Sys2Proof.Laws.Recognised.copyDescriptor (ring : Fin 64) (desc : Descriptor) (hostBytes : List Byte) (pcieOk : Bool) (ecc : EccResult) : Sys2Proof.Laws.Recognised.Statement (.copyDescriptor ring desc hostBytes pcieOk ecc) := Sys2Proof.Laws.Recognised.of_no_bits _
theorem Sys2Proof.Laws.Recognised.ringEnable (ring : Fin 64) (v : Reg32) : Sys2Proof.Laws.Recognised.Statement (.ringEnable ring v) := Sys2Proof.Laws.Recognised.of_no_bits _
theorem Sys2Proof.Laws.Recognised.ringDisable (ring : Fin 64) (v : Reg32) : Sys2Proof.Laws.Recognised.Statement (.ringDisable ring v) := Sys2Proof.Laws.Recognised.of_no_bits _
theorem Sys2Proof.Laws.Recognised.queueEnable (queue : Fin 64) (v : Reg32) : Sys2Proof.Laws.Recognised.Statement (.queueEnable queue v) := Sys2Proof.Laws.Recognised.of_no_bits _
theorem Sys2Proof.Laws.Recognised.queueDisable (queue : Fin 64) (v : Reg32) : Sys2Proof.Laws.Recognised.Statement (.queueDisable queue v) := Sys2Proof.Laws.Recognised.of_no_bits _
theorem Sys2Proof.Laws.Recognised.queueSnuff (queue : Fin 64) (v : Reg32) : Sys2Proof.Laws.Recognised.Statement (.queueSnuff queue v) := Sys2Proof.Laws.Recognised.of_no_bits _
theorem Sys2Proof.Laws.Recognised.pcieLinkTrained (speed : Fin 7) (width : Fin 9) (flit : Bool) : Sys2Proof.Laws.Recognised.Statement (.pcieLinkTrained speed width flit) := Sys2Proof.Laws.Recognised.of_no_bits _
theorem Sys2Proof.Laws.Recognised.vectorUnmask (write : MsixWrite) : Sys2Proof.Laws.Recognised.Statement (.vectorUnmask write) := Sys2Proof.Laws.Recognised.of_no_bits _
theorem Sys2Proof.Laws.Recognised.gateOpen (group : Fin 32) : Sys2Proof.Laws.Recognised.Statement (.gateOpen group) := Sys2Proof.Laws.Recognised.of_no_bits _
theorem Sys2Proof.Laws.Recognised.sourceConfigWrite (source : Fin 512) (v : Reg32) : Sys2Proof.Laws.Recognised.Statement (.sourceConfigWrite source v) := Sys2Proof.Laws.Recognised.of_no_bits _
theorem Sys2Proof.Laws.Recognised.ptpSync (m : PtpMsg) : Sys2Proof.Laws.Recognised.Statement (.ptpSync m) := Sys2Proof.Laws.Recognised.of_no_bits _
theorem Sys2Proof.Laws.Recognised.followUp (m : PtpMsg) : Sys2Proof.Laws.Recognised.Statement (.followUp m) := Sys2Proof.Laws.Recognised.of_no_bits _
theorem Sys2Proof.Laws.Recognised.delayReq (port : Fin 2) (tap : Fin 32) : Sys2Proof.Laws.Recognised.Statement (.delayReq port tap) := Sys2Proof.Laws.Recognised.of_no_bits _
theorem Sys2Proof.Laws.Recognised.delayResp (m : PtpMsg) : Sys2Proof.Laws.Recognised.Statement (.delayResp m) := Sys2Proof.Laws.Recognised.of_no_bits _
theorem Sys2Proof.Laws.Recognised.announce (m : PtpMsg) (data : AnnounceData) : Sys2Proof.Laws.Recognised.Statement (.announce m data) := Sys2Proof.Laws.Recognised.of_no_bits _
theorem Sys2Proof.Laws.Recognised.heldEnd : Sys2Proof.Laws.Recognised.Statement (.heldEnd) := Sys2Proof.Laws.Recognised.of_no_bits _
theorem Sys2Proof.Laws.Recognised.masterLost : Sys2Proof.Laws.Recognised.Statement (.masterLost) := Sys2Proof.Laws.Recognised.of_no_bits _
theorem Sys2Proof.Laws.Recognised.hostOffset (hi : Reg32) : Sys2Proof.Laws.Recognised.Statement (.hostOffset hi) := Sys2Proof.Laws.Recognised.of_no_bits _
theorem Sys2Proof.Laws.Recognised.sourceChange (v : Reg32) : Sys2Proof.Laws.Recognised.Statement (.sourceChange v) := Sys2Proof.Laws.Recognised.of_no_bits _
theorem Sys2Proof.Laws.Recognised.datagramSend (port : Fin 2) (tap : Fin 32) : Sys2Proof.Laws.Recognised.Statement (.datagramSend port tap) := Sys2Proof.Laws.Recognised.of_no_bits _
theorem Sys2Proof.Laws.Recognised.arpRequest (port : Fin 2) (ip : BitVec 32) (vlan : Option (BitVec 12)) : Sys2Proof.Laws.Recognised.Statement (.arpRequest port ip vlan) := Sys2Proof.Laws.Recognised.of_no_bits _
theorem Sys2Proof.Laws.Recognised.echoRequest (port : Fin 2) (ip : BitVec 32) (vlan : Option (BitVec 12)) : Sys2Proof.Laws.Recognised.Statement (.echoRequest port ip vlan) := Sys2Proof.Laws.Recognised.of_no_bits _
theorem Sys2Proof.Laws.Recognised.frameDiscard (port : Fin 2) (frame : PlantFrame) : Sys2Proof.Laws.Recognised.Statement (.frameDiscard port frame) := Sys2Proof.Laws.Recognised.of_no_bits _
theorem Sys2Proof.Laws.Recognised.plantLinkChange (port : Fin 2) (up : Bool) : Sys2Proof.Laws.Recognised.Statement (.plantLinkChange port up) := Sys2Proof.Laws.Recognised.of_no_bits _
theorem Sys2Proof.Laws.Recognised.retrainDue : Sys2Proof.Laws.Recognised.Statement (.retrainDue) := Sys2Proof.Laws.Recognised.of_no_bits _
theorem Sys2Proof.Laws.Recognised.runHbm : Sys2Proof.Laws.Recognised.Statement (.runHbm) := Sys2Proof.Laws.Recognised.of_no_bits _
theorem Sys2Proof.Laws.Recognised.retrainStart : Sys2Proof.Laws.Recognised.Statement (.retrainStart) := Sys2Proof.Laws.Recognised.of_no_bits _
theorem Sys2Proof.Laws.Recognised.retrainEnd (result : HbmResult) : Sys2Proof.Laws.Recognised.Statement (.retrainEnd result) := Sys2Proof.Laws.Recognised.of_no_bits _
theorem Sys2Proof.Laws.Recognised.retrainOverdue : Sys2Proof.Laws.Recognised.Statement (.retrainOverdue) := Sys2Proof.Laws.Recognised.of_no_bits _
theorem Sys2Proof.Laws.Recognised.tdcDue : Sys2Proof.Laws.Recognised.Statement (.tdcDue) := Sys2Proof.Laws.Recognised.of_no_bits _
theorem Sys2Proof.Laws.Recognised.runTdc : Sys2Proof.Laws.Recognised.Statement (.runTdc) := Sys2Proof.Laws.Recognised.of_no_bits _
theorem Sys2Proof.Laws.Recognised.tdcEnd (result : TdcResult) : Sys2Proof.Laws.Recognised.Statement (.tdcEnd result) := Sys2Proof.Laws.Recognised.of_no_bits _
theorem Sys2Proof.Laws.Recognised.coefDataRead : Sys2Proof.Laws.Recognised.Statement (.coefDataRead) := Sys2Proof.Laws.Recognised.of_no_bits _
theorem Sys2Proof.Laws.Recognised.programCustomerKey (v : Reg32) : Sys2Proof.Laws.Recognised.Statement (.programCustomerKey v) := Sys2Proof.Laws.Recognised.of_no_bits _
theorem Sys2Proof.Laws.Recognised.raiseFwSvnMin (v : Reg32) : Sys2Proof.Laws.Recognised.Statement (.raiseFwSvnMin v) := Sys2Proof.Laws.Recognised.of_no_bits _
theorem Sys2Proof.Laws.Recognised.raiseRcpSvnMin (v : Reg32) : Sys2Proof.Laws.Recognised.Statement (.raiseRcpSvnMin v) := Sys2Proof.Laws.Recognised.of_no_bits _
theorem Sys2Proof.Laws.Recognised.disableDebug (v : Reg32) : Sys2Proof.Laws.Recognised.Statement (.disableDebug v) := Sys2Proof.Laws.Recognised.of_no_bits _
theorem Sys2Proof.Laws.Recognised.provisionDone (result : FuseResult) : Sys2Proof.Laws.Recognised.Statement (.provisionDone result) := Sys2Proof.Laws.Recognised.of_no_bits _
theorem Sys2Proof.Laws.Recognised.registerUnlock (v : Reg32) : Sys2Proof.Laws.Recognised.Statement (.registerUnlock v) := Sys2Proof.Laws.Recognised.of_no_bits _
theorem Sys2Proof.Laws.Recognised.tapUnlock (level : BitVec 8) : Sys2Proof.Laws.Recognised.Statement (.tapUnlock level) := Sys2Proof.Laws.Recognised.of_no_bits _
theorem Sys2Proof.Laws.Recognised.unlockDone (signer : UnlockSigner) : Sys2Proof.Laws.Recognised.Statement (.unlockDone signer) := Sys2Proof.Laws.Recognised.of_no_bits _
theorem Sys2Proof.Laws.Recognised.measurementRead : Sys2Proof.Laws.Recognised.Statement (.measurementRead) := Sys2Proof.Laws.Recognised.of_no_bits _
theorem Sys2Proof.Laws.Recognised.pubkeyRead : Sys2Proof.Laws.Recognised.Statement (.pubkeyRead) := Sys2Proof.Laws.Recognised.of_no_bits _
theorem Sys2Proof.Laws.Recognised.bypass (tdi : Bool) : Sys2Proof.Laws.Recognised.Statement (.bypass tdi) := Sys2Proof.Laws.Recognised.of_no_bits _
theorem Sys2Proof.Laws.Recognised.idcode : Sys2Proof.Laws.Recognised.Statement (.idcode) := Sys2Proof.Laws.Recognised.of_no_bits _
theorem Sys2Proof.Laws.Recognised.samplePreload (levels : List (Nat × Bool)) : Sys2Proof.Laws.Recognised.Statement (.samplePreload levels) := Sys2Proof.Laws.Recognised.of_no_bits _
theorem Sys2Proof.Laws.Recognised.extest (levels : List (Nat × Bool)) : Sys2Proof.Laws.Recognised.Statement (.extest levels) := Sys2Proof.Laws.Recognised.of_no_bits _
theorem Sys2Proof.Laws.Recognised.clamp : Sys2Proof.Laws.Recognised.Statement (.clamp) := Sys2Proof.Laws.Recognised.of_no_bits _
theorem Sys2Proof.Laws.Recognised.highz : Sys2Proof.Laws.Recognised.Statement (.highz) := Sys2Proof.Laws.Recognised.of_no_bits _
theorem Sys2Proof.Laws.Recognised.wickDebugAccess (core : Fin 4) (op : DebugOp) : Sys2Proof.Laws.Recognised.Statement (.wickDebugAccess core op) := Sys2Proof.Laws.Recognised.of_no_bits _
theorem Sys2Proof.Laws.Recognised.smbusReadWord (command : BitVec 8) : Sys2Proof.Laws.Recognised.Statement (.smbusReadWord command) := Sys2Proof.Laws.Recognised.of_no_bits _
theorem Sys2Proof.Laws.Recognised.reinjectLine (ctx : Fin 64) (ecc : EccResult) : Sys2Proof.Laws.Recognised.Statement (.reinjectLine ctx ecc) := Sys2Proof.Laws.Recognised.of_no_bits _
theorem Sys2Proof.Laws.Recognised.receivedDelayReq (m : PtpMsg) : Sys2Proof.Laws.Recognised.Statement (.receivedDelayReq m) := Sys2Proof.Laws.Recognised.of_no_bits _
theorem Sys2Proof.Laws.Recognised.resetAfterResponse : Sys2Proof.Laws.Recognised.Statement (.resetAfterResponse) := Sys2Proof.Laws.Recognised.of_no_bits _
theorem Sys2Proof.Laws.Recognised.bar0Read (offset : BitVec 26) (size : Nat) : Sys2Proof.Laws.Recognised.Statement (.bar0Read offset size) := Sys2Proof.Laws.Recognised.of_no_bits _
end

