-- ==== Sys2Proof/Laws/State.lean ====
section
/-! SUPPORT. The state's fields under its updates: one lemma for each field that an update leaves alone, true by rfl, so that no
later proof unfolds a record update. -/

set_option Elab.async false
namespace Sys2Proof.Machine
namespace State

@[simp] theorem wr_pending (s : State) (k : Nat) (v : BitVec 32) : (s.wr k v).pending = s.pending := rfl
@[simp] theorem wr_out (s : State) (k : Nat) (v : BitVec 32) : (s.wr k v).out = s.out := rfl
@[simp] theorem wr_ticks (s : State) (k : Nat) (v : BitVec 32) : (s.wr k v).ticks = s.ticks := rfl
@[simp] theorem wr_free (s : State) (k : Nat) (v : BitVec 32) : (s.wr k v).free = s.free := rfl
@[simp] theorem wr_grade (s : State) (k : Nat) (v : BitVec 32) : (s.wr k v).grade = s.grade := rfl
@[simp] theorem wr_blw (s : State) (k : Nat) (v : BitVec 32) : (s.wr k v).blw = s.blw := rfl
@[simp] theorem wr_evt (s : State) (k : Nat) (v : BitVec 32) : (s.wr k v).evt = s.evt := rfl
@[simp] theorem wr_hst (s : State) (k : Nat) (v : BitVec 32) : (s.wr k v).hst = s.hst := rfl
@[simp] theorem wr_hrt (s : State) (k : Nat) (v : BitVec 32) : (s.wr k v).hrt = s.hrt := rfl
@[simp] theorem wr_jnl (s : State) (k : Nat) (v : BitVec 32) : (s.wr k v).jnl = s.jnl := rfl
@[simp] theorem wr_wck (s : State) (k : Nat) (v : BitVec 32) : (s.wr k v).wck = s.wck := rfl
@[simp] theorem wr_tim (s : State) (k : Nat) (v : BitVec 32) : (s.wr k v).tim = s.tim := rfl
@[simp] theorem wr_tmp (s : State) (k : Nat) (v : BitVec 32) : (s.wr k v).tmp = s.tmp := rfl
@[simp] theorem wr_sec (s : State) (k : Nat) (v : BitVec 32) : (s.wr k v).sec = s.sec := rfl
@[simp] theorem wr_pos (s : State) (k : Nat) (v : BitVec 32) : (s.wr k v).pos = s.pos := rfl
@[simp] theorem wr_lan (s : State) (k : Nat) (v : BitVec 32) : (s.wr k v).lan = s.lan := rfl
@[simp] theorem wr_int (s : State) (k : Nat) (v : BitVec 32) : (s.wr k v).int = s.int := rfl
@[simp] theorem wr_cor (s : State) (k : Nat) (v : BitVec 32) : (s.wr k v).cor = s.cor := rfl
@[simp] theorem wr_sti (s : State) (k : Nat) (v : BitVec 32) : (s.wr k v).sti = s.sti := rfl
@[simp] theorem wr_anv (s : State) (k : Nat) (v : BitVec 32) : (s.wr k v).anv = s.anv := rfl
@[simp] theorem wr_blm (s : State) (k : Nat) (v : BitVec 32) : (s.wr k v).blm = s.blm := rfl
@[simp] theorem wr_tng (s : State) (k : Nat) (v : BitVec 32) : (s.wr k v).tng = s.tng := rfl
@[simp] theorem wr_ost (s : State) (k : Nat) (v : BitVec 32) : (s.wr k v).ost = s.ost := rfl
@[simp] theorem wr_heldOst (s : State) (k : Nat) (v : BitVec 32) : (s.wr k v).heldOst = s.heldOst := rfl
@[simp] theorem wr_cmp (s : State) (k : Nat) (v : BitVec 32) : (s.wr k v).cmp = s.cmp := rfl
@[simp] theorem wr_rcp (s : State) (k : Nat) (v : BitVec 32) : (s.wr k v).rcp = s.rcp := rfl
@[simp] theorem wr_fed (s : State) (k : Nat) (v : BitVec 32) : (s.wr k v).fed = s.fed := rfl
@[simp] theorem wr_rcv (s : State) (k : Nat) (v : BitVec 32) : (s.wr k v).rcv = s.rcv := rfl

@[simp] theorem setFld_pending (s : State) (k : Nat) (f : Field) (n : Nat) : (s.setFld k f n).pending = s.pending := rfl
@[simp] theorem setFld_out (s : State) (k : Nat) (f : Field) (n : Nat) : (s.setFld k f n).out = s.out := rfl
@[simp] theorem setFld_ticks (s : State) (k : Nat) (f : Field) (n : Nat) : (s.setFld k f n).ticks = s.ticks := rfl
@[simp] theorem setFld_free (s : State) (k : Nat) (f : Field) (n : Nat) : (s.setFld k f n).free = s.free := rfl
@[simp] theorem setFld_grade (s : State) (k : Nat) (f : Field) (n : Nat) : (s.setFld k f n).grade = s.grade := rfl
@[simp] theorem setFld_blw (s : State) (k : Nat) (f : Field) (n : Nat) : (s.setFld k f n).blw = s.blw := rfl
@[simp] theorem setFld_evt (s : State) (k : Nat) (f : Field) (n : Nat) : (s.setFld k f n).evt = s.evt := rfl
@[simp] theorem setFld_hst (s : State) (k : Nat) (f : Field) (n : Nat) : (s.setFld k f n).hst = s.hst := rfl
@[simp] theorem setFld_hrt (s : State) (k : Nat) (f : Field) (n : Nat) : (s.setFld k f n).hrt = s.hrt := rfl
@[simp] theorem setFld_jnl (s : State) (k : Nat) (f : Field) (n : Nat) : (s.setFld k f n).jnl = s.jnl := rfl
@[simp] theorem setFld_wck (s : State) (k : Nat) (f : Field) (n : Nat) : (s.setFld k f n).wck = s.wck := rfl
@[simp] theorem setFld_tim (s : State) (k : Nat) (f : Field) (n : Nat) : (s.setFld k f n).tim = s.tim := rfl
@[simp] theorem setFld_tmp (s : State) (k : Nat) (f : Field) (n : Nat) : (s.setFld k f n).tmp = s.tmp := rfl
@[simp] theorem setFld_sec (s : State) (k : Nat) (f : Field) (n : Nat) : (s.setFld k f n).sec = s.sec := rfl
@[simp] theorem setFld_pos (s : State) (k : Nat) (f : Field) (n : Nat) : (s.setFld k f n).pos = s.pos := rfl
@[simp] theorem setFld_lan (s : State) (k : Nat) (f : Field) (n : Nat) : (s.setFld k f n).lan = s.lan := rfl
@[simp] theorem setFld_int (s : State) (k : Nat) (f : Field) (n : Nat) : (s.setFld k f n).int = s.int := rfl
@[simp] theorem setFld_cor (s : State) (k : Nat) (f : Field) (n : Nat) : (s.setFld k f n).cor = s.cor := rfl
@[simp] theorem setFld_sti (s : State) (k : Nat) (f : Field) (n : Nat) : (s.setFld k f n).sti = s.sti := rfl
@[simp] theorem setFld_anv (s : State) (k : Nat) (f : Field) (n : Nat) : (s.setFld k f n).anv = s.anv := rfl
@[simp] theorem setFld_blm (s : State) (k : Nat) (f : Field) (n : Nat) : (s.setFld k f n).blm = s.blm := rfl
@[simp] theorem setFld_tng (s : State) (k : Nat) (f : Field) (n : Nat) : (s.setFld k f n).tng = s.tng := rfl
@[simp] theorem setFld_ost (s : State) (k : Nat) (f : Field) (n : Nat) : (s.setFld k f n).ost = s.ost := rfl
@[simp] theorem setFld_heldOst (s : State) (k : Nat) (f : Field) (n : Nat) : (s.setFld k f n).heldOst = s.heldOst := rfl
@[simp] theorem setFld_cmp (s : State) (k : Nat) (f : Field) (n : Nat) : (s.setFld k f n).cmp = s.cmp := rfl
@[simp] theorem setFld_rcp (s : State) (k : Nat) (f : Field) (n : Nat) : (s.setFld k f n).rcp = s.rcp := rfl
@[simp] theorem setFld_fed (s : State) (k : Nat) (f : Field) (n : Nat) : (s.setFld k f n).fed = s.fed := rfl
@[simp] theorem setFld_rcv (s : State) (k : Nat) (f : Field) (n : Nat) : (s.setFld k f n).rcv = s.rcv := rfl

@[simp] theorem plainWrite_pending (s : State) (k : Nat) (v : BitVec 32) : (s.plainWrite k v).pending = s.pending := rfl
@[simp] theorem plainWrite_out (s : State) (k : Nat) (v : BitVec 32) : (s.plainWrite k v).out = s.out := rfl
@[simp] theorem plainWrite_ticks (s : State) (k : Nat) (v : BitVec 32) : (s.plainWrite k v).ticks = s.ticks := rfl
@[simp] theorem plainWrite_free (s : State) (k : Nat) (v : BitVec 32) : (s.plainWrite k v).free = s.free := rfl
@[simp] theorem plainWrite_grade (s : State) (k : Nat) (v : BitVec 32) : (s.plainWrite k v).grade = s.grade := rfl
@[simp] theorem plainWrite_blw (s : State) (k : Nat) (v : BitVec 32) : (s.plainWrite k v).blw = s.blw := rfl
@[simp] theorem plainWrite_evt (s : State) (k : Nat) (v : BitVec 32) : (s.plainWrite k v).evt = s.evt := rfl
@[simp] theorem plainWrite_hst (s : State) (k : Nat) (v : BitVec 32) : (s.plainWrite k v).hst = s.hst := rfl
@[simp] theorem plainWrite_hrt (s : State) (k : Nat) (v : BitVec 32) : (s.plainWrite k v).hrt = s.hrt := rfl
@[simp] theorem plainWrite_jnl (s : State) (k : Nat) (v : BitVec 32) : (s.plainWrite k v).jnl = s.jnl := rfl
@[simp] theorem plainWrite_wck (s : State) (k : Nat) (v : BitVec 32) : (s.plainWrite k v).wck = s.wck := rfl
@[simp] theorem plainWrite_tim (s : State) (k : Nat) (v : BitVec 32) : (s.plainWrite k v).tim = s.tim := rfl
@[simp] theorem plainWrite_tmp (s : State) (k : Nat) (v : BitVec 32) : (s.plainWrite k v).tmp = s.tmp := rfl
@[simp] theorem plainWrite_sec (s : State) (k : Nat) (v : BitVec 32) : (s.plainWrite k v).sec = s.sec := rfl
@[simp] theorem plainWrite_pos (s : State) (k : Nat) (v : BitVec 32) : (s.plainWrite k v).pos = s.pos := rfl
@[simp] theorem plainWrite_lan (s : State) (k : Nat) (v : BitVec 32) : (s.plainWrite k v).lan = s.lan := rfl
@[simp] theorem plainWrite_int (s : State) (k : Nat) (v : BitVec 32) : (s.plainWrite k v).int = s.int := rfl
@[simp] theorem plainWrite_cor (s : State) (k : Nat) (v : BitVec 32) : (s.plainWrite k v).cor = s.cor := rfl
@[simp] theorem plainWrite_sti (s : State) (k : Nat) (v : BitVec 32) : (s.plainWrite k v).sti = s.sti := rfl
@[simp] theorem plainWrite_anv (s : State) (k : Nat) (v : BitVec 32) : (s.plainWrite k v).anv = s.anv := rfl
@[simp] theorem plainWrite_blm (s : State) (k : Nat) (v : BitVec 32) : (s.plainWrite k v).blm = s.blm := rfl
@[simp] theorem plainWrite_tng (s : State) (k : Nat) (v : BitVec 32) : (s.plainWrite k v).tng = s.tng := rfl
@[simp] theorem plainWrite_ost (s : State) (k : Nat) (v : BitVec 32) : (s.plainWrite k v).ost = s.ost := rfl
@[simp] theorem plainWrite_heldOst (s : State) (k : Nat) (v : BitVec 32) : (s.plainWrite k v).heldOst = s.heldOst := rfl
@[simp] theorem plainWrite_cmp (s : State) (k : Nat) (v : BitVec 32) : (s.plainWrite k v).cmp = s.cmp := rfl
@[simp] theorem plainWrite_rcp (s : State) (k : Nat) (v : BitVec 32) : (s.plainWrite k v).rcp = s.rcp := rfl
@[simp] theorem plainWrite_fed (s : State) (k : Nat) (v : BitVec 32) : (s.plainWrite k v).fed = s.fed := rfl
@[simp] theorem plainWrite_rcv (s : State) (k : Nat) (v : BitVec 32) : (s.plainWrite k v).rcv = s.rcv := rfl

@[simp] theorem bumpBy_pending (s : State) (k n : Nat) : (s.bumpBy k n).pending = s.pending := rfl
@[simp] theorem bumpBy_out (s : State) (k n : Nat) : (s.bumpBy k n).out = s.out := rfl
@[simp] theorem bumpBy_ticks (s : State) (k n : Nat) : (s.bumpBy k n).ticks = s.ticks := rfl
@[simp] theorem bumpBy_free (s : State) (k n : Nat) : (s.bumpBy k n).free = s.free := rfl
@[simp] theorem bumpBy_grade (s : State) (k n : Nat) : (s.bumpBy k n).grade = s.grade := rfl
@[simp] theorem bumpBy_blw (s : State) (k n : Nat) : (s.bumpBy k n).blw = s.blw := rfl
@[simp] theorem bumpBy_evt (s : State) (k n : Nat) : (s.bumpBy k n).evt = s.evt := rfl
@[simp] theorem bumpBy_hst (s : State) (k n : Nat) : (s.bumpBy k n).hst = s.hst := rfl
@[simp] theorem bumpBy_hrt (s : State) (k n : Nat) : (s.bumpBy k n).hrt = s.hrt := rfl
@[simp] theorem bumpBy_jnl (s : State) (k n : Nat) : (s.bumpBy k n).jnl = s.jnl := rfl
@[simp] theorem bumpBy_wck (s : State) (k n : Nat) : (s.bumpBy k n).wck = s.wck := rfl
@[simp] theorem bumpBy_tim (s : State) (k n : Nat) : (s.bumpBy k n).tim = s.tim := rfl
@[simp] theorem bumpBy_tmp (s : State) (k n : Nat) : (s.bumpBy k n).tmp = s.tmp := rfl
@[simp] theorem bumpBy_sec (s : State) (k n : Nat) : (s.bumpBy k n).sec = s.sec := rfl
@[simp] theorem bumpBy_pos (s : State) (k n : Nat) : (s.bumpBy k n).pos = s.pos := rfl
@[simp] theorem bumpBy_lan (s : State) (k n : Nat) : (s.bumpBy k n).lan = s.lan := rfl
@[simp] theorem bumpBy_int (s : State) (k n : Nat) : (s.bumpBy k n).int = s.int := rfl
@[simp] theorem bumpBy_cor (s : State) (k n : Nat) : (s.bumpBy k n).cor = s.cor := rfl
@[simp] theorem bumpBy_sti (s : State) (k n : Nat) : (s.bumpBy k n).sti = s.sti := rfl
@[simp] theorem bumpBy_anv (s : State) (k n : Nat) : (s.bumpBy k n).anv = s.anv := rfl
@[simp] theorem bumpBy_blm (s : State) (k n : Nat) : (s.bumpBy k n).blm = s.blm := rfl
@[simp] theorem bumpBy_tng (s : State) (k n : Nat) : (s.bumpBy k n).tng = s.tng := rfl
@[simp] theorem bumpBy_ost (s : State) (k n : Nat) : (s.bumpBy k n).ost = s.ost := rfl
@[simp] theorem bumpBy_heldOst (s : State) (k n : Nat) : (s.bumpBy k n).heldOst = s.heldOst := rfl
@[simp] theorem bumpBy_cmp (s : State) (k n : Nat) : (s.bumpBy k n).cmp = s.cmp := rfl
@[simp] theorem bumpBy_rcp (s : State) (k n : Nat) : (s.bumpBy k n).rcp = s.rcp := rfl
@[simp] theorem bumpBy_fed (s : State) (k n : Nat) : (s.bumpBy k n).fed = s.fed := rfl
@[simp] theorem bumpBy_rcv (s : State) (k n : Nat) : (s.bumpBy k n).rcv = s.rcv := rfl

@[simp] theorem bump_pending (s : State) (k : Nat) : (s.bump k).pending = s.pending := rfl
@[simp] theorem bump_out (s : State) (k : Nat) : (s.bump k).out = s.out := rfl
@[simp] theorem bump_ticks (s : State) (k : Nat) : (s.bump k).ticks = s.ticks := rfl
@[simp] theorem bump_free (s : State) (k : Nat) : (s.bump k).free = s.free := rfl
@[simp] theorem bump_grade (s : State) (k : Nat) : (s.bump k).grade = s.grade := rfl
@[simp] theorem bump_blw (s : State) (k : Nat) : (s.bump k).blw = s.blw := rfl
@[simp] theorem bump_evt (s : State) (k : Nat) : (s.bump k).evt = s.evt := rfl
@[simp] theorem bump_hst (s : State) (k : Nat) : (s.bump k).hst = s.hst := rfl
@[simp] theorem bump_hrt (s : State) (k : Nat) : (s.bump k).hrt = s.hrt := rfl
@[simp] theorem bump_jnl (s : State) (k : Nat) : (s.bump k).jnl = s.jnl := rfl
@[simp] theorem bump_wck (s : State) (k : Nat) : (s.bump k).wck = s.wck := rfl
@[simp] theorem bump_tim (s : State) (k : Nat) : (s.bump k).tim = s.tim := rfl
@[simp] theorem bump_tmp (s : State) (k : Nat) : (s.bump k).tmp = s.tmp := rfl
@[simp] theorem bump_sec (s : State) (k : Nat) : (s.bump k).sec = s.sec := rfl
@[simp] theorem bump_pos (s : State) (k : Nat) : (s.bump k).pos = s.pos := rfl
@[simp] theorem bump_lan (s : State) (k : Nat) : (s.bump k).lan = s.lan := rfl
@[simp] theorem bump_int (s : State) (k : Nat) : (s.bump k).int = s.int := rfl
@[simp] theorem bump_cor (s : State) (k : Nat) : (s.bump k).cor = s.cor := rfl
@[simp] theorem bump_sti (s : State) (k : Nat) : (s.bump k).sti = s.sti := rfl
@[simp] theorem bump_anv (s : State) (k : Nat) : (s.bump k).anv = s.anv := rfl
@[simp] theorem bump_blm (s : State) (k : Nat) : (s.bump k).blm = s.blm := rfl
@[simp] theorem bump_tng (s : State) (k : Nat) : (s.bump k).tng = s.tng := rfl
@[simp] theorem bump_ost (s : State) (k : Nat) : (s.bump k).ost = s.ost := rfl
@[simp] theorem bump_heldOst (s : State) (k : Nat) : (s.bump k).heldOst = s.heldOst := rfl
@[simp] theorem bump_cmp (s : State) (k : Nat) : (s.bump k).cmp = s.cmp := rfl
@[simp] theorem bump_rcp (s : State) (k : Nat) : (s.bump k).rcp = s.rcp := rfl
@[simp] theorem bump_fed (s : State) (k : Nat) : (s.bump k).fed = s.fed := rfl
@[simp] theorem bump_rcv (s : State) (k : Nat) : (s.bump k).rcv = s.rcv := rfl

@[simp] theorem emit_pending (s : State) (o : Out) : (s.emit o).pending = s.pending := rfl
@[simp] theorem emit_ticks (s : State) (o : Out) : (s.emit o).ticks = s.ticks := rfl
@[simp] theorem emit_free (s : State) (o : Out) : (s.emit o).free = s.free := rfl
@[simp] theorem emit_grade (s : State) (o : Out) : (s.emit o).grade = s.grade := rfl
@[simp] theorem emit_regs (s : State) (o : Out) : (s.emit o).regs = s.regs := rfl
@[simp] theorem emit_blw (s : State) (o : Out) : (s.emit o).blw = s.blw := rfl
@[simp] theorem emit_evt (s : State) (o : Out) : (s.emit o).evt = s.evt := rfl
@[simp] theorem emit_hst (s : State) (o : Out) : (s.emit o).hst = s.hst := rfl
@[simp] theorem emit_hrt (s : State) (o : Out) : (s.emit o).hrt = s.hrt := rfl
@[simp] theorem emit_jnl (s : State) (o : Out) : (s.emit o).jnl = s.jnl := rfl
@[simp] theorem emit_wck (s : State) (o : Out) : (s.emit o).wck = s.wck := rfl
@[simp] theorem emit_tim (s : State) (o : Out) : (s.emit o).tim = s.tim := rfl
@[simp] theorem emit_tmp (s : State) (o : Out) : (s.emit o).tmp = s.tmp := rfl
@[simp] theorem emit_sec (s : State) (o : Out) : (s.emit o).sec = s.sec := rfl
@[simp] theorem emit_pos (s : State) (o : Out) : (s.emit o).pos = s.pos := rfl
@[simp] theorem emit_lan (s : State) (o : Out) : (s.emit o).lan = s.lan := rfl
@[simp] theorem emit_int (s : State) (o : Out) : (s.emit o).int = s.int := rfl
@[simp] theorem emit_cor (s : State) (o : Out) : (s.emit o).cor = s.cor := rfl
@[simp] theorem emit_sti (s : State) (o : Out) : (s.emit o).sti = s.sti := rfl
@[simp] theorem emit_anv (s : State) (o : Out) : (s.emit o).anv = s.anv := rfl
@[simp] theorem emit_blm (s : State) (o : Out) : (s.emit o).blm = s.blm := rfl
@[simp] theorem emit_tng (s : State) (o : Out) : (s.emit o).tng = s.tng := rfl
@[simp] theorem emit_ost (s : State) (o : Out) : (s.emit o).ost = s.ost := rfl
@[simp] theorem emit_heldOst (s : State) (o : Out) : (s.emit o).heldOst = s.heldOst := rfl
@[simp] theorem emit_cmp (s : State) (o : Out) : (s.emit o).cmp = s.cmp := rfl
@[simp] theorem emit_rcp (s : State) (o : Out) : (s.emit o).rcp = s.rcp := rfl
@[simp] theorem emit_fed (s : State) (o : Out) : (s.emit o).fed = s.fed := rfl
@[simp] theorem emit_rcv (s : State) (o : Out) : (s.emit o).rcv = s.rcv := rfl

@[simp] theorem enter_pending (s : State) (d : DevState) : (s.enter d).pending = s.pending := rfl
@[simp] theorem enter_out (s : State) (d : DevState) : (s.enter d).out = s.out := rfl
@[simp] theorem enter_ticks (s : State) (d : DevState) : (s.enter d).ticks = s.ticks := rfl
@[simp] theorem enter_free (s : State) (d : DevState) : (s.enter d).free = s.free := rfl
@[simp] theorem enter_grade (s : State) (d : DevState) : (s.enter d).grade = s.grade := rfl
@[simp] theorem enter_evt (s : State) (d : DevState) : (s.enter d).evt = s.evt := rfl
@[simp] theorem enter_hst (s : State) (d : DevState) : (s.enter d).hst = s.hst := rfl
@[simp] theorem enter_hrt (s : State) (d : DevState) : (s.enter d).hrt = s.hrt := rfl
@[simp] theorem enter_jnl (s : State) (d : DevState) : (s.enter d).jnl = s.jnl := rfl
@[simp] theorem enter_wck (s : State) (d : DevState) : (s.enter d).wck = s.wck := rfl
@[simp] theorem enter_tim (s : State) (d : DevState) : (s.enter d).tim = s.tim := rfl
@[simp] theorem enter_tmp (s : State) (d : DevState) : (s.enter d).tmp = s.tmp := rfl
@[simp] theorem enter_sec (s : State) (d : DevState) : (s.enter d).sec = s.sec := rfl
@[simp] theorem enter_pos (s : State) (d : DevState) : (s.enter d).pos = s.pos := rfl
@[simp] theorem enter_lan (s : State) (d : DevState) : (s.enter d).lan = s.lan := rfl
@[simp] theorem enter_int (s : State) (d : DevState) : (s.enter d).int = s.int := rfl
@[simp] theorem enter_cor (s : State) (d : DevState) : (s.enter d).cor = s.cor := rfl
@[simp] theorem enter_sti (s : State) (d : DevState) : (s.enter d).sti = s.sti := rfl
@[simp] theorem enter_anv (s : State) (d : DevState) : (s.enter d).anv = s.anv := rfl
@[simp] theorem enter_blm (s : State) (d : DevState) : (s.enter d).blm = s.blm := rfl
@[simp] theorem enter_tng (s : State) (d : DevState) : (s.enter d).tng = s.tng := rfl
@[simp] theorem enter_ost (s : State) (d : DevState) : (s.enter d).ost = s.ost := rfl
@[simp] theorem enter_heldOst (s : State) (d : DevState) : (s.enter d).heldOst = s.heldOst := rfl
@[simp] theorem enter_cmp (s : State) (d : DevState) : (s.enter d).cmp = s.cmp := rfl
@[simp] theorem enter_rcp (s : State) (d : DevState) : (s.enter d).rcp = s.rcp := rfl
@[simp] theorem enter_fed (s : State) (d : DevState) : (s.enter d).fed = s.fed := rfl
@[simp] theorem enter_rcv (s : State) (d : DevState) : (s.enter d).rcv = s.rcv := rfl

@[simp] theorem setGate_pending (s : State) (g : Nat) (x : Gate) : (s.setGate g x).pending = s.pending := rfl
@[simp] theorem setGate_out (s : State) (g : Nat) (x : Gate) : (s.setGate g x).out = s.out := rfl
@[simp] theorem setGate_ticks (s : State) (g : Nat) (x : Gate) : (s.setGate g x).ticks = s.ticks := rfl
@[simp] theorem setGate_free (s : State) (g : Nat) (x : Gate) : (s.setGate g x).free = s.free := rfl
@[simp] theorem setGate_grade (s : State) (g : Nat) (x : Gate) : (s.setGate g x).grade = s.grade := rfl
@[simp] theorem setGate_regs (s : State) (g : Nat) (x : Gate) : (s.setGate g x).regs = s.regs := rfl
@[simp] theorem setGate_blw (s : State) (g : Nat) (x : Gate) : (s.setGate g x).blw = s.blw := rfl
@[simp] theorem setGate_hst (s : State) (g : Nat) (x : Gate) : (s.setGate g x).hst = s.hst := rfl
@[simp] theorem setGate_hrt (s : State) (g : Nat) (x : Gate) : (s.setGate g x).hrt = s.hrt := rfl
@[simp] theorem setGate_jnl (s : State) (g : Nat) (x : Gate) : (s.setGate g x).jnl = s.jnl := rfl
@[simp] theorem setGate_wck (s : State) (g : Nat) (x : Gate) : (s.setGate g x).wck = s.wck := rfl
@[simp] theorem setGate_tim (s : State) (g : Nat) (x : Gate) : (s.setGate g x).tim = s.tim := rfl
@[simp] theorem setGate_tmp (s : State) (g : Nat) (x : Gate) : (s.setGate g x).tmp = s.tmp := rfl
@[simp] theorem setGate_sec (s : State) (g : Nat) (x : Gate) : (s.setGate g x).sec = s.sec := rfl
@[simp] theorem setGate_pos (s : State) (g : Nat) (x : Gate) : (s.setGate g x).pos = s.pos := rfl
@[simp] theorem setGate_lan (s : State) (g : Nat) (x : Gate) : (s.setGate g x).lan = s.lan := rfl
@[simp] theorem setGate_int (s : State) (g : Nat) (x : Gate) : (s.setGate g x).int = s.int := rfl
@[simp] theorem setGate_cor (s : State) (g : Nat) (x : Gate) : (s.setGate g x).cor = s.cor := rfl
@[simp] theorem setGate_sti (s : State) (g : Nat) (x : Gate) : (s.setGate g x).sti = s.sti := rfl
@[simp] theorem setGate_anv (s : State) (g : Nat) (x : Gate) : (s.setGate g x).anv = s.anv := rfl
@[simp] theorem setGate_blm (s : State) (g : Nat) (x : Gate) : (s.setGate g x).blm = s.blm := rfl
@[simp] theorem setGate_tng (s : State) (g : Nat) (x : Gate) : (s.setGate g x).tng = s.tng := rfl
@[simp] theorem setGate_ost (s : State) (g : Nat) (x : Gate) : (s.setGate g x).ost = s.ost := rfl
@[simp] theorem setGate_heldOst (s : State) (g : Nat) (x : Gate) : (s.setGate g x).heldOst = s.heldOst := rfl
@[simp] theorem setGate_cmp (s : State) (g : Nat) (x : Gate) : (s.setGate g x).cmp = s.cmp := rfl
@[simp] theorem setGate_rcp (s : State) (g : Nat) (x : Gate) : (s.setGate g x).rcp = s.rcp := rfl
@[simp] theorem setGate_fed (s : State) (g : Nat) (x : Gate) : (s.setGate g x).fed = s.fed := rfl
@[simp] theorem setGate_rcv (s : State) (g : Nat) (x : Gate) : (s.setGate g x).rcv = s.rcv := rfl

@[simp] theorem setFlag_pending (s : State) (flags b c : Nat) : (s.setFlag flags b c).pending = s.pending := rfl
@[simp] theorem setFlag_out (s : State) (flags b c : Nat) : (s.setFlag flags b c).out = s.out := rfl
@[simp] theorem setFlag_ticks (s : State) (flags b c : Nat) : (s.setFlag flags b c).ticks = s.ticks := rfl
@[simp] theorem setFlag_free (s : State) (flags b c : Nat) : (s.setFlag flags b c).free = s.free := rfl
@[simp] theorem setFlag_grade (s : State) (flags b c : Nat) : (s.setFlag flags b c).grade = s.grade := rfl
@[simp] theorem setFlag_blw (s : State) (flags b c : Nat) : (s.setFlag flags b c).blw = s.blw := rfl
@[simp] theorem setFlag_evt (s : State) (flags b c : Nat) : (s.setFlag flags b c).evt = s.evt := rfl
@[simp] theorem setFlag_hst (s : State) (flags b c : Nat) : (s.setFlag flags b c).hst = s.hst := rfl
@[simp] theorem setFlag_hrt (s : State) (flags b c : Nat) : (s.setFlag flags b c).hrt = s.hrt := rfl
@[simp] theorem setFlag_jnl (s : State) (flags b c : Nat) : (s.setFlag flags b c).jnl = s.jnl := rfl
@[simp] theorem setFlag_wck (s : State) (flags b c : Nat) : (s.setFlag flags b c).wck = s.wck := rfl
@[simp] theorem setFlag_tim (s : State) (flags b c : Nat) : (s.setFlag flags b c).tim = s.tim := rfl
@[simp] theorem setFlag_tmp (s : State) (flags b c : Nat) : (s.setFlag flags b c).tmp = s.tmp := rfl
@[simp] theorem setFlag_sec (s : State) (flags b c : Nat) : (s.setFlag flags b c).sec = s.sec := rfl
@[simp] theorem setFlag_pos (s : State) (flags b c : Nat) : (s.setFlag flags b c).pos = s.pos := rfl
@[simp] theorem setFlag_lan (s : State) (flags b c : Nat) : (s.setFlag flags b c).lan = s.lan := rfl
@[simp] theorem setFlag_int (s : State) (flags b c : Nat) : (s.setFlag flags b c).int = s.int := rfl
@[simp] theorem setFlag_cor (s : State) (flags b c : Nat) : (s.setFlag flags b c).cor = s.cor := rfl
@[simp] theorem setFlag_sti (s : State) (flags b c : Nat) : (s.setFlag flags b c).sti = s.sti := rfl
@[simp] theorem setFlag_anv (s : State) (flags b c : Nat) : (s.setFlag flags b c).anv = s.anv := rfl
@[simp] theorem setFlag_blm (s : State) (flags b c : Nat) : (s.setFlag flags b c).blm = s.blm := rfl
@[simp] theorem setFlag_tng (s : State) (flags b c : Nat) : (s.setFlag flags b c).tng = s.tng := rfl
@[simp] theorem setFlag_ost (s : State) (flags b c : Nat) : (s.setFlag flags b c).ost = s.ost := rfl
@[simp] theorem setFlag_heldOst (s : State) (flags b c : Nat) : (s.setFlag flags b c).heldOst = s.heldOst := rfl
@[simp] theorem setFlag_cmp (s : State) (flags b c : Nat) : (s.setFlag flags b c).cmp = s.cmp := rfl
@[simp] theorem setFlag_rcp (s : State) (flags b c : Nat) : (s.setFlag flags b c).rcp = s.rcp := rfl
@[simp] theorem setFlag_fed (s : State) (flags b c : Nat) : (s.setFlag flags b c).fed = s.fed := rfl
@[simp] theorem setFlag_rcv (s : State) (flags b c : Nat) : (s.setFlag flags b c).rcv = s.rcv := rfl

@[simp] theorem setCore_pending (s : State) (n : Nat) (c : WickCore) : (s.setCore n c).pending = s.pending := rfl
@[simp] theorem setCore_out (s : State) (n : Nat) (c : WickCore) : (s.setCore n c).out = s.out := rfl
@[simp] theorem setCore_ticks (s : State) (n : Nat) (c : WickCore) : (s.setCore n c).ticks = s.ticks := rfl
@[simp] theorem setCore_free (s : State) (n : Nat) (c : WickCore) : (s.setCore n c).free = s.free := rfl
@[simp] theorem setCore_grade (s : State) (n : Nat) (c : WickCore) : (s.setCore n c).grade = s.grade := rfl
@[simp] theorem setCore_regs (s : State) (n : Nat) (c : WickCore) : (s.setCore n c).regs = s.regs := rfl
@[simp] theorem setCore_blw (s : State) (n : Nat) (c : WickCore) : (s.setCore n c).blw = s.blw := rfl
@[simp] theorem setCore_evt (s : State) (n : Nat) (c : WickCore) : (s.setCore n c).evt = s.evt := rfl
@[simp] theorem setCore_hst (s : State) (n : Nat) (c : WickCore) : (s.setCore n c).hst = s.hst := rfl
@[simp] theorem setCore_hrt (s : State) (n : Nat) (c : WickCore) : (s.setCore n c).hrt = s.hrt := rfl
@[simp] theorem setCore_jnl (s : State) (n : Nat) (c : WickCore) : (s.setCore n c).jnl = s.jnl := rfl
@[simp] theorem setCore_tim (s : State) (n : Nat) (c : WickCore) : (s.setCore n c).tim = s.tim := rfl
@[simp] theorem setCore_tmp (s : State) (n : Nat) (c : WickCore) : (s.setCore n c).tmp = s.tmp := rfl
@[simp] theorem setCore_sec (s : State) (n : Nat) (c : WickCore) : (s.setCore n c).sec = s.sec := rfl
@[simp] theorem setCore_pos (s : State) (n : Nat) (c : WickCore) : (s.setCore n c).pos = s.pos := rfl
@[simp] theorem setCore_lan (s : State) (n : Nat) (c : WickCore) : (s.setCore n c).lan = s.lan := rfl
@[simp] theorem setCore_int (s : State) (n : Nat) (c : WickCore) : (s.setCore n c).int = s.int := rfl
@[simp] theorem setCore_cor (s : State) (n : Nat) (c : WickCore) : (s.setCore n c).cor = s.cor := rfl
@[simp] theorem setCore_sti (s : State) (n : Nat) (c : WickCore) : (s.setCore n c).sti = s.sti := rfl
@[simp] theorem setCore_anv (s : State) (n : Nat) (c : WickCore) : (s.setCore n c).anv = s.anv := rfl
@[simp] theorem setCore_blm (s : State) (n : Nat) (c : WickCore) : (s.setCore n c).blm = s.blm := rfl
@[simp] theorem setCore_tng (s : State) (n : Nat) (c : WickCore) : (s.setCore n c).tng = s.tng := rfl
@[simp] theorem setCore_ost (s : State) (n : Nat) (c : WickCore) : (s.setCore n c).ost = s.ost := rfl
@[simp] theorem setCore_heldOst (s : State) (n : Nat) (c : WickCore) : (s.setCore n c).heldOst = s.heldOst := rfl
@[simp] theorem setCore_cmp (s : State) (n : Nat) (c : WickCore) : (s.setCore n c).cmp = s.cmp := rfl
@[simp] theorem setCore_rcp (s : State) (n : Nat) (c : WickCore) : (s.setCore n c).rcp = s.rcp := rfl
@[simp] theorem setCore_fed (s : State) (n : Nat) (c : WickCore) : (s.setCore n c).fed = s.fed := rfl
@[simp] theorem setCore_rcv (s : State) (n : Nat) (c : WickCore) : (s.setCore n c).rcv = s.rcv := rfl

@[simp] theorem wr_regs (s : State) (k : Nat) (v : BitVec 32) : (s.wr k v).regs = sput regReset s.regs k v := rfl
@[simp] theorem emit_out (s : State) (o : Out) : (s.emit o).out = o :: s.out := rfl
@[simp] theorem enter_state (s : State) (d : DevState) : (s.enter d).blw.state = d := rfl
@[simp] theorem setCore_cores (s : State) (n : Nat) (c : WickCore) :
    (s.setCore n c).wck.cores = sput (fun _ => ({} : WickCore)) s.wck.cores n c := rfl
@[simp] theorem setCore_shared (s : State) (n : Nat) (c : WickCore) : (s.setCore n c).wck.shared = s.wck.shared := rfl
@[simp] theorem setCore_svc (s : State) (n : Nat) (c : WickCore) : (s.setCore n c).wck.svc = s.wck.svc := rfl
@[simp] theorem setCore_moves (s : State) (n : Nat) (c : WickCore) : (s.setCore n c).wck.moves = s.wck.moves := rfl

@[simp] theorem startWake_pending (s : State) (c : Nat) : (s.startWake c).pending = s.pending := by unfold startWake; split <;> rfl
@[simp] theorem startWake_out (s : State) (c : Nat) : (s.startWake c).out = s.out := by unfold startWake; split <;> rfl
@[simp] theorem startWake_ticks (s : State) (c : Nat) : (s.startWake c).ticks = s.ticks := by unfold startWake; split <;> rfl
@[simp] theorem startWake_free (s : State) (c : Nat) : (s.startWake c).free = s.free := by unfold startWake; split <;> rfl
@[simp] theorem startWake_grade (s : State) (c : Nat) : (s.startWake c).grade = s.grade := by unfold startWake; split <;> rfl
@[simp] theorem startWake_evt (s : State) (c : Nat) : (s.startWake c).evt = s.evt := by unfold startWake; split <;> rfl
@[simp] theorem startWake_hst (s : State) (c : Nat) : (s.startWake c).hst = s.hst := by unfold startWake; split <;> rfl
@[simp] theorem startWake_jnl (s : State) (c : Nat) : (s.startWake c).jnl = s.jnl := by unfold startWake; split <;> rfl
@[simp] theorem startWake_wck (s : State) (c : Nat) : (s.startWake c).wck = s.wck := by unfold startWake; split <;> rfl
@[simp] theorem startWake_tim (s : State) (c : Nat) : (s.startWake c).tim = s.tim := by unfold startWake; split <;> rfl
@[simp] theorem startWake_sec (s : State) (c : Nat) : (s.startWake c).sec = s.sec := by unfold startWake; split <;> rfl
@[simp] theorem startWake_pos (s : State) (c : Nat) : (s.startWake c).pos = s.pos := by unfold startWake; split <;> rfl
@[simp] theorem startWake_lan (s : State) (c : Nat) : (s.startWake c).lan = s.lan := by unfold startWake; split <;> rfl
@[simp] theorem startWake_int (s : State) (c : Nat) : (s.startWake c).int = s.int := by unfold startWake; split <;> rfl
@[simp] theorem startWake_cor (s : State) (c : Nat) : (s.startWake c).cor = s.cor := by unfold startWake; split <;> rfl
@[simp] theorem startWake_sti (s : State) (c : Nat) : (s.startWake c).sti = s.sti := by unfold startWake; split <;> rfl
@[simp] theorem startWake_anv (s : State) (c : Nat) : (s.startWake c).anv = s.anv := by unfold startWake; split <;> rfl
@[simp] theorem startWake_blm (s : State) (c : Nat) : (s.startWake c).blm = s.blm := by unfold startWake; split <;> rfl
@[simp] theorem startWake_tng (s : State) (c : Nat) : (s.startWake c).tng = s.tng := by unfold startWake; split <;> rfl
@[simp] theorem startWake_ost (s : State) (c : Nat) : (s.startWake c).ost = s.ost := by unfold startWake; split <;> rfl
@[simp] theorem startWake_heldOst (s : State) (c : Nat) : (s.startWake c).heldOst = s.heldOst := by unfold startWake; split <;> rfl
@[simp] theorem startWake_cmp (s : State) (c : Nat) : (s.startWake c).cmp = s.cmp := by unfold startWake; split <;> rfl
@[simp] theorem startWake_rcp (s : State) (c : Nat) : (s.startWake c).rcp = s.rcp := by unfold startWake; split <;> rfl
@[simp] theorem startWake_fed (s : State) (c : Nat) : (s.startWake c).fed = s.fed := by unfold startWake; split <;> rfl
@[simp] theorem startWake_rcv (s : State) (c : Nat) : (s.startWake c).rcv = s.rcv := by unfold startWake; split <;> rfl
@[simp] theorem startWake_state (s : State) (c : Nat) : (s.startWake c).blw.state = s.blw.state := by unfold startWake; split <;> rfl
@[simp] theorem startWake_bytes (s : State) (c : Nat) : (s.startWake c).hrt.bytes = s.hrt.bytes := by unfold startWake; split <;> rfl

@[simp] theorem wakeOn_pending (s : State) (src : Nat) : (s.wakeOn src).pending = s.pending := by
  unfold wakeOn; repeat' split
  all_goals simp
@[simp] theorem wakeOn_out (s : State) (src : Nat) : (s.wakeOn src).out = s.out := by
  unfold wakeOn; repeat' split
  all_goals simp
@[simp] theorem wakeOn_ticks (s : State) (src : Nat) : (s.wakeOn src).ticks = s.ticks := by
  unfold wakeOn; repeat' split
  all_goals simp
@[simp] theorem wakeOn_free (s : State) (src : Nat) : (s.wakeOn src).free = s.free := by
  unfold wakeOn; repeat' split
  all_goals simp
@[simp] theorem wakeOn_grade (s : State) (src : Nat) : (s.wakeOn src).grade = s.grade := by
  unfold wakeOn; repeat' split
  all_goals simp
@[simp] theorem wakeOn_evt (s : State) (src : Nat) : (s.wakeOn src).evt = s.evt := by
  unfold wakeOn; repeat' split
  all_goals simp
@[simp] theorem wakeOn_hst (s : State) (src : Nat) : (s.wakeOn src).hst = s.hst := by
  unfold wakeOn; repeat' split
  all_goals simp
@[simp] theorem wakeOn_jnl (s : State) (src : Nat) : (s.wakeOn src).jnl = s.jnl := by
  unfold wakeOn; repeat' split
  all_goals simp
@[simp] theorem wakeOn_wck (s : State) (src : Nat) : (s.wakeOn src).wck = s.wck := by
  unfold wakeOn; repeat' split
  all_goals simp
@[simp] theorem wakeOn_tim (s : State) (src : Nat) : (s.wakeOn src).tim = s.tim := by
  unfold wakeOn; repeat' split
  all_goals simp
@[simp] theorem wakeOn_sec (s : State) (src : Nat) : (s.wakeOn src).sec = s.sec := by
  unfold wakeOn; repeat' split
  all_goals simp
@[simp] theorem wakeOn_pos (s : State) (src : Nat) : (s.wakeOn src).pos = s.pos := by
  unfold wakeOn; repeat' split
  all_goals simp
@[simp] theorem wakeOn_lan (s : State) (src : Nat) : (s.wakeOn src).lan = s.lan := by
  unfold wakeOn; repeat' split
  all_goals simp
@[simp] theorem wakeOn_int (s : State) (src : Nat) : (s.wakeOn src).int = s.int := by
  unfold wakeOn; repeat' split
  all_goals simp
@[simp] theorem wakeOn_cor (s : State) (src : Nat) : (s.wakeOn src).cor = s.cor := by
  unfold wakeOn; repeat' split
  all_goals simp
@[simp] theorem wakeOn_sti (s : State) (src : Nat) : (s.wakeOn src).sti = s.sti := by
  unfold wakeOn; repeat' split
  all_goals simp
@[simp] theorem wakeOn_anv (s : State) (src : Nat) : (s.wakeOn src).anv = s.anv := by
  unfold wakeOn; repeat' split
  all_goals simp
@[simp] theorem wakeOn_blm (s : State) (src : Nat) : (s.wakeOn src).blm = s.blm := by
  unfold wakeOn; repeat' split
  all_goals simp
@[simp] theorem wakeOn_tng (s : State) (src : Nat) : (s.wakeOn src).tng = s.tng := by
  unfold wakeOn; repeat' split
  all_goals simp
@[simp] theorem wakeOn_ost (s : State) (src : Nat) : (s.wakeOn src).ost = s.ost := by
  unfold wakeOn; repeat' split
  all_goals simp
@[simp] theorem wakeOn_heldOst (s : State) (src : Nat) : (s.wakeOn src).heldOst = s.heldOst := by
  unfold wakeOn; repeat' split
  all_goals simp
@[simp] theorem wakeOn_cmp (s : State) (src : Nat) : (s.wakeOn src).cmp = s.cmp := by
  unfold wakeOn; repeat' split
  all_goals simp
@[simp] theorem wakeOn_rcp (s : State) (src : Nat) : (s.wakeOn src).rcp = s.rcp := by
  unfold wakeOn; repeat' split
  all_goals simp
@[simp] theorem wakeOn_fed (s : State) (src : Nat) : (s.wakeOn src).fed = s.fed := by
  unfold wakeOn; repeat' split
  all_goals simp
@[simp] theorem wakeOn_rcv (s : State) (src : Nat) : (s.wakeOn src).rcv = s.rcv := by
  unfold wakeOn; repeat' split
  all_goals simp
@[simp] theorem wakeOn_state (s : State) (src : Nat) : (s.wakeOn src).blw.state = s.blw.state := by
  unfold wakeOn; repeat' split
  all_goals simp
@[simp] theorem wakeOn_bytes (s : State) (src : Nat) : (s.wakeOn src).hrt.bytes = s.hrt.bytes := by
  unfold wakeOn; repeat' split
  all_goals simp

@[simp] theorem raise_pending (s : State) (src : Nat) : (s.raise src).pending = s.pending := by
  unfold raise; split <;> simp
@[simp] theorem raise_out (s : State) (src : Nat) : (s.raise src).out = s.out := by
  unfold raise; split <;> simp
@[simp] theorem raise_ticks (s : State) (src : Nat) : (s.raise src).ticks = s.ticks := by
  unfold raise; split <;> simp
@[simp] theorem raise_free (s : State) (src : Nat) : (s.raise src).free = s.free := by
  unfold raise; split <;> simp
@[simp] theorem raise_grade (s : State) (src : Nat) : (s.raise src).grade = s.grade := by
  unfold raise; split <;> simp
@[simp] theorem raise_hst (s : State) (src : Nat) : (s.raise src).hst = s.hst := by
  unfold raise; split <;> simp
@[simp] theorem raise_jnl (s : State) (src : Nat) : (s.raise src).jnl = s.jnl := by
  unfold raise; split <;> simp
@[simp] theorem raise_wck (s : State) (src : Nat) : (s.raise src).wck = s.wck := by
  unfold raise; split <;> simp
@[simp] theorem raise_tim (s : State) (src : Nat) : (s.raise src).tim = s.tim := by
  unfold raise; split <;> simp
@[simp] theorem raise_sec (s : State) (src : Nat) : (s.raise src).sec = s.sec := by
  unfold raise; split <;> simp
@[simp] theorem raise_pos (s : State) (src : Nat) : (s.raise src).pos = s.pos := by
  unfold raise; split <;> simp
@[simp] theorem raise_lan (s : State) (src : Nat) : (s.raise src).lan = s.lan := by
  unfold raise; split <;> simp
@[simp] theorem raise_int (s : State) (src : Nat) : (s.raise src).int = s.int := by
  unfold raise; split <;> simp
@[simp] theorem raise_cor (s : State) (src : Nat) : (s.raise src).cor = s.cor := by
  unfold raise; split <;> simp
@[simp] theorem raise_sti (s : State) (src : Nat) : (s.raise src).sti = s.sti := by
  unfold raise; split <;> simp
@[simp] theorem raise_anv (s : State) (src : Nat) : (s.raise src).anv = s.anv := by
  unfold raise; split <;> simp
@[simp] theorem raise_blm (s : State) (src : Nat) : (s.raise src).blm = s.blm := by
  unfold raise; split <;> simp
@[simp] theorem raise_tng (s : State) (src : Nat) : (s.raise src).tng = s.tng := by
  unfold raise; split <;> simp
@[simp] theorem raise_ost (s : State) (src : Nat) : (s.raise src).ost = s.ost := by
  unfold raise; split <;> simp
@[simp] theorem raise_heldOst (s : State) (src : Nat) : (s.raise src).heldOst = s.heldOst := by
  unfold raise; split <;> simp
@[simp] theorem raise_cmp (s : State) (src : Nat) : (s.raise src).cmp = s.cmp := by
  unfold raise; split <;> simp
@[simp] theorem raise_rcp (s : State) (src : Nat) : (s.raise src).rcp = s.rcp := by
  unfold raise; split <;> simp
@[simp] theorem raise_fed (s : State) (src : Nat) : (s.raise src).fed = s.fed := by
  unfold raise; split <;> simp
@[simp] theorem raise_rcv (s : State) (src : Nat) : (s.raise src).rcv = s.rcv := by
  unfold raise; split <;> simp
@[simp] theorem raise_state (s : State) (src : Nat) : (s.raise src).blw.state = s.blw.state := by
  unfold raise; split <;> simp
@[simp] theorem raise_bytes (s : State) (src : Nat) : (s.raise src).hrt.bytes = s.hrt.bytes := by
  unfold raise; split <;> simp

end State
end Sys2Proof.Machine
end

