-- ==== Sys2Proof/Laws/Registers.lean ====
section
/-! SUPPORT. What a register and a field of it hold after a write, a field update, a counter's advance, a flag or a raise: one lemma
for each operation over registers. -/

set_option Elab.async false
namespace Sys2Proof.Machine

/-! ### Fields of a value -/

/-- A field that lies within 32 bits. -/
def Field.ok (f : Field) : Prop := f.lo ≤ f.hi ∧ f.hi < 32

/-- A number taken apart at a field. -/
theorem field_split (x : Nat) (f : Field) (h : f.ok) :
    x = 2 ^ f.lo * (2 ^ (f.hi + 1 - f.lo) * (x / 2 ^ (f.hi + 1)) + bitsOf x f.hi f.lo) + x % 2 ^ f.lo := by
  have e : 2 ^ (f.hi + 1) = 2 ^ f.lo * 2 ^ (f.hi + 1 - f.lo) := by
    rw [← Nat.pow_add]; congr 1; have := h.1; omega
  unfold bitsOf
  rw [e, ← Nat.div_div_eq_div_mul, Nat.div_add_mod, Nat.div_add_mod]

theorem getField_lt (v : BitVec 32) (f : Field) : getField v f < 2 ^ (f.hi + 1 - f.lo) := Nat.mod_lt _ (Nat.two_pow_pos _)

/-- The number that a field update makes. -/
theorem putField_toNat (v : BitVec 32) (f : Field) (n : Nat) (h : f.ok) :
    (putField v f n).toNat =
      2 ^ f.lo * (2 ^ (f.hi + 1 - f.lo) * (v.toNat / 2 ^ (f.hi + 1)) + n % 2 ^ (f.hi + 1 - f.lo)) + v.toNat % 2 ^ f.lo := by
  have e := field_split v.toNat f h
  have hv := v.isLt
  have hn : n % 2 ^ (f.hi + 1 - f.lo) < 2 ^ (f.hi + 1 - f.lo) := Nat.mod_lt _ (Nat.two_pow_pos _)
  have hl : v.toNat % 2 ^ f.lo < 2 ^ f.lo := Nat.mod_lt _ (Nat.two_pow_pos _)
  have hH : v.toNat / 2 ^ (f.hi + 1) < 2 ^ (32 - (f.hi + 1)) := by
    rw [Nat.div_lt_iff_lt_mul (Nat.two_pow_pos _), ← Nat.pow_add]
    have : 32 - (f.hi + 1) + (f.hi + 1) = 32 := by have := h.2; omega
    rw [this]; exact hv
  have hb : 2 ^ f.lo * (2 ^ (f.hi + 1 - f.lo) * (v.toNat / 2 ^ (f.hi + 1)) + n % 2 ^ (f.hi + 1 - f.lo)) + v.toNat % 2 ^ f.lo
      < 2 ^ 32 := by
    have p : 2 ^ 32 = 2 ^ f.lo * (2 ^ (f.hi + 1 - f.lo) * 2 ^ (32 - (f.hi + 1))) := by
      rw [← Nat.pow_add, ← Nat.pow_add]; congr 1; have := h.1; have := h.2; omega
    rw [p]
    have a : 2 ^ (f.hi + 1 - f.lo) * (v.toNat / 2 ^ (f.hi + 1)) + n % 2 ^ (f.hi + 1 - f.lo) + 1
        ≤ 2 ^ (f.hi + 1 - f.lo) * 2 ^ (32 - (f.hi + 1)) := by
      have := Nat.mul_le_mul_left (2 ^ (f.hi + 1 - f.lo)) (Nat.succ_le_of_lt hH)
      rw [Nat.succ_eq_add_one, Nat.mul_add, Nat.mul_one] at this
      omega
    have b := Nat.mul_le_mul_left (2 ^ f.lo) a
    rw [Nat.mul_add, Nat.mul_one] at b
    omega
  unfold putField
  rw [BitVec.toNat_ofNat]
  rw [Nat.mod_eq_of_lt] <;> unfold getField
  · have q : v.toNat - bitsOf v.toNat f.hi f.lo * 2 ^ f.lo
        = 2 ^ f.lo * (2 ^ (f.hi + 1 - f.lo) * (v.toNat / 2 ^ (f.hi + 1))) + v.toNat % 2 ^ f.lo := by
      rw [Nat.mul_add] at e
      have := Nat.mul_comm (bitsOf v.toNat f.hi f.lo) (2 ^ f.lo)
      omega
    rw [q, Nat.mul_add, Nat.mul_comm (n % _)]
    omega
  · have q : v.toNat - bitsOf v.toNat f.hi f.lo * 2 ^ f.lo
        = 2 ^ f.lo * (2 ^ (f.hi + 1 - f.lo) * (v.toNat / 2 ^ (f.hi + 1))) + v.toNat % 2 ^ f.lo := by
      rw [Nat.mul_add] at e
      have := Nat.mul_comm (bitsOf v.toNat f.hi f.lo) (2 ^ f.lo)
      omega
    rw [q, Nat.mul_comm (n % _)]
    rw [Nat.mul_add] at hb
    omega

/-- A field reads back what was put into it. -/
@[simp] theorem getField_putField (v : BitVec 32) (f : Field) (n : Nat) (h : f.ok) :
    getField (putField v f n) f = n % 2 ^ (f.hi + 1 - f.lo) := by
  rw [getField, putField_toNat v f n h]
  unfold bitsOf
  rw [Nat.mul_add_div (Nat.two_pow_pos _), Nat.div_eq_of_lt (Nat.mod_lt _ (Nat.two_pow_pos _)), Nat.add_zero,
    Nat.mul_add_mod, Nat.mod_mod]

/-- Two fields that share no bit. -/
def Field.apart (f g : Field) : Prop := f.hi < g.lo ∨ g.hi < f.lo

/-- Another field keeps its value. -/
theorem getField_putField_apart (v : BitVec 32) (f g : Field) (n : Nat) (h : f.ok) (hg : g.ok) (ha : f.apart g) :
    getField (putField v f n) g = getField v g := by
  rw [getField, putField_toNat v f n h, getField]
  have e := field_split v.toNat f h
  rcases ha with ha | ha
  · -- the other field lies above
    have key : ∀ b, b < 2 ^ (f.hi + 1 - f.lo) →
        (2 ^ f.lo * (2 ^ (f.hi + 1 - f.lo) * (v.toNat / 2 ^ (f.hi + 1)) + b) + v.toNat % 2 ^ f.lo) / 2 ^ g.lo
          = v.toNat / 2 ^ (f.hi + 1) / 2 ^ (g.lo - (f.hi + 1)) := by
      intro b hb
      have p : 2 ^ g.lo = 2 ^ f.lo * 2 ^ (f.hi + 1 - f.lo) * 2 ^ (g.lo - (f.hi + 1)) := by
        rw [← Nat.pow_add, ← Nat.pow_add]; congr 1; have := h.1; omega
      rw [p, ← Nat.div_div_eq_div_mul, ← Nat.div_div_eq_div_mul, Nat.mul_add_div (Nat.two_pow_pos _),
        Nat.div_eq_of_lt (Nat.mod_lt _ (Nat.two_pow_pos _)), Nat.add_zero, Nat.mul_add_div (Nat.two_pow_pos _),
        Nat.div_eq_of_lt hb, Nat.add_zero]
    have r : v.toNat / 2 ^ g.lo = v.toNat / 2 ^ (f.hi + 1) / 2 ^ (g.lo - (f.hi + 1)) := by
      conv => lhs; rw [e]
      exact key _ (Nat.mod_lt _ (Nat.two_pow_pos _))
    unfold bitsOf
    rw [key _ (Nat.mod_lt _ (Nat.two_pow_pos _)), r]
  · -- the other field lies below
    have key : ∀ a, (2 ^ f.lo * a + v.toNat % 2 ^ f.lo) / 2 ^ g.lo % 2 ^ (g.hi + 1 - g.lo)
        = v.toNat % 2 ^ f.lo / 2 ^ g.lo % 2 ^ (g.hi + 1 - g.lo) := by
      intro a
      have p : 2 ^ f.lo = 2 ^ g.lo * (2 ^ (g.hi + 1 - g.lo) * 2 ^ (f.lo - (g.hi + 1))) := by
        rw [← Nat.pow_add, ← Nat.pow_add]; congr 1; have := hg.1; omega
      rw [show 2 ^ f.lo * a = 2 ^ g.lo * (2 ^ (g.hi + 1 - g.lo) * (2 ^ (f.lo - (g.hi + 1)) * a)) from by
        rw [p, Nat.mul_assoc, Nat.mul_assoc]]
      rw [Nat.mul_add_div (Nat.two_pow_pos _), Nat.mul_add_mod]
    unfold bitsOf
    rw [key]
    conv => rhs; rw [e]
    rw [key]

/-! ### Registers -/

/-- A register after a write. -/
theorem State.rd_wr (s : State) (k : Nat) (v : BitVec 32) (j : Nat) : (s.wr k v).rd j = if j = k then v else s.rd j := sget_sput
@[simp] theorem State.rd_wr_same (s : State) (k : Nat) (v : BitVec 32) : (s.wr k v).rd k = v := sget_sput_same
theorem State.rd_wr_other {s : State} {k j : Nat} (hj : j ≠ k) (v : BitVec 32) : (s.wr k v).rd j = s.rd j := sget_sput_other hj

/-- A register after a field update. -/
theorem State.rd_setFld (s : State) (k : Nat) (f : Field) (n j : Nat) :
    (s.setFld k f n).rd j = if j = k then putField (s.rd k) f n else s.rd j := sget_sput
theorem State.rd_setFld_other {s : State} {k j : Nat} (hj : j ≠ k) (f : Field) (n : Nat) : (s.setFld k f n).rd j = s.rd j :=
  sget_sput_other hj
theorem State.fld_setFld (s : State) (k : Nat) (f : Field) (n : Nat) (hf : f.ok) :
    (s.setFld k f n).fld k f = n % 2 ^ (f.hi + 1 - f.lo) := by
  unfold State.fld State.setFld
  rw [State.rd_wr_same, getField_putField _ _ _ hf]
theorem State.fld_setFld_apart (s : State) (k : Nat) (f g : Field) (n : Nat) (hf : f.ok) (hg : g.ok) (ha : f.apart g) :
    (s.setFld k f n).fld k g = s.fld k g := by
  unfold State.fld State.setFld
  rw [State.rd_wr_same, getField_putField_apart _ _ _ _ hf hg ha]
theorem State.fld_setFld_other {s : State} {k j : Nat} (hj : j ≠ k) (f g : Field) (n : Nat) :
    (s.setFld k f n).fld j g = s.fld j g := by
  unfold State.fld; rw [State.rd_setFld_other hj]

/-- A counter after its advance. -/
theorem State.rd_bump (s : State) (k j : Nat) : (s.bump k).rd j = if j = k then s.rd k + 1 else s.rd j := by
  have e : (s.bump k).rd j = if j = k then s.rd k + BitVec.ofNat 32 1 else s.rd j := sget_sput
  exact e

/-- A flag register and its event counter after a hardware set (R7). -/
theorem State.rd_setFlag {s : State} {flags b c j : Nat} (hc : c ≠ flags) :
    (s.setFlag flags b c).rd j =
      if j = flags then s.rd flags ||| BitVec.ofNat 32 (2 ^ b) else if j = c then s.rd c + 1 else s.rd j := by
  unfold State.setFlag
  rw [State.rd_bump, State.rd_wr, State.rd_wr, if_neg hc]
  by_cases hj : j = flags
  · subst j; simp [hc.symm]
  · simp [hj]

/-- A wake writes TMP_STATUS and BLW_CLK_STATUS alone (R28, R407). -/
theorem State.rd_startWake {s : State} {c j : Nat} (hj : j ≠ R.TMP_STATUS) (hk : j ≠ R.BLW_CLK_STATUS) : (s.startWake c).rd j = s.rd j := by
  unfold State.startWake
  split
  · exact (State.rd_setFld_other hk _ _).trans (State.rd_setFld_other (s := { s with blw := _, hrt := _, tmp := _ }) hj _ _)
  · rfl
theorem State.rd_wakeOn {s : State} {c j : Nat} (hj : j ≠ R.TMP_STATUS) (hk : j ≠ R.BLW_CLK_STATUS) : (s.wakeOn c).rd j = s.rd j := by
  unfold State.wakeOn
  split
  · split
    · exact State.rd_startWake hj hk
    · rfl
  · exact State.rd_startWake hj hk
@[simp] theorem State.rd_setGate (s : State) (g : Nat) (x : Gate) (j : Nat) : (s.setGate g x).rd j = s.rd j := rfl

/-- A raise writes its source, its group's count and status, and TMP_STATUS and BLW_CLK_STATUS where it wakes the device (R349, R358, R407). -/
theorem State.rd_raise {s : State} {src j : Nat} (hj : j ≠ R.TMP_STATUS) (hk : j ≠ R.BLW_CLK_STATUS) (hs : j ≠ R.EVT_SRC src)
    (hr : j ≠ R.EVT_GRP_RAISES (src / 16)) (hg : j ≠ R.EVT_GRP_STATUS (src / 16)) : (s.raise src).rd j = s.rd j := by
  unfold State.raise
  split
  · dsimp only
    rw [State.rd_wakeOn hj hk, State.rd_setGate, State.rd_setFld_other hg, State.rd_setFld_other hg, State.rd_bump, if_neg hr,
      State.rd_setFld_other hs]
  · rfl

/-- A raise leaves every register outside the event window but TMP_STATUS and BLW_CLK_STATUS. -/
theorem State.rd_raise_window {s : State} {src j : Nat} (hj : j ≠ R.TMP_STATUS) (hk : j ≠ R.BLW_CLK_STATUS) (hw : j < 0xF00000) :
    (s.raise src).rd j = s.rd j := by
  have a : 0xF00000 ≤ R.EVT_SRC src := Nat.le_add_right _ _
  have b : 0xF00000 ≤ R.EVT_GRP_RAISES (src / 16) := by unfold R.EVT_GRP_RAISES; omega
  have c : 0xF00000 ≤ R.EVT_GRP_STATUS (src / 16) := by unfold R.EVT_GRP_STATUS; omega
  exact State.rd_raise hj hk (by omega) (by omega) (by omega)

/-- A raised source that is enabled becomes pending, its enable stays (R349). -/
theorem State.raise_sets_pending {s : State} {src : Nat} (he : s.bit (R.EVT_SRC src) F.EVT_SRC_enable = true) (hs : src < 512) :
    (s.raise src).bit (R.EVT_SRC src) F.EVT_SRC_pending = true := by
  have ht : R.EVT_SRC src ≠ R.TMP_STATUS := by unfold R.EVT_SRC R.TMP_STATUS; omega
  have hk : R.EVT_SRC src ≠ R.BLW_CLK_STATUS := by unfold R.EVT_SRC R.BLW_CLK_STATUS; omega
  have h1 : R.EVT_SRC src ≠ R.EVT_GRP_RAISES (src / 16) := by unfold R.EVT_SRC R.EVT_GRP_RAISES; omega
  have h2 : R.EVT_SRC src ≠ R.EVT_GRP_STATUS (src / 16) := by unfold R.EVT_SRC R.EVT_GRP_STATUS; omega
  unfold State.raise
  rw [if_pos he]
  simp only [State.bit, State.fld]
  rw [State.rd_wakeOn ht hk, State.rd_setGate, State.rd_setFld_other h2, State.rd_setFld_other h2, State.rd_bump, if_neg h1,
    State.rd_setFld, if_pos rfl, getField_putField _ _ _ (by constructor <;> decide)]
  decide

/-- A flag that raises a source: the flag register and the counter outside the event window. -/
theorem State.rd_flagRaise {s : State} {flags b c src j : Nat} (hc : c ≠ flags) (hj : j ≠ R.TMP_STATUS)
    (hk : j ≠ R.BLW_CLK_STATUS) (hw : j < 0xF00000) : (s.flagRaise flags b c src).rd j =
      if j = flags then s.rd flags ||| BitVec.ofNat 32 (2 ^ b) else if j = c then s.rd c + 1 else s.rd j := by
  unfold State.flagRaise
  rw [State.rd_raise_window hj hk hw, State.rd_setFlag hc]

/-! ### Cores -/

theorem State.core_setCore (s : State) (n : Nat) (c : WickCore) (m : Nat) :
    (s.setCore n c).core m = if m = n then c else s.core m := sget_sput
@[simp] theorem State.core_setCore_same (s : State) (n : Nat) (c : WickCore) : (s.setCore n c).core n = c := sget_sput_same
theorem State.core_setCore_other {s : State} {n m : Nat} (hm : m ≠ n) (c : WickCore) : (s.setCore n c).core m = s.core m :=
  sget_sput_other hm

/-- g0 reads as zero (R297). -/
@[simp] theorem WickCore.getG_zero (c : WickCore) : c.getG 0 = 0 := rfl
/-- A general register after a write. -/
theorem WickCore.getG_setG (c : WickCore) (r : Nat) (v : Word64) (i : Nat) :
    (c.setG r v).getG i = if i = r ∧ r ≠ 0 then v else c.getG i := by
  unfold WickCore.getG WickCore.setG
  by_cases hr : r = 0
  · simp [hr]
  · by_cases hi : i = 0
    · subst i
      have : (0 : Nat) ≠ r := fun h => hr h.symm
      simp [hr, this]
    · simp only [hr, ↓reduceIte, hi, ne_eq, not_false_eq_true, and_true]
      exact sget_sput
theorem WickCore.getS_setS (c : WickCore) (r : Nat) (v : Word) (i : Nat) :
    (c.setS r v).getS i = if i = r then v else c.getS i := sget_sput

end Sys2Proof.Machine
end

