-- ==== Sys2Proof/Laws/Wick.lean ====
section
/-! SUPPORT. What each shared operation of the Wick cores does where it is issued: the lemmas that a proof about an instruction
cites in place of unfolding the operation. -/

set_option Elab.async false
namespace Sys2Proof.Machine

/-- The core as an issued instruction finds it (R315, R418). -/
def State.issued (s : State) (n : Nat) : State := s.setCore n { s.core n with entry := none, debugStep := false }

@[simp] theorem State.issued_core (s : State) (n : Nat) :
    (s.issued n).core n = { s.core n with entry := none, debugStep := false } := State.core_setCore_same ..

/-- An issued instruction runs its body on the core. -/
theorem State.wickRun_issues {s : State} {n : Fin 4} {op : Nat} {w : BitVec 24} (h : s.issues n op w)
    (body : WickCore → State → State) :
    s.wickRun n op w body = body { s.core n with entry := none, debugStep := false } (s.issued n) := by
  unfold State.wickRun
  rw [if_pos h.1]
  dsimp only
  have f : (s.setCore n { s.core n with entry := none, debugStep := false }).fetchable n
      ((s.setCore n { s.core n with entry := none, debugStep := false }).core n).pc.toNat = true := by
    rw [State.core_setCore_same]; exact h.2
  rw [if_pos f, State.core_setCore_same]
  rfl

theorem State.legal_true {s : State} {n : Nat} {ok : Bool} (h : ok = true) (f : State → State) : s.legal n ok f = f s := by
  simp [State.legal, h]

/-- A core replaced after the issue: what a completed instruction leaves. -/
theorem State.issued_step {s : State} {n : Nat} {c d : WickCore} {v : CoreView} (hpc : c.pc = v.pc) (hr : c.run = .running)
    (hs : c.stalled = none) (hg : ∀ r, c.getG r = v.general r) (hst : ∀ r, c.getS r = v.stream r)
    (hm : ∀ a, Memory.read c.mem a = v.localMem a) (hsh : ∀ a, Memory.read s.wck.shared a = v.shared a)
    (hh : c.hidden = d.hidden) : WickStepTo s ((s.issued n).setCore n c) n v d := by
  refine ⟨?_, ?_, ?_, ?_, ?_, ?_, hsh, ?_, ?_, rfl⟩
  · rw [State.core_setCore_same]; exact hpc
  · rw [State.core_setCore_same]; exact hr
  · rw [State.core_setCore_same]; exact hs
  · intro r; rw [State.core_setCore_same]; exact hg r
  · intro r; rw [State.core_setCore_same]; exact hst r
  · intro a; rw [State.core_setCore_same]; exact hm a
  · rw [State.core_setCore_same]; exact hh
  · intro m hm'
    rw [State.core_setCore_other hm', State.issued, State.core_setCore_other hm']

/-- The next instruction with a core whose control registers and memory are those of the issue. -/
theorem State.issued_next {s : State} {n : Nat} {c d : WickCore} {v : CoreView} (hpc : c.pc + 4 = v.pc)
    (hg : ∀ r, c.getG r = v.general r) (hst : ∀ r, c.getS r = v.stream r) (hm : ∀ a, Memory.read c.mem a = v.localMem a)
    (hsh : ∀ a, Memory.read s.wck.shared a = v.shared a) (hh : c.hidden = d.hidden) :
    WickStepTo s ((s.issued n).wickNext n c) n v d :=
  State.issued_step (c := { c with pc := c.pc + 4, run := .running, stalled := none }) hpc rfl rfl hg hst hm hsh hh

/-- A result written to g d. -/
theorem State.issued_write {s : State} {n d : Nat} {x : Word64} :
    WickStep s ((s.issued n).wickWrite n { s.core n with entry := none, debugStep := false } d x) n ((s.nextView n).setG d x) := by
  unfold State.wickWrite
  refine State.issued_next ?_ ?_ ?_ ?_ ?_ ?_
  · unfold WickCore.setG; split <;> rfl
  · intro r
    rw [WickCore.getG_setG]
    show _ = if r = d ∧ r ≠ 0 then x else (s.core n).getG r
    by_cases hr : r = d
    · subst r; by_cases h0 : d = 0 <;> simp [h0]
    · simp only [hr, false_and, ↓reduceIte]; rfl
  · intro r; unfold WickCore.setG; split <;> rfl
  · intro a; unfold WickCore.setG; split <;> rfl
  · intro a; rfl
  · unfold WickCore.setG; split <;> rfl

/-- Register arithmetic (R300). -/
theorem State.wickRRR_step {s : State} {n : Fin 4} {op : Nat} {w : BitVec 24} (h : s.issues n op w) (hw : formatR w)
    (f : Word64 → Word64 → Word64) :
    WickStep s (s.wickRRR n op w f) n ((s.nextView n).setG (fd w) (f ((s.core n).getG (fa w)) ((s.core n).getG (fb w)))) := by
  unfold State.wickRRR
  rw [State.wickRun_issues h, State.legal_true (by simp [isG, hw.1, hw.2.1, hw.2.2.1, hw.2.2.2])]
  exact State.issued_write

/-- Immediate arithmetic (R301). -/
theorem State.wickRRI_step {s : State} {n : Fin 4} {op : Nat} {w : BitVec 24} (h : s.issues n op w) (hd : fd w < 32) (ha : fa w < 32)
    (f : Word64 → Word64) :
    WickStep s (s.wickRRI n op w f) n ((s.nextView n).setG (fd w) (f ((s.core n).getG (fa w)))) := by
  unfold State.wickRRI
  rw [State.wickRun_issues h, State.legal_true (by simp [isG, hd, ha])]
  exact State.issued_write

/-- Immediate shifts (R301). -/
theorem State.wickShiftI_step {s : State} {n : Fin 4} {op : Nat} {w : BitVec 24} (h : s.issues n op w) (hd : fd w < 32)
    (ha : fa w < 32) (hz : insF w 11 6 = 0) (f : Word64 → Nat → Word64) :
    WickStep s (s.wickShiftI n op w f) n ((s.nextView n).setG (fd w) (f ((s.core n).getG (fa w)) (insF w 5 0))) := by
  unfold State.wickShiftI
  rw [State.wickRun_issues h, State.legal_true (by simp [isG, hd, ha, hz])]
  exact State.issued_write

/-- Branches (R302). -/
theorem State.wickBranch_step {s : State} {n : Fin 4} {op : Nat} {w : BitVec 24} (h : s.issues n op w) (hd : fd w < 32)
    (ha : fa w < 32) (f : Word64 → Word64 → Bool) :
    WickStep s (s.wickBranch n op w f) n (if f ((s.core n).getG (fd w)) ((s.core n).getG (fa w)) then
      { s.nextView n with pc := (s.core n).pc + BitVec.ofInt 32 (4 * imm12 w) } else s.nextView n) := by
  unfold State.wickBranch
  rw [State.wickRun_issues h, State.legal_true (by simp [isG, hd, ha])]
  have e : (f (WickCore.getG { s.core n with entry := none, debugStep := false } (fd w))
      (WickCore.getG { s.core n with entry := none, debugStep := false } (fa w)) = true) =
      (f ((s.core n).getG (fd w)) ((s.core n).getG (fa w)) = true) := rfl
  simp only [e]
  split
  · exact State.issued_step rfl rfl rfl (fun _ => rfl) (fun _ => rfl) (fun _ => rfl) (fun _ => rfl) rfl
  · exact State.issued_next rfl (fun _ => rfl) (fun _ => rfl) (fun _ => rfl) (fun _ => rfl) rfl

end Sys2Proof.Machine
end

