-- ==== Sys2Proof/Machine/Balls.lean ====
section
/-! DEFINITION. What the balls show, as views of the state (R432, R437): no ball has a level of its own beside the unit that drives
it. -/
namespace Sys2Proof.Machine

/-- The level or drive of a ball or of a differential pair (R432). -/
inductive BallLevel where
  | unpowered
  | low
  | high
  /-- An input, or an output that is released. -/
  | released
  /-- A marker pair with MKL_P below MKL_N. -/
  | idleLow
  /-- An uplink pair at its common mode. -/
  | quiet
  /-- Characters are sent: what they are leaves as packets and frames. -/
  | sending
  /-- The boundary cells or HIGHZ decide (R418). -/
  | scan
deriving DecidableEq, Repr

/-- A ball that is unpowered in OFF and given to the boundary scan while the TAP drives the balls (R418, R432). (DESIGN CHOICE, safe: log 169) -/
def State.ball (s : State) (l : BallLevel) : BallLevel :=
  if s.inStates [.off] then .unpowered else if s.ballsDriven then .scan else l

/-- LTRIG k: low in RESET, BOOT and BANKED; high while a pulse of its trigger unit is in progress (R65, R432). -/
def State.ltrigBall (s : State) (k : Fin 16) : BallLevel :=
  s.ball (if s.inStates [.reset, .boot, .banked] || (s.trig k).pulseEnd.isNone then .low else .high)

/-- GPIO k: as TIM_GPIO_DIR configures it, an input in RESET and BOOT (R380, R432). -/
def State.gpioBall (s : State) (k : Fin 32) : BallLevel :=
  s.ball (if s.inStates [.reset, .boot] || !(s.rd R.TIM_GPIO_DIR).getLsbD k then .released
    else if (s.rd R.TIM_GPIO_OUT).getLsbD k then .high else .low)

/-- MKL_P and MKL_N of a link: idle low in RESET, BOOT and BANKED and while the link is disabled (R234, R404, R432). -/
def State.markerBalls (s : State) (m : Fin 8) : BallLevel :=
  s.ball (if s.inStates [.reset, .boot, .banked] || !s.bit (R.TNG_LINK_CFG m) F.TNG_LINK_CFG_enable then .idleLow else .sending)

/-- CXP_UPP and CXP_UPN of a lane (R72, R77, R81, R432): quiet in RESET, BOOT and BANKED; a master connection sends unless its link is
DOWN, another connection sends idle characters while the link is UP. -/
def State.uplinkBalls (s : State) (l : Fin 64) : BallLevel :=
  let master := s.slotLanes l != 0
  s.ball (if s.inStates [.reset, .boot, .banked] then .quiet
    else if (master && (s.camLink l).state != .down) || s.laneUp l then .sending else .quiet)

/-- SMB_ALERT_N is asserted (low) while therm_warn or supply_warn stands in BLW_FLAGS (R437). -/
def State.smbAlertBall (s : State) : BallLevel :=
  s.ball (if s.bit R.BLW_FLAGS F.BLW_FLAGS_therm_warn || s.bit R.BLW_FLAGS F.BLW_FLAGS_supply_warn then .low else .released)

end Sys2Proof.Machine
end

