-- ==== Sys2Proof/WellFormed.lean ====
section
/-! DEFINITION. Well-formed commands: operands that some host, wire or measurement can produce, where the type of the operand
admits more. exec is total on every command; an ill-formed one is no command that the outside world can give. -/
namespace Sys2Proof

/-- Frames of a buffer are numbered below 259,139, the pool's largest size (R259). -/
def frameOk (f : Nat) : Bool := decide (f < 259139)

/-- A pad appears at most once in a boundary scan. -/
def distinctPads (l : List (Nat × Bool)) : Bool := decide ((l.map Prod.fst).Nodup)

/-- Is a command well-formed? (DESIGN CHOICE, safe: log 166) -/
def Instr.wf (i : Instr) : Bool :=
  match i with
  | .registerWrite _ _ size _ => decide (0 < size)
  | .bar0Read _ size => decide (0 < size)
  | .thermalSample sensors => sensors.length == 16
  | .bar2Read off n _ _ => decide (0 < n) && decide (off.toNat + n ≤ 0x1000000)
  | .bar2Write off bs => decide (0 < bs.length) && decide (off.toNat + bs.length ≤ 0x1000000)
  | .pageOutDone _ f passed => frameOk f && passed.all fun p => frameOk p.2
  | .pageInDone _ f _ => frameOk f
  | .retireDone _ f units => frameOk f && units.all fun u => decide (u < 8192)
  | .scrubRead _ f _ => frameOk f
  | .samplePreload l => distinctPads l
  | .extest l => distinctPads l
  | _ => true

end Sys2Proof
end

