-- ==== Sys2Proof/Tests/Slice0.lean ====
section
/-! SUPPORT. Tests: the well-formedness check refuses an ill-formed term for each of its conditions; examples whose results the spec
works out (the rule stands at each); and witnesses: states and operands that meet the hypotheses of the statements of
Certificates/Slice0/Obligations.lean, clause by clause, boundary values among them. -/

set_option Elab.async false

namespace Sys2Proof.Tests
open Sys2Proof Sys2Proof.Machine



/-! ### Well-formedness -/

theorem test_wf_register_write_of_no_byte : (Instr.registerWrite .host 0 0 0).wf = false := by decide
theorem test_wf_bar0_read_of_no_byte : (Instr.bar0Read 0 0).wf = false := by decide
theorem test_wf_fifteen_sensors : (Instr.thermalSample (List.replicate 15 0)).wf = false := by decide
theorem test_wf_bar2_read_past_the_window : (Instr.bar2Read 0xFFFFFF 2 .clean).wf = false := by decide
theorem test_wf_bar2_read_of_no_byte : (Instr.bar2Read 0 0 .clean).wf = false := by decide
theorem test_wf_bar2_write_past_the_window : (Instr.bar2Write 0xFFFFFF [1, 2]).wf = false := by decide
theorem test_wf_bar2_write_of_no_byte : (Instr.bar2Write 0 []).wf = false := by decide
theorem test_wf_page_out_of_no_frame : (Instr.pageOutDone 0 259139 []).wf = false := by decide
theorem test_wf_page_out_past_no_frame : (Instr.pageOutDone 0 0 [(0, 259139)]).wf = false := by decide
theorem test_wf_page_in_of_no_frame : (Instr.pageInDone 0 259139 .clean).wf = false := by decide
theorem test_wf_retire_of_no_frame : (Instr.retireDone 0 259139 []).wf = false := by decide
theorem test_wf_retire_of_no_unit : (Instr.retireDone 0 0 [8192]).wf = false := by decide
theorem test_wf_scrub_of_no_frame : (Instr.scrubRead 0 259139 .clean).wf = false := by decide
theorem test_wf_sample_ball_twice : (Instr.samplePreload [(3, true), (3, false)]).wf = false := by decide
theorem test_wf_extest_ball_twice : (Instr.extest [(3, true), (3, false)]).wf = false := by decide
theorem test_wf_accepts : (Instr.registerWrite .host 0 4 0).wf = true ∧ (Instr.bar2Write 0xFFFFFE [1, 2]).wf = true ∧
    (Instr.thermalSample (List.replicate 16 0)).wf = true ∧ (Instr.retireDone 0 259138 [8191]).wf = true := by decide

/-! ### States for the tests -/

/-- The device in a state, powered, out of every reset. -/
def dev (d : DevState) : State := { State.reset with blw := { state := d, porAsserted := false, perstAsserted := false } }

/-- The device with some registers at values. -/
def dev' (d : DevState) (regs : List (Nat × BitVec 32)) : State :=
  regs.foldl (fun s p => s.wr p.1 p.2) (dev d)

/-- READY with one core as given. -/
def core (n : Nat) (c : WickCore) : State := { dev .ready with wck := { cores := [(n, c)] } }

/-- The word of an instruction of format R. -/
def rrr (d a b c : Nat) : BitVec 24 := BitVec.ofNat 24 (d * 2 ^ 18 + a * 2 ^ 12 + b * 2 ^ 6 + c)

/-- The word of an instruction of format I. -/
def rri (d a imm : Nat) : BitVec 24 := BitVec.ofNat 24 (d * 2 ^ 18 + a * 2 ^ 12 + imm % 4096)

/-- Does the next state of an answer meet a condition? -/
def leadsTo (o : Host.Outcome State Fault Refusal) (p : State → Bool) : Bool :=
  match o with
  | .next t => p t
  | _ => false


/-! ### Wick -/

/-- A core that runs with g1 and g2 set. -/
def busy (x y : Word64) : WickCore := { run := .running, g := [(1, x), (2, y)] }

theorem test_witness_arithmetic :
    (∀ op ∈ [0x01, 0x02, 0x03, 0x04, 0x05, 0x06, 0x07, 0x08, 0x09, 0x0A, 0x0B, 0x0C, 0x0D, 0x0E, 0x10, 0x11, 0x12, 0x14, 0x15,
      0x16, 0x17], (core 1 (busy 5 0)).wickReady 1 op (rrr 31 1 2 0) = true) ∧
    (core 1 (busy 5 0)).issues 1 0x0F (rrr 0 0 0 0) ∧ (core 1 (busy 5 0)).issues 1 0x13 (rrr 0 0 0 0) ∧
    formatR (rrr 31 1 2 0) ∧ ¬ formatR (rrr 32 0 0 0) ∧ ¬ formatR (rrr 0 0 0 1) ∧ ((core 1 (busy 5 0)).core 1).ex = false := by
  unfold State.issues formatR; decide +kernel

theorem test_add_wraps : leadsTo (exec (.add 1 (rrr 3 1 2 0)) (core 1 (busy (BitVec.allOnes 64) 2)))
    (fun t => (t.core 1).getG 3 == 1) = true := by decide +kernel
theorem test_quo_of_the_least_by_minus_one : leadsTo (exec (.quo 1 (rrr 3 1 2 0)) (core 1 (busy (2 ^ 63) (BitVec.allOnes 64))))
    (fun t => (t.core 1).getG 3 == 2 ^ 63) = true := by decide +kernel
theorem test_mod_takes_the_sign_of_a : leadsTo (exec (.mod 1 (rrr 3 1 2 0)) (core 1 (busy (-7) 3)))
    (fun t => (t.core 1).getG 3 == -1) = true := by decide +kernel
theorem test_quou_by_zero : leadsTo (exec (.quou 1 (rrr 1 1 2 0)) (core 1 (busy 5 0)))
    (fun t => (t.core 1).getG 1 == BitVec.allOnes 64) = true := by decide +kernel
theorem test_shra_takes_six_bits : leadsTo (exec (.shra 1 (rrr 3 1 2 0)) (core 1 (busy (-8) 65)))
    (fun t => (t.core 1).getG 3 == -4) = true := by decide +kernel
theorem test_g0_stays_zero : leadsTo (exec (.sub 1 (rrr 0 1 2 0)) (core 1 (busy 5 1)))
    (fun t => (t.core 1).getG 0 == 0 && (t.core 1).pc == 4) = true := by decide +kernel

theorem test_witness_immediates :
    (∀ op ∈ [0x20, 0x21, 0x22, 0x23, 0x24, 0x25, 0x26, 0x27, 0x28, 0x2F], (core 1 (busy 5 0)).wickReady 1 op (rri 31 1 63) = true) ∧
    (core 1 (busy 5 0)).issues 1 0x20 (rri 31 31 0x800) ∧ (core 1 (busy 5 0)).issues 1 0x2F (rri 31 63 0xFFF) ∧
    (core 1 (busy 5 0)).issues 1 0x00 0 ∧ fd (rri 31 31 0x800) < 32 ∧ fa (rri 31 31 0x800) < 32 ∧ shiftImm (rri 31 1 63) := by
  unfold State.issues shiftImm; decide +kernel

theorem test_addi_sign_extends : leadsTo (exec (.addi 1 (rri 3 1 0x800)) (core 1 (busy 0 0)))
    (fun t => (t.core 1).getG 3 == -2048) = true := by decide +kernel
/-- IHI and ORI build a signed constant (R301). -/
theorem test_ihi_builds_the_upper_part : leadsTo (exec (.ihi 1 (rri 3 63 0xFFF)) (core 1 (busy 0 0)))
    (fun t => (t.core 1).getG 3 == -4096) = true := by decide +kernel

theorem test_witness_branches :
    (∀ op ∈ [0x48, 0x49, 0x4A, 0x4B, 0x4C, 0x4D, 0x4E, 0x4F, 0x00],
      (core 1 (busy 5 5)).wickReady 1 op (rri 1 2 0xFFF) = true ∧ (core 1 (busy 5 5)).fetchable 1 0 = true ∧
      (core 1 { busy 5 5 with pc := 0x80000 }).wickReady 1 op (rri 1 2 0) = true) ∧
    (core 1 { busy 5 5 with pc := 0x80000 }).fetchable 1 0x80000 = false ∧ fd (rri 1 2 0xFFF) < 32 ∧ fa (rri 1 2 0xFFF) < 32 ∧
    ¬ fd (rri 32 0 0) < 32 ∧ ¬ fa (rri 0 32 0) < 32 := by decide +kernel

theorem test_beq_goes_back : leadsTo (exec (.beq 1 (rri 1 2 0xFFF)) (core 1 { busy 5 5 with pc := 8 }))
    (fun t => (t.core 1).pc == 4) = true := by decide +kernel
theorem test_blt_is_signed : leadsTo (exec (.blt 1 (rri 1 2 3)) (core 1 (busy (-1) 0))) (fun t => (t.core 1).pc == 12) = true := by
  decide +kernel
theorem test_callr_clears_two_bits : leadsTo (exec (.callr 1 (rri 1 1 3)) (core 1 (busy 0x101 0)))
    (fun t => (t.core 1).pc == 0x104 && (t.core 1).getG 1 == 4) = true := by decide +kernel

theorem test_witness_stream_moves :
    (∀ op ∈ [0x50, 0x51, 0x52, 0x53, 0x54], (core 1 (busy 5 5)).wickReady 1 op (rrr 39 1 0 0) = true) ∧
    (core 1 (busy 5 5)).issues 1 0x50 (rrr 39 1 0 0) ∧ (32 ≤ fd (rrr 39 1 0 0) ∧ fd (rrr 39 1 0 0) < 40) ∧ fa (rrr 39 1 0 0) < 32 ∧
    (32 ≤ fa (rrr 1 32 0 0) ∧ fa (rrr 1 32 0 0) < 40) ∧ fb (rrr 39 1 0 0) = 0 ∧ fc (rrr 39 1 0 0) = 0 ∧
    ¬ fd (rrr 40 1 0 0) < 40 ∧ ¬ fb (rrr 39 1 1 0) = 0 := by unfold State.issues; decide +kernel

theorem test_shi_takes_the_top : leadsTo (exec (.shi 1 (rrr 32 1 0 0)) (core 1 { busy 0x1AB 0 with s := [(0, 7)] }))
    (fun t => (t.core 1).getS 0 == 0xAB_0000_0000_0000_0007) = true := by decide +kernel
theorem test_ghi_zero_extends : leadsTo (exec (.ghi 1 (rrr 3 33 0 0)) (core 1 { busy 0 0 with s := [(1, 0x80_0000_0000_0000_0000)] }))
    (fun t => (t.core 1).getG 3 == 0x80) = true := by decide +kernel

/-- A core whose g1 is an address. -/
def atAddr (a : Word64) : WickCore := { run := .running, g := [(1, a), (2, 0x1122334455667788)], s := [(0, 0x99_8877_6655_4433_2211)] }

theorem test_witness_loads :
    (∀ op ∈ [0x30, 0x31, 0x32, 0x33, 0x34, 0x35, 0x36, 0x3C], (core 1 (atAddr 0x7FFF0)).wickReady 1 op (rri 3 1 0) = true) ∧
    (core 1 (atAddr 0x7FFF0)).issues 1 0x36 (rri 3 1 0) ∧ (core 1 (atAddr 0x7FFF0)).wickAddress 1 (rri 3 1 0) = 0x7FFF0 ∧
    placeOf 0x7FFF0 8 = some .localMem ∧ placeOf 0x7FFF0 16 = some .localMem ∧ placeOf 0x70000000 1 = some .rom ∧
    placeOf 0x2FFFF0 16 = some .sharedMem ∧
    32 ≤ fd (rri 39 1 0) ∧ fd (rri 39 1 0) < 40 ∧ fa (rri 39 1 0) < 32 := by unfold State.issues; decide +kernel

theorem test_ld8_sign_extends : leadsTo (exec (.ld8 1 (rri 3 1 0) .clean) (core 1 { atAddr 16 with mem := [(16, 0x80)] }))
    (fun t => (t.core 1).getG 3 == -128) = true := by decide +kernel
theorem test_ld16u_least_byte_first : leadsTo (exec (.ld16u 1 (rri 3 1 0) .clean) (core 1 { atAddr 16 with mem := [(16, 0x34), (17, 0x12)] }))
    (fun t => (t.core 1).getG 3 == 0x1234) = true := by decide +kernel

theorem test_witness_stores :
    (∀ op ∈ [0x38, 0x39, 0x3A, 0x3B, 0x3D, 0x40, 0x41, 0x42], (core 1 (atAddr 0x7FFF0)).wickReady 1 op (rri 2 1 0) = true) ∧
    (core 1 (atAddr 0x7FFF0)).issues 1 0x3B (rri 2 1 0) ∧ (core 1 (atAddr 0x7FFF0)).issues 1 0x40 (rrr 2 1 2 0) ∧
    formatR (rrr 2 1 2 0) ∧ (((core 1 (atAddr 0x7FFF0)).core 1).getG (fa (rrr 2 1 2 0))).toNat % 8 = 0 := by
  unfold State.issues formatR; decide +kernel

/-- STS writes nine bytes and seven zeros (R5, R301). -/
theorem test_sts_writes_the_slot : leadsTo (exec (.sts 1 (rri 32 1 0)) (core 1 { atAddr 16 with mem := [(25, 1), (31, 1)] }))
    (fun t => Memory.reads (t.core 1).mem 16 16 == [0x11, 0x22, 0x33, 0x44, 0x55, 0x66, 0x77, 0x88, 0x99, 0, 0, 0, 0, 0, 0, 0]) = true := by
  decide +kernel
theorem test_st16_writes_two_bytes : leadsTo (exec (.st16 1 (rri 2 1 0)) (core 1 { atAddr 16 with mem := [(18, 9)] }))
    (fun t => Memory.reads (t.core 1).mem 16 3 == [0x88, 0x77, 9]) = true := by decide +kernel
theorem test_atcas_keeps_another_word : leadsTo (exec (.atcas 1 (rrr 3 1 2 0) .clean) (core 1 { atAddr 16 with mem := [(16, 9)] }))
    (fun t => (t.core 1).getG 3 == 9 && Memory.reads (t.core 1).mem 16 1 == [9]) = true := by decide +kernel

/-- A core at a device register, and the supervisor at another. -/
theorem test_witness_device_accesses :
    (core 0 (atAddr 0x40000008)).issues 0 0x34 (rri 3 1 0) ∧ (core 0 (atAddr 0x40000008)).issues 0 0x35 (rri 3 1 0) ∧
    (core 0 (atAddr 0x40000008)).issues 0 0x3A (rri 2 1 0) ∧ (core 0 (atAddr 0x40000008)).wickAddress 0 (rri 3 1 0) % 4 = 0 ∧
    placeOf ((core 0 (atAddr 0x40000008)).wickAddress 0 (rri 3 1 0)) 4 = some .device ∧
    (core 0 (atAddr 0x40000008)).mayAccess 0 .load true 0x40000008 .device = true ∧
    (core 0 (atAddr 0x40000008)).mayAccess 0 .store true 0x40000008 .device = true := by unfold State.issues; decide +kernel

theorem test_witness_access_checks :
    ((core 1 (atAddr 0x7FFF1)).core 1).ex = false ∧ fa (rri 3 1 0) < 32 ∧ (core 1 (atAddr 0x7FFF1)).issues 1 0x36 (rri 3 1 0) ∧
    (core 1 (atAddr 0x7FFF1)).wickAddress 1 (rri 3 1 0) % 8 ≠ 0 ∧ (core 1 (atAddr 0x80000)).wickAddress 1 (rri 3 1 0) % 8 = 0 ∧
    placeOf 0x80000 8 = none ∧ placeOf 0x7FFF8 8 = some .localMem ∧ placeOf 0x70000000 8 = some .rom ∧
    (core 1 (atAddr 0x70000000)).mayAccess 1 .load false 0x70000000 .rom = false ∧
    (core 1 (atAddr 0x40000008)).mayAccess 1 .load false 0x40000008 .device = false := by unfold State.issues; decide +kernel

theorem test_witness_exceptions :
    (core 1 (busy 0 0)).issues 1 0x61 0 ∧ ((core 1 (busy 0 0)).core 1).ex = false ∧ listedOpcode 0x0F = false ∧ listedOpcode 0xFF = false ∧
    (core 1 (busy 0 0)).issues 1 0xFF 0 ∧ (core 1 { busy 0 0 with ex := true }).issues 1 0x61 0 ∧
    ((core 1 { busy 0 0 with ex := true }).core 1).ex = true := by unfold State.issues; decide +kernel

/-- The handler is at the address in vector entry 512 (R310). -/
theorem test_brk_enters_the_handler : leadsTo (exec (.brk 1 0) (core 1 { busy 0 0 with pc := 0x40, vbase := 0x1000, mem := [(0x1801, 2)] }))
    (fun t => (t.core 1).pc == 0x200 && (t.core 1).epc == 0x40 && (t.core 1).cause == 9 && (t.core 1).ex) = true := by decide +kernel
theorem test_brk_in_a_handler_halts : leadsTo (exec (.brk 1 0) (core 1 { busy 0 0 with ex := true }))
    (fun t => (t.core 1).run == .halted && (t.core 1).haltCause == 1) = true := by decide +kernel

theorem test_witness_control_registers :
    (core 1 (busy 0 0)).issues 1 0x58 (rri 31 0 0x0B) ∧ fd (rri 31 0 0x0B) < 32 ∧ fa (rri 31 0 0x0B) = 0 ∧
    BitVec.extractLsb 11 0 (rri 31 0 0x0B) = 0x0B ∧ (core 0 (busy 0 0)).issues 0 0x59 (rri 0 1 4) ∧ fd (rri 0 1 4) = 0 ∧
    (core 1 (busy 0 0)).issues 1 0x58 (rri 31 0 0x0C) ∧ 0x0B < (BitVec.extractLsb 11 0 (rri 31 0 0x0C)).toNat ∧
    (core 1 (busy 0 0)).issues 1 0x59 (rri 0 1 0x0C) ∧ (core 1 (busy 0 0)).issues 1 0x59 (rri 0 1 10) ∧
    BitVec.extractLsb 11 0 (rri 0 1 10) ∈ ([0, 2, 3, 4, 5, 6, 7, 9, 10] : List (BitVec 12)) ∧
    ((core 1 (busy 0 0)).core 1).ex = false := by unfold State.issues; decide +kernel

theorem test_mfc_status_of_core_0 : leadsTo (exec (.mfc 0 (rri 3 0 0)) (core 0 (busy 0 0)))
    (fun t => (t.core 0).getG 3 == 0x80100000) = true := by decide +kernel
theorem test_mtc_vbase_aligns : leadsTo (exec (.mtc 0 (rri 0 1 4)) (core 0 (busy 0x1FFF 0)))
    (fun t => (t.core 0).vbase == 0x1000) = true := by decide +kernel


/-- READY with one core and some registers. -/
def coreR (n : Nat) (c : WickCore) (regs : List (Nat × BitVec 32)) : State :=
  { dev' .ready regs with wck := { cores := [(n, c)] } }

/-- EVT_SRC of a source of core 1: enabled, released, with a priority. -/
def src1 (prio : Nat) : BitVec 32 := BitVec.ofNat 32 (2 ^ 31 + 2 ^ 29 + 2 ^ 28 + 1 * 2 ^ 24 + prio * 2 ^ 16)

theorem test_witness_system :
    (core 1 (busy 0 0)).issues 1 0x5A 0 ∧ (core 1 (busy 0 0)).issues 1 0x5B 0 ∧
    (core 1 { busy 0 0 with ex := true }).issues 1 0x5E 0 ∧ ((core 1 { busy 0 0 with ex := true }).core 1).ex = true ∧
    (core 1 (busy 0 0)).issues 1 0x5E 0 ∧ ((core 1 (busy 0 0)).core 1).ex = false ∧
    (core 1 (busy 0 0)).issues 1 0x60 0 ∧ (∀ m ∈ (core 1 (busy 0 0)).wck.moves, m.core ≠ 1) ∧
    (core 1 (busy 4 8)).issues 1 0x5F (rrr 0 1 2 0) ∧ fd (rrr 0 1 2 0) = 0 ∧ fa (rrr 0 1 2 0) < 32 ∧ fb (rrr 0 1 2 0) < 32 ∧
    fc (rrr 0 1 2 0) = 0 := by unfold State.issues; decide +kernel

/-- A transfer of the bulk port by core 1. -/
def move1 : BulkMove := { core := 1, tag := 0, toHandle := false, handle := 0, word := 0, slot := 0, left := 1 }

theorem test_witness_fence_waits :
    let s : State := { core 1 (busy 0 0) with wck := { cores := [(1, busy 0 0)], moves := [move1] } }
    s.issues 1 0x60 0 ∧ ∃ x ∈ s.wck.moves, x.core = 1 := by unfold State.issues; decide +kernel

/-- A core that waits for an interrupt, with a pending source and without one. -/
def wfiCore : WickCore := { run := .waiting, stalled := some (0x5C, 0), ie := true, ifsp := 0x110, iflim := 0x100 }

theorem test_witness_wfi :
    (coreR 1 wfiCore [(R.EVT_SRC 40, src1 3)]).issues 1 0x5C 0 ∧ (coreR 1 wfiCore [(R.EVT_SRC 40, src1 3)]).awaits 1 ∧
    ((coreR 1 wfiCore [(R.EVT_SRC 40, src1 3)]).core 1).run = .waiting ∧
    ((coreR 1 wfiCore [(R.EVT_SRC 40, src1 3)]).core 1).stalled = some (0x5C, 0) ∧
    (coreR 1 wfiCore [(R.EVT_SRC 40, src1 3)]).coresStopped = false ∧ (core 1 wfiCore).issues 1 0x5C 0 :=
  ⟨⟨by decide +kernel, by decide +kernel⟩, ⟨40, by decide +kernel⟩, by decide +kernel, by decide +kernel, by decide +kernel,
    by decide +kernel, by decide +kernel⟩

theorem test_witness_wfi_without_source : ¬ (core 1 wfiCore).awaits 1 := by
  rintro ⟨src, h, hp, -, -⟩
  exact absurd hp ((by decide +kernel : ∀ k, k < 512 → (core 1 wfiCore).bit (R.EVT_SRC k) F.EVT_SRC_pending ≠ true) src h)

/-- Of the sources of core 1 in `coreR 1 c [(R.EVT_SRC 40, src1 p)]`, source 40 wins below a priority above `p`. -/
theorem wins40 (c : WickCore) (p rp : Nat) (hie : c.ie = true) (hex : c.ex = false)
    (h : (coreR 1 c [(R.EVT_SRC 40, src1 p)]).fld (R.EVT_SRC 40) F.EVT_SRC_priority < rp)
    (hb : (coreR 1 c [(R.EVT_SRC 40, src1 p)]).bit (R.EVT_SRC 40) F.EVT_SRC_released = true ∧
      (coreR 1 c [(R.EVT_SRC 40, src1 p)]).bit (R.EVT_SRC 40) F.EVT_SRC_enable = true ∧
      (coreR 1 c [(R.EVT_SRC 40, src1 p)]).bit (R.EVT_SRC 40) F.EVT_SRC_mask = false ∧
      (coreR 1 c [(R.EVT_SRC 40, src1 p)]).fld (R.EVT_SRC 40) F.EVT_SRC_target = 1)
    (ho : ∀ k, k < 512 → k ≠ 40 → (coreR 1 c [(R.EVT_SRC 40, src1 p)]).bit (R.EVT_SRC k) F.EVT_SRC_enable = false) :
    (coreR 1 c [(R.EVT_SRC 40, src1 p)]).wins 1 rp 40 := by
  have hc : (coreR 1 c [(R.EVT_SRC 40, src1 p)]).core 1 = c := rfl
  refine ⟨⟨by decide, hc ▸ hie, hc ▸ hex, hb.1, hb.2.1, hb.2.2.1, hb.2.2.2, h⟩, ?_⟩
  rintro o ⟨hlt, -, -, -, hen, -⟩
  by_cases e : o = 40
  · subst e; exact .inr ⟨rfl, Nat.le_refl _⟩
  · rw [ho o hlt e] at hen; exact absurd hen (by decide)

theorem test_witness_interrupt_entry :
    (coreR 1 wfiCore [(R.EVT_SRC 40, src1 15)]).wins 1 ((coreR 1 wfiCore [(R.EVT_SRC 40, src1 15)]).core 1).rp 40 ∧
    (coreR 1 wfiCore [(R.EVT_SRC 40, src1 15)]).coresStopped = false ∧
    ((coreR 1 wfiCore [(R.EVT_SRC 40, src1 15)]).core 1).inService = false ∧
    ((coreR 1 wfiCore [(R.EVT_SRC 40, src1 15)]).core 1).debugHalt = false ∧
    ((coreR 1 wfiCore [(R.EVT_SRC 40, src1 15)]).core 1).entry = none ∧ wfiCore.iflim.toNat + 16 ≤ wfiCore.ifsp.toNat ∧
    framePlace (wfiCore.ifsp - 16).toNat = some .localMem ∧
    (coreR 1 wfiCore [(R.EVT_SRC 40, src1 15)]).entryWord 1 (wfiCore.vbase.toNat + 160) = some 0 :=
  ⟨wins40 _ _ _ rfl rfl (by decide +kernel) (by decide +kernel) (by decide +kernel), by decide +kernel⟩

/-- A frame stack in shared memory, and in a hole of the map; a vector table in a hole. -/
theorem test_witness_frame_places :
    framePlace (({ wfiCore with ifsp := 0x100010, iflim := 0 } : WickCore).ifsp - 16).toNat = some .sharedMem ∧
    framePlace (({ wfiCore with ifsp := 0x08000010, iflim := 0 } : WickCore).ifsp - 16).toNat = none ∧
    (coreR 1 { wfiCore with vbase := 0x08000000 } [(R.EVT_SRC 40, src1 15)]).entryWord 1 (0x08000000 + 160) = none := by decide +kernel

/-- The frame stack is full. -/
theorem test_witness_frame_overflow :
    (coreR 1 { wfiCore with ifsp := 0x10F } [(R.EVT_SRC 40, src1 0)]).wins 1 16 40 ∧
    ({ wfiCore with ifsp := 0x10F } : WickCore).ifsp.toNat < ({ wfiCore with ifsp := 0x10F } : WickCore).iflim.toNat + 16 :=
  ⟨wins40 _ _ _ rfl rfl (by decide +kernel) (by decide +kernel) (by decide +kernel), by decide +kernel⟩

/-- A handler at priority 2, whose frame saved priority 16 and ie. -/
def handler : WickCore := { run := .running, ie := true, rp := 2, ifsp := 0x100, mem := [(0x106, 0x10), (0x107, 0x20)] }

theorem test_witness_reti :
    (core 1 { busy 0 0 with rp := 16 }).issues 1 0x5D 0 ∧ ((core 1 { busy 0 0 with rp := 16 }).core 1).rp = 16 ∧
    (core 1 handler).issues 1 0x5D 0 ∧ ((core 1 handler).core 1).rp ≠ 16 ∧ (core 1 handler).entryWord 1 0x104 = some 0x20100000 ∧ (0x20100000 : BitVec 32).toNat / 65536 % 32 = 16 ∧
    (core 1 handler).entryWord 1 0x100 = some 0 ∧ (core 1 { handler with ifsp := 0x08000000 }).entryWord 1 0x08000000 = none := by
  unfold State.issues; decide +kernel

theorem test_witness_reti_restores (src : Nat) : ¬ (core 1 handler).eligible 1 16 src := by
  rintro ⟨h, -, -, hr, -⟩
  exact absurd hr ((by decide +kernel : ∀ k, k < 512 → (core 1 handler).bit (R.EVT_SRC k) F.EVT_SRC_released ≠ true) src h)

theorem test_witness_reti_chains : (coreR 1 handler [(R.EVT_SRC 40, src1 5)]).wins 1 16 40 :=
  wins40 _ _ _ rfl rfl (by decide +kernel) (by decide +kernel) (by decide +kernel)

theorem test_reti_restores : leadsTo (exec (.reti 1 0 .clean) (core 1 handler))
    (fun t => (t.core 1).rp == 16 && (t.core 1).ie && (t.core 1).ifsp == 0x110) = true := by decide +kernel
theorem test_interrupt_entry_frame : leadsTo (exec (.interruptEntry 1) (coreR 1 { wfiCore with ifsp := 0x110 } [(R.EVT_SRC 40, src1 3)]))
    (fun t => (t.core 1).ifsp == 0x100 && (t.core 1).rp == 3 && Memory.reads (t.core 1).mem 0x104 6 == [0, 0, 0x10, 0x20, 40, 0]) = true := by
  decide +kernel

/-- A core with tag 15 in a state. -/
def tagged (x : Tag) : WickCore := { run := .running, tags := [(15, x)] }

theorem test_witness_tags :
    ((core 1 (tagged (.ended 5))).core 1).tag 15 = .ended 5 ∧ ((core 1 (tagged (.done 5))).core 1).tag 15 = .done 5 ∧
    ((core 1 (busy 0 0)).core 1).tag 15 = .free ∧ ((core 1 (tagged (.pending 9 1))).core 1).tag 15 = .pending 9 1 ∧
    (core 1 (tagged (.done 5))).issues 1 0x71 0x7FC000 ∧ fd (0x7FC000 : BitVec 24) < 32 ∧
    BitVec.extractLsb 12 0 (0x7FC000 : BitVec 24) = 0 ∧ (BitVec.extractLsb 17 14 (0x7FC000 : BitVec 24)).toNat = 15 ∧
    (0x7FC000 : BitVec 24).getLsbD 13 = false ∧ (0x7FE000 : BitVec 24).getLsbD 13 = true := by unfold State.issues; decide +kernel

/-- The worked encodings of ISS and AWT (16_wick_processors.md): 0x7021_C500 and 0x7118_A000. -/
theorem test_iss_and_awt_fields :
    (BitVec.extractLsb 23 20 (0x21C500 : BitVec 24)).toNat = 2 ∧ (BitVec.extractLsb 19 14 (0x21C500 : BitVec 24)).toNat = 7 ∧
    (BitVec.extractLsb 13 8 (0x21C500 : BitVec 24)).toNat = 5 ∧ fd (0x18A000 : BitVec 24) = 6 ∧
    (BitVec.extractLsb 17 14 (0x18A000 : BitVec 24)).toNat = 2 ∧ (0x18A000 : BitVec 24).getLsbD 13 = true := by decide

/-- The bits of an ISS. -/
def issBits (tg target g index : Nat) : BitVec 24 := BitVec.ofNat 24 (tg * 2 ^ 20 + target * 2 ^ 14 + g * 2 ^ 8 + index * 4)

theorem test_witness_iss :
    (core 0 (busy 1 0)).issues 0 0x70 (issBits 15 0x0C 1 15) ∧ ((core 0 (busy 1 0)).core 0).tag 15 = .free ∧
    (BitVec.extractLsb 13 8 (issBits 15 0x0C 1 15)).toNat < 32 ∧ BitVec.extractLsb 1 0 (issBits 15 0x0C 1 15) = 0 ∧
    (BitVec.extractLsb 19 14 (issBits 15 0x0C 1 15)).toNat = 0x0C ∧ (BitVec.extractLsb 7 2 (issBits 15 0x0C 1 15)).toNat = 15 ∧
    issRegister 0 0x09 0 ≠ none ∧ busyStatus 0 0x09 0 = some (R.HRT_AP_STATUS 1) ∧
    (coreR 0 (busy 1 0) [(R.HRT_AP_STATUS 1, 0x80000000)]).bit (R.HRT_AP_STATUS 1) ⟨31, 31⟩ = true ∧
    ((core 0 (tagged (.done 0))).core 0).tag 15 ≠ .free ∧ 0x0C < (BitVec.extractLsb 19 14 (issBits 15 0x0D 1 0)).toNat := by
  unfold State.issues; decide +kernel

theorem test_witness_timers :
    ((core 1 { busy 0 0 with tcmp := 7, tcmpArmed := true, cycle := 7 }).core 1).tcmp ≤ 7 ∧
    ((core 1 { busy 0 0 with tcmp := 7, tcmpArmed := true, cycle := 7 }).core 1).run ≠ .reset ∧
    (0x80 : Reg32).getLsbD 7 = true ∧ (dev' .ready [(R.EVT_SRC 39, 0x80000000)]).bit (R.EVT_SRC 39) F.EVT_SRC_enable = true ∧
    (dev .ready).inStates [.off, .reset, .banked] = false ∧ (dev .ready).hst.d3hot = false := by decide +kernel

/-- A watchdog of 3 µs on core 3, 375 ticks after its restart. -/
def dog : State := { coreR 3 (busy 0 0) [(R.WCK_WDOG 3, 0x80000003)] with ticks := 375 }

theorem test_witness_watchdog :
    dog.bit (R.WCK_WDOG 3) F.WCK_WDOG_enable = true ∧ (dog.core 3).run = .running ∧ dog.coresStopped = false ∧
    dog.fld (R.WCK_WDOG 3) F.WCK_WDOG_timeout_us * 125 ≤ dog.ticks - (dog.core 3).kicked := by decide +kernel

theorem test_watchdog_halts : leadsTo (exec (.watchdogTimeout 3) dog) (fun t => (t.core 3).run == .halted && (t.core 3).haltCause == 2) = true := by
  decide +kernel
theorem test_watchdog_waits : leadsTo (exec (.watchdogTimeout 3) { dog with ticks := 374 }) (fun t => (t.core 3).run == .running) = true := by
  decide +kernel


/-! ### Wick: queues, the bulk port, services -/

/-- A state with some register fields at values. -/
def flds (s : State) (l : List (Nat × Field × Nat)) : State := l.foldl (fun s p => s.setFld p.1 p.2.1 p.2.2) s

/-- A queue, enabled with two pages, with some slots. -/
def withQ (s : State) (q : Nat) (l : List QSlot) : State :=
  (flds s [(R.HST_Q_CFG q, F.HST_Q_CFG_pages, 2), (R.HST_Q_CFG q, F.HST_Q_CFG_enable, 1)]).setQueue q { slots := l }

/-- Core 1 runs, its g1 the queue 63. -/
def q63 (l : List QSlot) : State := withQ (core 1 (busy 63 0)) 63 l

/-- The bits of a queue instruction: d 31, a 1. -/
def qBits (s w l : Nat) : BitVec 24 := BitVec.ofNat 24 (31 * 2 ^ 18 + 2 ^ 12 + s * 2 ^ 9 + w * 256 + l)

theorem test_witness_queue_forms :
    queueForm (qBits 0 0 0) false false false ∧ queueForm (qBits 7 1 0) true true false ∧ queueForm (qBits 0 0 63) false false true := by
  unfold queueForm; decide

theorem test_witness_queue_instructions :
    (q63 []).issues 1 0x6A (qBits 0 0 0) ∧ (q63 []).issues 1 0x69 (qBits 7 1 0) ∧ (q63 []).issues 1 0x6B (qBits 0 0 63) ∧
    (q63 []).issues 1 0x68 (qBits 7 1 0) ∧ (q63 []).issues 1 0x6C (qBits 0 0 0) ∧ (q63 []).namedQueue 1 (qBits 0 0 0) = 63 ∧
    openWords 0x41 ((q63 []).queue 63).slots = none ∧ (q63 []).openCount 0x41 < 4 ∧ (q63 []).queueFull 63 = false ∧
    openWords 0x41 ((q63 [.opened 0x41 []]).queue 63).slots = some [] ∧
    (q63 [.opened 0x40 (List.replicate 31 0)]).queueFull 63 = true ∧
    openWords 0x41 ((q63 [.opened 0x40 (List.replicate 31 0)]).queue 63).slots = none ∧
    0x41 ∉ ((q63 []).queue 63).cut ∧ 0x41 ∈ (((q63 []).setQueue 63 { cut := [0x41] }).queue 63).cut ∧ (q63 []).queueOn 63 = true ∧
    (q63 []).queueBound 63 = false ∧ (qBits 7 0 0).getLsbD 8 = false ∧ (qBits 7 1 0).getLsbD 8 = true := by
  unfold State.issues; decide +kernel

theorem test_qpush_appends : leadsTo (exec (.qpush 1 (qBits 0 0 0)) ((q63 [.opened 0x41 [5]]).setCore 1 { busy 63 0 with s := [(0, 9)] }))
    (fun t => (t.queue 63).slots == [.opened 0x41 [5, 9]] && (t.core 1).getG 31 == 0) = true := by decide +kernel
theorem test_qpop_takes_the_length_word_first : leadsTo (exec (.qpop 1 (qBits 0 0 0) .clean) (q63 [.closed 0x41 [7, 9]]))
    (fun t => (t.core 1).getS 0 == 7) = true := by decide +kernel

/-- A state with one buffer, at index 3, generation 1, every frame in the stack. -/
def buf1 (s : State) (b : Buffer) : State := { s with hrt := { s.hrt with slots := [(3, { gen := 1, buf := some b })] } }

/-- A pinned buffer of one frame, and its handle. -/
def whole : Buffer := { size := 1, pinned := true, base := .resident false true none }
def hd : BitVec 32 := mkHandle 3 1

/-- Core 1 with the handle in g1, word 7,280 (the last whole one of 65,536 bytes) in g2 and a slot's address in g3. -/
def bulkCore : WickCore := { run := .running, g := [(1, hd.setWidth 64), (2, 7280), (3, 0x7FFF0)] }

theorem test_witness_bulk :
    let s := buf1 (core 1 bulkCore) whole
    s.issues 1 0x74 (rrr 39 1 2 0) ∧ s.issues 1 0x75 (rrr 39 1 2 0) ∧ s.issues 1 0x76 (BitVec.ofNat 24 (15 * 2 ^ 20 + 0x1083)) ∧
    ((s.core 1).getG (fa (rrr 39 1 2 0))).setWidth 32 = hd ∧ s.buffer hd = some whole ∧ whole.frames = [] ∧ whole.held = false ∧
    s.hrt.retiring = [] ∧ 9 * 7280 + 9 ≤ whole.size * 65536 ∧
    (∀ i, i < 9 → s.unitPoisoned (byteKey hd (9 * 7280 + i)) = false) ∧ s.wck.moves = [] ∧ (s.core 1).tag 15 = .free ∧
    fa (BitVec.ofNat 24 (15 * 2 ^ 20 + 0x1083)) = 1 ∧ fb (BitVec.ofNat 24 (15 * 2 ^ 20 + 0x1083)) = 2 ∧
    fc (BitVec.ofNat 24 (15 * 2 ^ 20 + 0x1083)) = 3 ∧ (0x7FFF0 : Nat) % 16 = 0 ∧
    (buf1 (core 1 { bulkCore with g := [(1, 5)] }) whole).buffer 5 = none := by
  unfold State.issues; decide +kernel

theorem test_bld_reads_nine_bytes : leadsTo (exec (.bld 1 (rrr 32 1 2 0) .clean)
    (let s := buf1 (core 1 { bulkCore with g := [(1, hd.setWidth 64)] }) whole
     { s with hrt := { s.hrt with bytes := [(byteKey hd 0, 0x34), (byteKey hd 8, 0x12)] } }))
    (fun t => (t.core 1).getS 0 == 0x12_0000_0000_0000_0034) = true := by decide +kernel

/-- Core 1 waits for a call of a number with arguments. -/
def calling (d : DevState) (num : Nat) (a0 a1 a2 : Nat) (regs : List (Nat × Field × Nat)) : State :=
  let s := { dev d with wck := { cores := [(0, busy 0 0), (1, { busy 0 0 with run := .waiting, stalled := some (0x62, BitVec.ofNat 24 num) })], svc := [1] } }
  (flds s (regs ++ [(R.WCK_SVC_NUM 1, F.WCK_SVC_NUM_number, num), (R.WCK_SVC_NUM 1, F.WCK_SVC_NUM_pending, 1)])).wr (R.WCK_SVC_ARG 1 0)
    (BitVec.ofNat 32 a0) |>.wr (R.WCK_SVC_ARG 1 2) (BitVec.ofNat 32 a1) |>.wr (R.WCK_SVC_ARG 1 4) (BitVec.ofNat 32 a2)

theorem test_witness_services :
    (core 1 (busy 0 0)).issues 1 0x62 0xFFFF ∧ fd (0xFFFF : BitVec 24) = 0 ∧ BitVec.extractLsb 17 16 (0xFFFF : BitVec 24) = 0 ∧
    (core 0 (busy 0 0)).issues 0 0x62 0xFFFF ∧ ((core 0 (busy 0 0)).core 0).ex = false ∧ (calling .ready 0 0 0 0 []).wck.svc.head? = some 1 ∧
    (calling .ready 0 0 0 0 []).calls 1 0 ∧ (calling .ready 0xFFFF 0 0 0 []).calls 1 0xFFFF ∧ (calling .run 1 1 0 0 []).calls 1 1 ∧
    (calling .run 1 1 0 0 []).serviceArg 1 0 = 1 ∧ (calling .run 1 1 0 0 []).blw.state = .run ∧ (calling .hold 1 1 0 0 []).blw.state ≠ .run := by
  unfold State.issues State.calls; decide +kernel

theorem test_witness_route_and_notify :
    let s := calling .ready 2 511 15 1 [(R.EVT_SRC 511, F.EVT_SRC_target, 1)]
    s.calls 1 2 ∧ s.serviceArg 1 0 = 511 ∧ s.serviceArg 1 1 = 15 ∧ s.serviceArg 1 2 = 1 ∧ s.fld (R.EVT_SRC 511) F.EVT_SRC_target = 1 ∧
    (calling .ready 2 128 0 0 []).calls 1 2 ∧ (calling .ready 2 128 0 0 []).serviceArg 1 0 = 128 ∧
    (calling .ready 2 128 0 0 []).fld (R.EVT_SRC 128) F.EVT_SRC_target ≠ 1 ∧
    (withQ (calling .ready 3 9 0 0 []) 1 []).calls 1 3 ∧ (withQ (calling .ready 3 9 0 0 []) 1 []).queueOn 1 = true ∧
    (withQ (calling .ready 3 9 0 0 []) 1 []).canPush 1 2 = true ∧
    (withQ (calling .ready 3 9 0 0 []) 1 [.opened 0x40 (List.replicate 30 0)]).canPush 1 2 = false := by
  unfold State.calls; decide +kernel


/-! ### Registers and resets -/

/-- A register that R6 to R10 describe whole, with a field at each access code: TNG_CFG, BLM_FLAGS; an offset of no register. -/
theorem test_witness_register_writes :
    (dev .ready).hostOpen ∧ (BitVec.ofNat 26 R.TNG_CFG).toNat % 4 = 0 ∧ regKey (BitVec.ofNat 26 R.TNG_CFG).toNat = R.TNG_CFG ∧
    (regInfo R.TNG_CFG).isSome ∧ plainRegister R.TNG_CFG ∧ (∃ r, regInfo R.TNG_CFG = some r ∧ fieldsApart r.fields ∧ r.fields ≠ []) ∧
    plainRegister R.BLM_FLAGS ∧ (∃ r, regInfo R.BLM_FLAGS = some r ∧ ∃ f ∈ r.fields, f.access = .w1c) ∧
    regInfo (regKey 0x3FFFFFC) = none ∧ plainRegister (regKey 0x3FFFFFC) ∧ (0x3FFFFFC : BitVec 26).toNat % 4 = 0 ∧
    (2 : Nat) ≠ 4 ∧ (0x3FFFFFE : BitVec 26).toNat % 4 ≠ 0 := by
  refine ⟨by unfold State.hostOpen; decide +kernel, by decide, by decide +kernel, by decide +kernel, by unfold plainRegister; decide +kernel,
    ⟨_, rfl, by unfold fieldsApart; decide +kernel, by decide +kernel⟩, by unfold plainRegister; decide +kernel,
    ⟨_, rfl, by decide +kernel⟩, by decide +kernel, by unfold plainRegister; decide +kernel, by decide, by decide, by decide⟩

theorem test_witness_register_reads :
    (dev .run).hostOpen ∧ (BitVec.ofNat 26 (R.ENC_COUNT_LO 3)).toNat = R.ENC_COUNT_LO 3 ∧ (BitVec.ofNat 26 R.TIM_NOW_LO).toNat = R.TIM_NOW_LO ∧
    (BitVec.ofNat 26 (R.INT_LANE_LEVEL 15)).toNat = R.INT_LANE_LEVEL 15 ∧ (BitVec.ofNat 26 (R.INT_CTX_WIDTH 63)).toNat = R.INT_CTX_WIDTH 63 ∧
    regInfo (regKey 0x3FFFFFC) = none ∧ (dev .run).wide (regKey 0x3FFFFFC) = none ∧ (dev .banked).blw.state = .banked ∧
    (dev .banked).hst.d3hot = false ∧ (0x0200000 : BitVec 26).toNat / 0x100000 ≠ 0 ∧ (0x0200000 : BitVec 26).toNat / 0x100000 ≠ 15 := by
  unfold State.hostOpen; decide +kernel

theorem test_fields_apart_of_a_register : ∃ r, regInfo (R.EVT_SRC 511) = some r ∧ r.fields ≠ [] := ⟨_, rfl, by decide +kernel⟩

/-- A write of all ones sets the fields of TNG_CFG and no other bit. -/
theorem test_commit_window_is_written : leadsTo (exec (.registerWrite .host (BitVec.ofNat 26 R.TNG_CFG) 4 33) (dev .run))
    (fun t => t.fld R.TNG_CFG F.TNG_CFG_commit == 33) = true := by decide +kernel

theorem test_witness_smbus : (dev .fault).blw.porAsserted = false ∧ (dev .fault).blw.state ≠ .off ∧ 5 < (6 : BitVec 8).toNat ∧
    (dev .off).blw.porAsserted = false ∧ (dev .off).blw.state = .off := by decide

/-- BLW_TEMP's die field leaves in quarter degrees, sign-extended (R437). -/
theorem test_smbus_die_temperature : leadsTo (exec (.smbusReadWord 2) (flds (dev .ready) [(R.BLW_TEMP, F.BLW_TEMP_die, 0xFF6)]))
    (fun t => t.out == [.smbusWord 0xFFF6]) = true := by decide +kernel

theorem test_witness_resets :
    (dev .off).blw.state = .off ∧ (dev .banked).blw.state ≠ .off ∧ State.reset.blw.state = .reset ∧ State.reset.blw.porAsserted = true ∧
    (dev .banked).blw.state ∉ ([.off, .reset] : List DevState) ∧
    (let s := flds { dev .fault with ticks := 1250000, blw := { (dev .fault).blw with faultTick := some 0 } } [(R.BLW_CTRL, F.BLW_CTRL_auto_reset, 1)]
     s.blw.faultTick = some 0 ∧ 1250000 ≤ s.ticks - 0 ∧ s.blw.state = .fault ∧ s.bit R.BLW_CTRL F.BLW_CTRL_auto_reset = true) ∧
    BitVec.extractLsb 31 16 (0x5A5A0001 : Reg32) = 0x5A5A ∧ (0x5A5A0001 : Reg32).getLsbD 0 = true ∧
    BitVec.extractLsb 31 16 (0x5A5B0001 : Reg32) ≠ 0x5A5A ∧ (dev .fault).hostOpen ∧
    (let s := { dev .ready with ticks := 1250, blw := { (dev .ready).blw with resetDue := some 0 } }
     s.blw.resetDue = some 0 ∧ 1250 ≤ s.ticks - 0) := by
  unfold State.hostOpen; decide +kernel

theorem test_fault_reset_waits : leadsTo (exec .faultReset
    (flds { dev .fault with ticks := 1249999, blw := { (dev .fault).blw with faultTick := some 0 } } [(R.BLW_CTRL, F.BLW_CTRL_auto_reset, 1)]))
    (fun t => t.blw.state == .fault) = true := by decide +kernel

theorem test_witness_supervision :
    (dev .ready).mayFault ∧ (List.replicate 16 (0x1F4 : BitVec 12)).length = 16 ∧
    (List.replicate 16 (0x1F4 : BitVec 12)).all (fun v => decide (v.toInt ≤ (0x1F4 : BitVec 12).toInt)) = true ∧
    4 * (((dev .ready).fld R.BLW_THERM F.BLW_THERM_trip : Nat) : Int) < (0x1F4 : BitVec 12).toInt ∧
    2 ≤ ({ dev .ready with blw := { (dev .ready).blw with dieOver := 2 } } : State).blw.dieOver ∧
    (0x0FF : BitVec 12).toInt ≤ 4 * (((dev .ready).fld R.BLW_THERM F.BLW_THERM_trip : Nat) : Int) ∧ (dev .ready).blw.dieWarned = false ∧
    4 * (((dev .ready).fld R.BLW_THERM F.BLW_THERM_warn : Nat) : Int) ≤ (0x1F4 : BitVec 12).toInt ∧
    420 < (421 : BitVec 12).toInt ∧ (420 : BitVec 12).toInt ≤ 420 ∧ ((dev .ready).rd R.BLW_SUPPLY).getLsbD 12 = false ∧
    (6 : Fin 7).val ≠ 0 ∧ (8 : Fin 9).val ∈ [1, 2, 4, 8] ∧ (dev .ready).blw.state ∉ ([.off, .reset] : List DevState) := by
  unfold State.mayFault; decide +kernel

/-- A firmware image that passes, and one that does not. -/
def image (svn : Nat) (c : ImageCheck) : FirmwareImage :=
  { header := true, svn := BitVec.ofNat 8 svn, entry := 0x100, vbase := 0x1FFF, ifsp := 0x2008, iflim := 0x1000, digest := 5, check := c, localBytes := [], sharedBytes := [] }

/-- BOOT, before firmware runs. -/
def boot (fails : Nat) : State := { dev .boot with sec := { bootFails := fails } }

theorem test_witness_boot :
    (boot 0).blw.state = .boot ∧ (boot 0).blw.firmware = false ∧ (boot 0).blw.pushing = false ∧ (boot 0).queueOn 0 = false ∧
    (image 0 .accepted).header = true ∧ (image 0 .accepted).check = .accepted ∧
    (boot 0).sec.fuses.fwSvnMin ≤ (image 0 .accepted).svn.toNat ∧ (image 0 (.rejected 6)).check = .rejected 6 ∧ (6 : Fin 7) ≠ 0 ∧
    (boot 0).sec.bootFails = 0 ∧ (boot 1).sec.bootFails = 1 ∧ (boot 1).pagesUsed 0 ≤ 900 ∧
    (let s := withQ (withQ { boot 0 with blw := { (boot 0).blw with firmware := true } } 0 []) 1 []
     s.blw.state = .boot ∧ s.blw.firmware = true ∧ (s.core 0).run ≠ .halted ∧ s.blw.wasFaultReset = false ∧ s.queueOn 0 = true ∧ s.queueOn 1 = true) ∧
    (let s := { dev .run with rcv := { since := some 0, marks := [(1, ⟨0, 0, 0⟩)] }, ticks := 2 ^ 40 }
     s.rcv.since = some 0 ∧ s.blw.state ∈ ([.ready, .armed, .run, .hold] : List DevState) ∧
     s.fld R.EMB_CFG F.EMB_CFG_restore_hold_ms * 125000 ≤ s.ticks - 0) := by decide +kernel


/-! ### Host commands -/

/-- The first word of a command packet. -/
def cmdWord (op seq : Nat) : Word := BitVec.ofNat 72 (0x20 * 2 ^ 64 + op * 2 ^ 52 + seq)

/-- A command stands at the head of Q0; Q1 is on. -/
def cmd (s : State) (op : Nat) (args : List Word) : State :=
  withQ (withQ s 0 [.closed 0xC0 (0 :: cmdWord op (2 ^ 40 - 1) :: args)]) 1 []

theorem commandWaits_of (s : State) (op : Nat) (args : List Word)
    (h : (s.queue 0).slots = [.closed 0xC0 (0 :: cmdWord op (2 ^ 40 - 1) :: args)] ∧
      BitVec.extractLsb 71 64 (cmdWord op (2 ^ 40 - 1)) = 0x20 ∧ (BitVec.extractLsb 63 52 (cmdWord op (2 ^ 40 - 1))).toNat = op ∧
      s.queueOn 0 = true ∧ s.queueOn 1 = true ∧ slotsLevel (s.queue 1).slots + 3 ≤ s.queueDepth 1 ∧ (s.core 0).run ≠ .halted ∧
      s.blw.state ∈ ([.boot, .ready, .armed, .run, .hold, .fault] : List DevState) ∧ (s.blw.state = .boot → s.blw.firmware = false) ∧
      s.blw.pushing = false ∧ s.hst.cmd = none ∧ s.rcv.answers = []) : s.commandWaits op (cmdWord op (2 ^ 40 - 1)) args [] :=
  ⟨⟨_, _, h.1⟩, h.2.1, h.2.2.1, h.2.2.2.1, h.2.2.2.2.1, h.2.2.2.2.2.1, h.2.2.2.2.2.2.1, h.2.2.2.2.2.2.2.1, h.2.2.2.2.2.2.2.2.1,
    h.2.2.2.2.2.2.2.2.2.1, h.2.2.2.2.2.2.2.2.2.2.1, h.2.2.2.2.2.2.2.2.2.2.2⟩

theorem test_witness_checks :
    ((.load, 0x010, 1, [.ready, .armed]) : Instr × Nat × Nat × List DevState) ∈ hostCommands ∧
    (cmd (dev .run) 0x010 []).commandWaits 0x010 (cmdWord 0x010 (2 ^ 40 - 1)) [] [] ∧
    (cmd (dev .run) 0x010 [0]).commandWaits 0x010 (cmdWord 0x010 (2 ^ 40 - 1)) [0] [] ∧
    (cmd (dev .run) 0x010 [0]).blw.state ∉ ([.ready, .armed] : List DevState) ∧
    (cmd (dev .run) 0xFFF []).commandWaits 0xFFF (cmdWord 0xFFF (2 ^ 40 - 1)) [] [] ∧ 0xFFF ∉ hostCommands.map (fun c => c.2.1) :=
  ⟨by simp [hostCommands], commandWaits_of _ _ _ (by decide +kernel), commandWaits_of _ _ _ (by decide +kernel), by decide +kernel,
    commandWaits_of _ _ _ (by decide +kernel), by decide +kernel⟩

/-- A packet of another type at the head of Q0. -/
theorem test_witness_other_type :
    let s := withQ (withQ (dev .ready) 0 [.closed 0xC0 [0, 0x21_0000_0000_0000_0000]]) 1 []
    (s.queue 0).slots = [.closed 0xC0 [0, 0x21_0000_0000_0000_0000]] ∧
    BitVec.extractLsb 71 64 (0x21_0000_0000_0000_0000 : Word) ≠ 0x20 ∧ s.queueOn 0 = true ∧ s.queueOn 1 = true ∧
    slotsLevel (s.queue 1).slots + 3 ≤ s.queueDepth 1 ∧ (s.core 0).run ≠ .halted ∧
    s.blw.state ∈ ([.ready, .armed, .run, .hold, .fault] : List DevState) ∧ s.hst.cmd = none ∧ s.rcv.answers = [] := by decide +kernel

theorem test_witness_moves :
    (cmd (dev .armed) 0x012 []).commandWaits 0x012 (cmdWord 0x012 (2 ^ 40 - 1)) [] [] ∧ (cmd (dev .armed) 0x012 []).blw.state = .armed ∧
    (cmd (dev .armed) 0x012 []).bit R.HST_QUENCH F.HST_QUENCH_quench = false ∧
    (cmd (flds (dev .armed) [(R.HST_QUENCH, F.HST_QUENCH_quench, 1)]) 0x012 []).commandWaits 0x012 (cmdWord 0x012 (2 ^ 40 - 1)) [] [] ∧
    (cmd (flds (dev .armed) [(R.HST_QUENCH, F.HST_QUENCH_quench, 1)]) 0x012 []).bit R.HST_QUENCH F.HST_QUENCH_quench = true ∧
    (cmd (dev .hold) 0x013 []).commandWaits 0x013 (cmdWord 0x013 (2 ^ 40 - 1)) [] [] ∧
    (cmd (dev .run) 0x014 []).commandWaits 0x014 (cmdWord 0x014 (2 ^ 40 - 1)) [] [] ∧
    (cmd (dev .hold) 0x015 []).commandWaits 0x015 (cmdWord 0x015 (2 ^ 40 - 1)) [] [] ∧
    (cmd (dev .boot) 0x001 []).commandWaits 0x001 (cmdWord 0x001 (2 ^ 40 - 1)) [] [] ∧
    (cmd (dev .fault) 0x002 []).commandWaits 0x002 (cmdWord 0x002 (2 ^ 40 - 1)) [] [] ∧ (cmd (dev .ready) 0x002 []).ballsDriven = false :=
  ⟨commandWaits_of _ _ _ (by decide +kernel), by decide +kernel, by decide +kernel, commandWaits_of _ _ _ (by decide +kernel),
    by decide +kernel, commandWaits_of _ _ _ (by decide +kernel), commandWaits_of _ _ _ (by decide +kernel),
    commandWaits_of _ _ _ (by decide +kernel), commandWaits_of _ _ _ (by decide +kernel), commandWaits_of _ _ _ (by decide +kernel),
    by decide +kernel⟩

theorem test_witness_time_restep :
    (cmd (dev .ready) 0x030 []).commandWaits 0x030 (cmdWord 0x030 (2 ^ 40 - 1)) [] [] ∧ (cmd (dev .ready) 0x030 []).tim.state ≠ .holdover ∧
    (cmd { dev .ready with tim := { state := .holdover } } 0x030 []).commandWaits 0x030 (cmdWord 0x030 (2 ^ 40 - 1)) [] [] ∧
    (cmd { dev .ready with tim := { state := .holdover } } 0x030 []).tim.state = .holdover :=
  ⟨commandWaits_of _ _ _ (by decide +kernel), by decide +kernel, commandWaits_of _ _ _ (by decide +kernel), by decide +kernel⟩

/-- A state whose journal is disabled. -/
def noJournal (s : State) : State := { s with jnl := { enabled := false } }

/-- The response to START while Quench holds (R342). -/
theorem test_start_is_denied : leadsTo (exec .start (noJournal (cmd (flds (dev .armed) [(R.HST_QUENCH, F.HST_QUENCH_quench, 1)]) 0x012 [])))
    (fun t => (t.queue 1).slots == [.closed 0x40 [0x80_4000_0000_0000_0002, 0x21_0124_04FF_FFFF_FFFF, 0]]) = true := by decide +kernel

theorem test_witness_hearth_commands :
    (cmd (dev .ready) 0x020 [1]).commandWaits 0x020 (cmdWord 0x020 (2 ^ 40 - 1)) [1] [] ∧ (cmd (dev .ready) 0x020 [1]).apFree ∧
    (BitVec.extractLsb 18 0 (1 : Word)).toNat = 1 ∧
    1 ≤ (cmd (dev .ready) 0x020 [1]).fld R.HRT_CAP F.HRT_CAP_cap ∧ (cmd (dev .ready) 0x020 [1]).buffers.length < 1048576 ∧
    (cmd (dev .ready) 0x020 [1]).hearthBounds 1 0 = true ∧ (cmd (dev .ready) 0x021 [1]).hearthBounds 1 1 = true ∧
    (cmd (dev .ready) 0x021 [1]).commandWaits 0x021 (cmdWord 0x021 (2 ^ 40 - 1)) [1] [] :=
  ⟨commandWaits_of _ _ _ (by decide +kernel), by unfold State.apFree; decide +kernel, by decide +kernel, by decide +kernel, by decide +kernel,
    by decide +kernel, by decide +kernel, commandWaits_of _ _ _ (by decide +kernel)⟩

/-- A buffer's handle as an argument. -/
def hdArg : Word := hd.setWidth 72

theorem test_witness_buffer_commands :
    (∀ op ∈ [0x022, 0x023, 0x024, 0x025], (buf1 (cmd (dev .ready) op [hdArg]) whole).commandWaits op (cmdWord op (2 ^ 40 - 1)) [hdArg] []) ∧
    (buf1 (cmd (dev .ready) 0x022 [hdArg]) whole).apFree ∧
    (buf1 (cmd (dev .ready) 0x022 [hdArg]) whole).buffer (hdArg.setWidth 32) = some whole ∧ whole.kind = .ordinary ∧ whole.held = false ∧
    whole.pinned = true := by
  refine ⟨?_, by unfold State.apFree; decide +kernel, by decide +kernel, rfl, rfl, rfl⟩
  intro op h
  simp only [List.mem_cons, List.not_mem_nil, or_false] at h
  rcases h with rfl | rfl | rfl | rfl <;> exact commandWaits_of _ _ _ (by decide +kernel)

theorem test_witness_snuff :
    (cmd (dev .ready) 0x050 [2]).commandWaits 0x050 (cmdWord 0x050 (2 ^ 40 - 1)) [2] [] ∧
    2 ≤ (BitVec.extractLsb 5 0 (2 : Word)).toNat ∧ (cmd (dev .ready) 0x050 [1]).commandWaits 0x050 (cmdWord 0x050 (2 ^ 40 - 1)) [1] [] ∧
    (BitVec.extractLsb 5 0 (1 : Word)).toNat < 2 :=
  ⟨commandWaits_of _ _ _ (by decide +kernel), by decide +kernel, commandWaits_of _ _ _ (by decide +kernel), by decide +kernel⟩

/-- The void word of a flush with two words discarded (15_host_interface.md). -/
theorem test_snuff_leaves_a_void_word : leadsTo (exec .snuff (noJournal (withQ (cmd (dev .ready) 0x050 [4]) 4 [.opened 0x42 [1, 2]])))
    (fun t => (t.queue 4).slots == [.void 0x7F_4201_0000_0000_0002]) = true := by decide +kernel

/-- An attestation with its buffer, and BOOT_PUSH with the least and the greatest length. -/
def attesting (h : BitVec 32) : State := buf1 (cmd (dev .ready) 0x040 [0, 0, 0, 0, h.setWidth 72]) whole

theorem test_witness_attest :
    (attesting hd).commandWaits 0x040 (cmdWord 0x040 (2 ^ 40 - 1)) [0, 0, 0, 0, hdArg] [] ∧
    (attesting hd).attestCheck (hdArg.setWidth 32) = none ∧ (attesting 5).commandWaits 0x040 (cmdWord 0x040 (2 ^ 40 - 1)) [0, 0, 0, 0, 5] [] ∧
    (attesting 5).attestCheck 5 = some 2 :=
  ⟨commandWaits_of _ _ _ (by decide +kernel), by decide +kernel, commandWaits_of _ _ _ (by decide +kernel), by decide +kernel⟩

theorem test_witness_attest_done :
    let c : HostCmd := { opcode := 0x040, seq := 0, args := [0, 0, 0, 0, hdArg] }
    let s := { buf1 (dev .ready) whole with sec := { jobs := [.attest] }, hst := { cmd := some c } }
    s.sec.jobs = [.attest] ∧ s.hst.cmd = some c ∧ s.buffer ((c.args.getD 4 0).setWidth 32) = some whole ∧ 50208 ≤ whole.size * 65536 ∧
    s.hrt.retiring = [] ∧ ({ s with hrt := {} } : State).attestCheck ((c.args.getD 4 0).setWidth 32) ≠ none := by decide +kernel

theorem test_witness_boot_push :
    (cmd (dev .boot) 0x003 [0, 29872]).commandWaits 0x003 (cmdWord 0x003 (2 ^ 40 - 1)) [0, 29872] [] ∧
    29872 ≤ (BitVec.extractLsb 31 0 (29872 : Word)).toNat ∧ (BitVec.extractLsb 31 0 (1078432 : Word)).toNat ≤ 1078432 ∧
    (29872 : Nat) % 16 = 0 ∧ (1078432 : Nat) % 16 = 0 := ⟨commandWaits_of _ _ _ (by decide +kernel), by decide +kernel, by decide +kernel, by decide +kernel, by decide +kernel⟩


/-! ### Recipes, BANKED, Quench, rings, queues, events -/

/-- A LOAD in progress. -/
def loading (d : DevState) (r : LoadRun) : State := { dev d with rcp := { run := some r } }

theorem test_witness_load_commands :
    (buf1 (cmd (dev .ready) 0x010 [hdArg]) whole).commandWaits 0x010 (cmdWord 0x010 (2 ^ 40 - 1)) [hdArg] [] ∧
    (buf1 (cmd (dev .ready) 0x010 [hdArg]) whole).ballsDriven = false ∧
    (buf1 (cmd (dev .ready) 0x010 [hdArg]) whole).buffer (hdArg.setWidth 32) = some whole ∧
    (cmd (dev .armed) 0x010 [hdArg]).commandWaits 0x010 (cmdWord 0x010 (2 ^ 40 - 1)) [hdArg] [] ∧
    (cmd (dev .armed) 0x010 [hdArg]).buffer (hdArg.setWidth 32) = none ∧
    (cmd (dev .armed) 0x011 []).commandWaits 0x011 (cmdWord 0x011 (2 ^ 40 - 1)) [] [] ∧ (cmd (dev .armed) 0x011 []).blw.state = .armed :=
  ⟨commandWaits_of _ _ _ (by decide +kernel), by decide +kernel, by decide +kernel, commandWaits_of _ _ _ (by decide +kernel),
    by decide +kernel, commandWaits_of _ _ _ (by decide +kernel), by decide +kernel⟩

/-- A buffer that holds the header of an image of 16 bytes of payload: the end section alone. -/
def imaged (s : State) (payload : List (Nat × Byte)) : State :=
  let t := buf1 s { whole with held := true }
  { t with hrt := { t.hrt with bytes := (([(0, 0x16), (2, 0x4B), (3, 0x1F), (4, 2), (6, 1)] : List (Nat × Byte)) ++ payload).map fun p => (byteKey hd p.1, p.2) } }

/-- Its verification is in front. -/
def verifying : State := { imaged (loading .ready { handle := hd, step := 1 }) [] with sec := { jobs := [.recipe] } }

theorem test_witness_recipe_verified :
    verifying.loadIn { handle := hd, step := 1 } 1 ∧ verifying.sec.jobs = [.recipe] ∧ verifying.hrt.pinWait = [] ∧
    verifying.recipeReason hd (false, false, 0) true = 0 ∧ verifying.recipeReason hd (false, false, 0) false ≠ 0 := by
  have h : ∀ n, (verifying.readBuffer hd 0 n).2 = false := fun n => by
    simp [State.readBuffer, State.unitPoisoned, verifying, imaged, buf1, loading, dev, State.reset, sget]
  refine ⟨by unfold State.loadIn; decide +kernel, rfl, rfl, ?_, by decide +kernel⟩
  unfold State.recipeReason
  simp only [h]
  decide +kernel

/-- What a load leaves before it places its sections. -/
def emptied (s : State) : State :=
  { s.freeRecipeTags.clearRecipe.emptyPipeline with rcp := { s.freeRecipeTags.clearRecipe.emptyPipeline.rcp with run := none } }

/-- A word of kind 0x05, and an image whose payload gives the line 64 columns in one stripe, enables the reference segment and then ends. -/
def fixedWord (off : Nat) (v : BitVec 32) : List Byte := toBytes 4 v.toNat ++ toBytes 4 off ++ List.replicate 8 0
def fixedImage : List Byte :=
  [0, 0, 0, 0, 48, 0, 0, 0, 5, 0, 0, 0, 0, 0, 0, 0] ++ fixedWord R.STI_LINE_CFG (putField 0 F.STI_LINE_CFG_line_width 64) ++
    fixedWord R.STI_STRIPE_CFG (putField (putField 0 F.STI_STRIPE_CFG_stripe_width 64) F.STI_STRIPE_CFG_stripes 1) ++
    fixedWord R.ANV_CFG (putField 0 F.ANV_CFG_window_lines 1) ++ [0, 0, 0, 0, 16, 0, 0, 0, 4, 0, 0, 0, 0, 0, 0, 0] ++
    fixedWord (R.STI_SEG_CFG 0) (putField 0 F.STI_SEG_CFG_enable 1) ++ [0, 0, 0, 0, 0, 0, 0, 0, 0xFF, 0, 0, 0, 0, 0, 0, 0]
def fixedLoad : State :=
  imaged (loading .ready { handle := hd, step := 3 }) ((12, 112) :: fixedImage.zipIdx.map fun p => (29856 + p.2, p.1))

theorem foldl_same {α β : Type} (f : β → α → β) (l : List α) (b : β) (h : ∀ x ∈ l, f b x = b) : l.foldl f b = b := by
  induction l with
  | nil => rfl
  | cons x l ih => rw [List.foldl_cons, h x (by simp)]; exact ih fun y hy => h y (by simp [hy])

theorem upTo_same {β : Type} (n : Nat) (f : Nat → β → β) (b : β) (h : ∀ i ∈ List.range n, f i b = b) : upTo n f b = b :=
  foldl_same (fun b i => f i b) (List.range n) b h

theorem fixedLoad_pipeline : fixedLoad.emptyPipeline = fixedLoad := by
  have e1 : fixedLoad.dropPixelPath = fixedLoad := by decide +kernel
  have e2 : fixedLoad.setSti { fixedLoad.sti with segs := [], pending := none, shifts := [], shiftNext := [], cursor := [], nextK := 0, nextForm := 0, newest := 0, lastRef := fixedLoad.ticks } = fixedLoad := by decide +kernel
  have e3 : (fixedLoad.setFld R.STI_STATUS F.STI_STATUS_apply_pending 0).blockDone 5 0 0 = fixedLoad := by decide +kernel
  have e4 : upTo 16 (fun i s => s.setShift i 0) fixedLoad = fixedLoad := upTo_same _ _ _ (by decide +kernel)
  have e5 : fixedLoad.setAnv { fixedLoad.anv with active := none, pending := none, rate := none, fences := fixedLoad.anv.fences.map fun q => (q.1, 0) } = fixedLoad := by
    decide +kernel
  have e6 : (fixedLoad.setFld R.ANV_STATUS F.ANV_STATUS_apply_pending 0).blockDone 7 0 0 = fixedLoad := by decide +kernel
  have e7 : upTo 8 (fun u s => ((s.setOst u { s.ostUnit u with pending := none, run := {}, start := none, stop := false, snap := [], work := [] }).setFld (R.OST_STATUS u)
      F.OST_STATUS_apply_pending 0).blockDone 8 u 0) fixedLoad = fixedLoad := upTo_same _ _ _ (by decide +kernel)
  have e8 : upTo 64 (fun c s => ((s.setCorCtx c
      { s.corCtx c with pending := none, empty := true, emptyA := true, emptyB := true, updated := none, last := none }).setFld (R.COR_CTX_STATUS c)
      F.COR_CTX_STATUS_apply_pending 0).blockDone 4 c 0) fixedLoad = fixedLoad := upTo_same _ _ _ (by decide +kernel)
  have e9 : ((fixedLoad.setBlm { fixedLoad.blm with cut := [], prevExcl := [], lines := 0, lastSeq := 0, lastCommit := none, cfg := [] }).setBlooms
      []).setRecords [] = fixedLoad := by decide +kernel
  have e10 : fixedLoad.syncBuffer = fixedLoad := by decide +kernel
  unfold State.emptyPipeline
  simp only [e1, e2, e3, e4, e5, e6, e7, e8, e9, e10]

theorem emptied_fixedLoad : emptied fixedLoad = { fixedLoad with rcp := {} } := by
  have f : fixedLoad.freeRecipeTags = fixedLoad := by decide +kernel
  have c : fixedLoad.clearRecipe = fixedLoad := by
    unfold State.clearRecipe
    simp only [show fixedLoad.rcp.rings.foldl (fun s h => s.hearthDrop h) fixedLoad = fixedLoad from rfl,
      foldl_same (fun s k => s.wr k 0) recipeRegs fixedLoad (by decide +kernel),
      upTo_same 16 (fun n s => s.setFld (R.ANV_SL_STATUS n) F.ANV_SL_STATUS_active 0) fixedLoad (by decide +kernel)]
    decide +kernel
  unfold emptied
  simp only [f, c, fixedLoad_pipeline]
  decide +kernel

/-- The sections of the image, and the part of the load that they pass (R318, R319). -/
def fixedSections : List Section := (parseSections 8 ((emptied fixedLoad).readBuffer hd 29856 112).1).getD []

theorem test_witness_load_sections :
    fixedLoad.loadIn { handle := hd, step := 3 } 3 ∧ fixedLoad.blw.state = .ready ∧ fixedLoad.imageLength hd / 16 + 1 = 8 ∧
    parseSections 8 ((emptied fixedLoad).readBuffer hd 29856 112).1 = some fixedSections ∧ fixedSections.all Section.ok = true ∧
    ((emptied fixedLoad).loadSections fixedSections).1 = 0 := by
  unfold fixedSections
  rw [emptied_fixedLoad]
  exact ⟨by unfold State.loadIn; decide +kernel, by decide +kernel, by decide +kernel, by decide +kernel, by decide +kernel,
    by decide +kernel⟩

/-- A section of no kind fails the load. -/
theorem test_witness_bad_section : ([⟨8, 0, 0, 0, []⟩] : List Section).all Section.ok = false ∧
    parseSections 3 (toBytes 9 (8 * 2 ^ 64) ++ List.replicate 7 0 ++ toBytes 9 (0xFF * 2 ^ 64) ++ List.replicate 7 0) =
      some [⟨8, 0, 0, 0, []⟩] := by decide +kernel

theorem test_witness_load_ends :
    let s := { loading .armed { step := 3 } with ticks := 12500000, int := { reinj := some {} } }
    s.loadIn { step := 3 } 3 ∧ s.blw.state = .armed ∧ s.pathDrained = false ∧ 12500000 ≤ s.ticks - 0 ∧
    (loading .ready { step := 6 }).loadIn { step := 6 } 6 ∧ (∀ p, p < 16 → ({ step := 6 } : LoadRun).ports.getLsbD p = false) ∧
    (let r : LoadRun := { step := 6, ports := 0x8000, linkWait := 1 }
     let t := { loading .ready r with ticks := 12500000 }
     t.loadIn r 6 ∧ r.ports.getLsbD 15 = true ∧ (t.camLink 60).state ≠ .up ∧ 12500000 * r.linkWait ≤ t.ticks - r.tick) ∧
    (loading .armed { step := 3, unload := true }).loadIn { step := 3, unload := true } 3 ∧
    (loading .armed { step := 3, unload := true }).pathDrained = true := by unfold State.loadIn; decide +kernel

/-- BANK with the recipe cores halted, and with core 3 running. -/
theorem test_witness_bank :
    (cmd (dev .armed) 0x016 []).commandWaits 0x016 (cmdWord 0x016 (2 ^ 40 - 1)) [] [] ∧ (cmd (dev .armed) 0x016 []).ballsDriven = false ∧
    (∀ n, n < 4 → (cmd (dev .armed) 0x016 []).coreBanks n = true) ∧
    (cmd (core 3 (busy 0 0)) 0x016 []).commandWaits 0x016 (cmdWord 0x016 (2 ^ 40 - 1)) [] [] ∧
    (cmd (core 3 (busy 0 0)) 0x016 []).coreBanks 3 = false :=
  ⟨commandWaits_of _ _ _ (by decide +kernel), by decide +kernel, by decide +kernel, commandWaits_of _ _ _ (by decide +kernel),
    by decide +kernel⟩

theorem test_witness_banking :
    let s := { dev .ready with blw := { (dev .ready).blw with banking := some 0 }, ticks := 12500000 }
    s.blw.banking = some 0 ∧ s.blw.state = .ready ∧ s.bankReady = true ∧ 12500000 ≤ s.ticks - 0 ∧
    ({ s with tmp := { hbmStart := some 0 } } : State).bankReady = false ∧
    (let w : WakeRun := { tick := 0, cause := 511, resumed := true }
     let t := { dev .banked with blw := { (dev .banked).blw with wake := some w } }
     t.blw.wake = some w ∧ t.blw.state = .banked ∧ (∀ p ∈ t.lan.links, p.2.resuming = false) ∧ t.blw.deferred = [] ∧
     t.blw.bankedFrom ∈ ([.ready, .armed] : List DevState)) := by decide +kernel

/-- The worked wake of 05: BLW_WAKE_US counts microseconds of ticks. -/
theorem test_wake_time : leadsTo (exec .wakeComplete
    (let w : WakeRun := { tick := 0, cause := 511, resumed := true }
     { dev .banked with blw := { (dev .banked).blw with wake := some w }, ticks := 88750 }))
    (fun t => t.fld R.BLW_WAKE_US F.BLW_WAKE_US_wake_us == 710) = true := by decide +kernel

theorem test_witness_quench :
    (dev .run).hostOpen ∧ (dev .run).bit R.HST_QUENCH F.HST_QUENCH_quench = false ∧ (dev .run).blw.state ≠ .off ∧
    (let s := flds (dev .hold) [(R.HST_QUENCH, F.HST_QUENCH_quench, 1)]
     s.hostOpen ∧ s.bit R.HST_QUENCH F.HST_QUENCH_quench = true ∧ s.hst.quenchPin = false ∧
     ({ s with hst := { s.hst with quenchPin := true } } : State).hst.quenchPin = true) := by unfold State.hostOpen; decide +kernel

/-- A ring, enabled, with 16 entries of which some are open. -/
def ring (d kind q n : Nat) : State :=
  (flds (dev .run) [(R.HST_RING_CFG d, F.HST_RING_CFG_enable, 1), (R.HST_RING_CFG d, F.HST_RING_CFG_kind, kind),
    (R.HST_RING_CFG d, F.HST_RING_CFG_queue, q), (R.HST_RING_CFG d, F.HST_RING_CFG_size_log2, 4)]).wr (R.HST_RING_HOST d) (BitVec.ofNat 32 n)

theorem test_witness_rings :
    (ring 63 0 2 16).hostOpen ∧ (ring 63 0 2 16).bit (R.HST_RING_CFG 63) F.HST_RING_CFG_enable = true ∧
    ((16 : Reg32) - (ring 63 0 2 0).rd (R.HST_RING_DEV 63)).toNat ≤ 2 ^ (ring 63 0 2 0).fld (R.HST_RING_CFG 63) F.HST_RING_CFG_size_log2 ∧
    2 ^ (ring 63 0 2 0).fld (R.HST_RING_CFG 63) F.HST_RING_CFG_size_log2 < ((17 : Reg32) - (ring 63 0 2 0).rd (R.HST_RING_DEV 63)).toNat ∧
    (dev .run).bit (R.HST_RING_CFG 63) F.HST_RING_CFG_enable = false ∧ getField 0x80000000 F.HST_RING_CFG_enable = 1 ∧
    getField 0 F.HST_RING_CFG_enable = 0 ∧
    (let s := withQ (ring 63 0 2 1) 2 []
     s.ringServes 63 0 ∧ 0x80 ≤ (BitVec.extractLsb 71 64 (0x80_0000_0000_0000_0000 : Word)).toNat ∧
     (BitVec.extractLsb 15 0 (0x80_0000_0000_0000_0000 : Word)).toNat = 0 ∧ 0 + 1 ≤ s.ringEntries 63 ∧
     s.fld (R.HST_RING_CFG 63) F.HST_RING_CFG_queue = 2 ∧ s.queueOn 2 = true ∧ slotsLevel (s.queue 2).slots + 1 ≤ s.queueDepth 2) ∧
    (BitVec.extractLsb 71 64 (0x7F_0000_0000_0000_0000 : Word)).toNat < 0x80 := by
  unfold State.hostOpen State.ringServes; decide +kernel

theorem test_witness_queue_out :
    (let s := withQ (ring 63 1 2 2) 2 [.closed 0x41 [0, 5]]
     s.ringServes 63 1 ∧ s.bit (R.HST_RING_CFG 63) F.HST_RING_CFG_dense = false ∧ (s.queue 2).slots = [.closed 0x41 [0, 5]] ∧
     2 ≤ s.ringEntries 63 ∧ s.bit R.HST_QUENCH F.HST_QUENCH_quench = false ∧
     (flds s [(R.HST_QUENCH, F.HST_QUENCH_quench, 1)]).bit R.HST_QUENCH F.HST_QUENCH_quench = true) ∧
    (let s := { ring 63 2 0 1 with hst := { items := [(63, [⟨hd, 0, 4⟩])] } }
     s.ringServes 63 2 ∧ 0 < s.ringEntries 63 ∧ s.ringItems 63 = [⟨hd, 0, 4⟩]) ∧
    (let s := buf1 (ring 63 3 0 1) whole
     s.ringServes 63 3 ∧ s.buffer hd = some whole ∧ s.buffer 5 = none ∧ s.hrt.retiring = [] ∧ 65532 + 4 ≤ whole.size * 65536) := by
  unfold State.ringServes; decide +kernel

theorem test_witness_queues :
    (dev .run).hostOpen ∧ (dev .run).queueOn 63 = false ∧ getField 0x80000002 F.HST_Q_CFG_enable = 1 ∧
    2 ≤ getField 0x80000002 F.HST_Q_CFG_pages ∧ (dev .run).pagesUsed 63 + 2 ≤ 1024 ∧ (withQ (dev .run) 63 []).queueOn 63 = true ∧
    getField 1 F.HST_Q_CTRL_snuff = 1 ∧
    ((withQ (dev .run) 63 [.closed 0x41 [], .opened 0x41 [5]]).queue 63).slots = [.closed 0x41 [], .opened 0x41 [5]] := by
  unfold State.hostOpen; decide +kernel

theorem test_witness_events :
    (let s := flds (dev .run) [(R.EVT_SRC 511, F.EVT_SRC_pending, 1), (R.EVT_SRC 511, F.EVT_SRC_target, 1), (R.EVT_GRP_STATUS 31, F.EVT_GRP_STATUS_accum, 1)]
     s.gateDue 31 = true ∧ s.gateFree 31 = true ∧ s.bit (R.EVT_SRC 511) F.EVT_SRC_pending = true ∧
     s.fld (R.EVT_SRC 511) F.EVT_SRC_target ≠ 4) ∧
    getField 0x80000000 F.EVT_SRC_enable = 1 ∧ getField 0x80000000 F.EVT_SRC_pending = 0 ∧ getField 0x83000000 F.EVT_SRC_target < 4 ∧
    (dev .run).bit (R.EVT_SRC 128) F.EVT_SRC_enable = false ∧
    (flds (dev .run) [(R.EVT_SRC 128, F.EVT_SRC_enable, 1)]).bit (R.EVT_SRC 128) F.EVT_SRC_enable = true ∧ getField 0 F.EVT_SRC_enable = 0 ∧
    (dev .run).evt.functionMask = false ∧ (dev .run).evt.pba.getLsbD 63 = false ∧
    ({ dev .run with evt := { pba := 0x8000000000000000 } } : State).evt.pba.getLsbD 63 = true := by decide +kernel


/-! ### Time, plant ports, Temper, security -/

/-- Plant port 1 enabled and, as an ordinary clock, the source. -/
def ptp (t : TimeBase) : State :=
  { flds (dev .run) [(R.TIM_PP_CFG 0, F.TIM_PP_CFG_enable, 1), (R.TIM_PP_CFG 1, F.TIM_PP_CFG_enable, 1), (R.TIM_CFG, F.TIM_CFG_source, 2),
    (R.TIM_CFG, F.TIM_CFG_tc_en, 0), (R.TIM_CFG, F.TIM_CFG_domain, 0), (R.TIM_PP_STATUS 1, F.TIM_PP_STATUS_link_up, 1)] with tim := t }
def grand (p : BitVec 8) (i : BitVec 64) : AnnounceData := ⟨p, 6, 0x21, 0, 128, i, 0⟩
def msg : PtpMsg := ⟨1, 0, 7, 5, 0, 1000, false, ownIdentity 1, 0, 31⟩
/-- An exchange whose three times are known. -/
def xchg : Exchange := { seq := 7, source := 5, t1 := some 0, cS := 0, t2 := 10, stretch := 0, t3 := some (20, 0) }

theorem test_witness_exchanges :
    (ptp { master := some (5, grand 1 1) }).follows msg ∧
    (let x : Exchange := { xchg with t1 := none, t3 := none }
     (ptp { master := some (5, grand 1 1), exchange := some x }).follows msg ∧ x.t1 = none ∧ x.seq = msg.sequenceId.toNat ∧ x.source = msg.source ∧
     (ptp { exchange := some x }).portRuns 1 ∧ (ptp { exchange := some x }).fld R.TIM_CFG F.TIM_CFG_source = 2 ∧ x.t3 = none) ∧
    (let t : TimeBase := { master := some (5, grand 1 1), exchange := some xchg, delaySeq := 7 }
     (ptp t).follows msg ∧ msg.requester = ownIdentity msg.port ∧ xchg.stretch = t.stretch ∧ t.delaySeq = msg.sequenceId.toNat ∧
     t.mpd = none ∧ t.stepOffset = none ∧ t.state ≠ .held ∧ (10 - 0 - 0 + (msg.stamp - 20 - 0)) / 2 = (495 : Int)) := by
  refine ⟨⟨by unfold State.portRuns; decide +kernel, by decide +kernel, by decide +kernel, by decide +kernel, _, rfl⟩,
    ⟨⟨by unfold State.portRuns; decide +kernel, by decide +kernel, by decide +kernel, by decide +kernel, _, rfl⟩, rfl, by decide +kernel, rfl,
      by unfold State.portRuns; decide +kernel, by decide +kernel, rfl⟩,
    ⟨⟨by unfold State.portRuns; decide +kernel, by decide +kernel, by decide +kernel, by decide +kernel, _, rfl⟩,
      congrArg ownIdentity (by decide +kernel : (1 : Nat) = msg.port.val), rfl, by decide +kernel,
      rfl, rfl, by decide +kernel, by decide +kernel⟩⟩

theorem test_witness_masters :
    (ptp {}).portRuns 1 ∧ (ptp {}).portRuns 0 ∧ (ptp {}).bit R.TIM_CFG F.TIM_CFG_tc_en = false ∧ (ptp {}).tim.master = none ∧
    (grand 1 1).identity ≠ (grand 2 2).identity ∧ (grand 1 1).priority1.toNat < (grand 2 2).priority1.toNat ∧ (6 : BitVec 80) ≠ msg.source ∧
    (flds (ptp {}) [(R.TIM_CFG, F.TIM_CFG_tc_en, 1)]).bit R.TIM_CFG F.TIM_CFG_tc_en = true ∧
    (flds (ptp {}) [(R.TIM_CFG, F.TIM_CFG_tc_en, 1)]).portRuns 0 ∧
    ({ ptp {} with ticks := 2 ^ 40 } : State).fld R.TIM_SERVO F.TIM_SERVO_master_tmo * 12500000 ≤ 2 ^ 40 - 0 ∧
    (dev .ready).hostOpen ∧ (flds (dev .ready) [(R.TIM_CFG, F.TIM_CFG_source, 3)]).fld R.TIM_CFG F.TIM_CFG_source = 3 ∧
    getField 0 F.TIM_CFG_source ≠ (flds (dev .ready) [(R.TIM_CFG, F.TIM_CFG_source, 3)]).fld R.TIM_CFG F.TIM_CFG_source ∧
    ({ state := .held } : TimeBase).hold = 0 := by unfold State.portRuns State.hostOpen; decide +kernel

/-- An offset of one nanosecond late lowers the rate (R368). -/
theorem test_servo_slows : leadsTo (exec (.hostOffset 0)
    { (flds (dev .ready) [(R.TIM_CFG, F.TIM_CFG_source, 3), (R.TIM_CFG, F.TIM_CFG_step_thresh, 10), (R.TIM_SERVO, F.TIM_SERVO_ki, 4),
      (R.TIM_SERVO, F.TIM_SERVO_kp, 2)]).wr R.TIM_HOST_OFS_LO 65536 with tim := { state := .tracking } })
    (fun t => t.tim.integral == -4096 && t.tim.rate == -20480) = true := by decide +kernel

/-- A queue of port 1 with a packet of some words. -/
def plantQ (n : Nat) : State :=
  withQ (flds (ptp {}) [(R.TIM_PP_CFG 1, F.TIM_PP_CFG_tx_q, 9)]) 9 [.closed 0x41 (0x80_4100_0000_0000_0000 :: List.replicate n 0)]

theorem test_witness_datagrams :
    (plantQ 159).portRuns 1 ∧ (plantQ 159).bit (R.TIM_PP_STATUS 1) F.TIM_PP_STATUS_link_up = true ∧
    (plantQ 159).fld (R.TIM_PP_CFG 1) F.TIM_PP_CFG_tx_q = 9 ∧ (plantQ 159).bit (R.TIM_PP_CFG 1) F.TIM_PP_CFG_jumbo = false ∧
    ((plantQ 159).queue 9).slots = [.closed 0x41 (0x80_4100_0000_0000_0000 :: List.replicate 159 0)] ∧
    ((plantQ 160).queue 9).slots = [.closed 0x41 (0x80_4100_0000_0000_0000 :: List.replicate 160 0)] ∧
    (BitVec.extractLsb 71 64 (0x80_4100_0000_0000_0000 : Word)).toNat = 0x80 ∧ BitVec.extractLsb 71 64 (0 : Word) ≠ 0x30 := by
  unfold State.portRuns; decide +kernel

/-- A Quench datagram's opposite: a frame with a bad checksum. -/
def badFrame : PlantFrame := ⟨false, true, 7, none, 0, 0, 47010, []⟩

theorem test_witness_frames :
    (ptp {}).portRuns 1 ∧ (ptp {}).vlanOk 1 none = true ∧ (ptp {}).rd (R.TIM_PP_IP 1) = (ptp {}).rd (R.TIM_PP_IP 1) ∧
    (1 : BitVec 32) ≠ (ptp {}).rd (R.TIM_PP_IP 1) ∧ (ptp {}).isQuenchDatagram 1 badFrame = false ∧
    (ptp {}).bit (R.TIM_PP_STATUS 1) F.TIM_PP_STATUS_link_up ≠ false ∧ (ptp {}).bit (R.TIM_PP_STATUS 0) F.TIM_PP_STATUS_link_up ≠ true := by
  unfold State.portRuns; decide +kernel

/-- The payload of a Quench datagram. -/
theorem test_witness_quench_datagram :
    let f : PlantFrame := ⟨true, true, 7, none, 0, 0, 47010, [0x4B, 0x1F, 0x01, 0x02] ++ List.replicate 32 0⟩
    let s := flds (ptp {}) [(R.TIM_CFG, F.TIM_CFG_quench_en, 1)]
    s.isQuenchDatagram 1 f = true ∧ s.bit R.TIM_CFG F.TIM_CFG_quench_en = true ∧ s.bit (R.TIM_PP_CFG 1) F.TIM_PP_CFG_enable = true ∧
    s.bit R.HST_QUENCH F.HST_QUENCH_quench = false := by decide +kernel

/-- Temper with registers and its own state. -/
def tmp (d : DevState) (t : Temper) (l : List (Nat × Field × Nat)) : State := { flds (dev d) l with tmp := t, ticks := 2 ^ 40 }

theorem test_witness_temper :
    (dev .hold).blw.state ∈ ([.ready, .armed, .run, .hold] : List DevState) ∧ (dev .hold).tmp.hbmDue = none ∧ (dev .hold).tmp.hbmStart = none ∧
    (dev .hold).hostOpen ∧ (tmp .hold {} [(R.TMP_CFG, F.TMP_CFG_hbm_en, 1)]).bit R.TMP_CFG F.TMP_CFG_hbm_en = true ∧
    (tmp .hold {} []).fld R.TMP_CFG F.TMP_CFG_hbm_period_ms * 125000 ≤ 2 ^ 40 - 0 ∧
    (tmp .run { hbmDue := some 0, boundary := true } []).tmp.boundary = true ∧ (tmp .run {} []).fed.running = false ∧
    (tmp .ready { hbmDue := some 0 } []).rcp.loaded = false ∧ 1250000 ≤ 2 ^ 40 - 0 ∧ (tmp .run { hbmDue := some 0 } []).tmp.overdue = false ∧
    (tmp .run { hbmStart := some 0 } []).blw.state ≠ .banked ∧ (tmp .run {} []).bit R.TMP_CFG F.TMP_CFG_hbm_freeze = false ∧
    (tmp .run {} [(R.TMP_CFG, F.TMP_CFG_hbm_freeze, 1)]).bit R.TMP_CFG F.TMP_CFG_hbm_freeze = true ∧
    (tmp .run {} [(R.TMP_CFG, F.TMP_CFG_tdc_en, 1)]).bit R.TMP_CFG F.TMP_CFG_tdc_en = true ∧ (tmp .run {} []).tmp.tdcStart = none ∧
    (tmp .run {} []).fld R.TMP_TDC_PERIOD F.TMP_TDC_PERIOD_tdc_period_ms * 125000 ≤ 2 ^ 40 - 0 ∧
    (tmp .run {} []).bit R.TMP_CFG F.TMP_CFG_tdc_freeze = false ∧ (tmp .run {} [(R.TMP_COEF_SEL, F.TMP_COEF_SEL_index, 1151)]).fld
      R.TMP_COEF_SEL F.TMP_COEF_SEL_index + 1 = 1152 := by unfold State.hostOpen; decide +kernel

/-- The security root with fuses. -/
def sec (x : Security) (d0 : BitVec 32) : State := { (dev .ready) with sec := { x with provData := [(0, d0)] } }

theorem test_witness_provisioning :
    getField 0xC0DE0001 F.SEC_PROV_CMD_key = 0xC0DE ∧ getField 0xC0DE0001 F.SEC_PROV_CMD_op = 1 ∧ (sec {} 0).hostOpen ∧
    (sec {} 0).bit R.SEC_PROV_STATUS F.SEC_PROV_STATUS_busy = false ∧ (sec {} 0).sec.fuses.custKey = none ∧ (sec {} 0).sec.fuses.slotDead = false ∧
    (sec { fuses := { custKey := some 1 } } 0).sec.fuses.custKey ≠ none ∧ (BitVec.extractLsb 7 0 ((sec {} 32).provWord 0)).toNat = 32 ∧
    (sec { fwSvn := 32 } 32).sec.fuses.fwSvnMin < 32 ∧ 32 ≤ (sec { fwSvn := 32 } 32).sec.fwSvn ∧
    (sec { rcpSvn := some 32 } 32).sec.rcpSvn = some 32 ∧ getField 0xC0DE0004 F.SEC_PROV_CMD_op = 4 := by unfold State.hostOpen; decide +kernel

theorem test_witness_unlocks :
    getField 0x80000002 F.SEC_DBG_CMD_go = 1 ∧ getField 0x80000002 F.SEC_DBG_CMD_level = 2 ∧ (∀ j ∈ (sec {} 0).sec.jobs, j.isUnlock = false) ∧
    (sec { jobs := [.tapUnlock 1] } 0).sec.jobs = [.tapUnlock 1] ∧ (sec {} 0).sec.fuses.debugDisabled = false ∧
    (sec { fuses := { debugDisabled := true } } 0).sec.fuses.debugDisabled = true ∧
    (sec { jobs := [.registerUnlock 1], fuses := { custKey := some 1 } } 0).sec.fuses.custKey ≠ none := by decide +kernel

theorem test_witness_tap :
    (dev .boot).blw.state ≠ .off ∧ (dev .boot).blw.state ∈ ([.boot, .ready, .fault] : List DevState) ∧
    (sec { debugLevel := 2 } 0).sec.debugLevel = 2 ∧ (dev .run).blw.state ∉ ([.boot, .ready, .fault] : List DevState) ∧
    (dev .run).sec.debugLevel ≠ 2 ∧ 1 ≤ (sec { debugLevel := 1 } 0).sec.debugLevel ∧ (dev .run).sec.debugLevel = 0 := by decide +kernel


/-! ### Encoders, latches, triggers -/

/-- Encoder input 3 as given, with registers; the time counter stands at `tq` quarter nanoseconds. -/
def enc3 (e : EncIn) (tq : Nat) (l : List (Nat × Field × Nat)) : State :=
  { flds (dev .run) ((R.ENC_CFG 3, F.ENC_CFG_enable, 1) :: l) with pos := { enc := [(3, e)] }, tim := { counter := tq * 2 ^ 30 } }

theorem test_witness_quadrature :
    (enc3 {} 0 []).encCounts 3 = true ∧ (enc3 {} 0 []).fld (R.ENC_CFG 3) F.ENC_CFG_mode = 0 ∧
    (∀ d, d < 4 → ∃ a b : Bool, (phase a b + 4 - phase ((enc3 {} 0 []).enc 3).a ((enc3 {} 0 []).enc 3).b) % 4 = d) := by decide +kernel

/-- A phase step counts; an edge 40 quarters after the one before gives the period (R55). -/
theorem test_quadrature_period : leadsTo (exec (.quadratureEdge 3 true false 0)
    (enc3 { count := 4, edge := some (0, 0), up := some true, need := 1 } 40 []))
    (fun t => (t.enc 3).count == 5 && t.period 3 == 40 && t.periodValid 3) = true := by decide +kernel

theorem test_witness_pulse_train :
    (let s := enc3 {} 0 [(R.ENC_CFG 3, F.ENC_CFG_mode, 1)]
     s.encCounts 3 = true ∧ s.fld (R.ENC_CFG 3) F.ENC_CFG_mode = 1 ∧ s.fld (R.ENC_CFG 3) F.ENC_CFG_gap_kind = 0) ∧
    (∀ kind ∈ [1, 2],
      let s := enc3 { edge := some (0, 0), up := some true } 160 [(R.ENC_CFG 3, F.ENC_CFG_mode, 1), (R.ENC_CFG 3, F.ENC_CFG_gap_kind, kind),
        (R.ENC_CFG 3, F.ENC_CFG_gap_ratio, 32), (R.ENC_PERIOD 3, F.ENC_PERIOD_valid, 1), (R.ENC_PERIOD 3, F.ENC_PERIOD_period, 40)]
      (s.enc 3).edge = some (0, 0) ∧ s.periodValid 3 = true ∧ (s.enc 3).up = some true ∧ (s.enc 3).armed = false ∧
      s.fld (R.ENC_CFG 3) F.ENC_CFG_gap_kind = kind ∧ s.fld (R.ENC_CFG 3) F.ENC_CFG_gap_ratio * s.period 3 < 16 * (s.edgeTq 0 - 0) ∧
      16 * s.period 3 ≤ (s.edgeTq 0 - 0) * s.fld (R.ENC_CFG 3) F.ENC_CFG_gap_ratio) ∧
    (let s := enc3 { edge := some (150, 0), up := some true } 160 [(R.ENC_CFG 3, F.ENC_CFG_mode, 1), (R.ENC_CFG 3, F.ENC_CFG_gap_kind, 2),
        (R.ENC_CFG 3, F.ENC_CFG_gap_ratio, 32), (R.ENC_PERIOD 3, F.ENC_PERIOD_valid, 1), (R.ENC_PERIOD 3, F.ENC_PERIOD_period, 40)]
     (s.edgeTq 0 - 150) * s.fld (R.ENC_CFG 3) F.ENC_CFG_gap_ratio < 16 * s.period 3 ∧
     16 * (s.edgeTq 0 - 150) ≤ s.fld (R.ENC_CFG 3) F.ENC_CFG_gap_ratio * s.period 3) := by decide +kernel

theorem test_witness_presets :
    (enc3 {} 0 []).master ≠ some 3 ∧ (enc3 { armed := true } 0 []).fld (R.ENC_CFG 3) F.ENC_CFG_mode = 0 ∧
    (enc3 { armed := true } 0 [(R.ENC_COORD, F.ENC_COORD_valid, 1), (R.ENC_COORD, F.ENC_COORD_master, 3)]).master = some 3 ∧
    (let s := { enc3 { quiet := some 0 } 0 [] with ticks := 2 ^ 40 }
     s.encCounts 3 = true ∧ (s.enc 3).quiet = some 0 ∧ s.fld (R.ENC_STILL 3) F.ENC_STILL_timeout_us * 125 ≤ s.ticks - 0) ∧
    (enc3 {} 0 []).hostOpen ∧ (1 : Reg32).getLsbD 0 = true ∧ (1 : Reg32).getLsbD 1 = false ∧
    (enc3 {} 0 []).bit (R.ENC_CFG 3) F.ENC_CFG_enable = true ∧ (dev .run).bit (R.ENC_CFG 3) F.ENC_CFG_enable = false := by
  unfold State.hostOpen; decide +kernel

/-- Latch unit 15 enabled on a source, its queue 9 with some slots. -/
def latching (code : Nat) (l : List QSlot) : State :=
  withQ (flds (dev .run) [(R.ENC_LAT_CFG 15, F.ENC_LAT_CFG_enable, 1), (R.ENC_LAT_CFG 15, F.ENC_LAT_CFG_source, code),
    (R.ENC_LAT_CFG 15, F.ENC_LAT_CFG_encoder, 3), (R.ENC_LAT_CFG 15, F.ENC_LAT_CFG_queue, 9)]) 9 l

theorem test_witness_latches :
    (latching 0 []).hostOpen ∧ (latching 0 []).bit (R.ENC_LAT_CFG 15) F.ENC_LAT_CFG_enable = true ∧
    (latching 31 []).tim.gpio.getLsbD 31 = !true ∧ ((latching 31 []).rd R.TIM_GPIO_DIR).getLsbD 31 = false ∧
    (latching 31 []).fld (R.ENC_LAT_CFG 15) F.ENC_LAT_CFG_source = 31 ∧
    (∀ i, i < 16 → i ≠ 15 → (latching 31 []).bit (R.ENC_LAT_CFG i) F.ENC_LAT_CFG_enable = false) ∧
    (latching 0x3F []).fld (R.ENC_LAT_CFG 15) F.ENC_LAT_CFG_source = 0x20 + 31 ∧ (latching 31 []).queueOn 9 = true ∧
    (latching 31 []).queueRoom 9 4 = true ∧ (latching 31 [.opened 0x41 (List.replicate 28 0)]).queueRoom 9 4 = false := by
  unfold State.hostOpen; decide +kernel

theorem test_witness_no_latch : (dev .run).noLatchOn 31 :=
  (by decide +kernel : ∀ j, j < 16 → (dev .run).bit (R.ENC_LAT_CFG j) F.ENC_LAT_CFG_enable = true →
    (dev .run).fld (R.ENC_LAT_CFG j) F.ENC_LAT_CFG_source ≠ 31)

/-- A capture's packet: length word, W0 with sequence 0, unit 15, encoder 3 and code 31, position, time. -/
theorem test_latch_packet : leadsTo (exec (.gpioEdge 31 true 0) (latching 31 []))
    (fun t => (t.queue 9).slots == [.closed 0x81 [0x80_8100_0000_0000_0003, BitVec.ofNat 72 (15 * 2 ^ 36 + 3 * 2 ^ 34 + 31 * 2 ^ 26), 0, 0]]) = true := by
  decide +kernel

/-- Trigger unit 15 in RUN, its encoder 3 at a count, moving up. -/
def trig15 (u : TrigUnit) (count : BitVec 56) (l : List (Nat × Field × Nat)) : State :=
  { flds (dev .run) ([(R.ENC_TRG_CFG 15, F.ENC_TRG_CFG_enable, 1), (R.ENC_TRG_CFG 15, F.ENC_TRG_CFG_encoder, 3),
      (R.ENC_TRG_CFG 15, F.ENC_TRG_CFG_ltrig_en, 1)] ++ l) with
    pos := { enc := [(3, { count := count, up := some true })], trg := [(15, u)] } }

theorem test_witness_triggers :
    (trig15 { period := 65536, checked := true } 5 []).trigRuns 15 = true ∧ (trig15 { period := 65536, checked := true } 5 []).trigAllowed 15 = true ∧
    ((trig15 { period := 65536, checked := true } 5 []).trig 15).checked = true ∧
    (trig15 { next := 6 * 65536, period := 65536, checked := true } 5 []).trigBehind 15 0 0 < 0 ∧
    (trig15 { next := 5 * 65536, period := 65536, checked := true } 5 []).trigBehind 15 0 0 = 0 ∧
    (trig15 { next := 5 * 65536, period := 65536, checked := true } 5 []).bit (R.ENC_TRG_CFG 15) F.ENC_TRG_CFG_cxp_en = false ∧
    ((trig15 { period := 65536 } 5 []).trig 15).last = none ∧
    (trig15 { next := 0, period := 65536, checked := true } 1 []).trigBehind 15 0 0 = 65536 ∧
    0 - 0 < (trig15 { last := some 0 } 5 [(R.ENC_TRG_MININT 15, F.ENC_TRG_MININT_min_interval, 1)]).fld
      (R.ENC_TRG_MININT 15) F.ENC_TRG_MININT_min_interval ∧
    (trig15 {} 5 []).trigRuns 15 = false ∧ (dev .run).bit (R.ENC_TRG_CFG 15) F.ENC_TRG_CFG_enable = false ∧ ((dev .run).trig 15).period = 0 ∧
    ({ dev .ready with pos := { trg := [(15, { period := 1 })] } } : State).blw.state ∉ ([.armed, .run, .hold] : List DevState) ∧
    ((trig15 { pulseEnd := some 5 } 5 []).trig 15).pulseEnd = some 5 ∧ 5 ≤ 5 * ({ trig15 { pulseEnd := some 5 } 5 [] with ticks := 1 } : State).ticks := by
  decide +kernel

/-- The worked late point of 03: three points skipped from 999,990 at 1,000,000 with a period of 5. -/
theorem test_late_points : leadsTo (exec (.triggerFire 15 0)
    (trig15 { next := BitVec.ofNat 72 999990, period := 5, checked := true } 0 [] |> fun s =>
      { s with pos := { s.pos with enc := [(3, { count := 15, up := some true })], trg := [(15, { next := BitVec.ofNat 72 (15 * 65536 - 10), period := 5, checked := true })] } }))
    (fun t => (t.trig 15).next == BitVec.ofNat 72 (15 * 65536 + 5) && t.rd (R.ENC_TRG_LATE_PTS 15) == 3 && t.rd (R.ENC_TRG_FIRED 15) == 0) = true := by
  decide +kernel

/-- A write of NEXT ahead and behind. -/
theorem test_witness_next_write :
    (trig15 { period := 65536 } 5 []).hostOpen ∧
    (let s := trig15 { period := 65536, stage := BitVec.ofNat 32 (6 * 65536) } 5 []
     (s.setTrig 15 { s.trig 15 with next := BitVec.signExtend 72 ((0 : Reg32) ++ (s.trig 15).stage), checked := false }).trigBehind 15 (32 * s.ticks)
       (5 * s.ticks) ≤ 0) ∧
    (let s := trig15 { period := 65536, stage := 0 } 5 []
     0 < (s.setTrig 15 { s.trig 15 with next := BitVec.signExtend 72 ((0 : Reg32) ++ (s.trig 15).stage), checked := false }).trigBehind 15
       (32 * s.ticks) (5 * s.ticks)) := by unfold State.hostOpen; decide +kernel

theorem test_witness_trigger_packet :
    let s := { dev .run with lan := { links := [(63, { state := .up })], trigWait := [(63, 1)] }, ticks := 3 }
    sget (fun _ => 0) s.lan.trigWait 63 = 1 ∧ sget (fun _ => 0) s.lan.trigNow 63 = 0 ∧ (s.camLink 63).state = .up ∧ 1 + 11 ≤ 5 * s.ticks := by
  decide +kernel


/-! ### Camera links -/

/-- One camera link as given, with registers; `ticks` of link time. -/
def cam (d : DevState) (l : Nat) (x : Link) (ticks : Nat) (regs : List (Nat × Field × Nat)) : State :=
  { flds (dev d) regs with lan := { links := [(l, x)] }, ticks := ticks }

/-- Port 15 with enable. -/
def on15 : Nat × Field × Nat := (R.LANE_PORT_CFG 15, F.LANE_PORT_CFG_enable, 1)

theorem test_witness_port_commands :
    (cam .run 60 { state := .down } 7 [on15]).hostOpen ∧ (cam .run 60 { state := .down } 7 [on15]).portStarts 15 = true ∧
    (cam .boot 60 { state := .down } 7 [on15]).hostOpen ∧ (cam .boot 60 { state := .down } 7 [on15]).portStarts 15 = false ∧
    60 ∈ (cam .run 60 { state := .up } 7 [on15]).portLinks 15 ∧ ((cam .run 60 { state := .up } 7 [on15]).camLink 60).state ≠ .down ∧
    ((cam .run 60 { state := .down } 7 [on15]).camLink 60).state = .down ∧
    (1 : Reg32).getLsbD 0 = true ∧ (1 : Reg32).getLsbD 1 = false ∧ (1 : Reg32).getLsbD 2 = false ∧ (4 : Reg32).getLsbD 2 = true ∧
    (4 : Reg32).getLsbD 1 = false ∧ (2 : Reg32).getLsbD 1 = true ∧
    (∀ i, i < 4 → ((cam .run 0 {} 0 [on15]).camLink (4 * 15 + i)).state = .down) ∧
    ((cam .run 60 { state := .up } 7 [on15]).camLink (4 * 15 + 0)).state ≠ .down ∧
    (cam .run 60 { state := .up } 7 [on15]).bit (R.LANE_PORT_CFG 15) F.LANE_PORT_CFG_enable = true ∧
    (0 : Reg32).getLsbD 31 = false ∧ (0x80000000 : Reg32).getLsbD 31 = true := by unfold State.hostOpen; decide +kernel

/-- The timeouts at their last tick; a loss with and without auto_restart. -/
theorem test_witness_link_timers :
    (let s := cam .run 60 { state := .discover } 12500000 [(R.LANE_PORT_CFG 15, F.LANE_PORT_CFG_disc_timeout, 1)]
     (s.camLink 60).state = .discover ∧ 12500000 * s.fld (R.LANE_PORT_CFG 15) F.LANE_PORT_CFG_disc_timeout ≤ s.ticks - (s.camLink 60).since) ∧
    (let s := cam .run 60 { state := .retune, switched := true, rate := 7 } 250000 []
     (s.camLink 60).state = .retune ∧ (s.camLink 60).switched = true ∧ (s.camLink 60).rate ≠ 8 ∧ 250000 ≤ s.ticks - (s.camLink 60).since) ∧
    (let s := cam .run 60 { state := .retune, rate := 8, step := .locking } 125000 []
     (s.camLink 60).state = .retune ∧ (s.camLink 60).rate = 8 ∧ (s.camLink 60).step = .locking ∧ (s.camLink 60).switched = false ∧
     125000 ≤ s.ticks - (s.camLink 60).since) ∧
    (let s := cam .run 60 { state := .retune, rate := 8, step := .locking, switched := true } 2500000 []
     (s.camLink 60).step = .locking ∧ (s.camLink 60).switched = true ∧ 2500000 ≤ s.ticks - (s.camLink 60).since) ∧
    (let s := cam .run 60 { state := .down, resuming := true } 100000 []
     (s.camLink 60).state = .down ∧ (s.camLink 60).resuming = true ∧ 100000 ≤ s.ticks - (s.camLink 60).since) ∧
    (∀ a, a < 2 →
      let s := cam .run 60 { state := .up, conns := 4 } 0 [(R.LANE_PORT_CFG 15, F.LANE_PORT_CFG_auto_restart, a)]
      s.carries 63 ∧ s.carries 60 ∧ s.bit (R.LANE_PORT_CFG (s.linkOf 63 / 4)) F.LANE_PORT_CFG_auto_restart = (a == 1)) ∧
    (let s := cam .run 60 { state := .up, conns := 4, rate := 8 } 0 [(R.LANE_RX_STATUS 63, F.LANE_RX_STATUS_rate, 8)]
     let s : State := { s with lan := { s.lan with locked := BitVec.allOnes 64 } }
     s.fld (R.LANE_RX_STATUS 63) F.LANE_RX_STATUS_rate = 8 ∧ s.laneLocked 63 = true) := by unfold State.carries; decide +kernel

/-- The first three lanes of a link locked, connection 3 to come. -/
def locking (x : Link) (rate : Nat) (l : BitVec 64) : State :=
  let s := cam .run 60 x 0 [on15, (R.LANE_RX_STATUS 63, F.LANE_RX_STATUS_rate, rate), (R.LANE_RX_STATUS 60, F.LANE_RX_STATUS_rate, rate)]
  { s with lan := { s.lan with locked := l } }

theorem test_witness_locks :
    (let s := locking { state := .discover } 1 0
     s.fld (R.LANE_RX_STATUS 60) F.LANE_RX_STATUS_rate = 1 ∧ (s.camLink (s.linkOf 60)).state = .discover ∧ (s.camLink (s.linkOf 60)).sent = none ∧
     s.linkOf 60 = 60) ∧
    (let s := locking { state := .retune, step := .locking, switched := true, rate := 7, conns := 4 } 7 (7 <<< 60)
     s.fld (R.LANE_RX_STATUS 63) F.LANE_RX_STATUS_rate = 7 ∧ (s.camLink (s.linkOf 63)).switched = true ∧ s.othersLocked (s.linkOf 63) 63) ∧
    (let s := locking { state := .down, resuming := true, conns := 4 } 7 (7 <<< 60)
     (s.camLink (s.linkOf 63)).state = .down ∧ (s.camLink (s.linkOf 63)).resuming = true ∧ (s.camLink (s.linkOf 63)).sent = none ∧
     s.othersLocked (s.linkOf 63) 63) ∧
    (let s := locking { state := .retune, step := .locking, switched := true, rate := 8, conns := 4 } 8 (7 <<< 60)
     s.fld (R.LANE_RX_STATUS 63) F.LANE_RX_STATUS_rate = 8 ∧ s.othersLocked (s.linkOf 63) 63 ∧ (s.camLink (s.linkOf 63)).rate = 8) := by
  unfold State.othersLocked; decide +kernel

/-- A link that has asked in a step, as its acknowledgement arrives. -/
def asked (st : BringStep) (x : Link) : Link := { x with sent := some 0, step := st }

theorem test_witness_bring_up :
    (∀ st ∈ ([.standard, .revision, .deviceConnectionId 3, .connectionConfigDefault, .controlPacketSizeMax, .wimenSig, .wimenCap,
      .streamPacketSizeMax, .connectionConfig, .wimenCtrl, .verify, .resumeRead] : List BringStep),
      (cam .run 60 (asked st { state := .config }) 0 []).bringing 60 = true) ∧
    (let s := { cam .run 60 (asked .revision { state := .config }) 0 [] with lan := { links := [(60, asked .revision { state := .config })], locked := 8 <<< 60 } }
     3 < s.slotLanes 60 ∧ s.laneLocked (60 + 3) = true ∧ ∀ i, i < 3 → s.laneLocked (60 + i) = false) ∧
    (let s := cam .run 60 (asked .streamPacketSizeMax { state := .config, camRates := [1, 6, 7], camConns := [4, 1], found := 15 }) 0
      [(R.LANE_PORT_CFG 15, F.LANE_PORT_CFG_max_rate, 7)]
     s.wimenChosen 60 = false ∧ 7 ∈ (s.camLink 60).camRates ∧ 7 ≤ s.fld (R.LANE_PORT_CFG 15) F.LANE_PORT_CFG_max_rate ∧ s.countFits 60 4) ∧
    (let s := cam .run 60 (asked .streamPacketSizeMax { state := .config, wimenSig := true, wimenConns := 1, camConns := [1], found := 1 }) 0
      [(R.LANE_PORT_CFG 15, F.LANE_PORT_CFG_max_rate, 8), (R.LANE_PORT_CFG 15, F.LANE_PORT_CFG_allow_wimen, 1)]
     s.wimenChosen 60 = true ∧ s.countFits 60 1 ∧ 1 ≤ (s.camLink 60).wimenConns) ∧
    (let s := cam .run 60 (asked .verify { state := .retune, rate := 8, switched := true, second := true }) 1250000 []
     s.bringing 60 = true ∧ (s.camLink 60).second = true ∧ (s.camLink 60).sent = some 0 ∧ 1250000 ≤ s.ticks - 0) := by
  unfold State.countFits; decide +kernel

theorem test_witness_protected_address : protectedAddr 0x7F00 = true ∧ protectedAddr 0x7F0F = true := by
  constructor <;> simp [protectedAddr]

/-- A transaction of link 0 of port 15. -/
def mailing (m : Option Mail) (x : Link) (ticks : Nat) : State :=
  let s := cam .run 60 x ticks [on15]
  { s with lan := { s.lan with mailbox := [(15, m)] } }

theorem test_witness_mailbox :
    (mailing none { state := .up } 0).hostOpen ∧ (cam .run 60 { state := .up } 0 [on15]).mail 15 = none ∧
    (0xC0000000 : Reg32).getLsbD 31 = true ∧ (0xC0000000 : Reg32).getLsbD 30 = true ∧ (0x80000000 : Reg32).getLsbD 30 = false ∧
    (cam .run 60 { state := .up } 0 [on15]).slotLanes (4 * 15 + getField (0x80000000 : Reg32) F.LANE_CC_CMD_link) ≠ 0 ∧
    (cam .run 60 { state := .up } 0 [on15]).slotLanes (4 * 15 + 3) = 0 ∧
    (let s := mailing (some ⟨0, false, 0x1000, 0, some 0, true⟩) { state := .up } 1250000
     s.bringing 60 = false ∧ s.mail 15 = some ⟨0, false, 0x1000, 0, some 0, true⟩ ∧ 1250000 ≤ s.ticks - 0) := by
  unfold State.hostOpen; decide +kernel

/-- Lane 63 carries data at a rate. -/
def carrying (rate : Nat) (regs : List (Nat × Field × Nat)) : State :=
  cam .run 60 { state := .up, conns := 4, rate := rate } 0 ([on15, (R.LANE_RX_STATUS 63, F.LANE_RX_STATUS_rate, rate)] ++ regs)

theorem test_witness_packets :
    (carrying 7 []).carries 63 ∧ ¬(carrying 7 []).carries 0 ∧
    (let s := withQ (carrying 7 [(R.LANE_PORT_CFG 15, F.LANE_PORT_CFG_evq, 9)]) 9 []
     s.fld (R.LANE_PORT_CFG 15) F.LANE_PORT_CFG_evq = 9 ∧ s.queueOn 9 = true ∧ s.queueRoom 9 (1 + 2) = true ∧ s.carries 63) ∧
    (let s := withQ (carrying 7 [(R.LANE_PORT_CFG 15, F.LANE_PORT_CFG_evq, 9)]) 9 [.opened 0x41 (List.replicate 29 0)]
     s.queueOn 9 = true ∧ s.queueRoom 9 (1 + 2) = false ∧ s.carries 63) ∧
    (carrying 7 []).bit (R.LANE_RX_CFG 63) F.LANE_RX_CFG_dfe_freeze = false ∧
    (carrying 8 []).fld (R.LANE_RX_STATUS 63) F.LANE_RX_STATUS_rate = 8 ∧
    ((8 : Int) - sget (fun _ => 0) (carrying 8 []).tmp.deskew 63).natAbs ≤ 8 ∧ 8 < ((9 : Int) - sget (fun _ => 0) (carrying 8 []).tmp.deskew 63).natAbs ∧
    (carrying 7 []).hostOpen ∧
    (let s := { carrying 7 [] with ticks := 10486, lan := { (carrying 7 []).lan with scans := [(63, 1)] } }
     sget (fun _ => 0) s.lan.scans 63 = 0 + 1 ∧ 2 ^ (20 + s.fld (R.LANE_EYE_CTRL 63) F.LANE_EYE_CTRL_dwell) * 1000000 ≤
       (s.ticks - 0) * 8 * lineRate (s.fld (R.LANE_RX_STATUS 63) F.LANE_RX_STATUS_rate)) := by
  unfold State.carries State.hostOpen; decide +kernel

/-- A tap at its limit does not move further (R71); the others follow the sign of error times decision. -/
theorem test_dfe_limit : leadsTo (exec (.dfeUpdate 63 true true false true true true) (flds (carrying 7 []) [(R.LANE_DFE 63, F.LANE_DFE_tap1, 31)]))
    (fun t => t.sfld (R.LANE_DFE 63) F.LANE_DFE_tap1 == 31 && t.sfld (R.LANE_DFE 63) F.LANE_DFE_tap2 == -1) = true := by decide +kernel

/-! ### Intake and correction -/

/-- Context 63 on stream 5 of the link at lane 60, 12 pixels wide, in Mono8 on pixel lane 15, with a ring of two slots at `hd`. -/
def taking (c : Ctx) (regs : List (Nat × Field × Nat)) : State :=
  let k := R.INT_CTX_CFG 63
  let s := carrying 7 ([(k, F.INT_CTX_CFG_enable, 1), (k, F.INT_CTX_CFG_port, 15), (k, F.INT_CTX_CFG_link, 0), (k, F.INT_CTX_CFG_stream_id, 5),
    (k, F.INT_CTX_CFG_pixel_lane, 15), (R.INT_CTX_WIDTH 63, F.INT_CTX_WIDTH_width, 12)] ++ regs)
  { s with int := { ctx := [(63, c)] }, lan := { s.lan with streams := [(60 * 256 + 5, { format := some 0 })] } }

/-- A packet of stream 5. -/
def packet5 (l : List StreamItem) : StreamPacket := ⟨5, true, true, 0, 0, l⟩

/-- An open line with `n` pixels of 12. -/
def open12 (n : Nat) : OpenLine :=
  { cfg := (taking {} []).rd (R.INT_CTX_CFG 63), width := 12, fill := 0, px := List.replicate n 1, latch := ⟨0, 0, 0, false⟩ }

theorem test_witness_intake_pixels :
    (let s := taking { line := some (open12 11) } []
     s.takesPacket 63 (packet5 [.pixels 1 [255]]) 63 ∧ (s.stream (s.packetStream 63 (packet5 []))).lines = 0 ∧
     [(255 : BitVec 16)].length * formatBits ((s.stream (s.packetStream 63 (packet5 []))).format.getD 0) ≤ 8 * 1 ∧
     (s.ictx 63).line = some (open12 11) ∧ cfgStream (open12 11).cfg = s.packetStream 63 (packet5 []) ∧ (s.ictx 63).ready = false ∧
     (open12 11).px.length + 1 ≤ (open12 11).width ∧ s.laneOccupancy 15 + 1 ≤ 14563) ∧
    (let s := taking { ready := true, latches := [⟨7, 0, 0, false⟩] } [(R.INT_CTX_PAIR 63, F.INT_CTX_PAIR_max_age_ns, 1000)]
     s.takesPacket 63 (packet5 [.pixels 1 [255]]) 63 ∧ (s.ictx 63).line = none ∧ (s.ictx 63).ready = true ∧
     s.bit (R.INT_CTX_CFG 63) F.INT_CTX_CFG_free_run = false ∧ (s.ictx 63).latches = [⟨7, 0, 0, false⟩] ∧
     (∀ a ∈ ([⟨7, 0, 0, false⟩] : List Latch), s.edgeTq 0 - a.tg ≤ 4 * s.fld (R.INT_CTX_PAIR 63) F.INT_CTX_PAIR_max_age_ns) ∧
     1 ≤ s.ctxWidth 63 ∧ s.laneOccupancy (s.ctxLane 63) + lineWords 1 (samplesPerWord (s.ctxFmt 63)) ≤ 14563) := by
  unfold State.takesPacket State.carries; decide +kernel

/-- A short line without a ring is counted in GATED and takes a sequence number; its flag is set (R98, R101, R106). -/
theorem test_short_line : leadsTo (exec (.streamPacket 63 (packet5 [.lineMarker 1])) (taking { line := some (open12 11), seq := 2 ^ 40 - 1 } []))
    (fun t => (t.ictx 63).seq == 0 && t.rd (R.INT_CTX_GATED 63) == 1 && t.bit (R.INT_CTX_FLAGS 63) F.INT_CTX_FLAGS_short) = true := by
  decide +kernel

/-- A line whose ring write has not completed. -/
def lineOf (c seq : Nat) (px : List Nat) : Line := { ctx := c, seq := seq, w0 := 0, w1 := 0, w2 := 0, n := px.length, px := px }

theorem test_witness_intake_ends :
    (let s := taking { line := some (open12 11) } []
     s.takesPacket 63 (packet5 [.lineMarker 1]) 63 ∧ (s.ictx 63).line = some (open12 11) ∧ cfgStream (open12 11).cfg = s.packetStream 63 (packet5 []) ∧ (1 : Nat) ≤ 8192) ∧
    (let s := { taking { line := some (open12 11) } [(R.INT_GLOBAL_CFG, F.INT_GLOBAL_CFG_line_timeout_us, 1)] with ticks := 125 }
     s.fld R.INT_GLOBAL_CFG F.INT_GLOBAL_CFG_line_timeout_us * 125 ≤ s.ticks - (open12 11).lastData) ∧
    (let s := { taking {} [] with int := { ctx := [], ringWrites := [lineOf 63 0 [1]] } }
     s.hbmBusy = false ∧ s.int.ringWrites.find? (fun l => l.ctx == 63) = some (lineOf 63 0 [1]) ∧
     s.onLane (lineOf 63 0 [1]).lane = none ∧ s.fedLane (lineOf 63 0 [1]).lane = false ∧ ∀ e ∈ s.int.eligible, e.lane ≠ (lineOf 63 0 [1]).lane) := by
  unfold State.takesPacket State.carries; decide +kernel

theorem test_witness_context_enable :
    (taking {} []).hostOpen ∧ (taking {} []).ctxOn 63 = true ∧ (carrying 7 []).ctxOn 63 = false ∧
    (carrying 7 [(R.INT_CTX_WIDTH 63, F.INT_CTX_WIDTH_width, 12)]).enableOk 63 0x80000000 = true ∧ (carrying 7 []).enableOk 63 (putField 0x80000000 F.INT_CTX_CFG_format 5) = false := by
  unfold State.hostOpen; decide +kernel

theorem test_witness_reinjection :
    (let s := flds (dev .armed) [(R.INT_CTX_CFG 63, F.INT_CTX_CFG_enable, 1), (R.INT_CTX_RING 63, F.INT_CTX_RING_ring_log2, 1),
      (R.INT_REINJ_COUNT, F.INT_REINJ_COUNT_count, 2)] |>.wr R.INT_REINJ_MASK_HI 0x80000000
     s.hostOpen ∧ s.int.reinj = none ∧ s.blw.state = .armed ∧ s.reinjMask = [63] ∧ s.fld R.INT_REINJ_COUNT F.INT_REINJ_COUNT_count ≠ 0 ∧
     s.ctxOn 63 = true ∧ 2 ≤ 2 ^ s.ringLog2 63) ∧
    (dev .run).blw.state ≠ .armed ∧ (dev .armed).reinjMask = [] ∧
    (let s := { dev .armed with int := { reinj := some { todo := [(63, 2 ^ 40 - 1, 1)] } } }
     (Reinjection.todo { todo := [(63, 2 ^ 40 - 1, 1)] }).find? (fun t => t.1 == 63) = some (63, 2 ^ 40 - 1, 1) ∧ s.readSlot 63 (2 ^ 40 - 1) = none ∧
     s.blw.state = .armed ∧ s.hbmBusy = false ∧ s.hrt.retiring = []) ∧
    (let s : State := { (taking {} []).wr (R.INT_CTX_RING_HANDLE 63) hd with
       hrt := { (buf1 (dev .run) { size := 1, kind := .ring, pinned := true, base := backedFrame, slotBytes := 32768, slots := 2 }).hrt with retiring := [] }
       int := { ctx := [], ringWrites := [lineOf 63 0 [1]] } }
     let b : Buffer := { size := 1, kind := .ring, pinned := true, base := backedFrame, slotBytes := 32768, slots := 2 }
     s.ringHandle 63 = hd ∧ s.reaches hd b (s.slotOffset 63 0) (packDense (lineOf 63 0 [1]).slot).length) := by
  unfold State.hostOpen State.reaches; decide +kernel

/-- The stack in self-refresh, and in the retraining of a scheduled calibration. -/
theorem test_witness_hbm_busy :
    ({ dev .run with hrt := { selfRefresh := true } } : State).hbmBusy = true ∧
    ({ dev .run with tmp := { hbmStart := some 0 } } : State).hbmBusy = true := by decide +kernel

theorem test_witness_reinjection_over : ({ dev .armed with int := { reinj := some {} } } : State).reinjOver {} :=
  ⟨by intro p hp; simp at hp, Or.inr (Or.inr ⟨rfl, by intro l hl; simp at hl⟩)⟩


/-! ### Correction -/

/-- A line on pixel lane 15 under a set. -/
def onLane15 (px : List Nat) (p : CorSet) (held : Bool) : State :=
  { dev .run with int := { lanes := [(15, some { line := lineOf 63 0 px, set := p, held := held })] } }

/-- The set with all stages off, and the one with dark and gain (R115) as the worked example of 06 has it. -/
def offSet : CorSet := ⟨0, 0, 0, 0, 0, 0⟩
def darkGain : CorSet := { offSet with
  dark := putField (putField 0 F.COR_CTX_DARK_dark_en 1) F.COR_CTX_DARK_offset_base 0
  gain := putField 0 F.COR_CTX_GAIN_gain_en 1 }

theorem test_witness_line_sent :
    (onLane15 [4095] offSet false).laneMoves 15 { line := lineOf 63 0 [4095], set := offSet } ∧ (lineOf 63 0 [4095]).px.length = (lineOf 63 0 [4095]).n ∧
    offSet.allOff ∧ (4095 : Nat) < 2 ^ (lineOf 63 0 [4095]).bits ∧ ((onLane15 [4095] offSet false).corCtx 63).fence2 = false ∧
    ((onLane15 [4095] offSet false).corCtx 63).fence35 = false ∧ ((onLane15 [4095] offSet false).corCtx 63).fence6 = false ∧
    (getField darkGain.nr F.COR_CTX_NR_sp_kernel = 0 ∧ darkGain.tnrEn = false ∧ getField darkGain.dfct F.COR_CTX_DEF_def_en = 0 ∧
      getField darkGain.lin F.COR_CTX_LIN_lin_en = 0 ∧ getField darkGain.dark F.COR_CTX_DARK_dark_en = 1 ∧
      getField darkGain.gain F.COR_CTX_GAIN_gain_en = 1) := by
  unfold State.laneMoves CorSet.allOff; decide +kernel

/-- With the coefficient 0 (offset 0, gain 0) every corrected sample is 0 (R115). -/
theorem test_gain_zero : leadsTo (exec (.lineSent 15 ⟨0, []⟩) (onLane15 [1000, 4095] darkGain false))
    (fun t => t.cor.out.map Line.px == [[0, 0]]) = true := by decide +kernel

/-- An entry of the coefficient store that a line misreads in the second attempt of its interval, as in the first (R128). -/
theorem test_witness_misread :
    let l : Line := { lineOf 63 0 [7] with interval := some 0 }
    let s : State := { dev .run with int := { lanes := [(15, some { line := l, set := darkGain })] },
                                     sti := { ivals := [{ num := 0, second := true, cor1 := [(63, 3, 524287)] }] } }
    s.laneMoves 15 { line := l, set := darkGain } ∧ s.failsAgain 63 0 (3, 524287) = true ∧ (s.ival (l.interval.getD 0)).isSome = true := by
  unfold State.laneMoves; decide +kernel

theorem test_witness_snapshot_wait :
    (onLane15 [1] offSet true).onLane 15 = some { line := lineOf 63 0 [1], set := offSet, held := true } ∧
    (∀ v ∈ (onLane15 [1] offSet true).sti.ivals, ¬v.num + 2 ≤ (lineOf 63 0 [1]).interval.getD 0) ∧
    (∀ v ∈ ({ onLane15 [1] offSet true with sti := { ivals := [{ num := 1 }] } } : State).sti.ivals,
      v.num + 2 ≤ ({ lineOf 63 0 [1] with interval := some 3 } : Line).interval.getD 0) := by decide +kernel

theorem test_witness_correction_apply :
    (dev .run).hostOpen ∧ (dev .run).corRefused 63 = false ∧ (dev .run).ctxInPipeline 63 = false ∧
    (onLane15 [1] offSet false).ctxInPipeline 63 = true ∧ (onLane15 [1] offSet false).corRefused 63 = false ∧ (dev .run).refLost = false ∧
    (flds (dev .run) [(R.STI_REF, F.STI_REF_ref_lost, 1)]).refLost = true ∧
    (flds (dev .run) [(R.COR_CTX_TNR 63, F.COR_CTX_TNR_tnr_en, 1)]).corRefused 63 = true := by
  unfold State.hostOpen; decide +kernel

/-- A set in force that uses entries 262,143 and 262,144 and lookup table 3. -/
def inForce : State :=
  { flds (dev .run) [(R.INT_CTX_WIDTH 63, F.INT_CTX_WIDTH_width, 2), (R.COR_STORE_ADDR, F.COR_STORE_ADDR_addr, 262144)] with
    cor := { ctx := [(63, { active := some { offSet with
      gain := putField (putField 0 F.COR_CTX_GAIN_gain_en 1) F.COR_CTX_GAIN_coef_base 262143
      lin := putField (putField 0 F.COR_CTX_LIN_lin_en 1) F.COR_CTX_LIN_lut_sel 3 } })] } }

theorem test_witness_correction_stores :
    (dev .run).coefInUse 0 = false ∧ (dev .run).lutInUse 0 = false ∧ inForce.lutInUse 3 = true ∧ inForce.coefInUse 262144 = true := by decide +kernel

theorem test_witness_coefficient_load :
    (dev .run).cor.load = none ∧ (flds (dev .run) [(R.COR_LOAD_COUNT, F.COR_LOAD_COUNT_count, 4)]).fld R.COR_LOAD_COUNT F.COR_LOAD_COUNT_count = 4 ∧
    (flds (dev .run) [(R.COR_STORE_ADDR, F.COR_STORE_ADDR_addr, 524284)]).fld R.COR_STORE_ADDR F.COR_STORE_ADDR_addr / 2 * 2 + 4 = 524288 ∧
    (let s := { buf1 (dev .run) whole with cor := { load := some ⟨524284, 4, hd, 0⟩ } }
     s.cor.load = some ⟨524284, 4, hd, 0⟩ ∧ s.grantsRead hd whole 0 9 ∧ whole.poisoned = false ∧ ∀ i, i < 4 → s.coefInUse (524284 + i) = false) ∧
    ({ dev .run with cor := { load := some ⟨0, 4, 5, 0⟩ } } : State).buffer 5 = none := by
  unfold State.grantsRead State.reaches; decide +kernel

theorem test_witness_capture :
    (dev .run).cor.capture = none ∧ (2 : Reg32).getLsbD 1 = true ∧
    (let k : Capture := ⟨63, 0, 1, hd, [5, 7], [0]⟩
     let s := { buf1 (dev .run) whole with cor := { capture := some k } }
     s.cor.capture = some k ∧ k.lines ≤ k.seqs.length ∧ s.grantsWrite k.handle whole 0 (packDense (sumWords k.sums)).length) := by
  unfold State.grantsWrite State.reaches; decide +kernel

/-! ### The stitcher -/

/-- The reference segment 0 of context 0 over columns 0 to 7, segment 1 of context 1 over columns 8 to 15. -/
def seg (ctx lo hi : Nat) : SegSet :=
  ⟨putField (putField 0 F.STI_SEG_CFG_enable 1) F.STI_SEG_CFG_ctx ctx, BitVec.ofNat 32 lo, BitVec.ofNat 32 hi, 0, 0, 0, 0, 0, []⟩
def segMap : List (Nat × SegSet) := [(0, seg 0 0 7), (1, seg 1 8 15)]

/-- Sixteen columns, two slots for segment 1. -/
def stRegs : List (Nat × Field × Nat) := [(R.STI_LINE_CFG, F.STI_LINE_CFG_line_width, 16), (R.STI_SEG_SLOTS 1, F.STI_SEG_SLOTS_slots, 2)]

/-- A camera line at a position, of interval 0. -/
def lineAt (c seq : Nat) (w1 : Word) : Line := { lineOf c seq [1] with w1 := w1, interval := some 0 }

/-- Interval 0 with stitched line 0 founded by line 5 of context 0 at position 1,000; segment 1 holds what is given; the last line of
context 1 leaves correction. -/
def founding (store : List Line) (next : Line) : State :=
  { flds (dev .run) stRegs with
    cor := { out := [next] }
    sti := { segs := segMap, store := [(0, [lineAt 0 5 1000]), (1, store)], nextK := 1,
             ivals := [{ num := 0, segs := segMap, timing := 0x00024E20,
                         founded := [{ k := 0, ref := 5, w0 := 0, g := 1000, w2 := 0, tick := 0, serves := [(0, .single 5)] }] }] } }

/-- The founded line of `founding`. -/
def founded0 : Founded := { k := 0, ref := 5, w0 := 0, g := 1000, w2 := 0, tick := 0, serves := [(0, .single 5)] }

theorem test_witness_founded :
    let s := founding [lineAt 1 0 900] (lineAt 1 1 1100)
    s.oneSegmentOpen 0 { num := 0, segs := segMap, timing := 0x00024E20, founded := [founded0] } founded0 0 5 1 (seg 0 0 7) (seg 1 8 15) :=
  ⟨by decide +kernel, by decide +kernel, by decide +kernel, by decide +kernel, by decide, by decide +kernel, by decide +kernel,
    by decide +kernel, by decide +kernel⟩

theorem test_witness_arrivals :
    let s := founding [lineAt 1 0 900] (lineAt 1 1 1100)
    s.arrives 1 (lineAt 1 1 1100) 1 ∧ s.refLost = false ∧ s.segStore 1 = [lineAt 1 0 900] ∧
    2 ≤ s.fld (R.STI_SEG_SLOTS 1) F.STI_SEG_SLOTS_slots ∧ (lineAt 1 0 900).at < 1000 ∧ 1000 < (lineAt 1 1 1100).at ∧
    (1 + 2 ^ 40 - 0) % 2 ^ 40 ≤ getField (0x00024E20 : BitVec 32) F.STI_TIMING_max_gap ∧
    getField (0x00024E20 : BitVec 32) F.STI_TIMING_max_gap < (3 + 2 ^ 40 - 0) % 2 ^ 40 ∧ 1 ≠ s.refSeg := by
  refine ⟨⟨by decide +kernel, by decide +kernel, by decide, ⟨seg 1 8 15, by decide +kernel⟩⟩, by decide +kernel, by decide +kernel,
    by decide +kernel, by decide +kernel, by decide +kernel, by decide +kernel, by decide +kernel, by decide +kernel⟩

/-- A line of the reference context arrives; a stitched line 16 opens interval 2. -/
theorem test_witness_reference :
    (let s := founding [] (lineAt 0 6 2000)
     s.arrives 0 (lineAt 0 6 2000) s.refSeg ∧ (lineAt 0 6 2000).w0.getLsbD 18 = false ∧ (s.ival (s.sti.nextK / 16)).isSome = true ∧
     s.founded s.sti.nextK = none) ∧
    (let s := founding [] (lineAt 0 6 2000)
     let s : State := { s with sti := { s.sti with nextK := 16 } }
     s.sti.nextK % 16 = 0 ∧ s.ival (s.sti.nextK / 16 + 1) = none) := by
  refine ⟨⟨⟨by decide +kernel, by decide +kernel, by decide +kernel, ⟨seg 0 0 7, by decide +kernel⟩⟩, by decide +kernel, by decide +kernel,
    by decide +kernel⟩, by decide +kernel⟩

/-- A store with room and a full one; an unmapped line; a stall. -/
theorem test_witness_store_slots :
    (let s := { founding [lineAt 1 0 900, lineAt 1 1 950] (lineAt 1 2 980) with sti := { (founding [lineAt 1 0 900, lineAt 1 1 950] (lineAt 1 2 980)).sti with nextForm := 1 } }
     s.founded s.sti.nextForm = none ∧ s.fld (R.STI_SEG_SLOTS 1) F.STI_SEG_SLOTS_slots ≤ (s.segStore 1).length ∧
     s.segStore 1 = lineAt 1 0 900 :: [lineAt 1 1 950]) ∧
    ((founding [] (lineAt 1 0 1)).segStore 1).length < (founding [] (lineAt 1 0 1)).fld (R.STI_SEG_SLOTS 1) F.STI_SEG_SLOTS_slots ∧
    (let s := founding [] (lineAt 2 0 1)
     s.anv.stallFrom = none ∧ s.cor.out.find? (fun l => l.ctx == 2) = some (lineAt 2 0 1) ∧
     ∀ p ∈ enabledSegs (s.lineSegs (lineAt 2 0 1)), p.2.ctx ≠ 2) ∧
    ({ dev .run with anv := { stallFrom := some 0 } } : State).anv.stallFrom.isSome = true ∧
    (let s := { dev .run with rcp := { loaded := true }, ticks := 2 ^ 30 }
     s.rcp.loaded = true ∧ s.bit R.STI_REF F.STI_REF_ref_lost = false ∧
     s.fld R.STI_REF F.STI_REF_ref_timeout_us * 125 ≤ s.ticks - s.sti.lastRef) := by decide +kernel

/-- The timeout of segment 1 at its last tick (wait_ns 20,000), and just before. -/
theorem test_witness_segment_wait :
    getField (0x00024E20 : BitVec 32) F.STI_TIMING_wait_ns ≤ 8 * 2500 ∧ 8 * 2499 < getField (0x00024E20 : BitVec 32) F.STI_TIMING_wait_ns ∧
    (seg 1 8 15).lo ≤ 8 ∧ 15 ≤ (seg 1 8 15).hi ∧ (seg 0 0 7).hi < 8 := by decide +kernel

theorem test_segment_wait_blanks : leadsTo (exec (.segmentWaitTimeout 1) { founding [] (lineAt 2 0 1) with ticks := 2500 })
    (fun t => t.rd (R.STI_SEG_BLANK 1) == 1 && t.sti.formed.map (fun x => x.excl.getD 15 false) == [true]) = true := by decide +kernel

/-- A map that an apply takes: one segment of an enabled context over the whole line. -/
theorem test_witness_stitch_apply :
    (dev .run).stiSetOk (dev .run).stiShadow = false ∧
    (let s := flds (dev .run) [(R.STI_LINE_CFG, F.STI_LINE_CFG_line_width, 8), (R.INT_CTX_CFG 0, F.INT_CTX_CFG_enable, 1),
      (R.STI_SEG_CFG 0, F.STI_SEG_CFG_enable, 1), (R.STI_SEG_LAST 0, F.STI_SEG_LAST_cd_last, 7), (R.STI_SEG_STEP 0, F.STI_SEG_STEP_step, 65536)]
     s.stiSetOk s.stiShadow = true ∧ s.hostOpen) := by unfold State.hostOpen; decide +kernel


/-! ### Worked examples of the spec -/

/-- The worked example of 06: its set, with the coefficient 0x8CDD and the state given for pixel 1 of a line of three. -/
def exampleSet : CorSet := ⟨0x40000028, 0x84028008, 0x80000040, 0x80000000, 0x80000000, 0⟩
def example06 (px : List Nat) (m : BitVec 16) : State :=
  let s := onLane15 px exampleSet false
  { flds s [(R.COR_CTX_TNR_BASE 63, F.COR_CTX_TNR_BASE_region, 1), (R.INT_CTX_WIDTH 63, F.INT_CTX_WIDTH_width, 3)] with
    cor := { ctx := [(63, { active := some exampleSet, empty := false })], bank := [(1, m)], coef := [(0, 0x8CDD), (1, 0x8CDD), (2, 0x8CDD)] } }

theorem test_correction_line_a : leadsTo (exec (.lineSent 15 ⟨0, []⟩) (example06 [210, 216, 212] 3392))
    (fun t => t.cor.out.map (fun l => l.px[1]?) == [some 167] && sget (fun _ => 0) t.cor.bank 1 == 3400) = true := by decide +kernel
theorem test_correction_line_b : leadsTo (exec (.lineSent 15 ⟨0, []⟩) (example06 [120, 118, 121] 3400))
    (fun t => t.cor.out.map (fun l => l.px[1]?) == [some 64] && sget (fun _ => 0) t.cor.bank 1 == 1904) = true := by decide +kernel

/-- The worked example of 07 at column 16,400. -/
theorem test_stitch_example :
    SegSet.coord ⟨0x80000000, 0, 0, 4064, 65024, 0, 0, 0, []⟩ 0 16400 = 1045464 ∧ lerp64 (some 1000) (some 1016) 24 = some 1006 ∧
    lerp64 (some 1006) (some 1030) 22 = some 1014 ∧ lerp64 (some 980) (some 988) 24 = some 983 ∧
    rampWeight ⟨0, 0, 0, 0, 0, 0, 0, putField (putField 0 F.STI_SEG_RAMP_ramp_start 16352) F.STI_SEG_RAMP_ramp_len 64, []⟩ 16400 = 48 := by
  decide +kernel

/-- The FIRE frame of 11: channel 63 for the instant 3,477,525 ns after link time 0x40_0000. -/
theorem test_fire_octets : ((frameOctets 0xFB (63 :: lt24 (0x400000 + 3477525))).take 5) = [0xFB, 0x3F, 0x15, 0x10, 0x75] := by decide +kernel


/-! ### Anvil -/

/-- A stitched line, and its outputs in work. -/
def st (k : Nat) (px : List Nat) : StLine := { k := k, w0 := 0, w1 := 0, w2 := 0, px := px, excl := px.map fun _ => false }

/-- Engine 7 of slice 15 as given, under a kernel set over the whole store with all tables; stripes of six columns. -/
def word7 (e : Engine) (regs : List (Nat × Field × Nat)) : State :=
  { flds (dev .run) ([(R.STI_LINE_CFG, F.STI_LINE_CFG_line_width, 96), (R.STI_STRIPE_CFG, F.STI_STRIPE_CFG_stripe_width, 6),
      (R.STI_STRIPE_CFG, F.STI_STRIPE_CFG_stripes, 16), (R.ANV_IMG 3, F.ANV_IMG_enable, 1), (R.ANV_CFG, F.ANV_CFG_window_lines, 3)] ++ regs) with
    anv := { active := some { last := 4095, lutUse := 15 }, engines := [(15 * 8 + 7, some e)], work := [{ line := st 0 (List.replicate 96 1) }] } }

/-- An engine at the last bundle but one, with cycles left for one more bundle. -/
def eng : Engine := { k := 0, w := 0, pc := 4094, cycles := 14 }

theorem test_witness_assembling : ∀ p, p < 3 → (word7 eng []).assembling 15 7 p eng := fun p hp =>
  ⟨by decide +kernel, by decide, fun q hq _ => (by decide +kernel : ∀ q, q < 3 → (word7 eng []).storedSlot eng.pc q = 0) q hq, by decide,
    by decide +kernel, by decide +kernel⟩

/-- The stored bundle holds the reserved opcode 0x3F in slot 2. -/
theorem test_witness_stored_slot :
    let s := word7 eng []
    let s : State := { s with anv := { s.anv with store := [(4094, BitVec.ofNat 128 (0x3F * 2 ^ 34))] } }
    s.engine 15 7 = some eng ∧ eng.slots = [] ∧ eng.pend = [] ∧ eng.cycles < (s.lineSet eng.k).maxBundles ∧
    slotLegal 2 (s.storedSlot eng.pc 2) = false := by decide +kernel

/-- A legal form of each instruction that writes a vector register, v 55 as its destination: opcode, slot, view. -/
theorem test_witness_vector_forms :
    ∀ f ∈ ([(0x01, 0, 0), (0x02, 0, 4), (0x03, 1, 0), (0x04, 0, 0), (0x05, 0, 0), (0x06, 1, 4), (0x07, 0, 0), (0x08, 0, 0), (0x09, 0, 0),
        (0x0A, 0, 0), (0x0B, 0, 0), (0x0C, 0, 0), (0x0D, 0, 0), (0x0E, 0, 0), (0x0F, 0, 1), (0x18, 0, 0), (0x19, 0, 0), (0x1A, 0, 0),
        (0x1B, 0, 0), (0x20, 1, 0), (0x21, 1, 0), (0x22, 1, 0), (0x23, 1, 0), (0x30, 2, 0), (0x31, 2, 4)] : List (Nat × Nat × Nat)),
      let x := anvilSlot f.1 (BitVec.ofNat 34 (f.2.2 * 2 ^ 27 + 55 * 2 ^ 21))
      slotLegal f.2.1 x = true ∧ sD x < 56 := by decide +kernel

/-- The same for the instructions that write predicate 7, and for those that write no register. -/
theorem test_witness_predicate_forms :
    (∀ f ∈ ([(0x10, 0), (0x11, 0), (0x12, 0), (0x1C, 0), (0x1D, 0), (0x38, 2), (0x39, 2), (0x3A, 2), (0x3B, 2), (0x3C, 2)] : List (Nat × Nat)),
      slotLegal f.2 (anvilSlot f.1 (BitVec.ofNat 34 (7 * 2 ^ 21))) = true) ∧
    (∀ f ∈ ([(0x00, 0), (0x32, 2), (0x33, 2), (0x34, 2)] : List (Nat × Nat)), slotLegal f.2 (anvilSlot f.1 0) = true) ∧
    slotLegal 0 (anvilSlot 0x3D 0) = false ∧ slotLegal 0 (anvilSlot 0x20 0) = false ∧ slotLegal 0 (anvilSlot 0x01 8) = false := by decide +kernel

theorem test_witness_vector_conditions :
    ((word7 eng []).wordEnv 15 eng).lutUse.testBit (sC (anvilSlot 0x22 (3 * 8))) = true ∧
    (let x := anvilSlot 0x30 (BitVec.ofNat 34 (15 * 2 ^ 11 + 8 * 2 ^ 6))
     (winDl x).natAbs ≤ ((word7 eng []).wordEnv 15 eng).h ∧ -8 ≤ winDc x ∧ winDc x ≤ (if sView x = 0 then 8 else 10) ∧ winXw x = false) := by
  decide +kernel

theorem test_witness_words :
    (word7 eng []).engine 15 7 = some eng ∧ eng.cycles < ((word7 eng []).lineSet 0).maxBundles ∧ (word7 eng []).engine 15 6 = none ∧
    eng.guard (anvilSlot 0x33 3) ≠ 0 ∧ sImm (anvilSlot 0x33 3) = 3 ∧ (word7 eng []).bit (R.ANV_IMG 3) F.ANV_IMG_enable = true ∧
    sImm (anvilSlot 0x34 4095) ≤ ((word7 eng []).lineSet 0).last ∧ eng.cls = none ∧
    (word7 { eng with cls := some 5 } []).anv.work.find? (fun x => x.line.k == 0) = some { line := st 0 (List.replicate 96 1) } ∧
    ((word7 eng []).lineSet 0).maxBundles ≤ ({ eng with cycles := 16 } : Engine).cycles := by decide +kernel

/-- ADD wraps a lane of 12 bits and saturates it with sat (R177, R184): 4,095 + 4,095. -/
def addend : Engine := { eng with v := [(1, BitVec.allOnes 72)] }
theorem test_anvil_add_wraps : leadsTo (exec (.anvilAdd 15 7 0 (BitVec.ofNat 34 (2 * 2 ^ 21 + 2 ^ 15 + 2 ^ 9)) (some 0)) (word7 addend []))
    (fun t => match t.engine 15 7 with | some e => sget (fun _ => (0 : Word)) e.v 2 == 0xFFEFFEFFEFFEFFEFFE | none => false) = true := by
  decide +kernel
theorem test_anvil_add_saturates : leadsTo (exec (.anvilAdd 15 7 0 (BitVec.ofNat 34 (2 * 2 ^ 21 + 2 ^ 15 + 2 ^ 9 + 2)) (some 0)) (word7 addend []))
    (fun t => match t.engine 15 7 with | some e => sget (fun _ => (0 : Word)) e.v 2 == 0xFFFFFFFFFFFFFFFFFF | none => false) = true := by
  decide +kernel

theorem test_witness_dispatch :
    (let s := word7 eng []
     let s : State := { s with anv := { s.anv with lines := [st 0 (List.replicate 96 1), st 1 (List.replicate 96 1)] } }
     (15 : Nat) < s.stripes ∧ s.anv.work.find? (fun y => !s.sliceFenced 15 y.line.k && decide (y.sentBy 15 < s.stripeWords)) =
       some { line := st 0 (List.replicate 96 1) } ∧ (s.anv.lines.any fun l => l.k == s.windowTop 0) = true ∧ s.engine 15 0 = none) ∧
    (let s : State := { dev .run with anv := { engines := (List.range 8).map fun i => (15 * 8 + i, some eng) } }
     ∀ i, i < 8 → (s.engine 15 i).isSome = true) := by decide +kernel

theorem test_witness_line_pass :
    (let s := { flds (dev .run) [(R.STI_LINE_CFG, F.STI_LINE_CFG_line_width, 96), (R.STI_STRIPE_CFG, F.STI_STRIPE_CFG_stripe_width, 6),
        (R.STI_STRIPE_CFG, F.STI_STRIPE_CFG_stripes, 16)] with sti := { formed := [st 0 []], ivals := [{ num := 0 }] } }
     s.sti.formed = [st 0 []] ∧ (∀ n, n < s.stripes → s.sliceFree n = true) ∧ s.ival ((st 0 []).k / 16) = some { num := 0 }) ∧
    (let s := flds (dev .run) [(R.STI_STRIPE_CFG, F.STI_STRIPE_CFG_stripe_width, 16384), (R.STI_STRIPE_CFG, F.STI_STRIPE_CFG_stripes, 1)]
     let l := (List.range 16).map fun k => st k []
     let s : State := { s with sti := { formed := [st 16 []] }, anv := { lines := l, work := l.map fun x => { line := x, released := true } } }
     s.sliceFree 0 = false ∧ 0 < s.stripes ∧ s.anv.stallFrom = none) ∧
    (let s := { flds (dev .run) [(R.STI_LINE_CFG, F.STI_LINE_CFG_line_width, 96), (R.STI_STRIPE_CFG, F.STI_STRIPE_CFG_stripe_width, 6),
        (R.STI_STRIPE_CFG, F.STI_STRIPE_CFG_stripes, 16)] with sti := { formed := [st 0 []] }, anv := { stallFrom := some 3, stallSlices := [15] }, ticks := 1 }
     s.sti.formed = [st 0 []] ∧ (∀ n, n < s.stripes → s.sliceFree n = true) ∧ s.anv.stallFrom = some 3 ∧ s.anv.stallSlices.count 15 = 1 ∧
     14 ∉ s.anv.stallSlices) := by decide +kernel

theorem test_witness_line_enters :
    (let s := word7 eng []
     let x : ClassLine := { line := st 15 [], released := true }
     let s : State := { s with anv := { s.anv with work := [x] }, sti := { ivals := [{ num := 0, committed := 15 }] } }
     s.anv.work = [x] ∧ (s.bufferedLines + 1) * s.lineWidth ≤ 4194304 ∧ s.ival (x.line.k / 16) = some { num := 0, committed := 15 } ∧
     15 ≤ x.line.k % 16) ∧
    (let s := { dev .armed with anv := { lines := [st 9 []] }, ticks := 2 ^ 30 }
     s.anv.lines.getLast? = some (st 9 []) ∧ s.gateClosed = true ∧ s.fed.running = false ∧ s.sti.formed = [] ∧ (st 9 []).k ∉ s.anv.flowEnds ∧
     1250 * s.blmCfg R.BLM_OUT F.BLM_OUT_drain_us ≤ 10 * s.ticks - s.anv.lastLine) ∧
    10 * (dev .run).ticks - (dev .run).anv.lastLine < 1250 * (dev .run).blmCfg R.BLM_OUT F.BLM_OUT_drain_us := by decide +kernel

/-- Kernel sets, stores and loads at the ends of their ranges. -/
theorem test_witness_anvil_stores :
    (let s := flds (dev .run) [(R.ANV_KSET_ENTRY, F.ANV_KSET_ENTRY_entry, 4095), (R.ANV_KSET_REGION, F.ANV_KSET_REGION_first, 4095),
      (R.ANV_KSET_REGION, F.ANV_KSET_REGION_last, 4095)]
     s.anvShadow.first ≤ s.anvShadow.entry ∧ s.anvShadow.entry ≤ s.anvShadow.last ∧ s.anvShadow.maxBundles ≠ 0) ∧
    (flds (dev .run) [(R.ANV_KSET_REGION, F.ANV_KSET_REGION_first, 1)]).anvShadow.last <
      (flds (dev .run) [(R.ANV_KSET_REGION, F.ANV_KSET_REGION_first, 1)]).anvShadow.first ∧
    (dev .run).bundleInUse 4095 = false ∧ (word7 eng []).bundleInUse 4095 = true ∧ (dev .run).anvLutInUse 3 = false ∧
    (word7 eng []).anvLutInUse 3 = true ∧ (dev .run).anv.load = none ∧ 4095 + 1 ≤ 4096 ∧ 16380 + 4 ≤ 16384 ∧ 63 + 1 ≤ 64 ∧
    (∀ g, g < 3 →
      let d : StoreLoad := ⟨0, 4, hd, g⟩
      let s : State := { buf1 (dev .run) whole with anv := { load := some d } }
      s.anv.load = some d ∧ s.grantsRead d.handle whole 0 72 ∧ (∀ i, i < 4 → s.bundleInUse i = false) ∧ ∀ i, i < 4 → s.anvLutInUse (i / 4096) = false) ∧
    ({ dev .run with anv := { load := some ⟨0, 4, 5, 0⟩ } } : State).buffer 5 = none := by
  unfold State.grantsRead State.reaches; decide +kernel


/-! ### Commit and Bloom -/

/-- Sixteen class lines of interval 2 in the commit buffer, two stripes of six columns. -/
def held16 (v : Ival) : State :=
  { flds (dev .run) [(R.STI_LINE_CFG, F.STI_LINE_CFG_line_width, 12), (R.STI_STRIPE_CFG, F.STI_STRIPE_CFG_stripe_width, 6),
      (R.STI_STRIPE_CFG, F.STI_STRIPE_CFG_stripes, 2)] with
    sti := { ivals := [v] }, blm := { buffer := (List.range 16).map fun i => { line := st (32 + i) [], cls := List.replicate 12 0x101 } } }

theorem test_witness_commit :
    (∀ v ∈ ([{ num := 2, arrivals := 16, arriveFirst := 0, arriveLast := 400 },
        { num := 2, taken := [(0, 5)] }, { num := 2, second := true, slices1 := 2 }] : List Ival),
      v.committed + ((held16 v).bufferOf v.num).length = 16 ∧ (held16 v).bufferOf v.num ≠ [] ∧ v.corNow = [] ∧ (held16 v).sti.ivals = [v] ∧
      v.segs = []) ∧
    (1 : Nat) < (held16 { num := 2 }).stripes ∧ (held16 { num := 2 }).sliceFenced 1 32 = false ∧ 0 < (held16 { num := 2 }).stripeWords ∧
    (2 : BitVec 16) = BitVec.ofNat 16 (2 ^ 1) := by decide +kernel

theorem test_witness_held_whole : (held16 { num := 2, taken := [(0, 5)] }).heldWhole { num := 2, taken := [(0, 5)] } :=
  ⟨⟨[], by decide +kernel⟩, (by intro p hp; cases hp), by decide +kernel, by decide +kernel⟩

/-- The last thirteen lines of an interval that has committed in part (R198). -/
theorem test_witness_held_rest :
    let v : Ival := { num := 2, committed := 3 }
    let s : State := { held16 v with blm := { buffer := (held16 v).blm.buffer.drop 3 } }
    s.heldWhole v ∧ v.corNow = [] ∧ 0 < v.committed := by
  refine ⟨⟨⟨[], by decide +kernel⟩, (by intro p hp; cases hp), by decide +kernel, by decide +kernel⟩, rfl, by decide⟩

theorem test_interval_replays : leadsTo (exec (.intervalCommit ⟨[(1, none)], []⟩) (held16 { num := 2, taken := [(0, 5)] }))
    (fun t => t.fed.todo == [(0, 5, some 2)] && t.rd R.EMB_REPLAYS == 1 && t.blm.buffer == []) = true := by decide +kernel

theorem test_witness_drain :
    (held16 { num := 2 }).draining = false ∧
    (let s := { held16 { num := 2 } with ticks := 2 ^ 30, blw := (dev .armed).blw }
     s.draining = true ∧ s.sti.ivals.filter (fun v => !(s.bufferOf v.num).isEmpty) = [{ num := 2 }]) := by decide +kernel

theorem test_witness_feeder :
    (dev .run).fed.running = false ∧ (dev .run).bloomRuns = true ∧ (dev .fault).bloomRuns = false ∧ (dev .fault).hostOpen ∧ (dev .run).hostOpen ∧
    (let s := { dev .run with fed := { todo := [(63, 5, none)], running := true } }
     s.fed.running = true ∧ s.hbmBusy = false ∧ s.hrt.retiring = [] ∧ s.fed.todo.find? (fun q => (s.onLane (s.ctxLane q.1)).isNone) = some (63, 5, none) ∧
     s.readSlot 63 5 = none ∧ ∀ l ∈ s.int.eligible, l.ctx < 64) := by unfold State.hostOpen; decide +kernel

/-- A slot of context 0 that holds its line 0. -/
theorem test_witness_slot : leadsTo (.next (let s := { buf1 (flds (dev .run) [(R.INT_CTX_RING 0, F.INT_CTX_RING_ring_log2, 1),
      (R.INT_CTX_WIDTH 0, F.INT_CTX_WIDTH_width, 6)] |>.wr (R.INT_CTX_RING_HANDLE 0) hd) whole with fed := { todo := [(0, 0, none)], running := true } }
    s)) (fun s => (s.readSlot 0 0).isSome) = true := by decide +kernel

/-- Bloom with committed lines, under open blooms. -/
def blooming (cls : List Nat) (b : List OpenBloom) : State :=
  { dev .run with blm := { committed := [.line ⟨st 33 [], cls⟩ 2 false], blooms := b } }

/-- An open bloom of three pixels of class 4. -/
def bloom3 : OpenBloom :=
  { oseq := 32, ocol := 1, firstW1 := 0, firstW2 := 0, lastSeq := 32, lastW1 := 0, index := 0, cdMin := 1, cdMax := 3, area := 3, sum := 30, min := 10,
    max := 10, sumX := 6, hist := [(4, 3)], perim := 8, frontier := [(1, 3)] }

theorem test_witness_bloom_takes : (blooming [0, 0x40A, 0] []).bloomTakes ⟨st 33 [], [0, 0x40A, 0]⟩ [] :=
  ⟨by decide, by decide, rfl, ⟨2, by decide⟩, by intro p r h; cases h⟩

theorem test_witness_bloom :
    [0, 0x40A, 0] = List.replicate 1 0 ++ [0x40A] ++ List.replicate 1 0 ∧ (∀ v ∈ [0x40A], pixClass v ≠ 0) ∧
    (blooming [0, 0x40A, 0] []).blmCfg R.BLM_CFG F.BLM_CFG_max_lines ≠ 1 ∧ (∀ v ∈ [0, 0, 0], pixClass v = 0) ∧ bloom3.fresh = [] ∧
    ¬bloom3.area < (blooming [0, 0, 0] [bloom3]).blmCfg R.BLM_MIN_AREA F.BLM_MIN_AREA_min_area ∧
    (blooming [0, 0, 0] [bloom3]).blmCfg R.BLM_CLASS F.BLM_CLASS_mark_mask = 0 ∧
    (blooming [0, 0, 0] [bloom3]).blmCfg R.BLM_CROP_CFG F.BLM_CROP_CFG_crop_en = 0 ∧ bloom3.area < 2 ^ 36 ∧ bloom3.sum < 2 ^ 36 ∧
    ({ bloom3 with area := 0 } : OpenBloom).area < (blooming [0, 0, 0] [bloom3]).blmCfg R.BLM_MIN_AREA F.BLM_MIN_AREA_min_area := by decide +kernel

theorem test_witness_dominant : bloom3.dominant 4 := by
  refine ⟨by decide, by decide, ?_, ?_⟩
  · have h : ∀ i : Fin 16, 1 ≤ i.val → bloom3.count i ≤ bloom3.count 4 := by decide
    exact fun i h1 h2 => h ⟨i, by omega⟩ h1
  · have h : ∀ i : Fin 4, 1 ≤ i.val → bloom3.count i < bloom3.count 4 := by decide
    exact fun i h1 h2 => h ⟨i, h2⟩ h1

/-- A record at the head of the FIFO: with room, without, and with a crop of one line. -/
def record (c : Option Crop) : Record := { serial := 9, words := List.replicate 8 0, crop := c, handle := hd }
def crop1 : Crop := { first := 5, last := 5, cd0 := 0, cd1 := 5, cw := 1, ch := 3, handle := hd, due := true, cutting := true }

theorem test_witness_records :
    (let s := withQ { buf1 (dev .run) whole with blm := { fifo := [record none], cfg := [(R.BLM_OUT, putField 0 F.BLM_OUT_rec_q 2)] } } 2 []
     s.blm.fifo = [record none] ∧ s.blmCfg R.BLM_OUT F.BLM_OUT_rec_q = 2 ∧ s.queueOn 2 = true ∧ s.queueRoom 2 9 = true ∧
     (record none).handle ≠ 0 ∧ s.buffer (record none).handle = some whole) ∧
    (let s := withQ { dev .run with blm := { fifo := [record none] } } 2 [.opened 0x41 (List.replicate 24 0)]
     s.queueOn 2 = true ∧ s.queueRoom 2 9 = false) ∧
    (let s := { buf1 (dev .run) whole with blm := { fifo := [record (some crop1)] } }
     s.blm.records.find? (fun r => r.crop.isSome) = some (record (some crop1)) ∧ crop1.due = true ∧ s.blm.lastCommit = none ∧
     s.bloomRuns = true ∧ s.framesOwed = false ∧ s.hbmBusy = false ∧ s.hrt.retiring = [] ∧
     s.blm.records.find? (fun r => match r.crop with | some c => c.cutting | none => false) = some (record (some crop1)) ∧ crop1.lines = 1 ∧
     s.reaches crop1.handle whole 0 (9 * crop1.words) ∧ s.imgSlot 3 5 = none) ∧
    (let s := { dev .run with blm := { fifo := [record (some { crop1 with due := false })] } }
     s.blm.records.find? (fun r => r.crop.isSome) = some (record (some { crop1 with due := false })) ∧ s.blm.lastCommit = none) := by
  unfold State.reaches; decide +kernel

/-! ### Tongs -/

/-- Mark 7 of channel 1,023 waits 100 counts downstream of the edge counted at link time 0, the period 4,000 (1 µs). -/
def mark7 : Mark := { ch := 1023, pos := BitVec.ofNat 72 (100 * 65536), act := 0 }
def marking (x : MarkState) (ticks : Nat) (regs : List (Nat × Field × Nat)) : State :=
  { flds (dev .run) ([(R.ENC_COORD, F.ENC_COORD_valid, 1), (R.ENC_COORD, F.ENC_COORD_master, 3), (R.ENC_CFG 3, F.ENC_CFG_enable, 1),
      (R.ENC_PERIOD 3, F.ENC_PERIOD_valid, 1), (R.ENC_PERIOD 3, F.ENC_PERIOD_period, 4000), (R.TNG_LINK_CFG 7, F.TNG_LINK_CFG_enable, 1)] ++ regs) with
    pos := { enc := [(3, { edge := some (0, 0), up := some true, periodLt := 4000 })] }, ticks := ticks
    tng := { marks := [(7, mark7, x)] } }

theorem test_witness_mark_waits : ∀ n ∈ ([0, 12250, 12300] : List Nat),
    (marking .waiting n [(R.ENC_COORD, F.ENC_COORD_valid, 1)]).waits 7 mark7 3 0 400000 := by
  intro n hn
  have hn' : n = 0 ∨ n = 12250 ∨ n = 12300 := by simpa using hn
  rcases hn' with rfl | rfl | rfl <;>
  exact ⟨by decide +kernel, by decide +kernel, by decide +kernel, by decide +kernel, by decide +kernel, by decide +kernel, by decide +kernel,
    by decide +kernel⟩

/-- Too early, in the commit range, and too near: 100 µs, 2 µs and 1.6 µs before the instant. -/
theorem test_witness_mark_times :
    ((marking .waiting 0 []).ltNow + 400 * (marking .waiting 0 []).fld R.TNG_CFG F.TNG_CFG_commit : Nat) < 400000 ∧
    (marking .waiting 12250 []).ltNow + 4 * 1200 ≤ 400000 ∧
    400000 ≤ (marking .waiting 12250 []).ltNow + 400 * (marking .waiting 12250 []).fld R.TNG_CFG F.TNG_CFG_commit ∧
    (marking .waiting 12250 []).sentOf 1023 < 4 ∧ 400000 < (marking .waiting 12400 []).ltNow + 4 * 1200 ∧
    (marking .waiting 12400 []).bit (R.TNG_CH_CFG 1023) F.TNG_CH_CFG_late_fire = false ∧
    (marking .waiting 12400 [(R.TNG_CH_CFG 1023, F.TNG_CH_CFG_late_fire, 1)]).bit (R.TNG_CH_CFG 1023) F.TNG_CH_CFG_late_fire = true := by
  decide +kernel

theorem test_witness_mark_fired :
    (marking (.sent 400000) 12500 []).tng.marks.lookup 7 = some (mark7, .sent 400000) ∧ mark7.ch < 1024 ∧
    400000 ≤ (marking (.sent 400000) 12500 []).ltNow ∧ (marking (.sent 400000) 12499 []).ltNow < 400000 ∧
    (∀ f ∈ ((marking (.sent 400000) 12500 []).link (mark7.ch / 128)).due, f.mark ≠ 7) := by decide +kernel

/-- A late mark of the channel takes the place of the one that has fired; none does without power. -/
theorem test_witness_late_mark :
    let s := marking (.sent 400000) 12500 []
    let s : State := { s with tng := { marks := [(7, mark7, .sent 400000), (8, mark7, .late)] } }
    s.coresStopped = false ∧ s.marksHeld = false ∧ s.sentOf mark7.ch ≤ 4 ∧
    (s.tng.marks.filter fun x => x.1 != 7).find? (fun x => x.2.1.ch == mark7.ch && x.2.2 == .late) = some (8, mark7, .late) ∧
    ({ s with blw := (dev .off).blw } : State).coresStopped = true := by decide +kernel

/-- Link 7 with frames due, a SYNC due, a CONFIG due; the device in RUN. -/
def linking (l : MarkLink) : State := { marking .waiting 10000 [] with tng := { links := [(7, l)] } }

theorem test_witness_marker_frames :
    (linking { due := [⟨false, 1023, 400000, 7⟩] }).linkSends 7 = true ∧ (linking { due := [⟨false, 1023, 400000, 7⟩] }).syncFirst 7 = false ∧
    ((linking { due := [⟨true, 1023, 400000, 7⟩] }).link 7).due = [⟨true, 1023, 400000, 7⟩] ∧
    ((linking {}).link 7).syncs < 8 * (linking {}).ticks / 10000 ∧ ((linking { sync := some 0, syncs := 8 }).link 7).sync.isSome = true ∧
    (linking { sync := some 0, syncs := 8 }).linkSends 7 = true ∧ ((linking { sync := some 0, syncs := 8 }).link 7).due = [] ∧
    ((linking { config := [1023], syncs := 8 }).link 7).config = [1023] ∧ ((linking { config := [1023], syncs := 8 }).link 7).sync = none ∧
    (dev .run).linkSends 7 = false ∧ (dev .run).bit (R.TNG_LINK_CFG 7) F.TNG_LINK_CFG_enable = false ∧
    (linking {}).bit (R.TNG_LINK_CFG 7) F.TNG_LINK_CFG_enable = true ∧ (linking {}).hostOpen ∧ 1023 ∉ ((linking {}).link (1023 / 128)).config := by
  unfold State.hostOpen; decide +kernel


/-! ### Output streams and compression -/

/-- Output stream unit 7 with a shadow set over one column; 96 columns. -/
def stream7 (regs : List (Nat × Field × Nat)) : State :=
  flds (dev .run) ([(R.STI_LINE_CFG, F.STI_LINE_CFG_line_width, 96), (R.OST_WIDTH 7, F.OST_WIDTH_cd_width, 1), (R.OST_DEC 7, F.OST_DEC_dc, 1),
    (R.OST_DEC 7, F.OST_DEC_dm, 1), (R.OST_SCALE 7, F.OST_SCALE_out_gain, 1), (R.OST_RING 7, F.OST_RING_stride, 5)] ++ regs)

theorem test_witness_stream_sets :
    (stream7 []).ostSetOk 7 ((stream7 []).ostShadow 7) = true ∧ (stream7 []).hostOpen ∧
    (stream7 [(R.OST_CROP 7, F.OST_CROP_cd_first, 96)]).lineWidth < getField ((stream7 [(R.OST_CROP 7, F.OST_CROP_cd_first, 96)]).ostShadow 7).crop
      F.OST_CROP_cd_first + ((stream7 []).ostShadow 7).width' ∧
    (1 : Reg32).getLsbD 0 = true ∧ (1 : Reg32).getLsbD 1 = false ∧ (2 : Reg32).getLsbD 1 = true ∧ ((dev .run).ostUnit 7).run.state = .idle ∧
    (let p := (stream7 []).ostShadow 7
     let s : State := { stream7 [(R.STI_STRIPE_CFG, F.STI_STRIPE_CFG_stripe_width, 6), (R.STI_STRIPE_CFG, F.STI_STRIPE_CFG_stripes, 16)] with
       sti := { formed := [st 0 []] }, ost := [(7, { active := some p, run := { state := .run }, stop := true })] }
     (s.ostUnit 7).run.state ≠ .idle ∧ (s.ostUnit 7).active = some p ∧ p.source = 0 ∧ (s.ostUnit 7).stop = true ∧
     (∀ n, n < s.stripes → s.sliceFree n = true) ∧ s.sti.formed = [st 0 []]) := by unfold State.hostOpen; decide +kernel

/-- A job of stream 255: start and last, stored blocks, no source bytes, `cap` bytes of room at `hd`. -/
def job (cap : Nat) : CmpJob :=
  ⟨BitVec.ofNat 72 (0x10 * 2 ^ 64 + 255 * 2 ^ 56 + 2 ^ 55 + 2 ^ 54), BitVec.ofNat 72 (hd.toNat * 2 ^ 40), BitVec.ofNat 72 (hd.toNat * 2 ^ 40),
    BitVec.ofNat 72 (cap * 256 + 9)⟩

/-- Engine 7 with the job queue 8 and a state handle. -/
def engine7 (x : CmpEngine) (j : CmpJob) : State :=
  let s := withQ (flds (buf1 (dev .run) whole) [(R.CMP_ENG_CFG 7, F.CMP_ENG_CFG_enable, 1), (R.CMP_ENG_CFG 7, F.CMP_ENG_CFG_jobq, 8)]) 8
    [.closed 0x41 [0, j.w0, j.w1, j.w2, j.w3]]
  { s.wr R.CMP_STATE_HANDLE hd with cmp := { engines := [(7, x)] } }

theorem test_witness_job_waits : (engine7 {} (job 2)).jobWaits 7 (job 2) [] :=
  ⟨by decide +kernel, by decide +kernel, (by intro f hf; cases hf), by decide +kernel, ⟨0x41, 0, by decide +kernel⟩, by decide +kernel⟩

/-- The stream of the job is resident on engine 6: busy, and idle beside a pinned state buffer. -/
theorem test_witness_job_moves :
    let s : State := { engine7 {} (job 2) with cmp := { engines := [(6, { job := some (job 2), resident := some 255 })] } }
    let big : Buffer := { whole with size := 1024 }
    let u : State := { buf1 (engine7 {} (job 2)) big with cmp := { engines := [(6, { resident := some 255 })], streams := [(255, { wrap := 0 })] } }
    s.jobWaits 7 (job 2) [] ∧ s.residentOn 255 = some 6 ∧ (s.cmpEngine 6).job.isSome = true ∧ (s.cmpEngine 7).resident ≠ some 255 ∧
    u.jobWaits 7 (job 2) [] ∧ u.jobBad (job 2) = false ∧ u.residentOn 255 = some 6 ∧ (u.cmpEngine 6).job = none ∧
    (u.cmpStream 255).isSome = true ∧ u.grantsWrite (u.rd R.CMP_STATE_HANDLE) big (34848 * 255) 34848 ∧ u.savesAll := by
  refine ⟨⟨by decide +kernel, by decide +kernel, (by intro f hf; cases hf), by decide +kernel, ⟨0x41, 0, by decide +kernel⟩, by decide +kernel⟩,
    by decide +kernel, by decide +kernel, by decide +kernel,
    ⟨by decide +kernel, by decide +kernel, (by intro f hf; cases hf), by decide +kernel, ⟨0x41, 0, by decide +kernel⟩, by decide +kernel⟩,
    by decide +kernel, by decide +kernel, by decide +kernel, by decide +kernel, by unfold State.grantsWrite State.reaches; decide +kernel, ?_⟩
  refine Or.inr ⟨{ whole with size := 1024 }, rfl, rfl, fun e n he hn => ?_⟩
  have h : ∀ e, e < 8 → ∀ n ∈ (({ buf1 (engine7 {} (job 2)) { whole with size := 1024 } with
      cmp := { engines := [(6, { resident := some 255 })], streams := [(255, { wrap := 0 })] } } : State).cmpEngine e).resident, n = 255 := by decide +kernel
  obtain rfl := h e he n (by simpa using hn)
  unfold State.reaches; decide +kernel

/-- A job of three bytes with the room that R254 gives it. -/
theorem test_witness_job_runs :
    let j : CmpJob := { job 31 with w2 := (job 31).w2, w3 := (job 31).w3 }
    let s := engine7 { job := some j, resident := some 255 } j
    s.jobRuns 7 j ∧ s.grantsRead j.src whole j.srcOff j.srcLen ∧ s.grantsWrite j.dst whole j.dstOff j.dstCap ∧ whole.poisoned = false ∧
    j.srcLen + 5 * ((j.srcLen + 65534) / 65535) + 5 + 18 ≤ j.dstCap := by
  unfold State.jobRuns State.grantsRead State.grantsWrite State.reaches; decide +kernel

theorem test_witness_jobs :
    (engine7 {} (job 2)).jobBad (job 2) = false ∧ (engine7 {} (job 2)).residentOn 255 = none ∧ (engine7 {} (job 2)).cmpStream 255 = none ∧
    ((engine7 {} (job 2)).cmpEngine 7).resident = none ∧ (job 2).stream = 255 ∧ (job 0).dstCap = 0 ∧
    (engine7 { resident := some 255 } (job 2)).residentOn 255 = some 7 ∧
    (∀ cap, cap < 3 → (job cap).dstCap = cap ∧ (job cap).srcLen = 0 ∧ (job cap).start = true ∧ (job cap).last = true ∧ (job cap).wrap = 0 ∧
      (job cap).dst = hd ∧ (job cap).src = hd ∧ (job cap).doneQ = 9) ∧
    ((engine7 { job := some (job 2) } (job 2)).cmpEngine 7).job = some (job 2) ∧ (job 2).dstOff + 2 ≤ whole.size * 65536 ∧
    (engine7 { job := some (job 2) } (job 2)).buffer hd = some whole ∧ whole.poisoned = false ∧
    (let s : State := { engine7 {} (job 2) with cmp := { engines := [(6, { job := some (job 2), resident := some 255 })] } }
     s.residentOn 255 = some 6 ∧ (s.cmpEngine 6).job.isSome = true) ∧
    (engine7 { job := some { job 2 with w1 := 0 } } (job 2)).buffer ({ job 2 with w1 := 0 } : CmpJob).src = none := by decide +kernel

/-- An empty job gives the empty final block, 03 00 (R250). -/
theorem test_empty_job : leadsTo (exec (.jobComplete 7 .clean) (engine7 { job := some (job 2), resident := some 255 } (job 2)))
    (fun t => Memory.read t.hrt.bytes (byteKey hd 0) == 3 && (t.cmpEngine 7).job.isNone && t.rd (R.CMP_ENG_JOBS 7) == 1) = true := by decide +kernel

theorem test_witness_completion :
    (let s := withQ (engine7 { completion := some (9, [1, 2]) } (job 2)) 9 []
     (s.cmpEngine 7).completion = some (9, [1, 2]) ∧ s.queueOn 9 = true ∧ s.queueRoom 9 3 = true ∧
     s.blw.state ∉ ([.off, .reset, .banked, .fault] : List DevState)) ∧
    (withQ (engine7 {} (job 2)) 9 [.opened 0x41 (List.replicate 29 0)]).queueRoom 9 3 = false ∧
    (∀ e, e < 8 → ((dev .run).cmpEngine e).job = none ∧ ((dev .run).cmpEngine e).waits = none) ∧ (dev .run).cmp.waiting = [] ∧ (dev .run).setInUse 7 = false ∧
    (engine7 { job := some { job 2 with w0 := (job 2).w0 ||| BitVec.ofNat 72 (2 * 2 ^ 50 + 7 * 2 ^ 46) } } (job 2)).setInUse 7 = true := by
  decide +kernel

/-! ### Hearth and the journal -/

/-- Allocation port 4 with the handle `hd` and a size. -/
def port4 (s : State) (size : Nat) : State := (flds s [(R.HRT_AP_SIZE 4, F.HRT_AP_SIZE_size, size)]).wr (R.HRT_AP_HANDLE 4) hd

theorem test_witness_ports :
    (port4 (dev .run) 1).portOpen 4 ∧ (port4 (dev .run) 1).bit (R.HRT_AP_STATUS 4) F.HRT_AP_STATUS_busy = false ∧
    (flds (dev .run) [(R.HRT_AP_STATUS 4, F.HRT_AP_STATUS_busy, 1)]).bit (R.HRT_AP_STATUS 4) F.HRT_AP_STATUS_busy = true ∧
    (dev .boot).blw.state ∉ ([.ready, .armed, .run, .hold] : List DevState) ∧ (port4 (dev .run) 0).fld (R.HRT_AP_SIZE 4) F.HRT_AP_SIZE_size = 0 ∧
    (let s := flds (port4 (dev .run) 259139) [(R.HRT_CAP, F.HRT_CAP_cap, 259139)]
     let n := s.fld (R.HRT_AP_SIZE 4) F.HRT_AP_SIZE_size
     n = 259139 ∧ n ≤ s.fld R.HRT_CAP F.HRT_CAP_cap ∧ s.buffers.length < 1048576 ∧
     s.sumBuffers Buffer.size + n ≤ s.fld R.HRT_CAP F.HRT_CAP_cap + s.fld R.HRT_SPILL_FRAMES F.HRT_SPILL_FRAMES_spill_frames ∧
     s.sumBuffers (fun b => if b.pinned then b.size else 0) ≤ s.fld R.HRT_CAP F.HRT_CAP_cap - 1024 ∧
     s.fld R.HRT_CAP F.HRT_CAP_cap - 1024 < s.sumBuffers (fun b => if b.pinned then b.size else 0) + n) ∧
    (let s := buf1 (port4 (dev .run) 258115) { size := 1 }
     s.sumBuffers (fun b => if b.pinned then b.size else 0) + 258115 ≤ s.fld R.HRT_CAP F.HRT_CAP_cap - 1024 ∧
     s.sumBuffers Buffer.residentCount + 258115 ≤ s.fld R.HRT_CAP F.HRT_CAP_cap) ∧
    (let s := buf1 (port4 (dev .run) 1) { size := 259139, base := .resident true true none }
     s.sumBuffers (fun b => if b.pinned then b.size else 0) + 1 ≤ s.fld R.HRT_CAP F.HRT_CAP_cap - 1024 ∧
     s.fld R.HRT_CAP F.HRT_CAP_cap < s.sumBuffers Buffer.residentCount + 1) ∧
    (let s := buf1 (port4 (dev .run) 1) { size := 259139 }
     s.fld R.HRT_CAP F.HRT_CAP_cap + s.fld R.HRT_SPILL_FRAMES F.HRT_SPILL_FRAMES_spill_frames < s.sumBuffers Buffer.size + 1) ∧
    (port4 (dev .run) 1).buffer hd = none ∧ (buf1 (port4 (dev .run) 1) whole).buffer hd = some whole ∧ whole.kind = .ordinary ∧
    whole.pinned = true ∧ (buf1 (port4 (dev .run) 1) { whole with kind := .ring }).buffer hd = some { whole with kind := .ring } := by
  unfold State.portOpen State.hostOpen; decide +kernel

/-- A pageable buffer with one frame in a spill slot; pins with room and without. -/
def spilled : Buffer := { size := 1, frames := [(0, .spilled 3)] }
theorem test_witness_pins :
    (let s := buf1 (port4 (dev .run) 1) spilled
     s.buffer hd = some spilled ∧ spilled.pinned = false ∧ s.hearthBounds 0 spilled.size = true ∧
     (spilled.frames.filter fun q => q.2.isSpilled) = [(0, .spilled 3)]) ∧
    (flds (dev .run) [(R.HRT_CAP, F.HRT_CAP_cap, 1024)]).hearthBounds 0 1 = false ∧
    (let b : Buffer := { size := 1 }
     let s := buf1 (port4 (dev .run) 1) b
     s.buffer hd = some b ∧ b.pinned = false ∧ s.hearthBounds 0 1 = true ∧ (b.frames.filter fun q => q.2.isSpilled) = [] ∧
     (s.setBuffer hd b.backAll).hearthSync.framesOwed = false) ∧
    (let b : Buffer := { size := 1 }
     let s := buf1 (port4 (dev .run) 1) b
     let s : State := { s with hrt := { s.hrt with slots := s.hrt.slots ++ [(9, { gen := 1, buf := some { size := 259139, base := .resident true true none } })] } }
     let s := flds s [(R.HRT_SPILL_FRAMES, F.HRT_SPILL_FRAMES_spill_frames, 1)]
     s.buffer hd = some b ∧ s.hearthBounds 0 1 = true ∧ (s.setBuffer hd b.backAll).hearthSync.framesOwed = true) ∧
    (∀ b ∈ ([{ size := 1, kind := .crop }, { size := 1 }] : List Buffer), b.kind ≠ .ring ∧ (b.kind = .crop → b.pinned = false) ∧ b.held = false) := by
  decide +kernel

theorem test_witness_bulk_port :
    (let s := (buf1 (dev .run) whole).wr R.HST_BP_HANDLE hd
     s.hostOpen ∧ s.hst.bulkWait = [] ∧ s.blw.state ≠ .fault ∧ s.bit R.HST_BP_CFG F.HST_BP_CFG_stream = false ∧
     s.grantsRead (s.rd R.HST_BP_HANDLE) whole (s.hst.bpBase + (65528 : BitVec 24).toNat) 8 ∧
     s.grantsWrite (s.rd R.HST_BP_HANDLE) whole (s.hst.bpBase + (65528 : BitVec 24).toNat) 8) ∧
    (let b : Buffer := { size := 1 }
     let s := flds ((buf1 (dev .run) b).wr R.HST_BP_HANDLE hd) [(R.HRT_FREE, F.HRT_FREE_free, 0)]
     s.reaches (s.rd R.HST_BP_HANDLE) b (s.hst.bpBase + (65528 : BitVec 24).toNat) 8 ∧ b.held = false ∧ b.pinned = false ∧
     s.fld R.HRT_FREE F.HRT_FREE_free < ((framesOf 65528 8).filter fun i => !(b.frame i).isResident).length) ∧
    ({ dev .run with hst := { bulkWait := [.bulkRead 0 1 .clean] } } : State).hst.bulkWait ≠ [] ∧
    (let s := (buf1 (dev .run) spilled).wr R.HST_BP_HANDLE hd
     s.buffer (s.rd R.HST_BP_HANDLE) = some spilled ∧ 0 ∈ framesOf (s.hst.bpBase + (65528 : BitVec 24).toNat) 8 ∧ spilled.frame 0 = .spilled 3 ∧
     s.hbmBusy = false) ∧
    (dev .run).buffer ((dev .run).rd R.HST_BP_HANDLE) = none ∧
    ((buf1 (dev .run) { whole with held := true }).wr R.HST_BP_HANDLE hd).buffer hd = some { whole with held := true } := by
  unfold State.hostOpen State.grantsRead State.grantsWrite State.reaches; decide +kernel

/-- R259, R327: two completions, of 512 and 88 bytes, and the device in FAULT. -/
theorem test_metadata_failure_enters_fault :
    leadsTo (exec (.bar2Read 0 600 .clean true) { dev .run with jnl := { (dev .run).jnl with enabled := false } }) (fun t =>
      t.blw.state == .fault && t.blw.faultCause == 2 &&
        (t.out.filterMap fun | .bulkData q e => some (q.length, e) | _ => none) == [(88, false), (512, false)]) = true := by
  decide +kernel

theorem test_witness_paging :
    (∀ f ∈ ([.resident false true (some 3), .resident false true none, .resident true true none] : List FrameState),
      let b : Buffer := { size := 1, frames := [(0, f)] }
      let s := flds (buf1 (dev .run) b) [(R.HRT_SPILL_FRAMES, F.HRT_SPILL_FRAMES_spill_frames, 1)]
      let s : State := { s with hrt := { s.hrt with pagingOut := true } }
      s.buffer hd = some b ∧ b.pinned = false ∧ s.mayPageOut = true ∧ s.hrt.retiring = [] ∧ b.frame 0 = f ∧ (s.freeSlot).isSome = true) ∧
    (dev .run).mayPageOut = false ∧
    (let b : Buffer := { size := 2, frames := [(0, .resident false true (some 3)), (1, .resident true true none)] }
     (buf1 (dev .run) b).buffer hd = some b ∧ b.frame 1 = .resident true true none ∧ b.frame 0 = .resident false true (some 3)) ∧
    (let s := buf1 (dev .run) spilled
     let s : State := { s with hrt := { s.hrt with pageIns := [(hd.toNat, 0)] } }
     s.buffer hd = some spilled ∧ spilled.frame 0 = .spilled 3 ∧ (hd.toNat, 0) ∈ s.hrt.pageIns.take 16 ∧ s.hbmBusy = false ∧
     s.framesFree 1 = true ∧ (flds s [(R.HRT_FREE, F.HRT_FREE_free, 0)]).framesFree 1 = false) ∧
    (let b : Buffer := { spilled with pinned := true, base := backedFrame }
     let s := buf1 (dev .run) b
     let s : State := { s with hrt := { s.hrt with pageIns := [(hd.toNat, 0)], pinWait := [(4, hd.toNat)] } }
     s.buffer hd = some b ∧ b.frame 0 = .spilled 3 ∧ b.base = backedFrame ∧ s.hrt.pinWait = [(4, hd.toNat)] ∧
     s.hrt.pageIns = [(hd.toNat, 0)]) := by decide +kernel

theorem test_witness_retirement :
    (∀ k ∈ ([.ordinary, .ring] : List BufKind),
      let b : Buffer := { whole with kind := k, slotBytes := 65536 }
      let s := flds (buf1 (dev .run) b) [(R.HRT_SPARES, F.HRT_SPARES_spares, 1)]
      let s : State := { s with hrt := { s.hrt with retiring := [(hd.toNat, 0)] } }
      s.buffer hd = some b ∧ (hd.toNat, 0) ∈ s.hrt.retiring ∧ s.hrt.heldWrites = [] ∧ 0 < b.slotBytes ∧ s.hbmBusy = false ∧
      s.fld R.HRT_SPARES F.HRT_SPARES_spares ≠ 0) ∧
    (let s := flds (buf1 (dev .run) whole) [(R.HRT_SPARES, F.HRT_SPARES_spares, 0)]
     let s : State := { s with hrt := { s.hrt with retiring := [(hd.toNat, 0)], heldWrites := [(hd.toNat, 65535, [7])] } }
     s.fld R.HRT_SPARES F.HRT_SPARES_spares = 0 ∧ s.framesFree 1 = true ∧ (flds s [(R.HRT_FREE, F.HRT_FREE_free, 0)]).framesFree 1 = false ∧
     s.buffer hd = some whole ∧ s.hrt.heldWrites = [(hd.toNat, 65535, [7])] ∧ 65535 / 65536 = 0 ∧ 65535 % 65536 + 1 ≤ 65536 ∧
     (hd.toNat, 0) ∉ s.hrt.retiring.erase (hd.toNat, 0)) ∧
    (let s : State := { dev .run with hrt := { retiring := [(hd.toNat, 0)] } }
     s.buffer hd = none ∧ (hd.toNat, 0) ∈ s.hrt.retiring) ∧
    (let s := flds (buf1 (dev .run) whole) [(R.HRT_SCRUB, F.HRT_SCRUB_scrub_min, 1)]
     s.buffer hd = some whole ∧ 0 < whole.size ∧ (whole.frame 0).isResident = true ∧ s.hbmBusy = false ∧ s.hrt.scrubbed = [] ∧ s.hrt.retiring = [] ∧
     s.fld R.HRT_SCRUB F.HRT_SCRUB_scrub_min ≠ 0) ∧
    (flds (dev .run) [(R.HRT_SCRUB, F.HRT_SCRUB_scrub_min, 0)]).fld R.HRT_SCRUB F.HRT_SCRUB_scrub_min = 0 := by decide +kernel

/-- The journal with one item in the backlog: with a spare, without, and at the last usable block. -/
theorem test_witness_journal :
    (∀ j ∈ ([{ backlog := [.serial 5] }, { backlog := [.serial 5], spares := 0 }, { backlog := [.serial 5], spares := 0, usable := 1025 },
        { backlog := [.serial 5], spares := 0, usable := 1024 }] : List Journal),
      let s : State := { dev .run with jnl := j }
      s.jnl.enabled = true ∧ s.blw.state ∉ ([.off, .reset] : List DevState) ∧ s.jnl.backlog = [.serial 5] ∧ s.jnl.waiting = []) ∧
    (dev .run).checkpointDue = false ∧ ({ dev .run with ticks := 125000 } : State).checkpointDue = true ∧
    (∀ q, q < 64 → (dev .run).ackSeen q = (dev .run).rd (R.HST_Q_ACK q)) ∧
    (let s := (dev .run).wr (R.HST_Q_ACK 63) 1
     s.ackSeen 63 ≠ s.rd (R.HST_Q_ACK 63) ∧ s.jnl.enabled = true ∧ s.jnl.waiting = [] ∧
     ∀ p, p < 64 → p ≠ 63 → s.ackSeen p = s.rd (R.HST_Q_ACK p)) := by decide +kernel

/-- An empty backlog has room for an item of any size that fits it. -/
theorem test_witness_journal_room : ((dev .run).wr (R.HST_Q_ACK 63) 1).jnl.room = true := by
  have h := Config.journalEntryBytes.isLt
  exact decide_eq_true (show (0 + 1) * (Config.journalEntryBytes.val + 1) ≤ 65536 by omega)

/-- A worn block without a spare costs capacity: 64 × (1,025 − 1 − 512) = 32,768 (R288, R289). -/
theorem test_journal_wears : leadsTo (exec (.journalWrite 1 .worn) { dev .run with jnl := { backlog := [.serial 5], spares := 0, usable := 1025 } })
    (fun t => t.jnl.usable == 1024 && t.fld R.TNG_CAP F.TNG_CAP_capacity == 32768) = true := by decide +kernel

/-! ### The machine -/

theorem test_witness_front_command :
    ({ dev .run with pending := [.ackCheckpoint] } : State).pending = .ackCheckpoint :: [] ∧ (dev .run).pending = [] ∧
    State.reset.blw.porAsserted = true ∧ State.reset.pending = [] ∧ (dev .run).blw.state ≠ .off ∧ (dev .run).blw.porAsserted = false ∧
    (dev .reset).blw.state = .reset ∧ (dev .reset).coolEnough = true := by decide +kernel

theorem test_witness_canonical : State.reset.canonical = true ∧ step State.reset = .next State.reset :=
  ⟨by decide +kernel, rfl⟩

/-- A tick in RESET, out of POR_N and PERST_N, begins BOOT (R394). -/
theorem test_tick_boots : leadsTo (step (dev .reset)) (fun t => t.blw.state == .boot && t.ticks == 1) = true := by decide +kernel


/-! ### Clauses of the statements on cores, registers, boot, host commands and rings -/

theorem test_witness_bulk_clauses :
    let s := buf1 (core 1 bulkCore) whole
    s.grantsRead hd whole (9 * 7280) 9 ∧ s.grantsWrite hd whole (9 * 7280) 9 ∧
    whole.size * 65536 < 9 * (((core 1 { bulkCore with g := [(1, hd.setWidth 64), (2, 7281)] }).core 1).getG (fb (rrr 39 1 2 0))).toNat + 9 ∧
    (let w := BitVec.ofNat 24 (15 * 2 ^ 20 + 2 ^ 19 + 0x1083)
     s.issues 1 0x76 w ∧ w.getLsbD 18 = false ∧ w.getLsbD 19 = true) ∧
    (BitVec.ofNat 24 (15 * 2 ^ 20 + 0x1083)).getLsbD 19 = false := by
  unfold State.grantsRead State.grantsWrite State.reaches State.issues; decide +kernel

theorem test_witness_service_of_a_halted_core :
    let s := { dev .ready with wck := { cores := [(1, { busy 0 0 with run := .halted, inService := true })], svc := [1] } }
    s.wck.svc.head? = some (1 : Fin 4) ∧ (s.core 1).run = .halted ∧ ((calling .ready 0 0 0 0 []).core 1).run ≠ .halted := by decide +kernel

/-- The last register of every kind that snapshots, or that a read clears. -/
theorem test_witness_read_forms :
    (∀ e ∈ (dev .run).loRegisters, 0 < e.2.2.1 ∧ (BitVec.ofNat 26 (e.1 + e.2.1 * (e.2.2.1 - 1))).toNat = e.1 + e.2.1 * (e.2.2.1 - 1)) ∧
    (∀ e ∈ readClear, 0 < e.2.2.1 ∧ (BitVec.ofNat 26 (e.1 + e.2.1 * (e.2.2.1 - 1))).toNat = e.1 + e.2.1 * (e.2.2.1 - 1)) ∧
    (BitVec.ofNat 26 (R.ENC_TRG_NEXT_LO 15)).toNat = R.ENC_TRG_NEXT_LO 15 ∧ (BitVec.ofNat 26 (R.ENC_TRG_NEXT_HI 15)).toNat = R.ENC_TRG_NEXT_HI 15 ∧
    (({ dev .run with pos := { trg := [(15, { snap := some 5 })] } } : State).trig 15).snap = some 5 ∧
    (BitVec.ofNat 26 R.HRT_FREE_LW).toNat = R.HRT_FREE_LW ∧ (dev .run).coresStopped = false ∧
    (∃ r, regInfo R.TNG_CFG = some r ∧ fieldsApart r.fields) ∧ shownPlain R.TNG_CFG := by
  refine ⟨by decide +kernel, by decide +kernel, by decide, by decide, by decide +kernel, by decide, by decide +kernel,
    ⟨_, rfl, by unfold fieldsApart; decide +kernel⟩, by unfold shownPlain; decide +kernel⟩

/-- A counter read takes its HI part along (R6). -/
theorem test_next_is_snapped : leadsTo (exec (.snapshotRead .host (BitVec.ofNat 26 (R.ENC_TRG_NEXT_LO 15)))
    { dev .run with pos := { trg := [(15, { next := 0x5_0000_0007 })] } })
    (fun t => t.out == [.readData 7] && (t.trig 15).snap == some 5) = true := by decide +kernel

/-- A pushed image with its command; flash without a header under host push; the journal after a fault reset. -/
theorem test_witness_boot_clauses :
    (boot 0).imageFails (image 0 (.rejected 6)) 6 ∧
    ({ boot 0 with sec := { fuses := { fwSvnMin := 1 } } } : State).imageFails (image 0 .accepted) 4 ∧
    (boot 0).imageFails { image 0 .accepted with header := false } 1 ∧ (boot 0).blw.bootSel ≠ 2 ∧
    ({ boot 0 with blw := { (boot 0).blw with bootSel := 2 } } : State).blw.bootSel = 2 ∧ (boot 1).mayOpen 0 ∧ (boot 1).mayOpen 1 ∧
    (let s := withQ { boot 0 with blw := { (boot 0).blw with pushing := true }, hst := { cmd := some { opcode := 3, seq := 7, args := [] } } } 1 []
     s.blw.state = .boot ∧ s.blw.firmware = false ∧ s.blw.pushing = true ∧ s.hst.cmd = some { opcode := 3, seq := 7, args := [] } ∧
     s.queueOn 1 = true ∧ slotsLevel (s.queue 1).slots + 3 ≤ s.queueDepth 1) ∧
    (let s := { boot 0 with blw := { (boot 0).blw with firmware := true, wasFaultReset := true } }
     s.blw.wasFaultReset = true ∧ s.jnl.enabled = true ∧ (s.core 0).run ≠ .halted ∧ s.mayOpen 0 ∧ s.mayOpen 1) := by
  unfold State.imageFails State.mayOpen; decide +kernel

theorem test_witness_hearth_command_clauses :
    (let s := cmd (dev .ready) 0x021 [1]
     s.sumBuffers Buffer.residentCount + 1 ≤ s.fld R.HRT_CAP F.HRT_CAP_cap) ∧
    (let s := buf1 (cmd (dev .ready) 0x021 [1]) { size := 259139, base := .resident true true none }
     s.apFree ∧ s.hearthBounds 1 1 = false ∧ (flds s [(R.HRT_SPILL_FRAMES, F.HRT_SPILL_FRAMES_spill_frames, 1)]).hearthBounds 1 1 = true ∧
     s.fld R.HRT_CAP F.HRT_CAP_cap < s.sumBuffers Buffer.residentCount + 1) ∧
    (flds (dev .ready) [(R.HRT_AP_STATUS 0, F.HRT_AP_STATUS_busy, 1)]).bit (R.HRT_AP_STATUS 0) F.HRT_AP_STATUS_busy = true ∧
    (cmd (dev .ready) 0x022 [hdArg]).buffer (hdArg.setWidth 32) = none ∧
    (cmd (dev .ready) 0x022 [hdArg]).bit (R.HRT_AP_STATUS 0) F.HRT_AP_STATUS_busy = false ∧
    (let b : Buffer := { size := 1 }
     let s := buf1 (cmd (dev .ready) 0x023 [hdArg]) b
     s.apFree ∧ s.buffer (hdArg.setWidth 32) = some b ∧ b.kind = .ordinary ∧ b.held = false ∧ b.pinned = false ∧
     s.hearthBounds 0 b.size = true ∧ b.frames = [] ∧ (s.setBuffer (hdArg.setWidth 32) b.backAll).framesOwed = false ∧
     (flds s [(R.HRT_CAP, F.HRT_CAP_cap, 1024)]).hearthBounds 0 b.size = false) ∧
    (let c : HostCmd := { opcode := 0x040, seq := 0, args := [0, 0, 0, 0, hdArg] }
     let s := { buf1 (dev .ready) whole with sec := { jobs := [.attest] }, hst := { cmd := some c } }
     s.grantsWrite ((c.args.getD 4 0).setWidth 32) whole 0 50208 ∧ whole.poisoned = false) := by
  unfold State.apFree State.grantsWrite State.reaches; decide +kernel

theorem test_witness_load_clauses :
    (let s := { cmd (dev .ready) 0x010 [hdArg] with sec := { tap := .extest } }
     s.ballsDriven = true ∧ s.blw.state = .ready ∧ s.commandWaits 0x010 (cmdWord 0x010 (2 ^ 40 - 1)) [hdArg] []) ∧
    (flds (dev .ready) [(R.HRT_CAP, F.HRT_CAP_cap, 1024)]).hearthBounds 0 1 = false ∧ (dev .ready).hearthBounds 0 1 = true ∧
    (loading .ready { step := 6 }).framesOwed = false ∧
    (let s := { cmd (dev .ready) 0x016 [] with sec := { tap := .highz } }
     s.commandWaits 0x016 (cmdWord 0x016 (2 ^ 40 - 1)) [] [] ∧ s.blw.state = .ready ∧ s.ballsDriven = true) :=
  ⟨⟨by decide +kernel, by decide +kernel, commandWaits_of _ _ _ (by decide +kernel)⟩, by decide +kernel, by decide +kernel, by decide +kernel,
    ⟨commandWaits_of _ _ _ (by decide +kernel), by decide +kernel, by decide +kernel⟩⟩

theorem test_witness_ring_clauses :
    (let s := { ring 63 2 0 1 with hst := { items := [(63, [⟨hd, 0, 4⟩])] } }
     s.hbmBusy = false ∧ s.hrt.retiring = []) ∧
    (let s := buf1 (ring 63 3 0 1) whole
     s.grantsRead hd whole 65532 4 ∧ s.grantsWrite hd whole 65532 4) ∧
    (let s := withQ (flds (ring 63 1 2 4) [(R.HST_RING_CFG 63, F.HST_RING_CFG_dense, 1)]) 2 [.closed 0x41 [0, 5]]
     s.ringServes 63 1 ∧ s.bit (R.HST_RING_CFG 63) F.HST_RING_CFG_dense = true ∧ (s.queue 2).slots = [.closed 0x41 [0, 5]] ∧
     denseOk [5] = false ∧ denseOk [0x1000000000000000] = true) ∧
    (let s := withQ (ring 63 1 2 4) 2 [.void 7]
     s.ringServes 63 1 ∧ 0 < s.ringEntries 63 ∧ (s.queue 2).slots = [.void 7]) ∧ (dev .run).evt.functionMask = false := by
  unfold State.ringServes State.grantsRead State.grantsWrite State.reaches; decide +kernel


/-! ### Clauses at their boundaries: motion, links, Quench -/

theorem test_witness_quench_datagram_alone :
    let f : PlantFrame := ⟨true, true, 7, none, 0, 0, 47010, [0x4B, 0x1F, 0x01, 0x02] ++ List.replicate 32 0⟩
    (ptp {}).isQuenchDatagram 1 f = true ∧ (ptp {}).bit R.TIM_CFG F.TIM_CFG_quench_en = false := by decide +kernel

/-- A mark that is LATE keeps its state in a Quench, a SENT one waits again (R224, R230). -/
theorem test_quench_keeps_late : leadsTo (exec (.quenchNAssert true) { dev .run with tng := { marks := [(0, ⟨0, 0, 0⟩, .late), (1, ⟨0, 0, 0⟩, .sent 0)] } })
    (fun t => t.tng.marks == [(0, ⟨0, 0, 0⟩, .late), (1, ⟨0, 0, 0⟩, .waiting)] && t.tng.byQuench) = true := by decide +kernel

theorem test_witness_levels :
    (dev .run).encCounts 3 = false ∧ (enc3 {} 0 [(R.ENC_CFG 3, F.ENC_CFG_mode, 1)]).fld (R.ENC_CFG 3) F.ENC_CFG_mode ≠ 0 ∧
    (dev .run).blw.porAsserted = false ∧ (dev .run).blw.state ≠ .off ∧
    ((enc3 { z := true } 0 []).enc 3).z = true ∧ ((enc3 {} 0 []).enc 3).z ≠ true ∧
    false = (enc3 { z := true } 0 []).bit (R.ENC_CFG 3) F.ENC_CFG_z_active_low ∧
    true ≠ (enc3 {} 0 []).bit (R.ENC_CFG 3) F.ENC_CFG_z_active_low ∧ (enc3 { armed := true } 0 []).master ≠ some 3 ∧
    (3 : Reg32).getLsbD 0 = true ∧ (3 : Reg32).getLsbD 1 = true := by decide +kernel

/-- Input 3 counts teeth upward with a period of 40 quarters: a gap or an extra tooth is next. -/
def toothed (kind : Nat) (e : EncIn) (tq : Nat) : State :=
  enc3 e tq [(R.ENC_CFG 3, F.ENC_CFG_mode, 1), (R.ENC_CFG 3, F.ENC_CFG_gap_kind, kind), (R.ENC_CFG 3, F.ENC_CFG_gap_ratio, 32),
    (R.ENC_PERIOD 3, F.ENC_PERIOD_valid, 1), (R.ENC_PERIOD 3, F.ENC_PERIOD_period, 40)]

theorem test_witness_gaps :
    (∀ kind ∈ [1, 2], ∀ armed : Bool,
      let s := toothed kind { b := true, edge := some (0, 0), up := some true, armed := armed } 160
      s.encCounts 3 = true ∧ s.fld (R.ENC_CFG 3) F.ENC_CFG_mode = 1 ∧ s.fld (R.ENC_CFG 3) F.ENC_CFG_gap_kind = kind ∧
      (s.enc 3).edge = some (0, 0) ∧ s.periodValid 3 = true ∧ (true != s.bit (R.ENC_CFG 3) F.ENC_CFG_invert_dir) = true ∧
      (s.enc 3).up = some true ∧ ((s.enc 3).flipped || true != (s.enc 3).b) = false ∧ s.master ≠ some 3 ∧ (s.enc 3).armed = armed) ∧
    (toothed 3 {} 0).fld (R.ENC_CFG 3) F.ENC_CFG_gap_kind ≠ 1 ∧ (toothed 3 {} 0).fld (R.ENC_CFG 3) F.ENC_CFG_gap_kind ≠ 2 ∧
    ((toothed 1 { flipped := true } 0).enc 3).flipped = true ∧ ((toothed 1 { up := some false } 0).enc 3).up ≠ some true ∧
    (enc3 {} 0 []).periodValid 3 = false := by decide +kernel

/-- A gap of one missing tooth counts two (R53). -/
theorem test_gap_counts_its_teeth : leadsTo (exec (.pulseTrainEdge 3 true 0)
    (flds (toothed 1 { b := true, count := 10, edge := some (0, 0), up := some true, need := 0 } 90) [(R.ENC_CFG 3, F.ENC_CFG_gap_teeth, 1)]))
    (fun t => (t.enc 3).count == 12 && t.fld (R.ENC_PERIOD 3) F.ENC_PERIOD_period == 45) = true := by decide +kernel

theorem test_witness_latches_apart :
    let s := flds (latching 31 []) [(R.ENC_LAT_CFG 0, F.ENC_LAT_CFG_enable, 1), (R.ENC_LAT_CFG 0, F.ENC_LAT_CFG_source, 30)]
    s.bit (R.ENC_LAT_CFG 15) F.ENC_LAT_CFG_enable = true ∧ s.fld (R.ENC_LAT_CFG 15) F.ENC_LAT_CFG_source = 31 ∧
    ∀ i, i < 16 → i ≠ 15 → s.bit (R.ENC_LAT_CFG i) F.ENC_LAT_CFG_enable = false ∨ s.fld (R.ENC_LAT_CFG i) F.ENC_LAT_CFG_source ≠ 31 := by
  decide +kernel

theorem test_witness_trigger_clauses :
    (let s := trig15 { period := 65536 } 5 []
     s.trigRuns 15 = true ∧ s.trigAllowed 15 = true ∧ (s.trig 15).checked = false) ∧
    (flds (trig15 { period := 65536 } 5 []) [(R.ENC_TRG_CFG 15, F.ENC_TRG_CFG_fwd_negative, 1)]).trigAllowed 15 = false ∧
    (trig15 { next := 5 * 65536, period := 65536 } 5 []).trigBehind 15 0 0 = 0 ∧ (trig15 { next := 0, period := 65536 } 5 []).trigBehind 15 0 0 = 5 * 65536 ∧
    (let s := trig15 { next := 5 * 65536, period := 65536, checked := true } 5
        [(R.ENC_TRG_CFG 15, F.ENC_TRG_CFG_cxp_en, 1), (R.ENC_TRG_CFG 15, F.ENC_TRG_CFG_cxp_ports, 0x8000)]
     let s : State := { s with lan := { links := [(60, { state := .up })] } }
     s.bit (R.ENC_TRG_CFG 15) F.ENC_TRG_CFG_cxp_en = true ∧ (s.fld (R.ENC_TRG_CFG 15) F.ENC_TRG_CFG_cxp_ports).testBit 15 = true ∧
     sget (fun _ => 0) s.lan.trigMade 15 ≠ s.sampleNo 0 + 1 ∧ 60 ∈ s.portLinks 15 ∧ (s.camLink 60).state = .up ∧
     sget (fun _ => 0) s.lan.trigNow 60 = 0 ∧ sget (fun _ => 0) s.lan.trigStart 60 = 0) ∧
    (let s : State := { dev .run with pos := { trg := [(15, { period := 1 })] } }
     s.bit (R.ENC_TRG_CFG 15) F.ENC_TRG_CFG_enable = false ∧ (s.trig 15).period ≠ 0) := by decide +kernel

theorem test_witness_trigger_packets :
    (let s := { dev .run with lan := { links := [(63, { state := .up })], trigNow := [(63, 1)] }, ticks := 3 }
     (s.camLink 63).state = .up ∧ 1 + 11 ≤ 5 * s.ticks ∧ sget (fun _ => 0) s.lan.trigStart 63 = 0 ∧ sget (fun _ => 0) s.lan.trigNow 63 = 1) ∧
    (let s := { dev .run with lan := { links := [(63, { state := .up, fast := true })], trigNow := [(63, 1)], trigWait := [(63, 7)], trigStart := [(63, 5)] },
                              ticks := 4 + 30 * Config.triggerPacketCharacters }
     (s.camLink 63).state = .up ∧ 7 + 11 ≤ 5 * s.ticks ∧ sget (fun _ => 0) s.lan.trigStart 63 ≠ 0 ∧ (s.camLink 63).fast = true ∧
     sget (fun _ => 0) s.lan.trigStart 63 - 1 + Config.triggerPacketCharacters * 30 ≤ s.ticks ∧ sget (fun _ => 0) s.lan.trigWait 63 = 7) := by
  refine ⟨by decide +kernel, by decide +kernel, ?_, by decide +kernel, by decide +kernel, ?_, by decide +kernel⟩
  · show 18 ≤ 5 * (4 + 30 * Config.triggerPacketCharacters); omega
  · show 4 + Config.triggerPacketCharacters * 30 ≤ 4 + 30 * Config.triggerPacketCharacters; omega

theorem test_witness_port_bits :
    (7 : Reg32).getLsbD 0 = true ∧ (7 : Reg32).getLsbD 1 = true ∧ (7 : Reg32).getLsbD 2 = true ∧ (5 : Reg32).getLsbD 0 = true ∧
    (5 : Reg32).getLsbD 2 = true := by decide

theorem test_witness_losses :
    (dev .run).rxRate 63 = 0 ∧ (carrying 7 []).rxRate 63 ≠ 0 ∧ ¬(carrying 7 [(R.LANE_RX_STATUS 0, F.LANE_RX_STATUS_rate, 7)]).carries 0 ∧
    (carrying 7 [(R.LANE_RX_STATUS 0, F.LANE_RX_STATUS_rate, 7)]).rxRate 0 ≠ 0 ∧
    (carrying 7 [(R.LANE_RX_CFG 63, F.LANE_RX_CFG_dfe_freeze, 1)]).bit (R.LANE_RX_CFG 63) F.LANE_RX_CFG_dfe_freeze = true := by
  unfold State.carries; decide +kernel

theorem test_witness_bring_up_clauses :
    (let s := locking { state := .down, resuming := true, conns := 4 } 8 (7 <<< 60)
     s.rxRate 63 = 8 ∧ (s.camLink 60).state = .down ∧ (s.camLink 60).resuming = true ∧ (s.camLink 60).sent = none ∧ s.othersLocked 60 63) ∧
    (let s := cam .run 60 (asked .revision { state := .config }) 0 []
     (s.camLink 60).step = .revision ∧ ∀ i, i < s.slotLanes 60 → s.laneLocked (60 + i) = false) ∧
    (let s : State := { cam .run 60 {} 0 [] with lan := { links := [(60, asked (.deviceConnectionId 0) { state := .config })], locked := 8 <<< 60 } }
     s.bringing 60 = true ∧ (s.camLink 60).step = .deviceConnectionId 0 ∧ 3 < s.slotLanes 60 ∧ s.laneLocked (60 + 3) = true ∧
     ∀ i, i < 3 → 0 < i → s.laneLocked (60 + i) = false) ∧
    (let s := cam .run 60 (asked .streamPacketSizeMax { state := .config, camRates := [8, 0], camConns := [4], found := 15 }) 0
       [(R.LANE_PORT_CFG 15, F.LANE_PORT_CFG_max_rate, 7)]
     s.wimenChosen 60 = false ∧ ∀ q ∈ (s.camLink 60).camRates, q = 0 ∨ s.fld (R.LANE_PORT_CFG 15) F.LANE_PORT_CFG_max_rate < q) ∧
    (let s := cam .run 60 (asked .verify { state := .retune, rate := 8, switched := true, second := true }) 0 []
     s.bringing 60 = true ∧ (s.camLink 60).state = .retune ∧ (s.camLink 60).rate = 8 ∧ (s.camLink 60).switched = true) ∧
    (let s := cam .run 60 (asked .standard { state := .discover, second := true }) 1249999 []
     s.bringing 60 = true ∧ (s.camLink 60).state = .discover ∧ (s.camLink 60).second = true ∧ (s.camLink 60).sent = some 0 ∧ s.ticks - 0 < 1250000) := by
  unfold State.othersLocked; refine ⟨by decide +kernel, by decide +kernel, ?_, by decide +kernel, by decide +kernel, by decide +kernel⟩
  refine ⟨by decide +kernel, by decide +kernel, by decide +kernel, by decide +kernel, ?_⟩; decide +kernel

theorem test_witness_mailbox_twice :
    let s := mailing (some ⟨0, true, 0x1000, 5, some 0, false⟩) { state := .up } 1250000
    s.bringing 60 = false ∧ s.mail 15 = some ⟨0, true, 0x1000, 5, some 0, false⟩ ∧ 1250000 ≤ s.ticks - 0 := by decide +kernel

end Sys2Proof.Tests
end

section
/-! SUPPORT. Halts: a halted core stays halted through everything that a halt sets off, the entry to FAULT among it (R25, R311). -/

namespace Sys2Proof.Machine

/-! ### Operations that leave the Wick block alone -/

/-- A counted fold of changes that leave the Wick block alone. -/
theorem State.upTo_wck {n : Nat} {f : Nat → State → State} (hf : ∀ i s, (f i s).wck = s.wck) (s : State) :
    (upTo n f s).wck = s.wck :=
  List.foldlRecOn (motive := fun t : State => t.wck = s.wck) _ _ rfl fun t h i _ => (hf i t).trans h

@[simp] theorem State.flagRaise_wck (s : State) (flags b c src : Nat) : (s.flagRaise flags b c src).wck = s.wck := by
  unfold State.flagRaise; simp
@[simp] theorem State.wckFlag_wck (s : State) (b : Nat) : (s.wckFlag b).wck = s.wck := State.flagRaise_wck ..
@[simp] theorem State.portFlag_wck (s : State) (p b : Nat) : (s.portFlag p b).wck = s.wck := State.flagRaise_wck ..
@[simp] theorem State.intFlag_wck (s : State) (c b : Nat) : (s.intFlag c b).wck = s.wck := by
  unfold State.intFlag; split <;> simp
@[simp] theorem State.embFlag_wck (s : State) (b : Nat) : (s.embFlag b).wck = s.wck := by
  unfold State.embFlag
  split <;> simp only [State.raise_wck, State.setFlag_wck]

@[simp] theorem State.journal_wck (s : State) (it : JournalItem) : (s.journal it).wck = s.wck := by
  unfold State.journal
  dsimp only
  split
  · rfl
  · split
    · rfl
    · exact State.embFlag_wck ..

@[simp] theorem State.highWater_wck (s : State) (k : Nat) (f : Field) (v : Nat) : (s.highWater k f v).wck = s.wck := by
  unfold State.highWater; split <;> rfl

@[simp] theorem State.syncLane_wck (s : State) (L : Nat) : (s.syncLane L).wck = s.wck := by
  unfold State.syncLane
  dsimp only
  split <;> simp

@[simp] theorem State.setIctx_wck (s : State) (c : Nat) (x : Ctx) : (s.setIctx c x).wck = s.wck := rfl

/-- The end of a line writes intake's state, flags and counters (R97 to R106). -/
@[simp] theorem State.endLine_wck (s : State) (c : Nat) : (s.endLine c).wck = s.wck := by
  unfold State.endLine
  dsimp only
  split
  · rfl
  · simp only [State.syncLane_wck, apply_ite State.wck, State.setInt, State.intFlag_wck, State.bump_wck, State.setIctx_wck,
      ite_self]

@[simp] theorem State.endStreams_wck (s : State) (port link : Nat) : (s.endStreams port link).wck = s.wck :=
  State.upTo_wck (fun c t => by
    simp only [apply_ite State.wck, State.setIctx_wck, State.endLine_wck, ite_self]) _

@[simp] theorem State.leaveUp_wck (s : State) (l : Nat) : (s.leaveUp l).wck = s.wck := by
  unfold State.leaveUp
  split
  · rw [State.portFlag_wck, State.endStreams_wck]; rfl
  · rfl

@[simp] theorem State.putLink_wck (s : State) (l : Nat) (x : Link) : (s.putLink l x).wck = s.wck := rfl
@[simp] theorem State.unlockLane_wck (s : State) (lane : Nat) : (s.unlockLane lane).wck = s.wck := rfl
@[simp] theorem State.sampleCdr_wck (s : State) (lane : Nat) : (s.sampleCdr lane).wck = s.wck := rfl

@[simp] theorem State.setRxRate_wck (s : State) (l rate : Nat) : (s.setRxRate l rate).wck = s.wck :=
  State.upTo_wck (fun c t => by
    simp only [State.setFld_wck, apply_ite State.wck, State.sampleCdr_wck, State.unlockLane_wck, ite_self]) _

@[simp] theorem State.ostAllIdle_wck (s : State) : s.ostAllIdle.wck = s.wck := by
  unfold State.ostAllIdle; exact State.upTo_wck (f := fun u s => s.ostIdle u) (fun _ _ => rfl) s
@[simp] theorem State.dropPixelPath_wck (s : State) : s.dropPixelPath.wck = s.wck := by
  unfold State.dropPixelPath State.setBlm State.setAnv State.setSti State.setCor State.setInt; rfl
@[simp] theorem State.cancelTemper_wck (s : State) : s.cancelTemper.wck = s.wck := rfl

/-! ### Halted cores -/

/-- Every core that is halted in `s` is halted in `t`, with the same cause. -/
def HaltsKept (s t : State) : Prop :=
  ∀ m, (s.core m).run = .halted → (t.core m).run = .halted ∧ (t.core m).haltCause = (s.core m).haltCause

theorem HaltsKept.refl (s : State) : HaltsKept s s := fun _ h => ⟨h, rfl⟩

theorem HaltsKept.trans {s t u : State} (h : HaltsKept s t) (h' : HaltsKept t u) : HaltsKept s u := fun m hm =>
  ⟨(h' m (h m hm).1).1, ((h' m (h m hm).1).2).trans (h m hm).2⟩

theorem HaltsKept.ite {s t u : State} {p : Prop} [Decidable p] (h : p → HaltsKept s t) (h' : ¬ p → HaltsKept s u) :
    HaltsKept s (if p then t else u) := by
  split
  · exact h ‹_›
  · exact h' ‹_›

theorem State.core_congr {s t : State} (h : t.wck = s.wck) (m : Nat) : t.core m = s.core m := by
  unfold State.core; rw [h]

theorem HaltsKept.of_wck {s t : State} (h : t.wck = s.wck) : HaltsKept s t := fun m hm => by
  rw [State.core_congr h]; exact ⟨hm, rfl⟩

/-- A counted fold of changes that keep the halts. -/
theorem HaltsKept.upTo {n : Nat} {f : Nat → State → State} (hf : ∀ i s, HaltsKept s (f i s)) (s : State) :
    HaltsKept s (upTo n f s) :=
  List.foldlRecOn (motive := HaltsKept s) _ _ (HaltsKept.refl s) fun t h i _ => h.trans (hf i t)

/-- A core replaced by one that is halted wherever it was, for the same cause. -/
theorem HaltsKept.setCore {s : State} {n : Nat} {c : WickCore}
    (h : (s.core n).run = .halted → c.run = .halted ∧ c.haltCause = (s.core n).haltCause) : HaltsKept s (s.setCore n c) :=
  fun m hm => by
    by_cases e : m = n
    · subst m; rw [State.core_setCore_same]; exact h hm
    · rw [State.core_setCore_other e]; exact ⟨hm, rfl⟩

/-- A block command that ends changes tags alone (R307). -/
theorem State.blockDone_haltsKept (s : State) (target index result : Nat) : HaltsKept s (s.blockDone target index result) := by
  unfold State.blockDone
  refine HaltsKept.upTo (fun n s => HaltsKept.upTo (fun t s => ?_) s) s
  exact HaltsKept.ite (fun _ => HaltsKept.setCore fun h => ⟨h, rfl⟩) fun _ => HaltsKept.refl s

theorem State.mailLink_haltsKept (s : State) (l : Nat) : HaltsKept s (s.mailLink l) := by
  unfold State.mailLink State.endMail
  split
  · refine HaltsKept.ite (fun _ => HaltsKept.refl s) fun _ => HaltsKept.ite (fun _ => ?_) fun _ => HaltsKept.of_wck rfl
    refine HaltsKept.trans ?_ (State.blockDone_haltsKept _ 10 (l / 4) 4)
    exact HaltsKept.of_wck rfl
  · exact HaltsKept.refl s

theorem State.linkDown_haltsKept (s : State) (l : Nat) : HaltsKept s (s.linkDown l) := by
  unfold State.linkDown
  exact HaltsKept.trans (HaltsKept.of_wck (by simp)) (State.mailLink_haltsKept _ l)

/-- The data path's stop ends mailbox transactions, and halts and resumes no core (R77, R402). -/
theorem State.stopDataPath_haltsKept (s : State) : HaltsKept s s.stopDataPath := by
  unfold State.stopDataPath State.allLinksDown
  refine HaltsKept.trans (HaltsKept.upTo (fun l s => ?_) s)
    (HaltsKept.of_wck ((State.dropPixelPath_wck _).trans (State.ostAllIdle_wck _)))
  exact HaltsKept.ite (fun _ => HaltsKept.refl s) fun _ => State.linkDown_haltsKept s l

theorem State.freeTags_haltsKept (s : State) (n : Nat) : HaltsKept s (s.freeTags n) := by
  unfold State.freeTags
  exact HaltsKept.setCore fun h => ⟨h, rfl⟩

theorem State.dropService_haltsKept (s : State) (n : Nat) : HaltsKept s (s.dropService n) := by
  unfold State.dropService
  dsimp only
  split
  · exact HaltsKept.trans (HaltsKept.of_wck rfl) (HaltsKept.setCore fun h => ⟨h, rfl⟩)
  · exact HaltsKept.trans (HaltsKept.of_wck rfl) (HaltsKept.setCore fun h => ⟨h, rfl⟩)

theorem State.wckFlag_haltsKept (s : State) (b : Nat) : HaltsKept s (s.wckFlag b) := HaltsKept.of_wck (State.wckFlag_wck s b)

theorem State.stopCore_haltsKept (s : State) (n : Nat) : HaltsKept s (s.stopCore n) := by
  unfold State.stopCore
  split
  case h_1 => exact HaltsKept.refl s
  case h_2 => exact HaltsKept.refl s
  case h_3 _ h =>
    have stopped : HaltsKept s (s.setCore n { s.core n with run := .halted, stalled := none }) :=
      HaltsKept.setCore fun h' => ⟨rfl, rfl⟩
    exact (stopped.trans (State.dropService_haltsKept _ n)).trans (State.wckFlag_haltsKept _ n)

theorem State.enterFault_haltsKept (s : State) (cause : Nat) : HaltsKept s (s.enterFault cause) := by
  unfold State.enterFault
  refine HaltsKept.ite (fun _ => HaltsKept.refl s) fun _ => ?_
  refine HaltsKept.trans ?_ (HaltsKept.of_wck (State.journal_wck ..))
  refine HaltsKept.trans ?_ (State.stopDataPath_haltsKept _)
  refine HaltsKept.trans ?_ (HaltsKept.of_wck (State.cancelTemper_wck _))
  refine HaltsKept.trans ?_ (State.stopCore_haltsKept _ 3)
  refine HaltsKept.trans ?_ (State.stopCore_haltsKept _ 2)
  refine HaltsKept.trans ?_ (State.stopCore_haltsKept _ 1)
  exact HaltsKept.of_wck rfl

/-- What follows on a core's own halt keeps it halted (R308, R311). -/
theorem State.haltCore_haltsKept (s : State) (n : Nat) (cause : BitVec 8) :
    HaltsKept (s.setCore n { s.core n with run := .halted, haltCause := cause, stalled := none, entry := none })
      (s.haltCore n cause) := by
  unfold State.haltCore
  extract_lets _ halted freed flagged
  have hfreed : HaltsKept halted freed := HaltsKept.ite (fun _ => HaltsKept.refl _) fun _ =>
    (State.freeTags_haltsKept halted n).trans (State.dropService_haltsKept _ n)
  have hflagged : HaltsKept halted flagged := HaltsKept.ite (fun _ => hfreed.trans (State.wckFlag_haltsKept _ _)) fun _ => hfreed
  exact HaltsKept.ite (fun _ => (hflagged.trans (State.wckFlag_haltsKept _ _)).trans (State.enterFault_haltsKept _ 2)) fun _ =>
    HaltsKept.ite (fun _ => hflagged) fun _ => hflagged.trans (State.wckFlag_haltsKept _ _)

/-- A core that halts is halted with its cause (R311). -/
theorem State.haltCore_halted (s : State) (n : Nat) (cause : BitVec 8) :
    ((s.haltCore n cause).core n).run = .halted ∧ ((s.haltCore n cause).core n).haltCause = cause := by
  have h := State.haltCore_haltsKept s n cause n
  rw [State.core_setCore_same] at h
  exact h rfl

end Sys2Proof.Machine
end

section
/-! Wick instructions: what an illegal encoding, a fetch outside the memory, a jump and a stream register move leave (R294, R299,
R302, R303, R310), and the statements of arithmetic, branches and moves that rest on it. -/

namespace Sys2Proof.Machine

/-! ### Exceptions of an issued instruction -/

/-- An exception outside a handler, its vector entry read (R310). -/
theorem State.takeException_of_entry {s : State} {n code : Nat} {bad epc pc : BitVec 32} (hx : (s.core n).ex = false)
    (hv : s.entryWord n ((s.core n).vbase.toNat + 0x800) = some pc) :
    s.takeException n code bad epc = s.setCore n { s.core n with
      epc := epc, cause := BitVec.ofNat 8 code, badaddr := bad, ex := true, run := .running, stalled := none, entry := none,
      pc := pc } := by
  unfold State.takeException
  simp only [hx, hv, Bool.false_eq_true, ↓reduceIte]

/-- An exception whose vector entry cannot be read halts the core (R294, R310). -/
theorem State.takeException_of_no_entry {s : State} {n code : Nat} {bad epc : BitVec 32} (hx : (s.core n).ex = false)
    (hv : s.entryWord n ((s.core n).vbase.toNat + 0x800) = none) :
    ((s.takeException n code bad epc).core n).run = .halted ∧ ((s.takeException n code bad epc).core n).haltCause = 1 := by
  unfold State.takeException
  simp only [hx, hv, Bool.false_eq_true, ↓reduceIte]
  exact State.haltCore_halted ..

/-- The issue of an instruction changes no memory. -/
@[simp] theorem State.issued_entryWord (s : State) (n a : Nat) : (s.issued n).entryWord n a = s.entryWord n a := by
  have hmem : ((s.issued n).core n).mem = (s.core n).mem := by rw [State.issued_core]
  have hshared : (s.issued n).wck.shared = s.wck.shared := rfl
  unfold State.entryWord
  rw [hmem, hshared]

/-- The handler entered with the registers, the memory and everything else as the instruction found them. -/
theorem State.issued_exceptionTaken {s : State} {n code : Nat} {bad epc pc : BitVec 32}
    (hpc : s.entryWord n ((s.core n).vbase.toNat + 0x800) = some pc) :
    ExceptionTaken s ((s.issued n).setCore n { s.core n with
      epc := epc, cause := BitVec.ofNat 8 code, badaddr := bad, ex := true, run := .running, stalled := none, entry := none,
      debugStep := false, pc := pc }) n code bad epc := by
  refine ⟨?_, ?_, ?_, ?_, ?pc, ?_, ?general, ?stream, ?_, ?frame, fun m hm => ?cores, rfl⟩
  case pc => rw [State.core_setCore_same]; exact hpc
  case cores => rw [State.core_setCore_other hm, State.issued, State.core_setCore_other hm]
  all_goals rw [State.core_setCore_same]
  case general => exact fun _ => rfl
  case stream => exact fun _ => rfl
  case frame => exact ⟨rfl, rfl, rfl, rfl, rfl⟩

/-- A command that raises an exception of the core as it issued an instruction. -/
theorem Excepts.of_takeException {i : Instr} {s : State} {n : Fin 4} {code : Nat} {bad epc : BitVec 32}
    (hi : exec i s = .next ((s.issued n).takeException n code bad epc)) (hx : (s.core n).ex = false) :
    Excepts i s n code bad epc := by
  have hx' : ((s.issued n).core n).ex = false := by rw [State.issued_core]; exact hx
  have hw : (s.issued n).entryWord n (((s.issued n).core n).vbase.toNat + 0x800) =
      s.entryWord n ((s.core n).vbase.toNat + 0x800) := by rw [State.issued_entryWord, State.issued_core]
  refine ⟨fun h => ?_, fun h => ⟨_, hi, State.takeException_of_no_entry hx' (hw.trans h)⟩⟩
  obtain ⟨pc, hpc⟩ := Option.isSome_iff_exists.mp h
  refine ⟨_, hi, ?_⟩
  rw [State.takeException_of_entry hx' (hw.trans hpc), State.issued_core]
  exact State.issued_exceptionTaken hpc

/-! ### Illegal encodings and fetches outside the memory -/

theorem State.legal_false {s : State} {n : Nat} {ok : Bool} (h : ok = false) (f : State → State) : s.legal n ok f = s.wickExc n 1 := by
  simp [State.legal, h]

/-- An issued instruction that raises an exception at its own pc. -/
theorem Raises.of_wickExc {i : Instr} {s : State} {n : Fin 4} {code : Nat} {bad : BitVec 32}
    (hi : exec i s = .next ((s.issued n).wickExc n code bad)) (hx : (s.core n).ex = false) : Raises i s n code bad := by
  refine Excepts.of_takeException ?_ hx
  rw [hi, State.wickExc, State.issued_core]

/-- An instruction whose body is guarded by a check of its encoding raises 0x01 where the check fails (R299). -/
theorem Illegal.of_legal {i : Fin 4 → BitVec 24 → Instr} {op : Nat} {ok : BitVec 24 → Prop} {check : BitVec 24 → Bool}
    {body : Fin 4 → BitVec 24 → WickCore → State → State}
    (hi : ∀ n w s, exec (i n w) s = .next (s.wickRun n op w fun c s => s.legal n (check w) (body n w c)))
    (hok : ∀ w, check w = true → ok w) : Illegal i op ok := fun n w s h hx hw => by
  have hc : check w = false := Bool.eq_false_iff.mpr fun hc => hw (hok w hc)
  refine Raises.of_wickExc ?_ hx
  rw [hi, State.wickRun_issues h, State.legal_false hc]

/-- An opcode that the tables do not list raises 0x01 with any bits (R299). -/
theorem Illegal.of_reserved {op : BitVec 8} (hop : listedOpcode op.toNat = false) :
    Illegal (fun n w => .reservedOpcode n op w) op.toNat fun _ => False := fun n w s h hx _ => by
  refine Raises.of_wickExc ?_ hx
  have hi : exec (.reservedOpcode n op w) s = execReservedOpcode n op w s := rfl
  rw [hi, execReservedOpcode, hop, if_neg Bool.false_ne_true, State.wickRun_issues h]

/-- A pc outside the memory that the core may fetch from raises 0x04 there, whatever the instruction (R294, R302). -/
theorem State.wickRun_fetchFails {s : State} {n : Fin 4} {op : Nat} {w : BitVec 24} (hr : s.wickReady n op w = true)
    (hf : s.fetchable n (s.core n).pc.toNat = false) (body : WickCore → State → State) :
    s.wickRun n op w body = (s.issued n).takeException n 4 (s.core n).pc (s.core n).pc := by
  have hpc : ((s.issued n).core n).pc = (s.core n).pc := by rw [State.issued_core]
  unfold State.wickRun
  rw [if_pos hr]
  change (if (s.issued n).fetchable n ((s.issued n).core n).pc.toNat then _
    else (s.issued n).takeException n 4 ((s.issued n).core n).pc ((s.issued n).core n).pc) = _
  have hf' : (s.issued n).fetchable n (s.core n).pc.toNat = false := hf
  rw [hpc, hf', if_neg Bool.false_ne_true]

theorem FetchFails.of_wickRun {i : Fin 4 → BitVec 24 → Instr} {op : Nat} {body : Fin 4 → BitVec 24 → WickCore → State → State}
    (hi : ∀ n w s, exec (i n w) s = .next (s.wickRun n op w (body n w))) : FetchFails i op := fun n w s hr hf hx =>
  Excepts.of_takeException (by rw [hi, State.wickRun_fetchFails hr hf]) hx

/-! ### The bits of an instruction (R299) -/

theorem isG_iff {r : Nat} : isG r = true ↔ r < 32 := decide_eq_true_iff
theorem isS_iff {r : Nat} : isS r = true ↔ 32 ≤ r ∧ r < 40 := by simp only [isS, Bool.and_eq_true, decide_eq_true_eq]

/-- The two's complement value of a number's bits. -/
theorem signed_toNat {k : Nat} (x : BitVec (k + 1)) : signed (k + 1) x.toNat = x.toInt := by
  unfold signed
  rw [Nat.mod_eq_of_lt x.isLt, BitVec.toInt_eq_toNat_cond, Nat.add_sub_cancel]
  have h : x.toNat < 2 ^ k ↔ 2 * x.toNat < 2 ^ (k + 1) := by rw [Nat.pow_succ]; omega
  simp only [h]
  push_cast
  rfl

theorem insF_eq_extractLsb {hi lo : Nat} (h : lo ≤ hi) (w : BitVec 24) : insF w hi lo = (BitVec.extractLsb hi lo w).toNat := by
  rw [insF, bitsOf, BitVec.extractLsb_toNat, Nat.shiftRight_eq_div_pow, Nat.sub_add_comm h]

/-- imm12 and off12 as the statements write them. -/
theorem imm12_eq (w : BitVec 24) : imm12 w = (BitVec.extractLsb 11 0 w).toInt := by
  rw [imm12, insF_eq_extractLsb (by omega)]; exact signed_toNat (BitVec.extractLsb 11 0 w)

theorem imm18_eq (w : BitVec 24) : imm18 w = (BitVec.extractLsb 17 0 w).toInt := by
  rw [imm18, insF_eq_extractLsb (by omega)]; exact signed_toNat (BitVec.extractLsb 17 0 w)

theorem sext12_eq_immS (w : BitVec 24) : sext12 w = immS w := by rw [sext12, imm12_eq]; rfl

/-- Four times an offset, at the width of the pc (R302). -/
theorem ofInt_four_mul_toInt {k : Nat} (x : BitVec k) : BitVec.ofInt 32 (4 * x.toInt) = 4 * x.signExtend 32 := by
  rw [BitVec.ofInt_mul]; rfl

/-! ### Register arithmetic (R300) -/

theorem ArithResult.of_wickRRR {i : Fin 4 → BitVec 24 → Instr} {op : Nat} {f g : Word64 → Word64 → Word64}
    (hi : ∀ n w s, exec (i n w) s = .next (s.wickRRR n op w g)) (hfg : ∀ a b, g a b = f a b) : ArithResult i op f := by
  have hg : g = f := funext fun a => funext (hfg a)
  subst hg
  refine ⟨fun n w s h hw => ⟨_, hi n w s, State.wickRRR_step h hw g⟩, Illegal.of_legal (fun n w s => hi n w s) fun w hw => ?_⟩
  simpa only [formatR, Bool.and_eq_true, isG_iff, beq_iff_eq, and_assoc] using hw

/-- The upper half of a 128-bit product. -/
theorem extractLsb_ofInt (x : Int) : BitVec.extractLsb 127 64 (BitVec.ofInt 128 x) = BitVec.ofInt 64 (x / 2 ^ 64) := by
  apply BitVec.eq_of_toNat_eq
  rw [BitVec.extractLsb_toNat, BitVec.toNat_ofInt, BitVec.toNat_ofInt, Nat.shiftRight_eq_div_pow]
  omega

theorem mulHS_eq (a b : Word64) : mulHS a b = BitVec.extractLsb 127 64 (a.signExtend 128 * b.signExtend 128) := by
  rw [mulHS, ← extractLsb_ofInt, BitVec.ofInt_mul]; rfl

theorem mulHU_eq (a b : Word64) : mulHU a b = BitVec.extractLsb 127 64 (a.setWidth 128 * b.setWidth 128) := by
  have hu (x : Word64) : x.setWidth 128 = BitVec.ofInt 128 x.toNat := by
    rw [BitVec.ofInt_natCast, BitVec.ofNat_toNat]
  rw [hu, hu, ← BitVec.ofInt_mul, extractLsb_ofInt, mulHU, ← BitVec.ofInt_natCast]
  push_cast
  rfl

theorem quoS_eq (a b : Word64) : quoS a b = if b = 0 then BitVec.allOnes 64 else BitVec.sdiv a b := by
  have hq : BitVec.ofInt 64 (a.toInt.tdiv b.toInt) = BitVec.sdiv a b :=
    BitVec.eq_of_toInt_eq (by rw [BitVec.toInt_ofInt, BitVec.toInt_sdiv])
  rw [quoS, hq]; rfl

theorem quoU_eq (a b : Word64) : quoU a b = if b = 0 then BitVec.allOnes 64 else a / b := by
  have hq : BitVec.ofNat 64 (a.toNat / b.toNat) = a / b := by rw [← BitVec.toNat_udiv, BitVec.ofNat_toNat, BitVec.setWidth_eq]
  rw [quoU, hq]; rfl

theorem remS_eq (a b : Word64) : remS a b = if b = 0 then a else BitVec.srem a b := by
  rw [remS, ← BitVec.toInt_srem, BitVec.ofInt_toInt]

theorem remU_eq (a b : Word64) : remU a b = if b = 0 then a else a % b := by
  rw [remU, ← BitVec.toNat_umod, BitVec.ofNat_toNat, BitVec.setWidth_eq]

/-- A shift distance b[5:0]. -/
theorem extractLsb_5_0_toNat (b : Word64) : (BitVec.extractLsb 5 0 b).toNat = b.toNat % 64 := by
  rw [BitVec.extractLsb_toNat]; rfl

theorem flag64_slt (a b : Word64) : flag64 (a.slt b) = if a.toInt < b.toInt then 1 else 0 := by
  simp only [flag64, BitVec.slt_iff_toInt_lt]
theorem flag64_ult (a b : Word64) : flag64 (a.ult b) = if a.toNat < b.toNat then 1 else 0 := by
  simp only [flag64, BitVec.ult_iff_lt, BitVec.lt_def]
theorem minS_eq (a b : Word64) : minS a b = if a.toInt < b.toInt then a else b := by
  simp only [minS, BitVec.slt_iff_toInt_lt]
theorem maxS_eq (a b : Word64) : maxS a b = if a.toInt < b.toInt then b else a := by
  simp only [maxS, BitVec.slt_iff_toInt_lt]
theorem minU_eq (a b : Word64) : minU a b = if a.toNat < b.toNat then a else b := by
  simp only [minU, BitVec.ult_iff_lt, BitVec.lt_def]
theorem maxU_eq (a b : Word64) : maxU a b = if a.toNat < b.toNat then b else a := by
  simp only [maxU, BitVec.ult_iff_lt, BitVec.lt_def]

/-- Settles O1: each instruction is `wickRRR` of its function, which is the one that the statement names; an encoding that the check
refuses raises 0x01 (R299, R310; log 191 where the vector entry cannot be read). -/
theorem wickArithmeticWritesOneRegister : Obligations.WickArithmeticWritesOneRegister := by
  unfold Obligations.WickArithmeticWritesOneRegister
  refine ⟨.of_wickRRR (fun _ _ _ => rfl) fun _ _ => rfl, .of_wickRRR (fun _ _ _ => rfl) fun _ _ => rfl,
    .of_wickRRR (fun _ _ _ => rfl) fun _ _ => rfl, .of_wickRRR (fun _ _ _ => rfl) fun _ _ => rfl,
    .of_wickRRR (fun _ _ _ => rfl) fun _ _ => rfl,
    .of_wickRRR (fun _ _ _ => rfl) fun a b => ?shl, .of_wickRRR (fun _ _ _ => rfl) fun a b => ?shr,
    .of_wickRRR (fun _ _ _ => rfl) fun a b => ?shra,
    .of_wickRRR (fun _ _ _ => rfl) flag64_slt, .of_wickRRR (fun _ _ _ => rfl) flag64_ult,
    .of_wickRRR (fun _ _ _ => rfl) minS_eq, .of_wickRRR (fun _ _ _ => rfl) maxS_eq,
    .of_wickRRR (fun _ _ _ => rfl) minU_eq, .of_wickRRR (fun _ _ _ => rfl) maxU_eq,
    .of_wickRRR (fun _ _ _ => rfl) fun _ _ => rfl,
    .of_wickRRR (fun _ _ _ => rfl) mulHS_eq, .of_wickRRR (fun _ _ _ => rfl) mulHU_eq,
    .of_wickRRR (fun _ _ _ => rfl) quoS_eq, .of_wickRRR (fun _ _ _ => rfl) quoU_eq,
    .of_wickRRR (fun _ _ _ => rfl) remS_eq, .of_wickRRR (fun _ _ _ => rfl) remU_eq,
    .of_reserved rfl, .of_reserved rfl⟩
  case shl => rw [BitVec.shiftLeft_eq', extractLsb_5_0_toNat]
  case shr => rw [BitVec.ushiftRight_eq', extractLsb_5_0_toNat]
  case shra => rw [BitVec.sshiftRight_eq', extractLsb_5_0_toNat]

/-! ### Branches and calls (R302) -/

theorem BranchResult.of_wickBranch {i : Fin 4 → BitVec 24 → Instr} {op : Nat} {f g : Word64 → Word64 → Bool}
    (hi : ∀ n w s, exec (i n w) s = .next (s.wickBranch n op w g)) (hfg : ∀ a b, g a b = f a b) : BranchResult i op f := by
  have hg : g = f := funext fun a => funext (hfg a)
  subst hg
  refine ⟨fun n w s h hd ha => ⟨_, hi n w s, ?_⟩, Illegal.of_legal (fun n w s => hi n w s) fun w hw => ?_,
    FetchFails.of_wickRun fun n w s => hi n w s⟩
  · have hstep := State.wickBranch_step h hd ha g
    rw [imm12_eq, ofInt_four_mul_toInt] at hstep
    exact hstep
  · simpa only [Bool.and_eq_true, isG_iff] using hw

/-- A write to g d, on a core and on a view of it that agree on the general registers. -/
theorem WickCore.getG_setG_view {c : WickCore} {v : CoreView} (h : ∀ r, c.getG r = v.general r) (d : Nat) (x : Word64) (r : Nat) :
    (c.setG d x).getG r = (v.setG d x).general r := by
  rw [WickCore.getG_setG]
  show (if r = d ∧ d ≠ 0 then x else c.getG r) = if r = d ∧ r ≠ 0 then x else v.general r
  have hd : r = d ∧ d ≠ 0 ↔ r = d ∧ r ≠ 0 := and_congr_right fun e => by rw [e]
  simp only [h r, hd]

/-- A write to g d changes g alone. -/
theorem WickCore.setG_eq (c : WickCore) (d : Nat) (x : Word64) : c.setG d x = { c with g := (c.setG d x).g } := by
  unfold WickCore.setG; split <;> rfl

/-- A jump that leaves its return address in g d. -/
theorem State.issued_jump {s : State} {n d : Nat} {pc : BitVec 32} {x : Word64} :
    WickStep s ((s.issued n).setCore n
        { WickCore.setG { s.core n with entry := none, debugStep := false } d x with pc := pc, run := .running, stalled := none })
      n ({ s.nextView n with pc := pc }.setG d x) := by
  refine State.issued_step rfl rfl rfl (fun r => ?_) (fun r => ?_) (fun a => ?_) (fun _ => rfl) ?_
  · exact WickCore.getG_setG_view (c := { s.core n with entry := none, debugStep := false }) (v := { s.nextView n with pc := pc })
      (fun _ => rfl) d x r
  all_goals rw [WickCore.setG_eq]; rfl

/-- Settles O3: a branch is `wickBranch` of its comparison; CALL and CALLR write g d and jump; every instruction meets the check of
the fetch first (log 36 for badaddr, log 191 where the vector entry cannot be read). -/
theorem wickBranchesMoveThePc : Obligations.WickBranchesMoveThePc := by
  unfold Obligations.WickBranchesMoveThePc
  refine ⟨.of_wickBranch (fun _ _ _ => rfl) fun a b => rfl, .of_wickBranch (fun _ _ _ => rfl) fun a b => ?ne,
    .of_wickBranch (fun _ _ _ => rfl) fun a b => BitVec.slt_eq_decide, .of_wickBranch (fun _ _ _ => rfl) fun a b => ?ge,
    .of_wickBranch (fun _ _ _ => rfl) fun a b => BitVec.ult_eq_decide, .of_wickBranch (fun _ _ _ => rfl) fun a b => ?geu,
    fun n w s h hd => ⟨_, rfl, ?call⟩, fun n w s h hd ha => ⟨_, rfl, ?callr⟩,
    .of_legal (fun _ _ _ => rfl) fun w hw => isG_iff.mp hw, .of_legal (fun _ _ _ => rfl) fun w hw => ?callrBits,
    .of_wickRun fun _ _ _ => rfl, .of_wickRun fun _ _ _ => rfl, .of_wickRun fun _ _ _ => rfl⟩
  case ne => rw [bne, beq_eq_decide, ← decide_not]
  case ge => simp only [BitVec.slt_eq_decide, ← decide_not, Int.not_lt]
  case geu => simp only [BitVec.ult_eq_decide, ← decide_not, Nat.not_lt]
  case call =>
    rw [State.wickRun_issues h, State.legal_true (isG_iff.mpr hd), imm18_eq, ofInt_four_mul_toInt]
    exact State.issued_jump
  case callr =>
    rw [State.wickRun_issues h, State.legal_true (by rw [Bool.and_eq_true, isG_iff, isG_iff]; exact ⟨hd, ha⟩), sext12_eq_immS]
    exact State.issued_jump
  case callrBits => simpa only [Bool.and_eq_true, isG_iff] using hw

/-! ### Moves between general and stream registers (R303) -/

/-- The fields of a move (R303): d and a in the file that the effect column gives each, b and c zero. -/
def moveBits (dStream aStream : Bool) (w : BitVec 24) : Bool :=
  (if dStream then isS (fd w) else isG (fd w)) && (if aStream then isS (fa w) else isG (fa w)) && fb w == 0 && fc w == 0

theorem moveBits_iff {ds as : Bool} {w : BitVec 24} : moveBits ds as w = true ↔
    (if ds then 32 ≤ fd w ∧ fd w < 40 else fd w < 32) ∧ (if as then 32 ≤ fa w ∧ fa w < 40 else fa w < 32) ∧
      fb w = 0 ∧ fc w = 0 := by
  cases ds <;> cases as <;> simp [moveBits, isG_iff, isS_iff, and_assoc]

theorem Illegal.of_wickMove {i : Fin 4 → BitVec 24 → Instr} {op : Nat} {ok : BitVec 24 → Prop} {ds as : Bool}
    {f : BitVec 24 → WickCore → WickCore} (hi : ∀ n w s, exec (i n w) s = .next (s.wickMove n op w ds as (f w)))
    (hok : ∀ w, moveBits ds as w = true → ok w) : Illegal i op ok :=
  Illegal.of_legal (fun n w s => hi n w s) hok

/-- A move with legal fields goes on with the core that its effect makes. -/
theorem State.wickMove_of_moveBits {s : State} {n : Fin 4} {op : Nat} {w : BitVec 24} (ds as : Bool) (h : s.issues n op w)
    (hw : moveBits ds as w = true) (f : WickCore → WickCore) :
    s.wickMove n op w ds as f = (s.issued n).wickNext n (f { s.core n with entry := none, debugStep := false }) := by
  unfold State.wickMove
  rw [State.wickRun_issues h]
  exact State.legal_true hw _

/-- A result written to s d. -/
theorem State.issued_setS {s : State} {n d : Nat} {x : Word} :
    WickStep s ((s.issued n).wickNext n (WickCore.setS { s.core n with entry := none, debugStep := false } d x)) n
      ((s.nextView n).setS d x) :=
  State.issued_next rfl (fun _ => rfl) (WickCore.getS_setS _ d x) (fun _ => rfl) (fun _ => rfl) rfl

/-- The high byte and the low 64 bits of a native word, put together. -/
theorem append_eq_ofNat (h : BitVec 8) (l : BitVec 64) : h ++ l = BitVec.ofNat 72 (h.toNat * 2 ^ 64 + l.toNat) := by
  apply BitVec.eq_of_toNat_eq
  rw [BitVec.toNat_append, ← Nat.shiftLeft_add_eq_or_of_lt l.isLt, Nat.shiftLeft_eq, BitVec.toNat_ofNat]
  omega

theorem append_low (x : Word) (g : Word64) :
    BitVec.extractLsb 71 64 x ++ g = BitVec.ofNat 72 (x.toNat / 2 ^ 64 * 2 ^ 64 + g.toNat) := by
  refine (append_eq_ofNat _ g).trans ?_
  rw [BitVec.extractLsb_toNat, Nat.shiftRight_eq_div_pow, Nat.mod_eq_of_lt]
  have := x.isLt
  omega

theorem high_append (x : Word) (g : Word64) : BitVec.extractLsb 7 0 g ++ BitVec.extractLsb 63 0 x =
    BitVec.ofNat 72 (g.toNat % 256 * 2 ^ 64 + x.toNat % 2 ^ 64) := by
  refine (append_eq_ofNat _ _).trans ?_
  rw [BitVec.extractLsb_toNat, BitVec.extractLsb_toNat]
  rfl

theorem extractLsb_71_64_setWidth (x : Word) : (BitVec.extractLsb 71 64 x).setWidth 64 = BitVec.ofNat 64 (x.toNat / 2 ^ 64) := by
  apply BitVec.eq_of_toNat_eq
  rw [BitVec.toNat_setWidth, BitVec.extractLsb_toNat, Nat.shiftRight_eq_div_pow, BitVec.toNat_ofNat]
  have := x.isLt
  omega

/-- Settles O4: each move is `wickMove` of its effect, whose result is the part of the register that the statement names; fields
that `moveBits` refuses raise 0x01 (R299, R310; log 191 where the vector entry cannot be read). -/
theorem wickStreamMovesCopyParts : Obligations.WickStreamMovesCopyParts := by
  unfold Obligations.WickStreamMovesCopyParts
  refine ⟨fun n w s h hd hd' ha hb hc => ⟨_, rfl, ?slo⟩, fun n w s h hd hd' ha hb hc => ⟨_, rfl, ?shi⟩,
    fun n w s h hd ha ha' hb hc => ⟨_, rfl, ?glo⟩, fun n w s h hd ha ha' hb hc => ⟨_, rfl, ?ghi⟩,
    fun n w s h hd hd' ha ha' hb hc => ⟨_, rfl, ?smv⟩,
    .of_wickMove (fun _ _ _ => rfl) fun _ => moveBits_iff.mp, .of_wickMove (fun _ _ _ => rfl) fun _ => moveBits_iff.mp,
    .of_wickMove (fun _ _ _ => rfl) fun _ => moveBits_iff.mp, .of_wickMove (fun _ _ _ => rfl) fun _ => moveBits_iff.mp,
    .of_wickMove (fun _ _ _ => rfl) fun _ => moveBits_iff.mp⟩
  case slo =>
    rw [State.wickMove_of_moveBits true false h (moveBits_iff.mpr ⟨⟨hd, hd'⟩, ha, hb, hc⟩), append_low]
    exact State.issued_setS
  case shi =>
    rw [State.wickMove_of_moveBits true false h (moveBits_iff.mpr ⟨⟨hd, hd'⟩, ha, hb, hc⟩), high_append]
    exact State.issued_setS
  case glo =>
    rw [State.wickMove_of_moveBits false true h (moveBits_iff.mpr ⟨hd, ⟨ha, ha'⟩, hb, hc⟩)]
    exact State.issued_write
  case ghi =>
    rw [State.wickMove_of_moveBits false true h (moveBits_iff.mpr ⟨hd, ⟨ha, ha'⟩, hb, hc⟩), extractLsb_71_64_setWidth]
    exact State.issued_write
  case smv =>
    rw [State.wickMove_of_moveBits true true h (moveBits_iff.mpr ⟨⟨hd, hd'⟩, ⟨ha, ha'⟩, hb, hc⟩)]
    exact State.issued_setS

end Sys2Proof.Machine
end
